-- ==== Sys2Proof/Word.lean ====
section
/-! DEFINITION. The word of a register, a byte, and their plainest arithmetic. -/

namespace Sys2Proof

/-- A register word. -/
abbrev Word := BitVec 32

/-- A byte of memory, of a mailbox slot or of a record. -/
abbrev Byte := BitVec 8

/-- The word with ones in bits hi down to lo. -/
def ones (hi lo : Nat) : Word := BitVec.ofNat 32 ((2 ^ (hi + 1 - lo) - 1) * 2 ^ lo)

/-- Bits hi down to lo of a word, as a number. -/
def bitsOf (w : Word) (hi lo : Nat) : Nat := w.toNat / 2 ^ lo % 2 ^ (hi + 1 - lo)

/-- A word with bits hi down to lo replaced by a number (taken modulo the field's width). -/
def setBits (w : Word) (hi lo v : Nat) : Word :=
  (w &&& ~~~ (ones hi lo)) ||| BitVec.ofNat 32 (v % 2 ^ (hi + 1 - lo) * 2 ^ lo)

/-- 1 for true. -/
def b2n (b : Bool) : Nat := if b then 1 else 0

/-- A number limited to a largest value: how the spec's saturating counters stop. -/
def sat (mx v : Nat) : Nat := min mx v

/-- The two's complement value of an n-bit number. -/
def signed (n v : Nat) : Int := if v % 2 ^ n < 2 ^ (n - 1) then (v % 2 ^ n : Nat) else (v % 2 ^ n : Nat) - (2 ^ n : Nat)

/-- The n-bit pattern of an integer. -/
def unsigned (n : Nat) (v : Int) : Nat := (v % (2 ^ n : Nat)).toNat

/-- An integer limited to a range. -/
def clampInt (lo hi v : Int) : Int := max lo (min hi v)

/-- The first element of a list at an index, changed; other elements stay, and an index past the end changes nothing. -/
def updAt {α : Type} (l : List α) (i : Nat) (f : α → α) : List α := l.modify i f

end Sys2Proof
end

