-- ==== Sys2Proof/Syntax.lean ====
section
/-! DEFINITION. The commands of the block: one constructor of Instr for each row of spec/opcode_table.json, with the
operands that the spec's text of that step names. What only the world outside the module knows (a level on a pin, a
sample, a frame on a bus, the outcome of an operation of a unit whose arithmetic the spec does not give) is an operand. -/

namespace Sys2Proof

/-- The attributes of a crown-fabric transaction (R18, 01_architecture.md): world (true: heartwood), partition,
requester class. -/
structure Attr where
  w : Bool
  pid : Fin 16
  rqc : Fin 8
  deriving DecidableEq, Repr

/-- How the Forester ends a Rhapol command: it carries it out, it cannot meet the class bound (BUSY with DETAIL 0, R49),
or it meets an internal fault with a code (INTERNAL, R55, R56). -/
inductive Fate where
  | done | busy | internal (code : Nat)
  deriving DecidableEq, Repr

/-- How the flash work of a LONG command of the Forester ends (R54, R76): as its rules say, with the other copy's check
failing after the record is committed, or with a fault before that. -/
inductive LongOut where
  | ok | otherBad | internal (code : Nat)
  deriving DecidableEq, Repr

/-- One sample of a channel (R111): signed current in mA, output voltage in mV, whether the switch conducted. -/
structure ChanSample where
  cur : Int
  volt : Nat
  on : Bool
  deriving DecidableEq, Repr

/-- What a bole die samples of one channel over the frame just ended (R111, R112): the samples and the switch
temperature in degrees C. -/
structure ChanObs where
  samples : List ChanSample
  tj : Int := 25
  deriving DecidableEq, Repr

/-- What a limb die samples of one pin over the frame just ended (R139, R140): the samples at the instants of OVS 3, of
which a smaller OVS takes the first, each in the unit of the pin's mode (0.5 mV, ohm, microampere, mA), with the sample of the selected
supply in the same unit for RATIO; and the input voltage in mV at the boundary, for the comparator (R142). -/
structure PinObs where
  samples : List (Nat × Nat) := []
  mv : Nat := 0
  deriving DecidableEq, Repr

/-- What reaches the module at a frame boundary: samples by channel and by pin, voltage in mV and current in mA of the
sensor supplies, the currents of the switches A and B of each safety output in 0.1 A, stud voltages in mV, temperatures in
degrees C, the quality index of a port's link. A channel, pin or safety output that is not listed reads samples of 0; a
supply or port that is not listed reads as it did. -/
structure FrameObs where
  chans : List (Fin 64 × ChanObs) := []
  pins : List (Fin 96 × PinObs) := []
  supplies : List (Fin 8 × Nat × Nat) := []
  soCur : List (Fin 4 × Nat × Nat) := []
  studA : Nat := 24000
  studB : Nat := 24000
  plate : Int := 25
  crown : Int := 25
  bole : Int := 25
  limb : Int := 25
  sqi : List (Fin 17 × Fin 8) := []
  deriving DecidableEq, Repr

/-- A gPTP Sync accepted for a domain (R233, 08_ethernet_time.md): domain time minus local clock, the rate, the
grandmaster identity, stepsRemoved, the module's role, and the port on which it came where the role is slave. -/
structure SyncInfo where
  ofs : Int
  rate : Int
  gmid : Nat
  steps : Fin 256
  role : Fin 3
  port : Fin 17 := 0
  deriving DecidableEq, Repr

/-- The wire on which an edge reaches a bole die (R16, R83): IN_K of a channel, or IN_X. -/
inductive EdgeSrc where
  | k (n : Fin 64) | x (j : Fin 8)
  deriving DecidableEq, Repr

/-- Supply and die conditions of R97 (03_channels_switching.md). -/
inductive SupplyCond where
  | extLow | extHigh | over36 | loadDump | undervolt | studLoss | reverse | gndLoss | reverseCur (n : Fin 64)
  deriving DecidableEq, Repr

/-- Edges of a Kerf timer in PWM and CC mode (R153, R154). -/
inductive PwmEdge where
  | periodStart | onEnd
  deriving DecidableEq, Repr

/-- A sense message of a bole die (R157): the slot, the mean stud voltage in mV, and by channel the current sum in mA
and the count of conducting samples. -/
structure SenseMsg where
  slot : Fin 4
  stud : Nat
  cur : List (Fin 64 × Int × Fin 14)
  deriving DecidableEq, Repr

/-- A CAN frame (R182, 06_can.md): identifier words, data and the start-of-frame reading. -/
structure CanFrame where
  xtd : Bool := false
  rtr : Bool := false
  fdf : Bool := false
  brs : Bool := false
  esi : Bool := false
  id : Nat := 0
  dlc : Fin 16 := 0
  data : List Byte := []
  time : Nat := 0
  deriving DecidableEq, Repr

/-- How a CAN transmission ends (R181), with the time unit's reading at its start of frame: sent, arbitration lost, or an error;
with the delay that R172 measures, where an error came after the res bit. -/
inductive CanTxOut where
  | sent (tdcv : Nat) (ts : Nat) | arbLost (ts : Nat) | error (tdcv : Option Nat) (ts : Nat)
  deriving DecidableEq, Repr

/-- Errors the controller detects on the bus (R187): as a receiver, with the LEC code and whether ISO 11898-1 counts 8
rather than 1; as a transmitter, with the LEC code, whether ISO 11898-1 exempts it from counting and the time unit's reading
at the frame's start; and a recessive res
bit, or an FD frame while FD_EN is 0 (R174, PXHD). -/
inductive CanErr where
  | rx (lec : Fin 8) (eight : Bool) | tx (lec : Fin 8) (exempt : Bool) (ts : Nat) | pxh
  deriving DecidableEq, Repr

/-- An Ethernet frame as the switch sees it (R219, 08_ethernet_time.md): addresses, tag, EtherType, length with FCS, the
bytes after the EtherType, the time unit reading at its receive timestamp point, and whether it came with an FCS or PHY
error. -/
structure EthFrame where
  dmac : Nat := 0
  smac : Nat := 0
  tagged : Bool := false
  vid : Fin 4096 := 0
  pcp : Fin 8 := 0
  etype : Fin 65536 := 0
  len : Nat := 64
  body : List Byte := []
  ts : Nat := 0
  bad : Bool := false
  deriving DecidableEq, Repr

/-- The input of a FREQ or QUAD pin moves to mv millivolts and stays there for us microseconds (R143); whether the link
loses the message of that edge. -/
structure PinEdge where
  mv : Nat
  us : Nat
  lost : Bool := false
  deriving DecidableEq, Repr

/-- A packet of a link that fails its CRC (R265), by its sequence number. -/
structure BadPacket where
  link : Fin 6
  seq : Nat
  deriving DecidableEq, Repr

/-- What a pair's comparators report in one cycle (R292): the two rails of each group, the groups with a parity error in
their delay registers, and the result of the two-rail tree. -/
structure Comparison where
  rails : Nat
  parity : Nat
  tree : Fin 4
  deriving DecidableEq, Repr

/-- How a start-up test of a pair ends (R298, R299). -/
structure TestOut where
  pass : Bool
  failgrp : Fin 64
  alarmFail : Bool
  deriving DecidableEq, Repr

/-- How the loading of a partition ends: both digests verify, or that of the sapwood or the heartwood image fails (R318). -/
inductive LoadOut where
  | ok | badSimg | badHimg
  deriving DecidableEq, Repr

/-- What a read of memory, or the scrubber, found (R287). -/
inductive MemErr where
  | single (scrub : Bool) | uncorrectable (scrub : Bool) | poisoned
  deriving DecidableEq, Repr

/-- What a core cache found (R281): an error corrected or refetched, or one that the copy cannot correct, in a clean or in
a dirty line. -/
inductive CacheErr where
  | corrected | clean | dirty
  deriving DecidableEq, Repr

/-- How a unit of a crypto job ends: more units follow, the job is done with its result bytes and statuses of the
engine, or the engine cannot perform it. -/
inductive CryptoOut where
  | more | done (status : Nat) (result : List Byte)
  deriving DecidableEq, Repr

/-- What the island reads back at an evaluation (R334, R344): for each output, whether the output tap and the midpoint tap
read high (an output not listed follows its lines); and whether the evaluation completes within its 40 µs. -/
structure IslandObs where
  readback : List (Fin 4 × Bool × Bool) := []
  complete : Bool := true
  deriving DecidableEq, Repr

/-- What a test pulse found (R339): the channels (input, true: channel B) that showed the pulse, and whether the output
itself failed to read low in it or high outside it. -/
structure TpObs where
  seen : List (Fin 8 × Bool) := []
  stuck : Bool := false
  deriving DecidableEq, Repr

/-- What the taps show in a switch test (R345): midpoint and output while line A alone is high, and whether the midpoint goes
low after it. -/
structure SwTest where
  mid : Bool := true
  out : Bool := false
  falls : Bool := true
  deriving DecidableEq, Repr

/-- What an island start finds in its own flash and in its tests (R351, R352, R432); the switch test of an output that is not
listed passes. -/
structure IslandStartRes where
  selfTest : Bool := true
  trialBad : Bool := false
  switches : List (Fin 4 × SwTest) := []
  deriving DecidableEq, Repr

/-- A frame of the partner link (R389, 13_pairing.md): type, pair id, epoch, sequence number, instance and payload. -/
structure PairFrame where
  pairId : Nat
  epoch : Nat
  seq : Nat
  good : Bool := true
  flags : Nat := 0
  digest : Nat := 0
  slotT : Nat := 0
  body : List Byte := []
  deriving DecidableEq, Repr

/-- What a domain finds as it is released (R457, R393, R419, R460, R461): only what lies outside the module's state. -/
structure StartObs where
  straps : Nat := 0
  tcxoOk : Bool := true
  refOk : Bool := true
  rootOk : Bool := true
  trimOk : Bool := true
  deriving DecidableEq, Repr

/-- What a debug reset aims at (R302, R455). -/
inductive DebugTarget where
  | crown | pair (k : Fin 8) (half : Bool)
  deriving DecidableEq, Repr

/-- Messages that gPTP sends at an interval (R237). -/
inductive PtpKind where
  | sync | announce | pdelay
  deriving DecidableEq, Repr


/-- A component of a slot's image area (R416, R417): number, version, bytes, and the digest its directory gives. -/
structure ImgComp where
  num : Nat
  ver : Nat
  data : List Byte
  digest : List Byte
  deriving DecidableEq, Repr

/-- The partner's answer to a request for its image area (R464): the components and the boot record's ROLLBACK, or a
refusal. -/
inductive ImgAnswer where
  | image (comps : List ImgComp) (rollback : Nat) | refused
  deriving DecidableEq, Repr
/-- The commands, in the order of spec/opcode_table.json; each docstring gives the row and its rule. -/
inductive Instr where
  /-- FRAME_BOUNDARY (R24). -/
  | frameBoundary (obs : FrameObs)
  /-- FRM_START (R37). -/
  | frmStart (a : Attr)
  /-- FRM_NUM_LO_READ (R37). -/
  | frmNumLoRead (a : Attr)
  /-- COUNTER_READ_CLEAR (R7). -/
  | counterReadClear (a : Attr) (addr : Nat)
  /-- REG_WRITE (R10). -/
  | regWrite (a : Attr) (addr : Nat) (val : Word)
  /-- COMMIT_INSTANT (R28). -/
  | commitInstant (m : Fin 17)
  /-- COMMIT_LINK_TIMEOUT (R29). -/
  | commitLinkTimeout (m : Fin 17)
  /-- LANDING_CARRY (R30). -/
  | landingCarry
  /-- GOVERNOR_INSTANT (R127). -/
  | governorInstant
  /-- PART_FRAME_TICK (R319). -/
  | partFrameTick (p : Fin 16)
  /-- PART_BUDGET_EXPIRY (R319). -/
  | partBudgetExpiry (p : Fin 16)
  /-- EVR_DONE_WRITE (R319). -/
  | evrDoneWrite (a : Attr) (p : Fin 16)
  /-- EVR_WDG_KICK (R320). -/
  | evrWdgKick (a : Attr) (p : Fin 16)
  /-- PART_WDG_EXPIRY (R320). -/
  | partWdgExpiry (p : Fin 16)
  /-- SYNC_ACCEPTED (R233). -/
  | syncAccepted (x : Fin 2) (info : SyncInfo)
  /-- DOMAIN_TIMEOUT (R233). -/
  | domainTimeout (x : Fin 2)
  /-- DOMAIN_QUALIFIED (R234). -/
  | domainQualified (x : Fin 2)
  /-- DOMAIN_RETURN_QUALIFIED (R234). -/
  | domainReturnQualified (x : Fin 2)
  /-- LC_READ_LATCH (R232). -/
  | lcReadLatch (a : Attr)
  /-- DOM_STAT_READ_LATCH (R242). -/
  | domStatReadLatch (a : Attr) (x : Fin 2)
  /-- LONG_COMPLETION (R53). -/
  | longCompletion (k : Nat) (out : LongOut)
  /-- LONG_ENTRY_FREE (R53). -/
  | longEntryFree (a : Attr) (m : Fin 17) (e : Fin 8)
  /-- EVT_TAIL_WRITE (R75). -/
  | evtTailWrite (a : Attr) (m : Fin 17) (v : Nat)
  /-- MBX_COMMIT_WRITE (R506). -/
  | mbxCommitWrite (a : Attr) (m : Fin 17)
  /-- QUEUE_PROD_WRITE (R70). -/
  | queueProdWrite (a : Attr) (q : Fin 64) (v : Nat)
  /-- QUEUE_CONS_WRITE (R70). -/
  | queueConsWrite (a : Attr) (q : Fin 64) (v : Nat)
  /-- QUEUE_COMMAND (R74). -/
  | queueCommand (q : Fin 64) (fate : Fate)
  /-- CQ_ROOM_AVAILABLE (R74). -/
  | cqRoomAvailable (q : Fin 64)
  /-- CFG_COPY_REPAIR (R78). -/
  | cfgCopyRepair (ty : Fin 11)
  /-- IN_EDGE (R83). -/
  | inEdge (src : EdgeSrc) (level : Bool)
  /-- CAPTURE_COMPLETE (R122). -/
  | captureComplete (n : Fin 64) (samples : List Int)
  /-- INRUSH_WINDOW_END (R89). -/
  | inrushWindowEnd (n : Fin 64)
  /-- CURRENT_CEILING_REACHED (R89). -/
  | currentCeilingReached (n : Fin 64)
  /-- CURRENT_BELOW_CEILING (R89). -/
  | currentBelowCeiling (n : Fin 64)
  /-- OVERCURRENT_TRIP (R90). -/
  | overcurrentTrip (n : Fin 64) (cur : Nat)
  /-- SHORT_CIRCUIT (R91). -/
  | shortCircuit (n : Fin 64) (peak : Nat)
  /-- THERMAL_SHUTDOWN (R92). -/
  | thermalShutdown (n : Fin 64) (delta : Bool) (temp : Int)
  /-- DIE_THERMAL_SHUTDOWN (R92). -/
  | dieThermalShutdown (d : Fin 4)
  /-- THERMAL_LATCH_CLEAR (R92). -/
  | thermalLatchClear (n : Fin 64)
  /-- RETRY_REFILL (R94). -/
  | retryRefill (n : Fin 64)
  /-- OPEN_LOAD_DETECT (R95). -/
  | openLoadDetect (n : Fin 64) (offState : Bool)
  /-- STB_DETECT (R95). -/
  | stbDetect (n : Fin 64)
  /-- SUPPLY_CONDITION_ENTER (R97). -/
  | supplyConditionEnter (d : Fin 4) (cond : SupplyCond) (mv : Nat)
  /-- SUPPLY_CONDITION_LEAVE (R97). -/
  | supplyConditionLeave (d : Fin 4) (cond : SupplyCond) (mv : Nat)
  /-- CROWN_RESET_INDICATION (R99). -/
  | crownResetIndication (die : Fin 6)
  /-- LINK_SILENCE_TIMEOUT (R99). -/
  | linkSilenceTimeout (die : Fin 6)
  /-- DIE_LOCAL_BOUNDARY (R99). -/
  | dieLocalBoundary (die : Fin 6) (obs : FrameObs)
  /-- BOLE_ADOPT (R101). -/
  | boleAdopt (a : Attr) (d : Fin 4)
  /-- SEQUENCER_RESUME (R100). -/
  | sequencerResume (d : Fin 4)
  /-- LEASE_LINE_CHANGE (R102). -/
  | leaseLineChange (d : Fin 4) (level : Bool)
  /-- CHK_RELEASE_IN_CHANGE (R364). -/
  | chkReleaseInChange (level : Bool)
  /-- SO_GATE_ENABLE_CHANGE (R104). -/
  | soGateEnableChange (k : Fin 4) (sw : Bool) (level : Bool)
  /-- SO_SWITCH_TRIP (R105). -/
  | soSwitchTrip (k : Fin 4) (sw : Bool) (cause : Fin 3)
  /-- UIO_RANGE_COUNT (R140). -/
  | uioRangeCount (p : Fin 96) (ovr : Bool)
  /-- SHUNT_OVERCURRENT (R141). -/
  | shuntOvercurrent (p : Fin 96)
  /-- SHUNT_RECONNECT (R141). -/
  | shuntReconnect (p : Fin 96)
  /-- DIGITAL_FILTER_EXPIRY (R142). -/
  | digitalFilterExpiry (p : Fin 96) (level : Bool)
  /-- FREQ_QUAD_EDGE (R143). -/
  | freqQuadEdge (p : Fin 96) (x : PinEdge) (ts : Nat)
  /-- UIO_OUT_LIMIT_TRIP (R146). -/
  | uioOutLimitTrip (p : Fin 96)
  /-- UIO_OUT_THERMAL (R146). -/
  | uioOutThermal (p : Fin 96)
  /-- UIO_OUT_OPEN_COUNT (R146). -/
  | uioOutOpenCount (p : Fin 96)
  /-- KERF_EDGE_MESSAGE (R147). -/
  | kerfEdgeMessage (t : Fin 64) (level : Bool)
  /-- LIMB_ADOPT (R148). -/
  | limbAdopt (a : Attr) (l : Fin 2)
  /-- SS_ON_WRITE (R149). -/
  | ssOnWrite (a : Attr) (u : Fin 8) (on : Bool)
  /-- SS_LIMIT_TIMEOUT (R149). -/
  | ssLimitTimeout (u : Fin 8)
  /-- SS_RETRY_TIMER (R149). -/
  | ssRetryTimer (u : Fin 8)
  /-- SS_BACKFEED_DETECT (R149). -/
  | ssBackfeedDetect (u : Fin 8)
  /-- SS_BACKFEED_CLEAR (R149). -/
  | ssBackfeedClear (u : Fin 8)
  /-- EXT_IN_EDGE (R150). -/
  | extInEdge (k : Fin 8) (level : Bool)
  /-- KERF_PWM_EDGE (R154). -/
  | kerfPwmEdge (t : Fin 128) (kind : PwmEdge)
  /-- IN_K_HOLD_EXPIRY (R155). -/
  | inKHoldExpiry
  /-- SENSE_MESSAGE (R157). -/
  | senseMessage (d : Fin 4) (msg : SenseMsg)
  /-- KC_EXECUTE (R158). -/
  | kcExecute (c : Fin 32)
  /-- SENSE_LOST_COUNT (R161). -/
  | senseLostCount (c : Fin 32)
  /-- KC_SATURATION_RUN (R509). -/
  | kcSaturationRun (c : Fin 32)
  /-- CAN_FRAME_VALID (R182). -/
  | canFrameValid (n : Fin 24) (f : CanFrame)
  /-- CAN_FIFO_DRAIN (R185). -/
  | canFifoDrain (n : Fin 24)
  /-- CAN_MO_READ (R184). -/
  | canMoRead (a : Attr) (n : Fin 24) (o : Fin 32) (w : Fin 20)
  /-- CAN_RX_UNLOCK (R184). -/
  | canRxUnlock (a : Attr) (n : Fin 24) (bits : Nat)
  /-- CAN_TX_REQUEST (R177). -/
  | canTxRequest (a : Attr) (n : Fin 24) (bits : Nat)
  /-- CAN_TX_ABORT (R181). -/
  | canTxAbort (a : Attr) (n : Fin 24) (bits : Nat)
  /-- CAN_SOF_OPPORTUNITY (R178). -/
  | canSofOpportunity (n : Fin 24)
  /-- CAN_TX_COMPLETE (R181). -/
  | canTxComplete (n : Fin 24) (out : CanTxOut)
  /-- CAN_BUFFER_REFILL (R179). -/
  | canBufferRefill (n : Fin 24)
  /-- CAN_BUS_ERROR (R187). -/
  | canBusError (n : Fin 24) (err : CanErr)
  /-- CAN_INTEGRATED (R176). -/
  | canIntegrated (n : Fin 24)
  /-- CAN_STOPPED (R176). -/
  | canStopped (n : Fin 24)
  /-- CAN_RECOVERY_DONE (R188). -/
  | canRecoveryDone (n : Fin 24)
  /-- CAN_BOFF_REL_WRITE (R188). -/
  | canBoffRelWrite (a : Attr) (n : Fin 24)
  /-- TRX_MODE_WRITE (R190). -/
  | trxModeWrite (a : Attr) (j : Fin 24) (val : Word)
  /-- TRX_WAKE_DETECT (R191). -/
  | trxWakeDetect (j : Fin 24)
  /-- TXD_DOMINANT_TIMEOUT (R192). -/
  | txdDominantTimeout (j : Fin 24)
  /-- TRX_THERMAL_SHUTDOWN (R192). -/
  | trxThermalShutdown (j : Fin 24)
  /-- BUS_DOMINANT_TIMEOUT (R192). -/
  | busDominantTimeout (j : Fin 24)
  /-- WAKE_SOURCE_DETECT (R200). -/
  | wakeSourceDetect (srcs : Nat)
  /-- RTC_ALARM (R198). -/
  | rtcAlarm
  /-- SLEEP_COMMIT (R211). -/
  | sleepCommit (a : Attr)
  /-- REGULATOR_OFF (R211). -/
  | regulatorOff
  /-- RING_MESSAGE_RECEIVED (R203). -/
  | ringMessageReceived (g : Fin 8) (f : CanFrame)
  /-- RING_ROUND_START (R204). -/
  | ringRoundStart (g : Fin 8)
  /-- RING_NODE_TIMEOUT (R205). -/
  | ringNodeTimeout (g : Fin 8)
  /-- RING_START_TIMEOUT (R205). -/
  | ringStartTimeout (g : Fin 8)
  /-- RING_LISTEN_END (R206). -/
  | ringListenEnd (g : Fin 8)
  /-- RING_JOIN_TIMER (R206). -/
  | ringJoinTimer (g : Fin 8)
  /-- RING_FORMATION_TIMER (R206). -/
  | ringFormationTimer (g : Fin 8)
  /-- RING_REJOIN_TIMER (R203). -/
  | ringRejoinTimer (g : Fin 8)
  /-- SLEEP_WAIT_END (R210). -/
  | sleepWaitEnd (g : Fin 8)
  /-- IDLE_TIME_EXPIRY (R207). -/
  | idleTimeExpiry (g : Fin 8)
  /-- STAY_EXPIRY (R209). -/
  | stayExpiry (p : Fin 16) (reason : Nat)
  /-- ETH_FRAME_RECEIVED (R219). -/
  | ethFrameReceived (p : Fin 21) (f : EthFrame)
  /-- ETH_TX_DONE (R239). -/
  | ethTxDone (p : Fin 21) (ts : Nat)
  /-- GATE_ENTRY_CHANGE (R226). -/
  | gateEntryChange (p : Fin 21)
  /-- PORT_LINK_CHANGE (R217). -/
  | portLinkChange (p : Fin 17) (up : Bool) (sqi : Fin 8)
  /-- HOST_TX_DESCRIPTOR (R224). -/
  | hostTxDescriptor (k : Fin 32)
  /-- HOST_RX_BUFFER_POST (R225). -/
  | hostRxBufferPost (k : Fin 32)
  /-- TSQ_POP (R239). -/
  | tsqPop (a : Attr) (p : Fin 21)
  /-- FDB_AGEING (R219). -/
  | fdbAgeing (mac : Nat) (vid : Nat)
  /-- SQI_LOW_COUNT (R247). -/
  | sqiLowCount (p : Fin 17) (sqi : Fin 8)
  /-- ROUTE_STALE_TIMEOUT (R255). -/
  | routeStaleTimeout (r : Fin 16384)
  /-- EMIT_BUILD (R257). -/
  | emitBuild (r : Fin 16384)
  /-- CONTAINER_BUILD (R260). -/
  | containerBuild (c : Fin 256)
  /-- CONTAINER_RECEIVED (R259). -/
  | containerReceived (p : Fin 17) (f : EthFrame)
  /-- LINK_CRC_ERROR (R265). -/
  | linkCrcError (p : BadPacket)
  /-- LINK_TRAINING_RESULT (R265). -/
  | linkTrainingResult (g : Fin 6) (ok : Bool)
  /-- LINK_TRAINING_RETRY (R265). -/
  | linkTrainingRetry (g : Fin 6)
  /-- GWB_COMPLETION (R267). -/
  | gwbCompletion (g : Fin 6) (tag : Nat) (refused : Bool)
  /-- NONPOSTED_TIMEOUT (R269). -/
  | nonpostedTimeout (g : Fin 6) (tag : Nat)
  /-- DELAYED_COMPLETION_EXPIRY (R270). -/
  | delayedCompletionExpiry (g : Fin 6) (tag : Nat)
  /-- ISLAND_RETRY_TIMEOUT (R271). -/
  | islandRetryTimeout (tag : Nat)
  /-- PREFETCH_LINE_EXPIRY (R272). -/
  | prefetchLineExpiry (g : Fin 6) (line : Nat)
  /-- GWB_LOCK_REQUEST (R274). -/
  | gwbLockRequest (a : Attr) (g : Fin 6)
  /-- GWB_UNLOCK (R274). -/
  | gwbUnlock (a : Attr) (g : Fin 6)
  /-- LOCK_GRANT (R274). -/
  | lockGrant (g : Fin 6)
  /-- LOCK_HOLD_EXPIRY (R274). -/
  | lockHoldExpiry (g : Fin 6)
  /-- LOCKSTEP_MISMATCH (R293). -/
  | lockstepMismatch (k : Fin 9) (c : Comparison)
  /-- TRAP_LOOP (R295). -/
  | trapLoop (k : Fin 9) (half : Bool)
  /-- PAIR_START (R297). -/
  | pairStart (a : Attr) (k : Fin 8)
  /-- PAIR_HALT (R305). -/
  | pairHalt (a : Attr) (k : Fin 8)
  /-- START_TEST_DONE (R298). -/
  | startTestDone (k : Fin 9) (out : TestOut)
  /-- MEM_READ_ERROR (R287). -/
  | memReadError (a : Attr) (addr : Nat) (err : MemErr)
  /-- SCRUB_PASS_END (R289). -/
  | scrubPassEnd (dram : Bool) (ms : Nat)
  /-- SCRUB_LATE (R289). -/
  | scrubLate (dram : Bool)
  /-- DEBUG_HALT (R303). -/
  | debugHalt (k : Fin 8) (half : Bool)
  /-- DEBUG_RESUME (R303). -/
  | debugResume (k : Fin 8) (half : Bool)
  /-- DEBUG_WRITE (R303). -/
  | debugWrite (k : Fin 8) (half : Bool) (reg : Nat) (val : Nat)
  /-- WCALL (R324). -/
  | wcall (h : Fin 16) (mode : Fin 4) (pc : Nat)
  /-- WRET (R324). -/
  | wret (h : Fin 16)
  /-- HEART_CALL_TIMEOUT (R324). -/
  | heartCallTimeout (h : Fin 16)
  /-- FENCE_ACK (R317). -/
  | fenceAck (p : Fin 16) (e : Fin 8)
  /-- PART_LOAD_DONE (R318). -/
  | partLoadDone (p : Fin 16) (out : LoadOut)
  /-- CRYPTO_JOB (R410). -/
  | cryptoJob (vq : Fin 32)
  /-- CRYPTO_UNIT_DONE (R326). -/
  | cryptoUnitDone (e : Fin 5) (out : CryptoOut)
  /-- ISLAND_EVALUATION (R334). -/
  | islandEvaluation (obs : IslandObs)
  /-- ISLAND_LOCAL_TIMER (R334). -/
  | islandLocalTimer (obs : IslandObs)
  /-- EVAL_TIMEOUT (R334). -/
  | evalTimeout
  /-- ISLAND_WDG_EXPIRY (R334). -/
  | islandWdgExpiry
  /-- OUTPUT_STAGE_TIMEOUT (R333). -/
  | outputStageTimeout (line : Nat)
  /-- ISLAND_MISMATCH (R332). -/
  | islandMismatch
  /-- ISLAND_CLOCK_FAULT (R350). -/
  | islandClockFault
  /-- L1_SUPPLY_FAULT (R350). -/
  | l1SupplyFault
  /-- SI_FILTER_EXPIRY (R337). -/
  | siFilterExpiry (si : Fin 8) (chB : Bool) (level : Bool)
  /-- DISCREPANCY_TIMEOUT (R338). -/
  | discrepancyTimeout (si : Fin 8)
  /-- TP_PULSE (R339). -/
  | tpPulse (t : Fin 4) (obs : TpObs)
  /-- SAFE_RESET_EDGE (R340). -/
  | safeResetEdge (level : Bool)
  /-- SAFE_RESET_STUCK (R340). -/
  | safeResetStuck
  /-- SWI_PERIOD (R342). -/
  | swiPeriod (w : Fin 4) (periodUs : Nat) (highUs : Nat)
  /-- SWI_FILTER_EXPIRY (R342). -/
  | swiFilterExpiry (w : Fin 4)
  /-- SWITCH_TEST_TIMER (R345). -/
  | switchTestTimer (k : Fin 4) (x : SwTest)
  /-- PAIR_FAULT_LINE (R346). -/
  | pairFaultLine (k : Fin 8) (level : Bool)
  /-- ISLAND_START (R352). -/
  | islandStart (res : IslandStartRes)
  /-- ISLAND_MIRROR_READ (R359). -/
  | islandMirrorRead
  /-- RENEW_SEND (R369). -/
  | renewSend
  /-- HELLO_SEND (R389). -/
  | helloSend
  /-- STATE_SEND (R374). -/
  | stateSend
  /-- LEASE_SELF_EXPIRY (R370). -/
  | leaseSelfExpiry
  /-- LEASE_EXPIRY (R371). -/
  | leaseExpiry
  /-- PAIR_AGE_LIMIT (R371). -/
  | pairAgeLimit (sig : Bool)
  /-- ARBITRATE_END (R368). -/
  | arbitrateEnd
  /-- CHK_LEASE_IN_CHANGE (R371). -/
  | chkLeaseInChange (valid : Bool)
  /-- CHOKER_YIELD_TIMER (R372). -/
  | chokerYieldTimer
  /-- RENEW_RECEIVED (R372). -/
  | renewReceived (f : PairFrame)
  /-- MIRROR_RECEIVED (R373). -/
  | mirrorReceived (f : PairFrame)
  /-- ACK_RECEIVED (R373). -/
  | ackReceived (f : PairFrame)
  /-- MIRROR_ACK_TIMEOUT (R373). -/
  | mirrorAckTimeout
  /-- STATE_RECEIVED (R374). -/
  | stateReceived (f : PairFrame)
  /-- IMAGE_RECEIVED (R374). -/
  | imageReceived (f : PairFrame)
  /-- CKPT_RECEIVED (R377). -/
  | ckptReceived (f : PairFrame)
  /-- HELLO_RECEIVED (R373). -/
  | helloReceived (f : PairFrame)
  /-- HANDBACK_RECEIVED (R386). -/
  | handbackReceived (f : PairFrame)
  /-- TAKEOVER_LEASE_ENABLE (R380). -/
  | takeoverLeaseEnable
  /-- TAKEOVER_SWITCH (R380). -/
  | takeoverSwitch
  /-- TAKEOVER_RELEASE (R380). -/
  | takeoverRelease
  /-- HANDBACK_STOP (R386). -/
  | handbackStop
  /-- HANDBACK_RELEASE_LOW (R386). -/
  | handbackReleaseLow
  /-- HANDBACK_LEASE_PASS (R386). -/
  | handbackLeasePass
  /-- DRBG_HEALTH_FAIL (R399). -/
  | drbgHealthFail
  /-- AUTH_EXPIRY (R407). -/
  | authExpiry
  /-- AUTH_LOCKOUT_END (R407). -/
  | authLockoutEnd
  /-- DBG_EN_DEASSERT (R407). -/
  | dbgEnDeassert
  /-- TRIAL_WINDOW_EXPIRY (R428). -/
  | trialWindowExpiry
  /-- ISB_CONFIRM (R432). -/
  | isbConfirm (a : Attr)
  /-- ISB_RESTART (R432). -/
  | isbRestart (a : Attr)
  /-- ISB_TRIAL_SET (R432). -/
  | isbTrialSet (a : Attr)
  /-- ISB_ERASE (R432). -/
  | isbErase (a : Attr)
  /-- ISB_PROGRAM (R432). -/
  | isbProgram (a : Attr) (val : Word)
  /-- ISB_FLASH_DONE (R432). -/
  | isbFlashDone (ok : Bool)
  /-- INC_FLUSH (R440). -/
  | incFlush
  /-- FREEZE_END (R444). -/
  | freezeEnd
  /-- SNAPSHOT_WRITE (R444). -/
  | snapshotWrite
  /-- EXPORT_SEND (R443). -/
  | exportSend
  /-- INC_QUEUE_ENTRY (R449). -/
  | incQueueEntry (q : Fin 64)
  /-- POR_ASSERT (R451). -/
  | porAssert
  /-- POR_RELEASE (R451). -/
  | porRelease
  /-- HOLD_THRESHOLD (R451). -/
  | holdThreshold
  /-- BOR_ASSERT (R451). -/
  | borAssert
  /-- BOR_RELEASE (R455). -/
  | borRelease
  /-- START_CONDITION (R451). -/
  | startCondition
  /-- STUD_LOSS_ENTER (R451). -/
  | studLossEnter (b : Bool)
  /-- STUD_LOSS_LEAVE (R451). -/
  | studLossLeave (b : Bool)
  /-- EXT_RANGE_ENTER (R451). -/
  | extRangeEnter
  /-- EXT_RANGE_LEAVE (R451). -/
  | extRangeLeave
  /-- THERMAL_THRESHOLD (R452). -/
  | thermalThreshold (plate : Int) (crown : Int)
  /-- CLOCK_FAILURE (R453). -/
  | clockFailure
  /-- PIN_RESET (R455). -/
  | pinReset
  /-- PIN_RELEASE (R455). -/
  | pinRelease
  /-- RESET_IN_LONG (R466). -/
  | resetInLong
  /-- SWR_GO (R455). -/
  | swrGo (a : Attr) (val : Word)
  /-- BLKRST_CAN (R468). -/
  | blkrstCan (a : Attr) (mask : Nat)
  /-- BLKRST_CRYPTO (R468). -/
  | blkrstCrypto (a : Attr) (mask : Nat)
  /-- BLKRST_INR (R468). -/
  | blkrstInr (a : Attr)
  /-- BLKRST_LGW (R468). -/
  | blkrstLgw (a : Attr)
  /-- BLKRST_ESW (R468). -/
  | blkrstEsw (a : Attr)
  /-- FWDG_KICK (R462). -/
  | fwdgKick (a : Attr) (val : Nat)
  /-- FWDG_PERIOD_WRITE (R462). -/
  | fwdgPeriodWrite (a : Attr) (val : Nat)
  /-- FWDG_EXPIRY (R462). -/
  | fwdgExpiry
  /-- RESET_RELEASE_STEP (R457). -/
  | resetReleaseStep (obs : StartObs)
  /-- HOLDOFF_END (R460). -/
  | holdoffEnd
  /-- MODE_DECISION (R466). -/
  | modeDecision
  /-- PARTNER_IMAGE_SERVE (R464). -/
  | partnerImageServe (ans : ImgAnswer)
  /-- UPDATE_IMAGE_TIMEOUT (R464). -/
  | updateImageTimeout
  /-- SVC_UART_WRITE (R489). -/
  | svcUartWrite (bytes : List Byte)
  /-- SVC_UART_READ (R489). -/
  | svcUartRead (bytes : List Byte)
  /-- SVC_UART_GAP_TIMEOUT (R489). -/
  | svcUartGapTimeout
  /-- SYS_HELLO (R57). -/
  | sysHello (m : Fin 17) (fate : Fate)
  /-- SYS_INFO (R68). -/
  | sysInfo (m : Fin 17) (fate : Fate)
  /-- SYS_COMMIT (R64). -/
  | sysCommit (m : Fin 17) (fate : Fate)
  /-- SYS_DISCARD (R68). -/
  | sysDiscard (m : Fin 17) (fate : Fate)
  /-- SYS_EVT_SUB (R75). -/
  | sysEvtSub (m : Fin 17) (fate : Fate)
  /-- SYS_EVT_UNSUB (R75). -/
  | sysEvtUnsub (m : Fin 17) (fate : Fate)
  /-- SYS_CFG_READ (R507). -/
  | sysCfgRead (m : Fin 17) (fate : Fate)
  /-- SYS_CFG_WRITE (R76). -/
  | sysCfgWrite (m : Fin 17) (fate : Fate)
  /-- SYS_SVC_PUT (R507). -/
  | sysSvcPut (m : Fin 17) (fate : Fate)
  /-- CH_SET (R108). -/
  | chSet (m : Fin 17) (fate : Fate)
  /-- CH_CONFIG (R109). -/
  | chConfig (m : Fin 17) (fate : Fate)
  /-- CH_GET (R107). -/
  | chGet (m : Fin 17) (fate : Fate)
  /-- CH_ACK (R107). -/
  | chAck (m : Fin 17) (fate : Fate)
  /-- CH_SO_GET (R107). -/
  | chSoGet (m : Fin 17) (fate : Fate)
  /-- GOV_GET (R134). -/
  | govGet (m : Fin 17) (fate : Fate)
  /-- CH_MEAS_GET (R134). -/
  | chMeasGet (m : Fin 17) (fate : Fate)
  /-- CH_WIRE_SET (R135). -/
  | chWireSet (m : Fin 17) (fate : Fate)
  /-- CH_TAMB_SET (R135). -/
  | chTambSet (m : Fin 17) (fate : Fate)
  /-- SIG_CONFIG (R135). -/
  | sigConfig (m : Fin 17) (fate : Fate)
  /-- SIG_REF_SET (R135). -/
  | sigRefSet (m : Fin 17) (fate : Fate)
  /-- SIG_READ (R135). -/
  | sigRead (m : Fin 17) (fate : Fate)
  /-- UIO_CONFIG (R166). -/
  | uioConfig (m : Fin 17) (fate : Fate)
  /-- UIO_READ (R166). -/
  | uioRead (m : Fin 17) (fate : Fate)
  /-- UIO_OUT_SET (R165). -/
  | uioOutSet (m : Fin 17) (fate : Fate)
  /-- UIO_STATUS (R165). -/
  | uioStatus (m : Fin 17) (fate : Fate)
  /-- SS_SET (R166). -/
  | ssSet (m : Fin 17) (fate : Fate)
  /-- SS_GET (R165). -/
  | ssGet (m : Fin 17) (fate : Fate)
  /-- KT_CONFIG (R166). -/
  | ktConfig (m : Fin 17) (fate : Fate)
  /-- KT_DUTY (R165). -/
  | ktDuty (m : Fin 17) (fate : Fate)
  /-- KT_GET (R165). -/
  | ktGet (m : Fin 17) (fate : Fate)
  /-- KC_CONFIG (R166). -/
  | kcConfig (m : Fin 17) (fate : Fate)
  /-- KC_SET (R165). -/
  | kcSet (m : Fin 17) (fate : Fate)
  /-- KC_GET (R165). -/
  | kcGet (m : Fin 17) (fate : Fate)
  /-- EXT_GET (R165). -/
  | extGet (m : Fin 17) (fate : Fate)
  /-- CAN_CONFIG (R196). -/
  | canConfig (m : Fin 17) (fate : Fate)
  /-- CAN_RUN (R196). -/
  | canRun (m : Fin 17) (fate : Fate)
  /-- CAN_FILTER (R196). -/
  | canFilter (m : Fin 17) (fate : Fate)
  /-- CAN_FIFO (R196). -/
  | canFifo (m : Fin 17) (fate : Fate)
  /-- CAN_SEND (R196). -/
  | canSend (m : Fin 17) (fate : Fate)
  /-- CAN_READ (R196). -/
  | canRead (m : Fin 17) (fate : Fate)
  /-- CAN_STATUS (R195). -/
  | canStatus (m : Fin 17) (fate : Fate)
  /-- CAN_BOFF_RELEASE (R196). -/
  | canBoffRelease (m : Fin 17) (fate : Fate)
  /-- CAN_TRX_SET (R196). -/
  | canTrxSet (m : Fin 17) (fate : Fate)
  /-- CAN_TRX_GET (R195). -/
  | canTrxGet (m : Fin 17) (fate : Fate)
  /-- TLY_STAY (R209). -/
  | tlyStay (m : Fin 17) (fate : Fate)
  /-- TLY_GET (R214). -/
  | tlyGet (m : Fin 17) (fate : Fate)
  /-- TLY_VETO_LIST (R214). -/
  | tlyVetoList (m : Fin 17) (fate : Fate)
  /-- WAKE_GET (R200). -/
  | wakeGet (m : Fin 17) (fate : Fate)
  /-- WAKE_ALARM (R214). -/
  | wakeAlarm (m : Fin 17) (fate : Fate)
  /-- ETH_PORT_CFG (R246). -/
  | ethPortCfg (m : Fin 17) (fate : Fate)
  /-- ETH_PORT_GET (R245). -/
  | ethPortGet (m : Fin 17) (fate : Fate)
  /-- ETH_GCL_SET (R245). -/
  | ethGclSet (m : Fin 17) (fate : Fate)
  /-- ETH_GCL_GET (R245). -/
  | ethGclGet (m : Fin 17) (fate : Fate)
  /-- ETH_FDB_SET (R245). -/
  | ethFdbSet (m : Fin 17) (fate : Fate)
  /-- ETH_VLAN_SET (R245). -/
  | ethVlanSet (m : Fin 17) (fate : Fate)
  /-- ETH_QCI_SET (R245). -/
  | ethQciSet (m : Fin 17) (fate : Fate)
  /-- ETH_QP_GET (R245). -/
  | ethQpGet (m : Fin 17) (fate : Fate)
  /-- ETH_TS_READ (R246). -/
  | ethTsRead (m : Fin 17) (fate : Fate)
  /-- TIME_GET (R246). -/
  | timeGet (m : Fin 17) (fate : Fate)
  /-- TIME_DOM_GET (R245). -/
  | timeDomGet (m : Fin 17) (fate : Fate)
  /-- LGW_ROUTE_SET (R277). -/
  | lgwRouteSet (m : Fin 17) (fate : Fate)
  /-- LGW_IMAGE_SET (R277). -/
  | lgwImageSet (m : Fin 17) (fate : Fate)
  /-- LGW_ENABLE (R277). -/
  | lgwEnable (m : Fin 17) (fate : Fate)
  /-- LGW_READ (R277). -/
  | lgwRead (m : Fin 17) (fate : Fate)
  /-- LGW_STATUS (R277). -/
  | lgwStatus (m : Fin 17) (fate : Fate)
  /-- GWB_STATUS (R277). -/
  | gwbStatus (m : Fin 17) (fate : Fate)
  /-- PART_INFO (R328). -/
  | partInfo (m : Fin 17) (fate : Fate)
  /-- PART_RESTART (R328). -/
  | partRestart (m : Fin 17) (fate : Fate)
  /-- PART_STOP (R328). -/
  | partStop (m : Fin 17) (fate : Fate)
  /-- PART_START (R328). -/
  | partStart (m : Fin 17) (fate : Fate)
  /-- PART_GATE (R325). -/
  | partGate (m : Fin 17) (fate : Fate)
  /-- PART_GATE_GET (R328). -/
  | partGateGet (m : Fin 17) (fate : Fate)
  /-- SAFE_GET (R360). -/
  | safeGet (m : Fin 17) (fate : Fate)
  /-- SAFE_FN_GET (R360). -/
  | safeFnGet (m : Fin 17) (fate : Fate)
  /-- SAFE_FAULT_LOG (R360). -/
  | safeFaultLog (m : Fin 17) (fate : Fate)
  /-- SAFE_WRITE (R361). -/
  | safeWrite (m : Fin 17) (fate : Fate)
  /-- SAFE_CONFIRM (R357). -/
  | safeConfirm (m : Fin 17) (fate : Fate)
  /-- SAFE_CHECK_GET (R360). -/
  | safeCheckGet (m : Fin 17) (fate : Fate)
  /-- PAIR_GET (R391). -/
  | pairGet (m : Fin 17) (fate : Fate)
  /-- PAIR_CKPT_PUB (R376). -/
  | pairCkptPub (m : Fin 17) (fate : Fate)
  /-- PAIR_CKPT_INFO (R391). -/
  | pairCkptInfo (m : Fin 17) (fate : Fate)
  /-- PAIR_HANDOVER (R386). -/
  | pairHandover (m : Fin 17) (fate : Fate)
  /-- KEY_INFO (R413). -/
  | keyInfo (m : Fin 17) (fate : Fate)
  /-- KEY_LOAD (R414). -/
  | keyLoad (m : Fin 17) (fate : Fate)
  /-- KEY_UNLOAD (R414). -/
  | keyUnload (m : Fin 17) (fate : Fate)
  /-- KEY_STORE (R401). -/
  | keyStore (m : Fin 17) (fate : Fate)
  /-- KEY_DELETE (R401). -/
  | keyDelete (m : Fin 17) (fate : Fate)
  /-- KEY_PUB (R414). -/
  | keyPub (m : Fin 17) (fate : Fate)
  /-- AUTH_CHAL (R407). -/
  | authChal (m : Fin 17) (fate : Fate)
  /-- AUTH_RESP (R407). -/
  | authResp (m : Fin 17) (fate : Fate)
  /-- AUTH_END (R407). -/
  | authEnd (m : Fin 17) (fate : Fate)
  /-- ATTEST (R408). -/
  | attest (m : Fin 17) (fate : Fate)
  /-- LC_ADVANCE (R405). -/
  | lcAdvance (m : Fin 17) (fate : Fate)
  /-- UPD_BEGIN (R422). -/
  | updBegin (m : Fin 17) (fate : Fate)
  /-- UPD_BILLET (R424). -/
  | updBillet (m : Fin 17) (fate : Fate)
  /-- UPD_STATUS (R433). -/
  | updStatus (m : Fin 17) (fate : Fate)
  /-- UPD_ACTIVATE (R427). -/
  | updActivate (m : Fin 17) (fate : Fate)
  /-- UPD_CONFIRM (R429). -/
  | updConfirm (m : Fin 17) (fate : Fate)
  /-- UPD_REJECT (R428). -/
  | updReject (m : Fin 17) (fate : Fate)
  /-- UPD_ABORT (R434). -/
  | updAbort (m : Fin 17) (fate : Fate)
  /-- UPD_INFO (R433). -/
  | updInfo (m : Fin 17) (fate : Fate)
  /-- INC_LOG (R449). -/
  | incLog (m : Fin 17) (fate : Fate)
  /-- INC_STATUS (R449). -/
  | incStatus (m : Fin 17) (fate : Fate)
  /-- INC_READ (R449). -/
  | incRead (m : Fin 17) (fate : Fate)
  /-- INC_TRIGGER (R444). -/
  | incTrigger (m : Fin 17) (fate : Fate)
  /-- INC_DROPS (R442). -/
  | incDrops (m : Fin 17) (fate : Fate)
  /-- INC_DIAG_GET (R448). -/
  | incDiagGet (m : Fin 17) (fate : Fate)
  /-- SYS_MODE_REQ (R469). -/
  | sysModeReq (m : Fin 17) (fate : Fate)
  /-- SYS_OPT_WRITE (R469). -/
  | sysOptWrite (m : Fin 17) (fate : Fate)
  /-- SYS_RESET (R469). -/
  | sysReset (m : Fin 17) (fate : Fate)
  /-- SYS_SUP_GET (R469). -/
  | sysSupGet (m : Fin 17) (fate : Fate)
  /-- REG_READ (R20). -/
  | regRead (a : Attr) (addr : Nat)
  /-- CACHE_ERROR (R281). -/
  | cacheError (h : Fin 16) (kind : CacheErr) (addr : Nat)
  /-- ISLAND_SRAM_ERROR (R350). -/
  | islandSramError
  /-- DEBUG_RESET (R455). -/
  | debugReset (assert : Bool) (target : DebugTarget)
  /-- RESET_SOURCE_RELEASE (R455). -/
  | resetSourceRelease (src : Fin 9)
  /-- CLOCK_RECHECK (R453). -/
  | clockRecheck (ok : Bool)
  /-- LANE_LOCK_LOSS (R265). -/
  | laneLockLoss (g : Fin 6)
  /-- DRBG_RESEED (R399). -/
  | drbgReseed
  /-- HELLO_AGE_EXPIRY (R373). -/
  | helloAgeExpiry
  /-- MIN_AWAKE_EXPIRY (R208). -/
  | minAwakeExpiry
  /-- WAKE_IN_LEVEL_CHANGE (R208). -/
  | wakeInLevelChange (k : Fin 4) (high : Bool)
  /-- TRX_THERMAL_CLEAR (R192). -/
  | trxThermalClear (j : Fin 24)
  /-- WAKE_BIAS_TIMEOUT (R190). -/
  | wakeBiasTimeout (j : Fin 24)
  /-- NOT_BEFORE_INSTANT (R179). -/
  | notBeforeInstant (n : Fin 24) (b : Fin 3)
  /-- PTP_INTERVAL_EXPIRY (R237). -/
  | ptpIntervalExpiry (kind : PtpKind)
  deriving DecidableEq, Repr

end Sys2Proof
end

