-- ==== Sys2Proof/Machine/Operands.lean ====
section
/-! DEFINITION. Operand forms: little-endian byte strings (R6), the CRC-32C of records and check values (R76, R356),
and sparse lists in canonical form. -/

namespace Sys2Proof

/-- The value of n bytes from an offset, little-endian; bytes past the end read 0. -/
def le (bs : List Byte) (off n : Nat) : Nat :=
  ((bs.drop off).take n).foldr (fun b acc => b.toNat + 256 * acc) 0

/-- n bytes of a value, little-endian. -/
def leBytes : Nat → Nat → List Byte
  | 0, _ => []
  | n + 1, v => BitVec.ofNat 8 v :: leBytes n (v / 256)

/-- A byte string cut or filled with zeros to a length. -/
def padTo (n : Nat) (bs : List Byte) : List Byte := bs.take n ++ List.replicate (n - bs.length) 0

/-- Bit i of a byte string, bit 0 of byte 0 first. -/
def bitAt (bs : List Byte) (i : Nat) : Bool := (bs.getD (i / 8) 0).toNat / 2 ^ (i % 8) % 2 = 1

/-- Bits hi down to lo of a number. -/
def nbits (v hi lo : Nat) : Nat := v / 2 ^ lo % 2 ^ (hi + 1 - lo)

/-- Bit i of a number. -/
def nbit (v i : Nat) : Bool := v / 2 ^ i % 2 = 1

/-- The numbers below n whose bit is set in a mask. -/
def maskIdx (n v : Nat) : List Nat := (List.range n).filter (nbit v)

/-- One byte into the CRC-32C register (reflected polynomial 0x82F63B78). -/
def crcByte (c : Nat) (b : Byte) : Nat :=
  (List.range 8).foldl (fun c _ => if c % 2 = 1 then (c / 2) ^^^ 0x82F63B78 else c / 2) (c ^^^ b.toNat)

/-- CRC-32C of a byte string. -/
def crc32c (bs : List Byte) : Nat := (bs.foldl crcByte 0xFFFFFFFF) ^^^ 0xFFFFFFFF

/-- The words of a byte string, little-endian. -/
def leWords : List Byte → List Word
  | a :: b :: c :: d :: t => BitVec.ofNat 32 (a.toNat + 256 * (b.toNat + 256 * (c.toNat + 256 * d.toNat))) :: leWords t
  | [] => []
  | l => [BitVec.ofNat 32 (l.foldr (fun b acc => b.toNat + 256 * acc) 0)]

/-- The nearest integer to a quotient; a half is rounded up. -/
def roundDiv (a b : Int) : Int := (2 * a + b) / (2 * b)

/-- The integer square root of a number below 2^64. -/
def isqrt (n : Nat) : Nat :=
  (List.range 32).reverse.foldl (fun r k => if (r + 2 ^ k) * (r + 2 ^ k) ≤ n then r + 2 ^ k else r) 0

/-- The sum of a list of integers. -/
def isum (l : List Int) : Int := l.foldl (· + ·) 0

/-- The entry of a sparse list at a key; an unlisted key has its default. -/
def sget {α : Type} (d : Nat → α) : List (Nat × α) → Nat → α
  | [], a => d a
  | (k, v) :: t, a => if k = a then v else sget d t a

/-- An entry put into a list kept in rising key order. -/
def sput {α : Type} : List (Nat × α) → Nat → α → List (Nat × α)
  | [], a, v => [(a, v)]
  | (k, w) :: t, a, v =>
    if a < k then (a, v) :: (k, w) :: t else if a = k then (a, v) :: t else (k, w) :: sput t a v

/-- A list without a key. -/
def sdel {α : Type} (l : List (Nat × α)) (a : Nat) : List (Nat × α) := l.filter fun e => e.1 ≠ a

/-- A write that keeps the canonical form: writing the default removes the entry. -/
def sset {α : Type} [DecidableEq α] (d : Nat → α) (l : List (Nat × α)) (a : Nat) (v : α) : List (Nat × α) :=
  if v = d a then sdel l a else sput l a v

/-- A number put into a rising list. -/
def insNat (x : Nat) : List Nat → List Nat
  | [] => [x]
  | y :: t => if x ≤ y then x :: y :: t else y :: insNat x t

/-- A list of numbers in rising order. -/
def sortNat (l : List Nat) : List Nat := l.foldr insNat []

/-- Keys strictly rising. -/
def sorted {α : Type} : List (Nat × α) → Bool
  | [] => true
  | [_] => true
  | a :: b :: t => decide (a.1 < b.1) && sorted (b :: t)

/-- The canonical form: keys strictly rising, no entry equal to its default. -/
def canon {α : Type} [DecidableEq α] (d : Nat → α) (l : List (Nat × α)) : Bool :=
  sorted l && l.all fun e => decide (e.2 ≠ d e.1)

/-- A list brought to canonical form, the first entry of a key standing: every entry written again into an empty
list, the last one first. -/
def settle {α : Type} [DecidableEq α] (d : Nat → α) (l : List (Nat × α)) : List (Nat × α) :=
  l.foldr (fun e acc => sset d acc e.1 e.2) []

end Sys2Proof
end

