-- ==== Sys2Proof/Config.lean ====
section
/-! DEFINITION. What an implementation fixes and what the spec leaves open: constants of the ordering code (R1), values
chosen for reset where the spec gives none, and the free values (opaque: nothing can be proved of them). -/

namespace Sys2Proof.Config

/-- Die version in BOLE_ID, a value of the implementation. DESIGN CHOICE. -/
def boleVersion : Nat := 0
/-- SCWAYS before OPTIONS are loaded (R305). DESIGN CHOICE. -/
def resetScWays : Nat := 0
/-- KSU_UID_LO before the OTP is read (R412). DESIGN CHOICE. -/
def resetUidLo : Nat := 0
/-- KSU_UID_HI before the OTP is read (R412). DESIGN CHOICE. -/
def resetUidHi : Nat := 0
/-- KSU_WM fields before OPTIONS are loaded (R325). DESIGN CHOICE. -/
def resetWmDram : Nat := 0
def resetWmSram : Nat := 0
def resetL2hw : Nat := 0
def resetSchw : Nat := 0
/-- Island firmware version in SIL_STAT (R358). DESIGN CHOICE. -/
def islandVersion : Nat := 0

/-- Functions that the spec names and other standards define; here they are uninterpreted. SHA-256 of a byte string (R393,
R408, R417). -/
opaque sha256 : List (BitVec 8) → List (BitVec 8)
/-- HMAC-SHA-256 of a key and a message (R407, R408). -/
opaque hmac : List (BitVec 8) → List (BitVec 8) → List (BitVec 8)
/-- The public key x ‖ y of an EC private key of a KTYPE (R413). -/
opaque ecPublic : Nat → List (BitVec 8) → List (BitVec 8)
/-- AES-256-GCM opening of wrapped material under the transport key, with its additional data: none where the tag fails (R414). -/
opaque unwrap : List (BitVec 8) → List (BitVec 8) → List (BitVec 8) → Option (List (BitVec 8))
/-- Whether the update key block of the device with a UID agrees with its OTP digests, and whether the ECDSA P-384 and the ML-DSA-65 signature of a
header hold (R422). -/
opaque updateKeysOk : Nat → Bool
opaque ecdsaOk : List (BitVec 8) → Bool
opaque mldsaOk : List (BitVec 8) → Bool
/-- A record body of a type converted to a new FORMAT by the trial firmware: none where the conversion fails; and the defaults of its chapter (R430). -/
opaque convert : Nat → Nat → List (BitVec 8) → Option (List (BitVec 8))
opaque defaultBody : Nat → List (BitVec 8)

/-- Whether a Forester firmware version reads a later FORMAT of a record type, and what such a body says in the layout of
FORMAT 1 (R77). -/
opaque readsFormat : Nat → Nat → Nat → Bool
opaque formatOne : Nat → Nat → List (BitVec 8) → List (BitVec 8)

/-- The bytes of a gPTP message after its EtherType (R237), by kind (0 Sync, 1 Announce, 2 Pdelay), domainNumber and sequence number: the
spec leaves them to another standard. -/
opaque ptpBody : Nat → Nat → Nat → List (BitVec 8)
/-- By how many ns an ESW_Pp_ASYM other than 0 moves a receive (true) or a transmit timestamp (R238): the spec states neither
the sign nor the share of each direction. -/
opaque asymShift : Bool → Int → Int

/-- A fresh value that the spec leaves open, one for each value of the model's counter State.freeCtr. -/
opaque freeValue : Nat → BitVec 64

end Sys2Proof.Config
end

