-- ==== Sys2Proof/Machine/RegTypes.lean ====
section
/-! DEFINITION. What a register table of the spec says: the access codes of R7, the update classes of R10, a field,
a register with its copies, and the place of a named field. -/

namespace Sys2Proof.Machine

/-- Access codes (R7, 00_scope.md). -/
inductive Acc where
  | rw | ro | wo | w1c | rc
  deriving DecidableEq, Repr

/-- Update classes (R10, 00_scope.md); `none` is the dash of read-only fields. -/
inductive Upd where
  | live | staged | stopped | none
  deriving DecidableEq, Repr

/-- The block whose table lists a register. It fixes the reset domain (R9, R455) and the error flag of R10. -/
inductive Blk where
  | frm | mbx | qmg | ch | bole | limb | uio | ss | ext | trx | krf | kt | kc | can | wake | esw | qp | tmu | lgw | gwb | slot | route | fatal | lsc | lscCnt | mem | evr | ksu | sil | isb | pair | inr | supwd | sup
  deriving DecidableEq, Repr

/-- One row of a register table. -/
structure FieldDef where
  hi : Nat
  lo : Nat
  acc : Acc
  upd : Upd
  deriving DecidableEq, Repr

/-- One register table: its block, the address of its first copy, the (count, stride) of each index, its fields, its
Reset column and the commit group of its class F fields (0: none), both as functions of the indices. -/
structure RegDef where
  blk : Blk
  base : Nat
  dims : List (Nat × Nat)
  fields : List FieldDef
  reset : (Nat → Nat) → Nat
  group : (Nat → Nat) → Nat

/-- The place of a named field: register address and bit range. -/
structure Fld where
  addr : Nat
  hi : Nat
  lo : Nat
  deriving DecidableEq, Repr

/-- Indices of an offset under (count, stride) pairs, outermost first; none if the offset is not a copy's start. -/
def dimIndices : List (Nat × Nat) → Nat → Option (List Nat)
  | [], off => if off = 0 then some [] else none
  | (c, st) :: ds, off =>
    if off / st < c then (dimIndices ds (off % st)).map (off / st :: ·) else none

/-- The indices of the copy of a register at an address. -/
def RegDef.indices (r : RegDef) (addr : Nat) : Option (List Nat) :=
  if addr < r.base then none else dimIndices r.dims (addr - r.base)

/-- The bits of a register that its table lists with one of the given properties. -/
def RegDef.mask (r : RegDef) (p : FieldDef → Bool) : Word :=
  r.fields.foldl (fun m f => if p f then m ||| ones f.hi f.lo else m) 0

/-- A value by the class of a channel's local index (R79): class H for 0-1, M for 2-7, L for 8-15. -/
def byClass (m h md l : Nat) : Nat := if m ≤ 1 then h else if m ≤ 7 then md else l

end Sys2Proof.Machine
end

