-- ==== Sys2Proof/Machine/RegMap.lean ====
section
/-! DEFINITION. The register map: every register table of spec/ as data (field places, access codes of R7, update
classes of R10, the Reset column, the commit group of class F fields), and the lookup of a register by its address. -/

namespace Sys2Proof.Machine

/-- Registers of block frm: FRM_CFG, FRM_PHASE, FRM_CTRL, FRM_STAT, FRM_OFS, FRM_NUM_LO, FRM_NUM_HI, FRM_ERR, FRM_CNT_LGW, FRM_CNT_LATE. -/
def regs_frm : List RegDef := [
  ⟨.frm, 0x20300800, [], [⟨1, 0, .rw, .stopped⟩], fun _ => 0x0, fun _ => 0⟩,
  ⟨.frm, 0x20300804, [], [⟨17, 0, .rw, .stopped⟩], fun _ => 0x0, fun _ => 0⟩,
  ⟨.frm, 0x20300808, [], [⟨0, 0, .wo, .live⟩], fun _ => 0x0, fun _ => 0⟩,
  ⟨.frm, 0x20300810, [], [⟨31, 31, .ro, .none⟩, ⟨30, 30, .ro, .none⟩, ⟨29, 29, .ro, .none⟩, ⟨28, 27, .ro, .none⟩, ⟨5, 0, .ro, .none⟩], fun _ => 0x0, fun _ => 0⟩,
  ⟨.frm, 0x20300814, [], [⟨31, 0, .ro, .none⟩], fun _ => 0x0, fun _ => 0⟩,
  ⟨.frm, 0x20300818, [], [⟨31, 0, .ro, .none⟩], fun _ => 0x0, fun _ => 0⟩,
  ⟨.frm, 0x2030081c, [], [⟨31, 0, .ro, .none⟩], fun _ => 0x0, fun _ => 0⟩,
  ⟨.frm, 0x20300820, [], [⟨2, 2, .w1c, .live⟩, ⟨1, 1, .w1c, .live⟩, ⟨0, 0, .w1c, .live⟩], fun _ => 0x0, fun _ => 0⟩,
  ⟨.frm, 0x20300830, [], [⟨31, 0, .rc, .none⟩], fun _ => 0x0, fun _ => 0⟩,
  ⟨.frm, 0x20300834, [], [⟨31, 0, .rc, .none⟩], fun _ => 0x0, fun _ => 0⟩]

/-- Registers of block mbx: MBX_DB, MBX_STAT, MBX_ERR, MBX_EVT_LOST, MBX_COMMIT, MBX_CSTAT, MBX_EVT_HEAD, MBX_EVT_TAIL. -/
def regs_mbx : List RegDef := [
  ⟨.mbx, 0x20030c00, [(17, 0x1000)], [⟨0, 0, .wo, .live⟩], fun _ => 0x0, fun _ => 0⟩,
  ⟨.mbx, 0x20030c04, [(17, 0x1000)], [⟨31, 16, .ro, .none⟩, ⟨15, 8, .ro, .none⟩, ⟨7, 4, .ro, .none⟩, ⟨3, 3, .ro, .none⟩, ⟨2, 2, .ro, .none⟩, ⟨1, 1, .ro, .none⟩, ⟨0, 0, .ro, .none⟩], fun i => (if i 0 = 16 then 1 else 0) * 2 ^ 3, fun _ => 0⟩,
  ⟨.mbx, 0x20030c08, [(17, 0x1000)], [⟨2, 2, .w1c, .live⟩, ⟨1, 1, .w1c, .live⟩, ⟨0, 0, .w1c, .live⟩], fun _ => 0x0, fun _ => 0⟩,
  ⟨.mbx, 0x20030c14, [(17, 0x1000)], [⟨31, 0, .rc, .none⟩], fun _ => 0x0, fun _ => 0⟩,
  ⟨.mbx, 0x20030c18, [(17, 0x1000)], [⟨0, 0, .wo, .live⟩], fun _ => 0x0, fun _ => 0⟩,
  ⟨.mbx, 0x20030c1c, [(17, 0x1000)], [⟨31, 16, .ro, .none⟩, ⟨15, 8, .ro, .none⟩, ⟨1, 1, .ro, .none⟩, ⟨0, 0, .ro, .none⟩], fun _ => 0x0, fun _ => 0⟩,
  ⟨.mbx, 0x20030c0c, [(17, 0x1000)], [⟨4, 0, .ro, .none⟩], fun _ => 0x0, fun _ => 0⟩,
  ⟨.mbx, 0x20030c10, [(17, 0x1000)], [⟨4, 0, .rw, .live⟩], fun _ => 0x0, fun _ => 0⟩]

/-- Registers of block qmg: QMG_QnBASE_LO, QMG_QnBASE_HI, QMG_QnCFG, QMG_QnPROD, QMG_QnCONS, QMG_QnSTAT, QMG_QnDROP, QMG_QnFULL. -/
def regs_qmg : List RegDef := [
  ⟨.qmg, 0x20020000, [(64, 0x40)], [⟨31, 5, .rw, .stopped⟩], fun _ => 0x0, fun _ => 0⟩,
  ⟨.qmg, 0x20020004, [(64, 0x40)], [⟨7, 0, .rw, .stopped⟩], fun _ => 0x0, fun _ => 0⟩,
  ⟨.qmg, 0x20020008, [(64, 0x40)], [⟨31, 31, .rw, .live⟩, ⟨30, 30, .rw, .stopped⟩, ⟨23, 16, .rw, .stopped⟩, ⟨15, 12, .rw, .stopped⟩, ⟨11, 6, .rw, .stopped⟩, ⟨3, 0, .rw, .stopped⟩], fun _ => 0x3, fun _ => 0⟩,
  ⟨.qmg, 0x2002000c, [(64, 0x40)], [⟨15, 0, .rw, .live⟩], fun _ => 0x0, fun _ => 0⟩,
  ⟨.qmg, 0x20020010, [(64, 0x40)], [⟨15, 0, .rw, .live⟩], fun _ => 0x0, fun _ => 0⟩,
  ⟨.qmg, 0x20020014, [(64, 0x40)], [⟨1, 1, .ro, .none⟩, ⟨0, 0, .w1c, .live⟩], fun _ => 0x2, fun _ => 0⟩,
  ⟨.qmg, 0x20020018, [(64, 0x40)], [⟨31, 0, .rc, .none⟩], fun _ => 0x0, fun _ => 0⟩,
  ⟨.qmg, 0x2002001c, [(64, 0x40)], [⟨31, 0, .rc, .none⟩], fun _ => 0x0, fun _ => 0⟩]

/-- Registers of block ch: CHn_CFG, CHn_TIM, CHn_CMD, CHn_STAT, CHn_FLT, CHn_CNT, CHn_ROLE, CHn_MEAS_I, CHn_MEAS_V, CHn_MEAS_T, CHn_MEAS_D, CHn_MEAS_G. -/
def regs_ch_0 : List RegDef := [
  ⟨.ch, 0x20810000, [(4, 0x100000), (16, 0x1000)], [⟨11, 10, .rw, .staged⟩, ⟨9, 9, .rw, .staged⟩, ⟨8, 8, .rw, .staged⟩, ⟨7, 7, .rw, .staged⟩, ⟨6, 4, .rw, .staged⟩, ⟨1, 0, .rw, .staged⟩], fun _ => 0x500, fun i => 0x0200 + (i 0 * 16 + i 1)⟩,
  ⟨.ch, 0x20810008, [(4, 0x100000), (16, 0x1000)], [⟨31, 24, .rw, .staged⟩, ⟨23, 20, .rw, .staged⟩, ⟨15, 10, .rw, .staged⟩, ⟨9, 0, .rw, .staged⟩], fun _ => 0x28302864, fun i => 0x0200 + (i 0 * 16 + i 1)⟩,
  ⟨.ch, 0x2081000c, [(4, 0x100000), (16, 0x1000)], [⟨0, 0, .rw, .staged⟩], fun _ => 0x0, fun i => 0x0200 + (i 0 * 16 + i 1)⟩,
  ⟨.ch, 0x20810010, [(4, 0x100000), (16, 0x1000)], [⟨31, 28, .ro, .none⟩, ⟨27, 27, .ro, .none⟩, ⟨26, 26, .ro, .none⟩, ⟨25, 25, .ro, .none⟩, ⟨24, 24, .ro, .none⟩, ⟨23, 20, .ro, .none⟩, ⟨19, 16, .ro, .none⟩, ⟨15, 15, .ro, .none⟩, ⟨14, 14, .ro, .none⟩, ⟨13, 13, .ro, .none⟩, ⟨12, 12, .ro, .none⟩], fun _ => 0x0, fun i => 0x0200 + (i 0 * 16 + i 1)⟩,
  ⟨.ch, 0x20810014, [(4, 0x100000), (16, 0x1000)], [⟨11, 11, .w1c, .live⟩, ⟨10, 10, .w1c, .live⟩, ⟨9, 9, .w1c, .live⟩, ⟨8, 8, .w1c, .live⟩, ⟨7, 7, .w1c, .live⟩, ⟨6, 6, .w1c, .live⟩, ⟨5, 5, .w1c, .live⟩, ⟨4, 4, .w1c, .live⟩, ⟨3, 3, .w1c, .live⟩, ⟨2, 2, .w1c, .live⟩, ⟨1, 1, .w1c, .live⟩, ⟨0, 0, .w1c, .live⟩], fun _ => 0x0, fun i => 0x0200 + (i 0 * 16 + i 1)⟩,
  ⟨.ch, 0x20810018, [(4, 0x100000), (16, 0x1000)], [⟨31, 16, .rc, .none⟩, ⟨15, 0, .rc, .none⟩], fun _ => 0x0, fun i => 0x0200 + (i 0 * 16 + i 1)⟩,
  ⟨.ch, 0x2081001c, [(4, 0x100000), (16, 0x1000)], [⟨5, 5, .rw, .stopped⟩, ⟨4, 4, .rw, .stopped⟩, ⟨3, 0, .rw, .stopped⟩], fun _ => 0x8, fun i => 0x0200 + (i 0 * 16 + i 1)⟩,
  ⟨.ch, 0x20810080, [(4, 0x100000), (16, 0x1000)], [⟨31, 16, .ro, .none⟩, ⟨15, 0, .ro, .none⟩], fun _ => 0x0, fun i => 0x0200 + (i 0 * 16 + i 1)⟩,
  ⟨.ch, 0x20810084, [(4, 0x100000), (16, 0x1000)], [⟨31, 16, .ro, .none⟩, ⟨15, 0, .ro, .none⟩], fun _ => 0x0, fun i => 0x0200 + (i 0 * 16 + i 1)⟩,
  ⟨.ch, 0x20810088, [(4, 0x100000), (16, 0x1000)], [⟨23, 16, .ro, .none⟩, ⟨15, 0, .ro, .none⟩], fun _ => 0x0, fun i => 0x0200 + (i 0 * 16 + i 1)⟩,
  ⟨.ch, 0x2081008c, [(4, 0x100000), (16, 0x1000)], [⟨31, 16, .ro, .none⟩, ⟨15, 0, .ro, .none⟩], fun _ => 0x0, fun i => 0x0200 + (i 0 * 16 + i 1)⟩,
  ⟨.ch, 0x20810090, [(4, 0x100000), (16, 0x1000)], [⟨31, 16, .ro, .none⟩, ⟨15, 0, .ro, .none⟩], fun _ => 0x0, fun i => 0x0200 + (i 0 * 16 + i 1)⟩]

/-- Registers of block ch: CHn_MEAS_FRM, CHn_WIRE_AMB, CHn_WIRE_TC, CHn_IEXP, CHn_SIG_CFG, CHn_SIG_STAT, CHn_SIG_SKIP, CHn_LIM, CHn_WIRE, CHn_SIG_F0, CHn_SIG_F1, CHn_SIG_WIN. -/
def regs_ch_1 : List RegDef := [
  ⟨.ch, 0x20810094, [(4, 0x100000), (16, 0x1000)], [⟨31, 0, .ro, .none⟩], fun _ => 0x0, fun i => 0x0200 + (i 0 * 16 + i 1)⟩,
  ⟨.ch, 0x20810044, [(4, 0x100000), (16, 0x1000)], [⟨7, 0, .rw, .staged⟩], fun _ => 0x55, fun i => 0x0200 + (i 0 * 16 + i 1)⟩,
  ⟨.ch, 0x20810048, [(4, 0x100000), (16, 0x1000)], [⟨15, 0, .ro, .none⟩], fun _ => 0x0, fun i => 0x0200 + (i 0 * 16 + i 1)⟩,
  ⟨.ch, 0x2081004c, [(4, 0x100000), (16, 0x1000)], [⟨11, 0, .rw, .staged⟩], fun _ => 0x0, fun i => 0x0200 + (i 0 * 16 + i 1)⟩,
  ⟨.ch, 0x20810100, [(4, 0x100000), (16, 0x1000)], [⟨17, 16, .rw, .staged⟩, ⟨15, 8, .rw, .staged⟩, ⟨7, 4, .rw, .staged⟩, ⟨3, 2, .rw, .staged⟩, ⟨1, 1, .rw, .staged⟩], fun _ => 0x30, fun i => 0x0200 + (i 0 * 16 + i 1)⟩,
  ⟨.ch, 0x20810104, [(4, 0x100000), (16, 0x1000)], [⟨31, 16, .ro, .none⟩, ⟨15, 8, .ro, .none⟩, ⟨1, 1, .ro, .none⟩, ⟨0, 0, .ro, .none⟩], fun _ => 0x0, fun i => 0x0200 + (i 0 * 16 + i 1)⟩,
  ⟨.ch, 0x20810110, [(4, 0x100000), (16, 0x1000)], [⟨31, 0, .rc, .none⟩], fun _ => 0x0, fun i => 0x0200 + (i 0 * 16 + i 1)⟩,
  ⟨.ch, 0x20810004, [(4, 0x100000), (16, 0x1000)], [⟨27, 16, .rw, .staged⟩, ⟨11, 0, .rw, .staged⟩], fun i => (byClass (i 1) 1000 400 120) * 2 ^ 16 + (byClass (i 1) 500 200 60), fun i => 0x0200 + (i 0 * 16 + i 1)⟩,
  ⟨.ch, 0x20810040, [(4, 0x100000), (16, 0x1000)], [⟨31, 16, .rw, .staged⟩, ⟨11, 10, .rw, .staged⟩, ⟨9, 7, .rw, .staged⟩, ⟨3, 0, .rw, .staged⟩], fun i => 0xc80100 + (byClass (i 1) 8 5 2), fun i => 0x0200 + (i 0 * 16 + i 1)⟩,
  ⟨.ch, 0x20810108, [(4, 0x100000), (16, 0x1000)], [⟨31, 16, .ro, .none⟩, ⟨15, 0, .ro, .none⟩], fun _ => 0x0, fun i => 0x0200 + (i 0 * 16 + i 1)⟩,
  ⟨.ch, 0x2081010c, [(4, 0x100000), (16, 0x1000)], [⟨31, 16, .ro, .none⟩, ⟨15, 0, .ro, .none⟩], fun _ => 0x0, fun i => 0x0200 + (i 0 * 16 + i 1)⟩,
  ⟨.ch, 0x20810120, [(4, 0x100000), (16, 0x1000), (2, 0x60), (4, 0x4)], [⟨31, 16, .rw, .staged⟩, ⟨15, 0, .rw, .staged⟩], fun _ => 0xffff0000, fun i => 0x0200 + (i 0 * 16 + i 1)⟩]

/-- Registers of block ch: CHn_SIG_ENV. -/
def regs_ch_2 : List RegDef := [
  ⟨.ch, 0x20810140, [(4, 0x100000), (16, 0x1000), (2, 0x80), (16, 0x4)], [⟨31, 16, .rw, .staged⟩, ⟨15, 0, .rw, .staged⟩], fun _ => 0xffff0000, fun i => 0x0200 + (i 0 * 16 + i 1)⟩]

def regs_ch : List RegDef := regs_ch_0 ++ regs_ch_1 ++ regs_ch_2

/-- Registers of block bole: BOLE_ID, BOLE_STAT, BOLE_VSUP, BOLE_HOLD, BOLE_GOV_SPARE, BOLE_GOV_LOAD, SO_SWA_STAT, SO_SWB_STAT. -/
def regs_bole : List RegDef := [
  ⟨.bole, 0x20800000, [(4, 0x100000)], [⟨7, 4, .ro, .none⟩, ⟨1, 0, .ro, .none⟩], fun i => Config.boleVersion * 2 ^ 4 + (i 0), fun _ => 0⟩,
  ⟨.bole, 0x20800004, [(4, 0x100000)], [⟨11, 8, .ro, .none⟩, ⟨7, 7, .ro, .none⟩, ⟨6, 6, .ro, .none⟩, ⟨5, 5, .ro, .none⟩, ⟨4, 4, .ro, .none⟩, ⟨3, 3, .ro, .none⟩, ⟨2, 2, .ro, .none⟩, ⟨0, 0, .ro, .none⟩], fun _ => 0x0, fun _ => 0⟩,
  ⟨.bole, 0x20800008, [(4, 0x100000)], [⟨15, 0, .ro, .none⟩], fun _ => 0x0, fun _ => 0⟩,
  ⟨.bole, 0x2080000c, [(4, 0x100000)], [⟨0, 0, .wo, .live⟩], fun _ => 0x0, fun _ => 0⟩,
  ⟨.bole, 0x20800010, [(4, 0x100000)], [⟨31, 16, .rw, .live⟩, ⟨15, 0, .rw, .live⟩], fun _ => 0x0, fun _ => 0⟩,
  ⟨.bole, 0x20800014, [(4, 0x100000)], [⟨31, 16, .ro, .none⟩, ⟨15, 0, .ro, .none⟩], fun _ => 0x0, fun _ => 0⟩,
  ⟨.bole, 0x20802000, [(4, 0x100000)], [⟨25, 16, .ro, .none⟩, ⟨7, 4, .ro, .none⟩, ⟨3, 3, .ro, .none⟩, ⟨2, 2, .ro, .none⟩, ⟨1, 1, .ro, .none⟩], fun _ => 0x0, fun _ => 0⟩,
  ⟨.bole, 0x20802004, [(4, 0x100000)], [⟨25, 16, .ro, .none⟩, ⟨7, 4, .ro, .none⟩, ⟨3, 3, .ro, .none⟩, ⟨2, 2, .ro, .none⟩, ⟨1, 1, .ro, .none⟩], fun _ => 0x0, fun _ => 0⟩]

/-- Registers of block limb: LIMB_STAT, LIMB_HOLD. -/
def regs_limb : List RegDef := [
  ⟨.limb, 0x20600004, [(2, 0x100000)], [⟨2, 2, .ro, .none⟩, ⟨1, 1, .ro, .none⟩, ⟨0, 0, .ro, .none⟩], fun _ => 0x0, fun _ => 0⟩,
  ⟨.limb, 0x2060000c, [(2, 0x100000)], [⟨0, 0, .wo, .live⟩], fun _ => 0x0, fun _ => 0⟩]

/-- Registers of block uio: UIOp_CFG, UIOp_DIG, UIOp_OUT, UIOp_STAT, UIOp_FLT, UIOp_VAL. -/
def regs_uio : List RegDef := [
  ⟨.uio, 0x20610000, [(2, 0x100000), (48, 0x1000)], [⟨17, 16, .rw, .staged⟩, ⟨13, 12, .rw, .staged⟩, ⟨11, 11, .rw, .staged⟩, ⟨10, 10, .rw, .staged⟩, ⟨9, 8, .rw, .staged⟩, ⟨3, 0, .rw, .staged⟩], fun _ => 0x0, fun i => 0x0300 + (i 0 * 48 + i 1)⟩,
  ⟨.uio, 0x20610004, [(2, 0x100000), (48, 0x1000)], [⟨31, 28, .rw, .staged⟩, ⟨27, 26, .rw, .staged⟩, ⟨25, 25, .rw, .staged⟩, ⟨23, 16, .rw, .staged⟩, ⟨8, 0, .rw, .staged⟩], fun _ => 0x402003c, fun i => 0x0300 + (i 0 * 48 + i 1)⟩,
  ⟨.uio, 0x20610008, [(2, 0x100000), (48, 0x1000)], [⟨21, 16, .rw, .staged⟩, ⟨0, 0, .rw, .staged⟩], fun _ => 0x0, fun i => 0x0300 + (i 0 * 48 + i 1)⟩,
  ⟨.uio, 0x2061000c, [(2, 0x100000), (48, 0x1000)], [⟨3, 3, .ro, .none⟩, ⟨2, 2, .ro, .none⟩, ⟨1, 1, .ro, .none⟩, ⟨0, 0, .ro, .none⟩], fun _ => 0x0, fun i => 0x0300 + (i 0 * 48 + i 1)⟩,
  ⟨.uio, 0x20610010, [(2, 0x100000), (48, 0x1000)], [⟨5, 5, .w1c, .live⟩, ⟨4, 4, .w1c, .live⟩, ⟨3, 3, .w1c, .live⟩, ⟨2, 2, .w1c, .live⟩, ⟨1, 1, .w1c, .live⟩, ⟨0, 0, .w1c, .live⟩], fun _ => 0x0, fun i => 0x0300 + (i 0 * 48 + i 1)⟩,
  ⟨.uio, 0x20610014, [(2, 0x100000), (48, 0x1000)], [⟨31, 31, .ro, .none⟩, ⟨30, 30, .ro, .none⟩, ⟨29, 29, .ro, .none⟩, ⟨28, 28, .ro, .none⟩, ⟨15, 0, .ro, .none⟩], fun _ => 0x0, fun i => 0x0300 + (i 0 * 48 + i 1)⟩]

/-- Registers of block ss: SSs_CFG, SSs_STAT, SSs_FLT. -/
def regs_ss : List RegDef := [
  ⟨.ss, 0x20640000, [(2, 0x100000), (4, 0x1000)], [⟨1, 1, .rw, .stopped⟩, ⟨0, 0, .rw, .live⟩], fun _ => 0x0, fun _ => 0⟩,
  ⟨.ss, 0x20640004, [(2, 0x100000), (4, 0x1000)], [⟨31, 16, .ro, .none⟩, ⟨15, 8, .ro, .none⟩, ⟨3, 0, .ro, .none⟩], fun _ => 0x0, fun _ => 0⟩,
  ⟨.ss, 0x20640008, [(2, 0x100000), (4, 0x1000)], [⟨4, 4, .w1c, .live⟩, ⟨3, 3, .w1c, .live⟩, ⟨2, 2, .w1c, .live⟩, ⟨1, 1, .w1c, .live⟩], fun _ => 0x0, fun _ => 0⟩]

/-- Registers of block ext: EXT_STAT. -/
def regs_ext : List RegDef := [
  ⟨.ext, 0x20748000, [], [⟨15, 8, .ro, .none⟩, ⟨7, 0, .ro, .none⟩], fun _ => 0x0, fun _ => 0⟩]

/-- Registers of block trx: TRXj_CTRL, TRXj_STAT, TRXj_FLT. -/
def regs_trx : List RegDef := [
  ⟨.trx, 0x20680000, [(2, 0x100000), (12, 0x1000)], [⟨2, 2, .rw, .live⟩, ⟨1, 0, .rw, .live⟩], fun _ => 0x6, fun _ => 0⟩,
  ⟨.trx, 0x20680004, [(2, 0x100000), (12, 0x1000)], [⟨6, 6, .ro, .none⟩, ⟨5, 5, .w1c, .live⟩, ⟨4, 4, .ro, .none⟩, ⟨3, 3, .ro, .none⟩, ⟨1, 0, .ro, .none⟩], fun _ => 0x2, fun _ => 0⟩,
  ⟨.trx, 0x20680008, [(2, 0x100000), (12, 0x1000)], [⟨2, 2, .w1c, .live⟩, ⟨1, 1, .w1c, .live⟩, ⟨0, 0, .w1c, .live⟩], fun _ => 0x0, fun _ => 0⟩]

/-- Registers of block krf: KRF_STAT. -/
def regs_krf : List RegDef := [
  ⟨.krf, 0x20500000, [], [⟨3, 0, .ro, .none⟩], fun _ => 0x0, fun _ => 0⟩]

/-- Registers of block kt (PIN of KTt_CFG is RSVD for t ≤ 63: the first row): KTt_CFG, KTt_PER, KTt_PH, KTt_DUTY, KTt_CAP0, KTt_CAP1, KTt_STAT. -/
def regs_kt : List RegDef := [
  ⟨.kt, 0x20510000, [(64, 0x1000)], [⟨23, 16, .rw, .staged⟩, ⟨3, 3, .rw, .staged⟩, ⟨2, 0, .rw, .staged⟩], fun _ => 0x40000, fun i => 0x0380 + i 0⟩,
  ⟨.kt, 0x20510000, [(128, 0x1000)], [⟨30, 24, .rw, .staged⟩, ⟨23, 16, .rw, .staged⟩, ⟨3, 3, .rw, .staged⟩, ⟨2, 0, .rw, .staged⟩], fun _ => 0x40000, fun i => 0x0380 + i 0⟩,
  ⟨.kt, 0x20510004, [(128, 0x1000)], [⟨23, 0, .rw, .staged⟩], fun i => (if i 0 ≤ 63 then byClass (i 0 % 16) 160000 80000 40000 else 80000), fun i => 0x0380 + i 0⟩,
  ⟨.kt, 0x20510008, [(128, 0x1000)], [⟨23, 0, .rw, .staged⟩], fun _ => 0x0, fun i => 0x0380 + i 0⟩,
  ⟨.kt, 0x2051000c, [(128, 0x1000)], [⟨15, 0, .rw, .staged⟩], fun _ => 0x0, fun i => 0x0380 + i 0⟩,
  ⟨.kt, 0x20510010, [(128, 0x1000)], [⟨31, 0, .ro, .none⟩], fun _ => 0x0, fun _ => 0⟩,
  ⟨.kt, 0x20510014, [(128, 0x1000)], [⟨31, 0, .ro, .none⟩], fun _ => 0x0, fun _ => 0⟩,
  ⟨.kt, 0x20510018, [(128, 0x1000)], [⟨31, 16, .ro, .none⟩, ⟨2, 2, .ro, .none⟩, ⟨1, 1, .ro, .none⟩, ⟨0, 0, .ro, .none⟩], fun _ => 0x0, fun _ => 0⟩]

/-- Registers of block kc: KCc_CFG, KCc_SET, KCc_GAIN, KCc_DITH, KCc_LIM, KCc_OUT, KCc_DIAG, KCc_CNT. -/
def regs_kc : List RegDef := [
  ⟨.kc, 0x20590000, [(32, 0x1000)], [⟨31, 31, .rw, .staged⟩, ⟨30, 30, .rw, .staged⟩, ⟨29, 28, .rw, .staged⟩, ⟨21, 16, .rw, .staged⟩, ⟨15, 0, .rw, .staged⟩], fun _ => 0x40000000, fun i => 0x0360 + i 0⟩,
  ⟨.kc, 0x20590004, [(32, 0x1000)], [⟨31, 16, .rw, .staged⟩, ⟨15, 0, .rw, .staged⟩], fun _ => 0x0, fun i => 0x0360 + i 0⟩,
  ⟨.kc, 0x20590008, [(32, 0x1000)], [⟨31, 16, .rw, .staged⟩, ⟨15, 0, .rw, .staged⟩], fun _ => 0x0, fun i => 0x0360 + i 0⟩,
  ⟨.kc, 0x2059000c, [(32, 0x1000)], [⟨31, 16, .rw, .staged⟩, ⟨15, 0, .rw, .staged⟩], fun _ => 0x640000, fun i => 0x0360 + i 0⟩,
  ⟨.kc, 0x20590010, [(32, 0x1000)], [⟨31, 16, .rw, .staged⟩, ⟨15, 0, .rw, .staged⟩], fun _ => 0xffff0000, fun i => 0x0360 + i 0⟩,
  ⟨.kc, 0x20590014, [(32, 0x1000)], [⟨31, 16, .ro, .none⟩, ⟨15, 0, .ro, .none⟩], fun _ => 0x0, fun i => 0x0360 + i 0⟩,
  ⟨.kc, 0x20590018, [(32, 0x1000)], [⟨31, 16, .ro, .none⟩, ⟨3, 3, .ro, .none⟩, ⟨2, 2, .ro, .none⟩, ⟨1, 1, .ro, .none⟩, ⟨0, 0, .ro, .none⟩], fun _ => 0xffff0000, fun i => 0x0360 + i 0⟩,
  ⟨.kc, 0x2059001c, [(32, 0x1000)], [⟨31, 16, .rc, .none⟩, ⟨15, 0, .rc, .none⟩], fun _ => 0x0, fun i => 0x0360 + i 0⟩]

/-- Registers of block can: CANn_CFG, CANn_CTRL, CANn_NBT, CANn_DBT, CANn_TDC, CANn_STAT, CANn_TDCV, CANn_FLT, CANn_CNT_TX, CANn_CNT_RX, CANn_CNT_ERR, CANn_CNT_PXH. -/
def regs_can_0 : List RegDef := [
  ⟨.can, 0x20100000, [(24, 0x1000)], [⟨19, 19, .rw, .staged⟩, ⟨18, 18, .rw, .staged⟩, ⟨17, 17, .rw, .staged⟩, ⟨15, 14, .rw, .staged⟩, ⟨13, 13, .rw, .staged⟩, ⟨12, 12, .rw, .staged⟩, ⟨11, 11, .rw, .staged⟩, ⟨10, 10, .rw, .staged⟩, ⟨2, 0, .rw, .staged⟩], fun _ => 0x0, fun i => 0x0400 + i 0⟩,
  ⟨.can, 0x20100004, [(24, 0x1000)], [⟨1, 1, .wo, .live⟩, ⟨0, 0, .rw, .staged⟩], fun _ => 0x0, fun i => 0x0400 + i 0⟩,
  ⟨.can, 0x20100008, [(24, 0x1000)], [⟨29, 23, .rw, .staged⟩, ⟨22, 16, .rw, .staged⟩, ⟨15, 8, .rw, .staged⟩, ⟨7, 0, .rw, .staged⟩], fun _ => 0x78f3e03, fun i => 0x0400 + i 0⟩,
  ⟨.can, 0x2010000c, [(24, 0x1000)], [⟨23, 20, .rw, .staged⟩, ⟨19, 16, .rw, .staged⟩, ⟨12, 8, .rw, .staged⟩, ⟨4, 0, .rw, .staged⟩], fun _ => 0x991c00, fun i => 0x0400 + i 0⟩,
  ⟨.can, 0x20100010, [(24, 0x1000)], [⟨14, 8, .rw, .staged⟩, ⟨6, 0, .rw, .staged⟩], fun _ => 0x0, fun i => 0x0400 + i 0⟩,
  ⟨.can, 0x20100014, [(24, 0x1000)], [⟨31, 28, .ro, .none⟩, ⟨27, 27, .ro, .none⟩, ⟨26, 24, .ro, .none⟩, ⟨23, 22, .ro, .none⟩, ⟨21, 21, .ro, .none⟩, ⟨16, 8, .ro, .none⟩, ⟨7, 0, .ro, .none⟩], fun _ => 0x0, fun i => 0x0400 + i 0⟩,
  ⟨.can, 0x20100018, [(24, 0x1000)], [⟨7, 7, .ro, .none⟩, ⟨6, 0, .ro, .none⟩], fun _ => 0x0, fun i => 0x0400 + i 0⟩,
  ⟨.can, 0x2010001c, [(24, 0x1000)], [⟨9, 9, .w1c, .live⟩, ⟨8, 8, .w1c, .live⟩, ⟨7, 7, .w1c, .live⟩, ⟨6, 6, .w1c, .live⟩, ⟨5, 5, .w1c, .live⟩, ⟨4, 4, .w1c, .live⟩, ⟨3, 3, .w1c, .live⟩, ⟨2, 2, .w1c, .live⟩, ⟨1, 1, .w1c, .live⟩, ⟨0, 0, .w1c, .live⟩], fun _ => 0x0, fun i => 0x0400 + i 0⟩,
  ⟨.can, 0x20100020, [(24, 0x1000)], [⟨31, 0, .rc, .none⟩], fun _ => 0x0, fun i => 0x0400 + i 0⟩,
  ⟨.can, 0x20100024, [(24, 0x1000)], [⟨31, 0, .rc, .none⟩], fun _ => 0x0, fun i => 0x0400 + i 0⟩,
  ⟨.can, 0x20100028, [(24, 0x1000)], [⟨31, 0, .rc, .none⟩], fun _ => 0x0, fun i => 0x0400 + i 0⟩,
  ⟨.can, 0x2010002c, [(24, 0x1000)], [⟨31, 0, .rc, .none⟩], fun _ => 0x0, fun i => 0x0400 + i 0⟩]

/-- Registers of block can: CANn_CNT_LOST, CANn_TXC, CANn_RXNEW, CANn_RXOVR, CANn_RXLOCK, CANn_RXUNLOCK, TXBb_W0, TXBb_W1, TXBb_TS, TXBb_D, MOm_W0, MOm_W1. -/
def regs_can_1 : List RegDef := [
  ⟨.can, 0x20100030, [(24, 0x1000)], [⟨31, 0, .rc, .none⟩], fun _ => 0x0, fun i => 0x0400 + i 0⟩,
  ⟨.can, 0x20100040, [(24, 0x1000)], [⟨26, 24, .w1c, .live⟩, ⟨18, 16, .w1c, .live⟩, ⟨10, 8, .ro, .none⟩, ⟨6, 4, .wo, .live⟩, ⟨2, 0, .wo, .live⟩], fun _ => 0x0, fun i => 0x0400 + i 0⟩,
  ⟨.can, 0x20100060, [(24, 0x1000)], [⟨31, 0, .ro, .none⟩], fun _ => 0x0, fun _ => 0⟩,
  ⟨.can, 0x20100064, [(24, 0x1000)], [⟨31, 0, .w1c, .live⟩], fun _ => 0x0, fun _ => 0⟩,
  ⟨.can, 0x20100068, [(24, 0x1000)], [⟨31, 0, .ro, .none⟩], fun _ => 0x0, fun _ => 0⟩,
  ⟨.can, 0x2010006c, [(24, 0x1000)], [⟨31, 0, .wo, .live⟩], fun _ => 0x0, fun _ => 0⟩,
  ⟨.can, 0x20100100, [(24, 0x1000), (3, 0x80)], [⟨31, 31, .rw, .live⟩, ⟨30, 30, .rw, .live⟩, ⟨29, 29, .rw, .live⟩, ⟨28, 0, .rw, .live⟩], fun _ => 0x0, fun _ => 0⟩,
  ⟨.can, 0x20100104, [(24, 0x1000), (3, 0x80)], [⟨31, 31, .rw, .live⟩, ⟨23, 16, .ro, .none⟩, ⟨15, 15, .rw, .live⟩, ⟨14, 14, .ro, .none⟩, ⟨13, 7, .ro, .none⟩, ⟨3, 0, .rw, .live⟩], fun _ => 0x0, fun _ => 0⟩,
  ⟨.can, 0x20100108, [(24, 0x1000), (3, 0x80)], [⟨31, 0, .ro, .none⟩], fun _ => 0x0, fun _ => 0⟩,
  ⟨.can, 0x2010010c, [(24, 0x1000), (3, 0x80), (16, 0x4)], [⟨31, 0, .rw, .live⟩], fun _ => 0x0, fun _ => 0⟩,
  ⟨.can, 0x20100400, [(24, 0x1000), (32, 0x50)], [⟨31, 31, .ro, .none⟩, ⟨30, 30, .ro, .none⟩, ⟨29, 29, .ro, .none⟩, ⟨28, 0, .ro, .none⟩], fun _ => 0x0, fun _ => 0⟩,
  ⟨.can, 0x20100404, [(24, 0x1000), (32, 0x50)], [⟨31, 31, .ro, .none⟩, ⟨23, 16, .ro, .none⟩, ⟨15, 15, .ro, .none⟩, ⟨14, 14, .ro, .none⟩, ⟨13, 7, .ro, .none⟩, ⟨3, 0, .ro, .none⟩], fun _ => 0x0, fun _ => 0⟩]

/-- Registers of block can: MOm_TIME, MOm_D, MOm_FID, CANn_FFk_ID, MOm_FMSK, CANn_FFk_MSK, CANn_FIFO_CFG, CANn_FIFO_STAT. -/
def regs_can_2 : List RegDef := [
  ⟨.can, 0x20100408, [(24, 0x1000), (32, 0x50)], [⟨31, 0, .ro, .none⟩], fun _ => 0x0, fun _ => 0⟩,
  ⟨.can, 0x2010040c, [(24, 0x1000), (32, 0x50), (16, 0x4)], [⟨31, 0, .ro, .none⟩], fun _ => 0x0, fun _ => 0⟩,
  ⟨.can, 0x20100e00, [(24, 0x1000), (32, 0x8)], [⟨31, 31, .rw, .staged⟩, ⟨30, 30, .rw, .staged⟩, ⟨29, 29, .rw, .staged⟩, ⟨28, 0, .rw, .staged⟩], fun _ => 0x0, fun i => 0x0420 + i 0⟩,
  ⟨.can, 0x20100f00, [(24, 0x1000), (8, 0x8)], [⟨31, 31, .rw, .staged⟩, ⟨30, 30, .rw, .staged⟩, ⟨29, 29, .rw, .staged⟩, ⟨28, 0, .rw, .staged⟩], fun _ => 0x0, fun i => 0x0420 + i 0⟩,
  ⟨.can, 0x20100e04, [(24, 0x1000), (32, 0x8)], [⟨31, 30, .rw, .staged⟩, ⟨28, 0, .rw, .staged⟩], fun _ => 0x0, fun i => 0x0420 + i 0⟩,
  ⟨.can, 0x20100f04, [(24, 0x1000), (8, 0x8)], [⟨31, 30, .rw, .staged⟩, ⟨28, 0, .rw, .staged⟩], fun _ => 0x0, fun i => 0x0420 + i 0⟩,
  ⟨.can, 0x20100f40, [(24, 0x1000)], [⟨31, 31, .rw, .staged⟩, ⟨30, 30, .rw, .staged⟩, ⟨5, 0, .rw, .staged⟩], fun _ => 0x0, fun i => 0x0420 + i 0⟩,
  ⟨.can, 0x20100f44, [(24, 0x1000)], [⟨6, 0, .ro, .none⟩], fun _ => 0x0, fun _ => 0⟩]

def regs_can : List RegDef := regs_can_0 ++ regs_can_1 ++ regs_can_2

/-- Registers of block wake: WAKE_SRC, WAKE_TIME_S, WAKE_TIME_F, WAKE_PEND, WAKE_EN, WAKE_IN_CFG, WAKE_RTC_ALM, WAKE_CMT, WAKE_CMT_STAT, WAKE_CNT. -/
def regs_wake : List RegDef := [
  ⟨.wake, 0x20690000, [], [⟨31, 31, .ro, .none⟩, ⟨30, 30, .ro, .none⟩, ⟨29, 29, .ro, .none⟩, ⟨4, 0, .ro, .none⟩], fun _ => 0x80000000, fun _ => 0⟩,
  ⟨.wake, 0x20690004, [], [⟨31, 0, .ro, .none⟩], fun _ => 0x0, fun _ => 0⟩,
  ⟨.wake, 0x20690008, [], [⟨14, 0, .ro, .none⟩], fun _ => 0x0, fun _ => 0⟩,
  ⟨.wake, 0x2069000c, [], [⟨31, 0, .w1c, .live⟩], fun _ => 0x1, fun _ => 0⟩,
  ⟨.wake, 0x20690010, [], [⟨31, 8, .ro, .none⟩, ⟨7, 2, .rw, .live⟩, ⟨1, 0, .ro, .none⟩], fun _ => 0xffffffff, fun _ => 0⟩,
  ⟨.wake, 0x20690014, [], [⟨3, 3, .rw, .live⟩, ⟨2, 2, .rw, .live⟩, ⟨1, 0, .rw, .live⟩, ⟨7, 7, .rw, .live⟩, ⟨6, 6, .rw, .live⟩, ⟨5, 4, .rw, .live⟩, ⟨11, 11, .rw, .live⟩, ⟨10, 10, .rw, .live⟩, ⟨9, 8, .rw, .live⟩, ⟨15, 15, .rw, .live⟩, ⟨14, 14, .rw, .live⟩, ⟨13, 12, .rw, .live⟩], fun _ => 0x5555, fun _ => 0⟩,
  ⟨.wake, 0x20690018, [], [⟨31, 0, .rw, .live⟩], fun _ => 0x0, fun _ => 0⟩,
  ⟨.wake, 0x2069001c, [], [⟨0, 0, .wo, .live⟩], fun _ => 0x0, fun _ => 0⟩,
  ⟨.wake, 0x20690020, [], [⟨2, 2, .w1c, .live⟩, ⟨1, 1, .w1c, .live⟩, ⟨0, 0, .w1c, .live⟩], fun _ => 0x0, fun _ => 0⟩,
  ⟨.wake, 0x20690024, [], [⟨31, 16, .ro, .none⟩, ⟨15, 0, .ro, .none⟩], fun _ => 0x0, fun _ => 0⟩]

/-- Registers of block esw (ESW_Pp_PLCA is RSVD off MP: its first two rows, of the ports before and after MP, hold
no field): ESW_Pp_CFG, ESW_Pp_PLCA, ESW_Pp_ASYM, ESW_Pp_STAT, ESW_Pp_TSQ_STAT, ESW_Pp_TSQ_ID, ESW_Pp_TSQ_S, ESW_Pp_TSQ_NS, ESW_Pp_TSQ_POP, ESW_Pp_RX, ESW_Pp_TX, ESW_Pp_DROP. -/
def regs_esw_0 : List RegDef := [
  ⟨.esw, 0x20210000, [(21, 0x1000)], [⟨31, 31, .rw, .staged⟩, ⟨30, 29, .rw, .stopped⟩, ⟨28, 27, .rw, .stopped⟩, ⟨26, 26, .rw, .staged⟩, ⟨25, 25, .rw, .staged⟩, ⟨23, 21, .rw, .staged⟩, ⟨11, 0, .rw, .staged⟩], fun i => 0x1 + (if i 0 ≤ 13 ∨ i 0 = 16 then 1 else 0) * 2 ^ 26, fun i => 0x0500 + i 0⟩,
  ⟨.esw, 0x20210004, [(14, 0x1000)], [], fun _ => 0x0, fun _ => 0⟩,
  ⟨.esw, 0x20220004, [(5, 0x1000)], [], fun _ => 0x0, fun _ => 0⟩,
  ⟨.esw, 0x20210004, [(21, 0x1000)], [⟨15, 8, .rw, .stopped⟩, ⟨7, 0, .rw, .stopped⟩], fun _ => 0x8ff, fun i => 0x0500 + i 0⟩,
  ⟨.esw, 0x20210008, [(21, 0x1000)], [⟨31, 0, .rw, .staged⟩], fun _ => 0x0, fun i => 0x0500 + i 0⟩,
  ⟨.esw, 0x2021000c, [(21, 0x1000)], [⟨31, 31, .ro, .none⟩, ⟨30, 28, .ro, .none⟩, ⟨1, 0, .ro, .none⟩], fun _ => 0x0, fun _ => 0⟩,
  ⟨.esw, 0x20210010, [(21, 0x1000)], [⟨3, 3, .w1c, .live⟩, ⟨2, 0, .ro, .none⟩], fun _ => 0x0, fun _ => 0⟩,
  ⟨.esw, 0x20210014, [(21, 0x1000)], [⟨15, 0, .ro, .none⟩], fun _ => 0x0, fun _ => 0⟩,
  ⟨.esw, 0x20210018, [(21, 0x1000)], [⟨31, 0, .ro, .none⟩], fun _ => 0x0, fun _ => 0⟩,
  ⟨.esw, 0x2021001c, [(21, 0x1000)], [⟨31, 0, .ro, .none⟩], fun _ => 0x0, fun _ => 0⟩,
  ⟨.esw, 0x20210020, [(21, 0x1000)], [⟨0, 0, .wo, .live⟩], fun _ => 0x0, fun _ => 0⟩,
  ⟨.esw, 0x20210040, [(21, 0x1000)], [⟨31, 0, .rc, .none⟩], fun _ => 0x0, fun _ => 0⟩,
  ⟨.esw, 0x20210044, [(21, 0x1000)], [⟨31, 0, .rc, .none⟩], fun _ => 0x0, fun _ => 0⟩,
  ⟨.esw, 0x20210048, [(21, 0x1000)], [⟨31, 0, .rc, .none⟩], fun _ => 0x0, fun _ => 0⟩]

/-- Registers of block esw: ESW_Pp_RXERR, ESW_Pp_QCIDROP, ESW_Pp_GCL_CFG, ESW_Pp_GCL_STAT, ESW_Pp_GCLe_G, ESW_Pp_GCLe_T. -/
def regs_esw_1 : List RegDef := [
  ⟨.esw, 0x2021004c, [(21, 0x1000)], [⟨31, 0, .rc, .none⟩], fun _ => 0x0, fun _ => 0⟩,
  ⟨.esw, 0x20210050, [(21, 0x1000)], [⟨31, 0, .rc, .none⟩], fun _ => 0x0, fun _ => 0⟩,
  ⟨.esw, 0x20210100, [(21, 0x1000)], [⟨31, 31, .rw, .staged⟩, ⟨30, 24, .rw, .staged⟩, ⟨5, 0, .rw, .staged⟩], fun _ => 0x1000001, fun i => 0x0520 + i 0⟩,
  ⟨.esw, 0x20210104, [(21, 0x1000)], [⟨31, 31, .ro, .none⟩, ⟨5, 0, .ro, .none⟩], fun _ => 0x80000000, fun i => 0x0520 + i 0⟩,
  ⟨.esw, 0x20210200, [(21, 0x1000), (64, 0x8)], [⟨7, 0, .rw, .staged⟩], fun _ => 0xff, fun i => 0x0520 + i 0⟩,
  ⟨.esw, 0x20210204, [(21, 0x1000), (64, 0x8)], [⟨31, 0, .rw, .staged⟩], fun _ => 0x3d090, fun i => 0x0520 + i 0⟩]

def regs_esw : List RegDef := regs_esw_0 ++ regs_esw_1

/-- Registers of block qp: ESW_QPk_CFG, ESW_QPk_MAC_LO, ESW_QPk_MAC_HI, ESW_QPk_TSIGN. -/
def regs_qp : List RegDef := [
  ⟨.qp, 0x20280000, [(32, 0x40)], [⟨31, 31, .rw, .stopped⟩, ⟨27, 24, .rw, .stopped⟩, ⟨23, 18, .rw, .stopped⟩, ⟨17, 12, .rw, .stopped⟩, ⟨11, 6, .rw, .stopped⟩], fun _ => 0x0, fun _ => 0⟩,
  ⟨.qp, 0x20280004, [(32, 0x40)], [⟨31, 0, .rw, .stopped⟩], fun _ => 0x0, fun _ => 0⟩,
  ⟨.qp, 0x20280008, [(32, 0x40)], [⟨15, 0, .rw, .stopped⟩], fun _ => 0x0, fun _ => 0⟩,
  ⟨.qp, 0x2028000c, [(32, 0x40)], [⟨31, 0, .rc, .none⟩], fun _ => 0x0, fun _ => 0⟩]

/-- Registers of block tmu: TMU_LC_NS, TMU_LC_S_LO, TMU_LC_S_HI, TMU_STEER, TMU_CFG, TMU_CTRL, TMU_STAT, TMU_DOMx_STAT, TMU_DOMx_GMID_LO, TMU_DOMx_GMID_HI, TMU_DOMx_OFS_LO, TMU_DOMx_OFS_HI. -/
def regs_tmu_0 : List RegDef := [
  ⟨.tmu, 0x20300000, [], [⟨29, 0, .ro, .none⟩], fun _ => 0x0, fun _ => 0⟩,
  ⟨.tmu, 0x20300004, [], [⟨31, 0, .ro, .none⟩], fun _ => 0x0, fun _ => 0⟩,
  ⟨.tmu, 0x20300008, [], [⟨31, 0, .ro, .none⟩], fun _ => 0x0, fun _ => 0⟩,
  ⟨.tmu, 0x2030000c, [], [⟨31, 0, .ro, .none⟩], fun _ => 0x0, fun _ => 0⟩,
  ⟨.tmu, 0x20300010, [], [⟨23, 16, .rw, .stopped⟩, ⟨14, 8, .rw, .stopped⟩, ⟨6, 0, .rw, .stopped⟩], fun _ => 0x100100, fun _ => 0⟩,
  ⟨.tmu, 0x20300014, [], [⟨0, 0, .rw, .live⟩], fun _ => 0x0, fun _ => 0⟩,
  ⟨.tmu, 0x20300018, [], [⟨15, 8, .ro, .none⟩, ⟨4, 4, .w1c, .live⟩, ⟨3, 3, .ro, .none⟩, ⟨2, 2, .ro, .none⟩, ⟨1, 0, .ro, .none⟩], fun _ => 0x0, fun _ => 0⟩,
  ⟨.tmu, 0x20300100, [(2, 0x40)], [⟨31, 31, .ro, .none⟩, ⟨30, 30, .w1c, .live⟩, ⟨29, 29, .ro, .none⟩, ⟨28, 27, .ro, .none⟩, ⟨23, 16, .ro, .none⟩], fun _ => 0x0, fun _ => 0⟩,
  ⟨.tmu, 0x20300104, [(2, 0x40)], [⟨31, 0, .ro, .none⟩], fun _ => 0x0, fun _ => 0⟩,
  ⟨.tmu, 0x20300108, [(2, 0x40)], [⟨31, 0, .ro, .none⟩], fun _ => 0x0, fun _ => 0⟩,
  ⟨.tmu, 0x2030010c, [(2, 0x40)], [⟨31, 0, .ro, .none⟩], fun _ => 0x0, fun _ => 0⟩,
  ⟨.tmu, 0x20300110, [(2, 0x40)], [⟨31, 0, .ro, .none⟩], fun _ => 0x0, fun _ => 0⟩]

/-- Registers of block tmu: TMU_DOMx_RATE, TMU_DOMx_UPD_LO, TMU_DOMx_UPD_HI, TMU_DOMx_AGE, TMU_AB_OFS_LO, TMU_AB_OFS_HI, TMU_AB_RATE, TMU_AB_STAT. -/
def regs_tmu_1 : List RegDef := [
  ⟨.tmu, 0x20300114, [(2, 0x40)], [⟨31, 0, .ro, .none⟩], fun _ => 0x0, fun _ => 0⟩,
  ⟨.tmu, 0x20300118, [(2, 0x40)], [⟨31, 0, .ro, .none⟩], fun _ => 0x0, fun _ => 0⟩,
  ⟨.tmu, 0x2030011c, [(2, 0x40)], [⟨31, 0, .ro, .none⟩], fun _ => 0x0, fun _ => 0⟩,
  ⟨.tmu, 0x20300120, [(2, 0x40)], [⟨31, 0, .ro, .none⟩], fun _ => 0xffffffff, fun _ => 0⟩,
  ⟨.tmu, 0x20300180, [], [⟨31, 0, .ro, .none⟩], fun _ => 0x0, fun _ => 0⟩,
  ⟨.tmu, 0x20300184, [], [⟨31, 0, .ro, .none⟩], fun _ => 0x0, fun _ => 0⟩,
  ⟨.tmu, 0x20300188, [], [⟨31, 0, .ro, .none⟩], fun _ => 0x0, fun _ => 0⟩,
  ⟨.tmu, 0x2030018c, [], [⟨0, 0, .ro, .none⟩], fun _ => 0x0, fun _ => 0⟩]

def regs_tmu : List RegDef := regs_tmu_0 ++ regs_tmu_1

/-- Registers of block lgw: LGW_CTRL, LGW_ETH, LGW_CNT_PEAK, LGW_CNT_DROP, LGW_CNT_MISFIT, LGW_CNT_BADCTN, LGW_BLKb, LGW_CTNc_0, LGW_CTNc_4, LGW_CTNc_8, LGW_CTNc_C. -/
def regs_lgw : List RegDef := [
  ⟨.lgw, 0x20400000, [], [⟨0, 0, .rw, .live⟩], fun _ => 0x0, fun _ => 0⟩,
  ⟨.lgw, 0x20400004, [], [⟨15, 0, .rw, .stopped⟩], fun _ => 0x88b5, fun _ => 0⟩,
  ⟨.lgw, 0x20400010, [], [⟨31, 0, .rc, .none⟩], fun _ => 0x0, fun _ => 0⟩,
  ⟨.lgw, 0x20400014, [], [⟨31, 0, .rc, .none⟩], fun _ => 0x0, fun _ => 0⟩,
  ⟨.lgw, 0x20400018, [], [⟨31, 0, .rc, .none⟩], fun _ => 0x0, fun _ => 0⟩,
  ⟨.lgw, 0x2040001c, [], [⟨31, 0, .rc, .none⟩], fun _ => 0x0, fun _ => 0⟩,
  ⟨.lgw, 0x20400100, [(64, 0x4)], [⟨31, 31, .rw, .stopped⟩, ⟨30, 30, .rw, .stopped⟩, ⟨19, 16, .rw, .stopped⟩, ⟨5, 0, .rw, .stopped⟩], fun _ => 0x0, fun _ => 0⟩,
  ⟨.lgw, 0x20410000, [(256, 0x10)], [⟨31, 31, .rw, .staged⟩, ⟨30, 28, .rw, .staged⟩, ⟨27, 23, .rw, .staged⟩, ⟨11, 0, .rw, .staged⟩], fun _ => 0x1, fun _ => 0x0640⟩,
  ⟨.lgw, 0x20410004, [(256, 0x10)], [⟨31, 16, .rw, .staged⟩, ⟨5, 0, .rw, .staged⟩], fun _ => 0x2580001, fun _ => 0x0640⟩,
  ⟨.lgw, 0x20410008, [(256, 0x10)], [⟨31, 0, .rw, .staged⟩], fun _ => 0x0, fun _ => 0x0640⟩,
  ⟨.lgw, 0x2041000c, [(256, 0x10)], [⟨31, 16, .rw, .staged⟩, ⟨15, 0, .rw, .staged⟩], fun _ => 0x0, fun _ => 0x0640⟩]

/-- Registers of block gwb: GWB_Lg_STAT, GWB_Lg_LOCK, GWB_Lg_CNT0, GWB_Lg_CNT1, GWB_Lg_CNT2, GWB_Lg_ERR_ADDR, GWB_Lg_ERR_INFO, GWB_Lg_SIDE_ADDR, GWB_Lg_PFr_BASE, GWB_Lg_PFr_LIM. -/
def regs_gwb : List RegDef := [
  ⟨.gwb, 0x20420000, [(6, 0x1000)], [⟨31, 31, .ro, .none⟩, ⟨30, 30, .ro, .none⟩], fun _ => 0x0, fun _ => 0⟩,
  ⟨.gwb, 0x20420004, [(6, 0x1000)], [⟨2, 2, .ro, .none⟩, ⟨1, 1, .ro, .none⟩, ⟨0, 0, .rw, .live⟩], fun _ => 0x0, fun _ => 0⟩,
  ⟨.gwb, 0x20420008, [(6, 0x1000)], [⟨31, 16, .rc, .none⟩, ⟨15, 0, .rc, .none⟩], fun _ => 0x0, fun _ => 0⟩,
  ⟨.gwb, 0x2042000c, [(6, 0x1000)], [⟨31, 16, .rc, .none⟩, ⟨15, 0, .rc, .none⟩], fun _ => 0x0, fun _ => 0⟩,
  ⟨.gwb, 0x20420010, [(6, 0x1000)], [⟨31, 16, .rc, .none⟩, ⟨15, 0, .rc, .none⟩], fun _ => 0x0, fun _ => 0⟩,
  ⟨.gwb, 0x20420014, [(6, 0x1000)], [⟨31, 0, .ro, .none⟩], fun _ => 0x0, fun _ => 0⟩,
  ⟨.gwb, 0x20420018, [(6, 0x1000)], [⟨31, 31, .w1c, .live⟩, ⟨30, 30, .w1c, .live⟩, ⟨29, 27, .ro, .none⟩, ⟨26, 24, .ro, .none⟩, ⟨23, 23, .ro, .none⟩, ⟨22, 19, .ro, .none⟩, ⟨18, 17, .ro, .none⟩], fun _ => 0x0, fun _ => 0⟩,
  ⟨.gwb, 0x2042001c, [(6, 0x1000)], [⟨31, 0, .ro, .none⟩], fun _ => 0x0, fun _ => 0⟩,
  ⟨.gwb, 0x20420040, [(6, 0x1000), (8, 0x8)], [⟨19, 6, .rw, .live⟩, ⟨1, 1, .rw, .live⟩, ⟨0, 0, .rw, .live⟩], fun _ => 0x0, fun _ => 0⟩,
  ⟨.gwb, 0x20420044, [(6, 0x1000), (8, 0x8)], [⟨19, 6, .rw, .live⟩], fun _ => 0x0, fun _ => 0⟩]

/-- Registers of block slot: LGW_SLOT. -/
def regs_slot : List RegDef := [
  ⟨.slot, 0x20440000, [(16384, 0x10), (4, 0x4)], [⟨31, 0, .ro, .none⟩], fun _ => 0x0, fun _ => 0⟩]

/-- Registers of block route: LGW_ROUTE. -/
def regs_route : List RegDef := [
  ⟨.route, 0x20480000, [(16384, 0x20), (8, 0x4)], [⟨31, 0, .rw, .staged⟩], fun _ => 0x0, fun i => 0x0600 + i 0 / 256⟩]

/-- Registers of block fatal: LSC_FATAL. -/
def regs_fatal : List RegDef := [
  ⟨.fatal, 0x20d00000, [], [⟨3, 0, .w1c, .live⟩], fun _ => 0x0, fun _ => 0⟩]

/-- Registers of block lsc: LSC_Pk_CFG, LSC_PF_CFG, LSC_Pk_CTRL, LSC_PF_CTRL, LSC_Pk_STAT, LSC_PF_STAT, LSC_Pk_MM_LO, LSC_PF_MM_LO, LSC_Pk_MM_HI, LSC_PF_MM_HI, LSC_Pk_MM_T_LO, LSC_PF_MM_T_LO. -/
def regs_lsc_0 : List RegDef := [
  ⟨.lsc, 0x20d10000, [(8, 0x1000)], [⟨1, 1, .ro, .none⟩, ⟨0, 0, .ro, .none⟩], fun _ => 1 * 2 ^ 1 + 0, fun _ => 0⟩,
  ⟨.lsc, 0x20d30000, [], [⟨1, 1, .ro, .none⟩, ⟨0, 0, .ro, .none⟩], fun _ => 1 * 2 ^ 1 + 0, fun _ => 0⟩,
  ⟨.lsc, 0x20d10004, [(8, 0x1000)], [⟨1, 1, .wo, .live⟩, ⟨0, 0, .wo, .live⟩], fun _ => 0x0, fun _ => 0⟩,
  ⟨.lsc, 0x20d30004, [], [⟨1, 1, .wo, .live⟩, ⟨0, 0, .wo, .live⟩], fun _ => 0x0, fun _ => 0⟩,
  ⟨.lsc, 0x20d10008, [(8, 0x1000)], [⟨31, 28, .ro, .none⟩, ⟨27, 27, .ro, .none⟩, ⟨22, 16, .ro, .none⟩, ⟨4, 4, .ro, .none⟩, ⟨3, 0, .ro, .none⟩], fun _ => 0x0, fun _ => 0⟩,
  ⟨.lsc, 0x20d30008, [], [⟨31, 28, .ro, .none⟩, ⟨27, 27, .ro, .none⟩, ⟨22, 16, .ro, .none⟩, ⟨4, 4, .ro, .none⟩, ⟨3, 0, .ro, .none⟩], fun _ => 0x0, fun _ => 0⟩,
  ⟨.lsc, 0x20d1000c, [(8, 0x1000)], [⟨31, 0, .ro, .none⟩], fun _ => 0x0, fun _ => 0⟩,
  ⟨.lsc, 0x20d3000c, [], [⟨31, 0, .ro, .none⟩], fun _ => 0x0, fun _ => 0⟩,
  ⟨.lsc, 0x20d10010, [(8, 0x1000)], [⟨31, 0, .ro, .none⟩], fun _ => 0x0, fun _ => 0⟩,
  ⟨.lsc, 0x20d30010, [], [⟨31, 0, .ro, .none⟩], fun _ => 0x0, fun _ => 0⟩,
  ⟨.lsc, 0x20d10014, [(8, 0x1000)], [⟨31, 0, .ro, .none⟩], fun _ => 0x0, fun _ => 0⟩,
  ⟨.lsc, 0x20d30014, [], [⟨31, 0, .ro, .none⟩], fun _ => 0x0, fun _ => 0⟩]

/-- Registers of block lsc: LSC_Pk_MM_T_HI, LSC_PF_MM_T_HI, LSC_Pk_TEST, LSC_PF_TEST. -/
def regs_lsc_1 : List RegDef := [
  ⟨.lsc, 0x20d10018, [(8, 0x1000)], [⟨31, 0, .ro, .none⟩], fun _ => 0x0, fun _ => 0⟩,
  ⟨.lsc, 0x20d30018, [], [⟨31, 0, .ro, .none⟩], fun _ => 0x0, fun _ => 0⟩,
  ⟨.lsc, 0x20d1001c, [(8, 0x1000)], [⟨31, 31, .ro, .none⟩, ⟨30, 30, .ro, .none⟩, ⟨29, 29, .ro, .none⟩, ⟨13, 8, .ro, .none⟩], fun _ => 0x0, fun _ => 0⟩,
  ⟨.lsc, 0x20d3001c, [], [⟨31, 31, .ro, .none⟩, ⟨30, 30, .ro, .none⟩, ⟨29, 29, .ro, .none⟩, ⟨13, 8, .ro, .none⟩], fun _ => 0x0, fun _ => 0⟩]

def regs_lsc : List RegDef := regs_lsc_0 ++ regs_lsc_1

/-- Registers of block lscCnt: LSC_Pk_CNT, LSC_PF_CNT. -/
def regs_lscCnt : List RegDef := [
  ⟨.lscCnt, 0x20d10020, [(8, 0x1000)], [⟨31, 16, .ro, .none⟩, ⟨15, 0, .ro, .none⟩], fun _ => 0x0, fun _ => 0⟩,
  ⟨.lscCnt, 0x20d30020, [], [⟨31, 16, .ro, .none⟩, ⟨15, 0, .ro, .none⟩], fun _ => 0x0, fun _ => 0⟩]

/-- Registers of block mem: MEM_SC_CFG, MEM_CE_CNT, MEM_CE_CACHE, MEM_UE_CNT, MEM_ERR_ADDR_LO, MEM_ERR_ADDR_HI, MEM_ERR_INFO, MEM_SCRUB_SRAM, MEM_SCRUB_DRAM. -/
def regs_mem : List RegDef := [
  ⟨.mem, 0x20d40000, [], [⟨4, 0, .ro, .none⟩], fun _ => Config.resetScWays, fun _ => 0⟩,
  ⟨.mem, 0x20d40004, [], [⟨31, 16, .rc, .none⟩, ⟨15, 0, .rc, .none⟩], fun _ => 0x0, fun _ => 0⟩,
  ⟨.mem, 0x20d40008, [], [⟨15, 0, .rc, .none⟩], fun _ => 0x0, fun _ => 0⟩,
  ⟨.mem, 0x20d4000c, [], [⟨31, 16, .rc, .none⟩, ⟨15, 0, .rc, .none⟩], fun _ => 0x0, fun _ => 0⟩,
  ⟨.mem, 0x20d40010, [], [⟨31, 0, .ro, .none⟩], fun _ => 0x0, fun _ => 0⟩,
  ⟨.mem, 0x20d40014, [], [⟨7, 0, .ro, .none⟩], fun _ => 0x0, fun _ => 0⟩,
  ⟨.mem, 0x20d40018, [], [⟨31, 31, .w1c, .live⟩, ⟨30, 30, .w1c, .live⟩, ⟨29, 28, .ro, .none⟩, ⟨27, 27, .ro, .none⟩, ⟨26, 26, .ro, .none⟩, ⟨25, 23, .ro, .none⟩, ⟨22, 22, .ro, .none⟩, ⟨21, 18, .ro, .none⟩], fun _ => 0x0, fun _ => 0⟩,
  ⟨.mem, 0x20d4001c, [], [⟨31, 16, .ro, .none⟩, ⟨15, 0, .ro, .none⟩], fun _ => 0x0, fun _ => 0⟩,
  ⟨.mem, 0x20d40020, [], [⟨31, 16, .ro, .none⟩, ⟨15, 0, .ro, .none⟩], fun _ => 0x0, fun _ => 0⟩]

/-- Registers of block evr: EVR_Pp_DONE, EVR_Pp_WDG, EVR_Pp_FSTAT, EVR_Pp_OVR. -/
def regs_evr : List RegDef := [
  ⟨.evr, 0x20010000, [(16, 0x1000)], [⟨0, 0, .wo, .live⟩], fun _ => 0x0, fun _ => 0⟩,
  ⟨.evr, 0x20010004, [(16, 0x1000)], [⟨0, 0, .wo, .live⟩], fun _ => 0x0, fun _ => 0⟩,
  ⟨.evr, 0x20010008, [(16, 0x1000)], [⟨31, 28, .ro, .none⟩, ⟨27, 27, .ro, .none⟩, ⟨26, 26, .ro, .none⟩, ⟨15, 0, .ro, .none⟩], fun _ => 0x0, fun _ => 0⟩,
  ⟨.evr, 0x2001000c, [(16, 0x1000)], [⟨31, 16, .rc, .none⟩, ⟨15, 0, .rc, .none⟩], fun _ => 0x0, fun _ => 0⟩]

/-- Registers of block ksu: KSU_LCS, KSU_STAT, KSU_AUTH, KSU_UID_LO, KSU_UID_HI, KSU_SLOTs, KSU_CEi_STAT, KSU_CEi_CNT, KSU_GATEu, KSU_WM. -/
def regs_ksu : List RegDef := [
  ⟨.ksu, 0x20c00000, [], [⟨5, 5, .ro, .none⟩, ⟨4, 4, .ro, .none⟩, ⟨2, 0, .ro, .none⟩], fun _ => 0 * 2 ^ 4 + 0, fun _ => 0⟩,
  ⟨.ksu, 0x20c00004, [], [⟨13, 8, .ro, .none⟩, ⟨2, 2, .ro, .none⟩, ⟨1, 1, .ro, .none⟩, ⟨0, 0, .ro, .none⟩], fun _ => 0x0, fun _ => 0⟩,
  ⟨.ksu, 0x20c00008, [], [⟨23, 16, .ro, .none⟩, ⟨5, 0, .ro, .none⟩], fun _ => 0x0, fun _ => 0⟩,
  ⟨.ksu, 0x20c0000c, [], [⟨31, 0, .ro, .none⟩], fun _ => Config.resetUidLo, fun _ => 0⟩,
  ⟨.ksu, 0x20c00010, [], [⟨31, 0, .ro, .none⟩], fun _ => Config.resetUidHi, fun _ => 0⟩,
  ⟨.ksu, 0x20c10000, [(32, 0x8)], [⟨31, 31, .ro, .none⟩, ⟨30, 29, .ro, .none⟩, ⟨28, 27, .ro, .none⟩, ⟨26, 20, .ro, .none⟩, ⟨19, 16, .ro, .none⟩, ⟨15, 0, .ro, .none⟩], fun _ => 0x0, fun _ => 0⟩,
  ⟨.ksu, 0x20c20000, [(5, 0x10)], [⟨31, 31, .ro, .none⟩, ⟨4, 0, .ro, .none⟩], fun _ => 0x0, fun _ => 0⟩,
  ⟨.ksu, 0x20c20004, [(5, 0x10)], [⟨31, 16, .rc, .none⟩, ⟨15, 0, .rc, .none⟩], fun _ => 0x0, fun _ => 0⟩,
  ⟨.ksu, 0x20c80000, [(46, 0x4)], [⟨3, 3, .ro, .none⟩, ⟨2, 2, .ro, .none⟩, ⟨1, 1, .ro, .none⟩, ⟨0, 0, .ro, .none⟩], fun _ => 0x3, fun _ => 0⟩,
  ⟨.ksu, 0x20c80100, [], [⟨31, 20, .ro, .none⟩, ⟨19, 11, .ro, .none⟩, ⟨10, 8, .ro, .none⟩, ⟨4, 0, .ro, .none⟩], fun _ => Config.resetWmDram * 2 ^ 20 + Config.resetWmSram * 2 ^ 11 + Config.resetL2hw * 2 ^ 8 + Config.resetSchw, fun _ => 0⟩]

/-- Registers of block sil: SIL_STAT, SIL_CHECK, SIL_CONF, SIL_PEND, SIL_FN_LO, SIL_FN_HI, SIL_IN, SIL_OUT, SIL_FLT, SIL_EVAL, SIL_CNT. -/
def regs_sil : List RegDef := [
  ⟨.sil, 0x207a0000, [], [⟨31, 28, .ro, .none⟩, ⟨27, 27, .ro, .none⟩, ⟨26, 26, .ro, .none⟩, ⟨25, 25, .ro, .none⟩, ⟨24, 24, .ro, .none⟩, ⟨23, 16, .ro, .none⟩, ⟨15, 0, .ro, .none⟩], fun _ => Config.islandVersion, fun _ => 0⟩,
  ⟨.sil, 0x207a0004, [], [⟨31, 0, .ro, .none⟩], fun _ => 0x0, fun _ => 0⟩,
  ⟨.sil, 0x207a0008, [], [⟨31, 0, .ro, .none⟩], fun _ => 0x0, fun _ => 0⟩,
  ⟨.sil, 0x207a000c, [], [⟨31, 0, .ro, .none⟩], fun _ => 0x0, fun _ => 0⟩,
  ⟨.sil, 0x207a0010, [], [⟨3, 0, .ro, .none⟩, ⟨7, 4, .ro, .none⟩, ⟨11, 8, .ro, .none⟩, ⟨15, 12, .ro, .none⟩, ⟨19, 16, .ro, .none⟩, ⟨23, 20, .ro, .none⟩, ⟨27, 24, .ro, .none⟩, ⟨31, 28, .ro, .none⟩], fun _ => 0x0, fun _ => 0⟩,
  ⟨.sil, 0x207a0014, [], [⟨3, 0, .ro, .none⟩, ⟨7, 4, .ro, .none⟩, ⟨11, 8, .ro, .none⟩, ⟨15, 12, .ro, .none⟩, ⟨19, 16, .ro, .none⟩, ⟨23, 20, .ro, .none⟩, ⟨27, 24, .ro, .none⟩, ⟨31, 28, .ro, .none⟩], fun _ => 0x0, fun _ => 0⟩,
  ⟨.sil, 0x207a0018, [], [⟨3, 0, .ro, .none⟩, ⟨7, 4, .ro, .none⟩, ⟨11, 8, .ro, .none⟩, ⟨15, 12, .ro, .none⟩, ⟨19, 16, .ro, .none⟩, ⟨23, 20, .ro, .none⟩, ⟨27, 24, .ro, .none⟩, ⟨31, 28, .ro, .none⟩], fun _ => 0x0, fun _ => 0⟩,
  ⟨.sil, 0x207a001c, [], [⟨28, 28, .ro, .none⟩, ⟨27, 24, .ro, .none⟩, ⟨23, 20, .ro, .none⟩, ⟨19, 16, .ro, .none⟩, ⟨3, 0, .ro, .none⟩, ⟨7, 4, .ro, .none⟩, ⟨11, 8, .ro, .none⟩, ⟨15, 12, .ro, .none⟩], fun _ => 0x0, fun _ => 0⟩,
  ⟨.sil, 0x207a0020, [], [⟨31, 24, .ro, .none⟩, ⟨23, 16, .ro, .none⟩], fun _ => 0x0, fun _ => 0⟩,
  ⟨.sil, 0x207a0024, [], [⟨31, 0, .ro, .none⟩], fun _ => 0x0, fun _ => 0⟩,
  ⟨.sil, 0x207a0028, [], [⟨31, 16, .ro, .none⟩, ⟨15, 0, .ro, .none⟩], fun _ => 0x0, fun _ => 0⟩]

/-- Registers of block isb: ISB_CTRL, ISB_ADDR, ISB_DATA, ISB_STAT. -/
def regs_isb : List RegDef := [
  ⟨.isb, 0x207b0000, [], [⟨3, 3, .wo, .live⟩, ⟨2, 2, .wo, .live⟩, ⟨1, 1, .wo, .live⟩, ⟨0, 0, .wo, .live⟩], fun _ => 0x0, fun _ => 0⟩,
  ⟨.isb, 0x207b0004, [], [⟨18, 0, .rw, .live⟩], fun _ => 0x0, fun _ => 0⟩,
  ⟨.isb, 0x207b0008, [], [⟨31, 0, .wo, .live⟩], fun _ => 0x0, fun _ => 0⟩,
  ⟨.isb, 0x207b000c, [], [⟨2, 2, .w1c, .live⟩, ⟨1, 1, .ro, .none⟩, ⟨0, 0, .ro, .none⟩], fun _ => 0x0, fun _ => 0⟩]

/-- Registers of block pair: PAIR_CFG, PAIR_STAT, PAIR_AGE, PAIR_IMG, PAIR_CKPT, PAIR_CNT0, PAIR_CNT1. -/
def regs_pair : List RegDef := [
  ⟨.pair, 0x20f00000, [], [⟨31, 16, .rw, .stopped⟩, ⟨3, 3, .rw, .stopped⟩, ⟨2, 2, .rw, .stopped⟩, ⟨1, 1, .rw, .stopped⟩, ⟨0, 0, .rw, .stopped⟩], fun _ => 0x0, fun _ => 0⟩,
  ⟨.pair, 0x20f00004, [], [⟨31, 28, .ro, .none⟩, ⟨27, 27, .ro, .none⟩, ⟨26, 26, .ro, .none⟩, ⟨25, 25, .ro, .none⟩, ⟨24, 24, .ro, .none⟩, ⟨23, 23, .ro, .none⟩, ⟨22, 22, .ro, .none⟩, ⟨15, 0, .ro, .none⟩], fun _ => 0x0, fun _ => 0⟩,
  ⟨.pair, 0x20f00008, [], [⟨31, 16, .ro, .none⟩, ⟨15, 0, .ro, .none⟩], fun _ => 0xffffffff, fun _ => 0⟩,
  ⟨.pair, 0x20f0000c, [], [⟨31, 0, .ro, .none⟩], fun _ => 0x0, fun _ => 0⟩,
  ⟨.pair, 0x20f00010, [], [⟨31, 0, .ro, .none⟩], fun _ => 0x0, fun _ => 0⟩,
  ⟨.pair, 0x20f00014, [], [⟨31, 16, .rc, .none⟩, ⟨15, 0, .rc, .none⟩], fun _ => 0x0, fun _ => 0⟩,
  ⟨.pair, 0x20f00018, [], [⟨31, 16, .rc, .none⟩, ⟨15, 0, .rc, .none⟩], fun _ => 0x0, fun _ => 0⟩]

/-- Registers of block inr: INR_FILL, INR_SEQ, INR_DROP_TRACE, INR_DROP_LOG, INR_MERGE, INR_EXP_SKIP, INR_FREEZE. -/
def regs_inr : List RegDef := [
  ⟨.inr, 0x20e00000, [], [⟨31, 16, .ro, .none⟩, ⟨15, 0, .ro, .none⟩], fun _ => 0x0, fun _ => 0⟩,
  ⟨.inr, 0x20e00004, [], [⟨31, 0, .ro, .none⟩], fun _ => 0, fun _ => 0⟩,
  ⟨.inr, 0x20e00008, [], [⟨31, 0, .rc, .none⟩], fun _ => 0x0, fun _ => 0⟩,
  ⟨.inr, 0x20e0000c, [], [⟨31, 0, .rc, .none⟩], fun _ => 0x0, fun _ => 0⟩,
  ⟨.inr, 0x20e00010, [], [⟨31, 0, .rc, .none⟩], fun _ => 0x0, fun _ => 0⟩,
  ⟨.inr, 0x20e00014, [], [⟨31, 0, .rc, .none⟩], fun _ => 0x0, fun _ => 0⟩,
  ⟨.inr, 0x20e00018, [], [⟨31, 31, .ro, .none⟩, ⟨18, 16, .ro, .none⟩, ⟨15, 0, .rc, .none⟩], fun _ => 0x0, fun _ => 0⟩]

/-- Registers of block supwd: SUP_CAUSE, SUP_STRAP, SUP_CLK, SUP_OPT, SUP_STARTS. -/
def regs_supwd : List RegDef := [
  ⟨.supwd, 0x20000000, [], [⟨31, 28, .ro, .none⟩, ⟨8, 0, .w1c, .live⟩], fun _ => 1, fun _ => 0⟩,
  ⟨.supwd, 0x20000008, [], [⟨9, 9, .ro, .none⟩, ⟨8, 6, .ro, .none⟩, ⟨5, 4, .ro, .none⟩, ⟨1, 0, .ro, .none⟩], fun _ => 0 * 2 ^ 6 + 0 * 2 ^ 4 + 0, fun _ => 0⟩,
  ⟨.supwd, 0x2000001c, [], [⟨31, 16, .ro, .none⟩, ⟨2, 2, .ro, .none⟩, ⟨1, 0, .ro, .none⟩], fun _ => 0x0, fun _ => 0⟩,
  ⟨.supwd, 0x20000030, [], [⟨31, 24, .ro, .none⟩, ⟨23, 16, .ro, .none⟩, ⟨3, 3, .ro, .none⟩, ⟨2, 2, .ro, .none⟩, ⟨1, 0, .ro, .none⟩], fun _ => 0x2, fun _ => 0⟩,
  ⟨.supwd, 0x20000034, [], [⟨31, 0, .ro, .none⟩], fun _ => 0x0, fun _ => 0⟩]

/-- Registers of block sup: SUP_LAST, SUP_MODE, SUP_VSUP, SUP_VM, SUP_TEMP, SUP_SWR, SUP_BLKRST_CAN, SUP_BLKRST, SUP_FWDG. -/
def regs_sup : List RegDef := [
  ⟨.sup, 0x20000004, [], [⟨2, 2, .ro, .none⟩, ⟨1, 0, .ro, .none⟩], fun _ => 0x4, fun _ => 0⟩,
  ⟨.sup, 0x2000000c, [], [⟨31, 28, .ro, .none⟩, ⟨15, 0, .ro, .none⟩], fun _ => 0x30000000, fun _ => 0⟩,
  ⟨.sup, 0x20000010, [], [⟨31, 16, .ro, .none⟩, ⟨15, 0, .ro, .none⟩], fun _ => 0x0, fun _ => 0⟩,
  ⟨.sup, 0x20000014, [], [⟨20, 20, .ro, .none⟩, ⟨19, 19, .ro, .none⟩, ⟨18, 18, .ro, .none⟩, ⟨17, 17, .ro, .none⟩, ⟨16, 16, .ro, .none⟩, ⟨15, 0, .ro, .none⟩], fun _ => 0x0, fun _ => 0⟩,
  ⟨.sup, 0x20000018, [], [⟨31, 24, .ro, .none⟩, ⟨23, 16, .ro, .none⟩, ⟨15, 8, .ro, .none⟩, ⟨7, 0, .ro, .none⟩], fun _ => 0x0, fun _ => 0⟩,
  ⟨.sup, 0x20000020, [], [⟨1, 1, .rw, .live⟩, ⟨0, 0, .wo, .live⟩], fun _ => 0x0, fun _ => 0⟩,
  ⟨.sup, 0x20000024, [], [⟨23, 0, .wo, .live⟩], fun _ => 0x0, fun _ => 0⟩,
  ⟨.sup, 0x20000028, [], [⟨7, 3, .wo, .live⟩, ⟨2, 2, .wo, .live⟩, ⟨1, 1, .wo, .live⟩, ⟨0, 0, .wo, .live⟩], fun _ => 0x0, fun _ => 0⟩,
  ⟨.sup, 0x2000002c, [], [⟨31, 16, .rw, .live⟩, ⟨15, 0, .wo, .live⟩], fun _ => 0x1f40000, fun _ => 0⟩]

/-- The register tables that share one 64 KiB or 1 MiB block of the address map of R21. -/
def regsAt (addr : Nat) : List RegDef :=
  if addr < 0x20010000 then regs_sup ++ regs_supwd
  else if addr < 0x20020000 then regs_evr
  else if addr < 0x20030000 then regs_qmg
  else if addr < 0x20100000 then regs_mbx
  else if addr < 0x20200000 then regs_can
  else if addr < 0x20300000 then regs_esw ++ regs_qp
  else if addr < 0x20400000 then regs_frm ++ regs_tmu
  else if addr < 0x20440000 then regs_lgw ++ regs_gwb
  else if addr < 0x20480000 then regs_slot
  else if addr < 0x20500000 then regs_route
  else if addr < 0x20600000 then regs_kt ++ regs_kc ++ regs_krf
  else if addr < 0x20800000 then regs_uio ++ regs_limb ++ regs_ss ++ regs_ext ++ regs_trx ++ regs_wake ++ regs_sil ++ regs_isb
  else if addr < 0x20C00000 then regs_ch ++ regs_bole
  else if addr < 0x20D00000 then regs_ksu
  else if addr < 0x20E00000 then regs_fatal ++ regs_lsc ++ regs_lscCnt ++ regs_mem
  else if addr < 0x20F00000 then regs_inr
  else regs_pair

/-- The register at a word-aligned address, with its indices (outermost first): none where no table lists one. -/
def lookupReg (addr : Nat) : Option (RegDef × List Nat) :=
  (regsAt addr).findSome? fun r => (r.indices addr).map fun ix => (r, ix)

/-- The Reset column of the register at an address; 0 where no register is listed. -/
def regReset (addr : Nat) : Word :=
  match lookupReg addr with
  | some (r, ix) => BitVec.ofNat 32 (r.reset (fun k => ix.getD k 0))
  | none => 0

end Sys2Proof.Machine
end

