-- ==== Sys2Proof/Machine/RegNames.lean ====
section
/-! DEFINITION. The address of every register and the place of every field, as the register tables of spec/ give
them: one name per register (the spec's own name) and one per field (register name, underscore, field name).
An index in a name (n, p, t, c ...) is the argument. -/

namespace Sys2Proof.Machine.R

/-- FRM_CFG (R37, 01_architecture.md). -/
def FRM_CFG : Nat := 0x20300800
def FRM_CFG_SRC : Fld := ⟨FRM_CFG, 1, 0⟩
/-- FRM_PHASE (R37, 01_architecture.md). -/
def FRM_PHASE : Nat := 0x20300804
def FRM_PHASE_PHASE : Fld := ⟨FRM_PHASE, 17, 0⟩
/-- FRM_CTRL (R37, 01_architecture.md). -/
def FRM_CTRL : Nat := 0x20300808
def FRM_CTRL_START : Fld := ⟨FRM_CTRL, 0, 0⟩
/-- FRM_STAT (R37, 01_architecture.md). -/
def FRM_STAT : Nat := 0x20300810
def FRM_STAT_RUN : Fld := ⟨FRM_STAT, 31, 31⟩
def FRM_STAT_ALIGNED : Fld := ⟨FRM_STAT, 30, 30⟩
def FRM_STAT_SLEWING : Fld := ⟨FRM_STAT, 29, 29⟩
def FRM_STAT_SRC_ACT : Fld := ⟨FRM_STAT, 28, 27⟩
def FRM_STAT_SLOT : Fld := ⟨FRM_STAT, 5, 0⟩
/-- FRM_OFS (R37, 01_architecture.md). -/
def FRM_OFS : Nat := 0x20300814
def FRM_OFS_OFS : Fld := ⟨FRM_OFS, 31, 0⟩
/-- FRM_NUM_LO (R37, 01_architecture.md). -/
def FRM_NUM_LO : Nat := 0x20300818
def FRM_NUM_LO_NUM : Fld := ⟨FRM_NUM_LO, 31, 0⟩
/-- FRM_NUM_HI (R37, 01_architecture.md). -/
def FRM_NUM_HI : Nat := 0x2030081c
def FRM_NUM_HI_NUM : Fld := ⟨FRM_NUM_HI, 31, 0⟩
/-- FRM_ERR (R37, 01_architecture.md). -/
def FRM_ERR : Nat := 0x20300820
def FRM_ERR_DOMAIN_LOST : Fld := ⟨FRM_ERR, 2, 2⟩
def FRM_ERR_SLOT_CORR : Fld := ⟨FRM_ERR, 1, 1⟩
def FRM_ERR_CFG_ERR : Fld := ⟨FRM_ERR, 0, 0⟩
/-- FRM_CNT_LGW (R37, 01_architecture.md). -/
def FRM_CNT_LGW : Nat := 0x20300830
def FRM_CNT_LGW_COUNT : Fld := ⟨FRM_CNT_LGW, 31, 0⟩
/-- FRM_CNT_LATE (R37, 01_architecture.md). -/
def FRM_CNT_LATE : Nat := 0x20300834
def FRM_CNT_LATE_COUNT : Fld := ⟨FRM_CNT_LATE, 31, 0⟩
/-- MBX_DB (R44, 02_rhapol_interface.md). -/
def MBX_DB (m : Nat) : Nat := 0x20030c00 + m * 0x1000
def MBX_DB_RING (m : Nat) : Fld := ⟨MBX_DB m, 0, 0⟩
/-- MBX_STAT (R44, 02_rhapol_interface.md). -/
def MBX_STAT (m : Nat) : Nat := 0x20030c04 + m * 0x1000
def MBX_STAT_GEN (m : Nat) : Fld := ⟨MBX_STAT m, 31, 16⟩
def MBX_STAT_RESP_TAG (m : Nat) : Fld := ⟨MBX_STAT m, 15, 8⟩
def MBX_STAT_LONG_OPEN (m : Nat) : Fld := ⟨MBX_STAT m, 7, 4⟩
def MBX_STAT_HELLO (m : Nat) : Fld := ⟨MBX_STAT m, 3, 3⟩
def MBX_STAT_EVT (m : Nat) : Fld := ⟨MBX_STAT m, 2, 2⟩
def MBX_STAT_DONE (m : Nat) : Fld := ⟨MBX_STAT m, 1, 1⟩
def MBX_STAT_BUSY (m : Nat) : Fld := ⟨MBX_STAT m, 0, 0⟩
/-- MBX_ERR (R44, 02_rhapol_interface.md). -/
def MBX_ERR (m : Nat) : Nat := 0x20030c08 + m * 0x1000
def MBX_ERR_COMMIT_DENIED (m : Nat) : Fld := ⟨MBX_ERR m, 2, 2⟩
def MBX_ERR_SLOT_WRITE (m : Nat) : Fld := ⟨MBX_ERR m, 1, 1⟩
def MBX_ERR_DB_WHILE_BUSY (m : Nat) : Fld := ⟨MBX_ERR m, 0, 0⟩
/-- MBX_EVT_LOST (R44, 02_rhapol_interface.md). -/
def MBX_EVT_LOST (m : Nat) : Nat := 0x20030c14 + m * 0x1000
def MBX_EVT_LOST_COUNT (m : Nat) : Fld := ⟨MBX_EVT_LOST m, 31, 0⟩
/-- MBX_COMMIT (R44, 02_rhapol_interface.md). -/
def MBX_COMMIT (m : Nat) : Nat := 0x20030c18 + m * 0x1000
def MBX_COMMIT_ALL (m : Nat) : Fld := ⟨MBX_COMMIT m, 0, 0⟩
/-- MBX_CSTAT (R44, 02_rhapol_interface.md). -/
def MBX_CSTAT (m : Nat) : Nat := 0x20030c1c + m * 0x1000
def MBX_CSTAT_GROUP (m : Nat) : Fld := ⟨MBX_CSTAT m, 31, 16⟩
def MBX_CSTAT_RULE (m : Nat) : Fld := ⟨MBX_CSTAT m, 15, 8⟩
def MBX_CSTAT_REJECTED (m : Nat) : Fld := ⟨MBX_CSTAT m, 1, 1⟩
def MBX_CSTAT_PENDING (m : Nat) : Fld := ⟨MBX_CSTAT m, 0, 0⟩
/-- MBX_EVT_HEAD (R44, 02_rhapol_interface.md). -/
def MBX_EVT_HEAD (m : Nat) : Nat := 0x20030c0c + m * 0x1000
def MBX_EVT_HEAD_IDX (m : Nat) : Fld := ⟨MBX_EVT_HEAD m, 4, 0⟩
/-- MBX_EVT_TAIL (R44, 02_rhapol_interface.md). -/
def MBX_EVT_TAIL (m : Nat) : Nat := 0x20030c10 + m * 0x1000
def MBX_EVT_TAIL_IDX (m : Nat) : Fld := ⟨MBX_EVT_TAIL m, 4, 0⟩
/-- QMG_QnBASE_LO (R73, 02_rhapol_interface.md). -/
def QMG_QnBASE_LO (n : Nat) : Nat := 0x20020000 + n * 0x40
def QMG_QnBASE_LO_ADDR (n : Nat) : Fld := ⟨QMG_QnBASE_LO n, 31, 5⟩
/-- QMG_QnBASE_HI (R73, 02_rhapol_interface.md). -/
def QMG_QnBASE_HI (n : Nat) : Nat := 0x20020004 + n * 0x40
def QMG_QnBASE_HI_ADDR_HI (n : Nat) : Fld := ⟨QMG_QnBASE_HI n, 7, 0⟩
/-- QMG_QnCFG (R73, 02_rhapol_interface.md). -/
def QMG_QnCFG (n : Nat) : Nat := 0x20020008 + n * 0x40
def QMG_QnCFG_EN (n : Nat) : Fld := ⟨QMG_QnCFG n, 31, 31⟩
def QMG_QnCFG_DIR (n : Nat) : Fld := ⟨QMG_QnCFG n, 30, 30⟩
def QMG_QnCFG_ENGINE (n : Nat) : Fld := ⟨QMG_QnCFG n, 23, 16⟩
def QMG_QnCFG_OWNER (n : Nat) : Fld := ⟨QMG_QnCFG n, 15, 12⟩
def QMG_QnCFG_CQ (n : Nat) : Fld := ⟨QMG_QnCFG n, 11, 6⟩
def QMG_QnCFG_SIZE (n : Nat) : Fld := ⟨QMG_QnCFG n, 3, 0⟩
/-- QMG_QnPROD (R73, 02_rhapol_interface.md). -/
def QMG_QnPROD (n : Nat) : Nat := 0x2002000c + n * 0x40
def QMG_QnPROD_IDX (n : Nat) : Fld := ⟨QMG_QnPROD n, 15, 0⟩
/-- QMG_QnCONS (R73, 02_rhapol_interface.md). -/
def QMG_QnCONS (n : Nat) : Nat := 0x20020010 + n * 0x40
def QMG_QnCONS_IDX (n : Nat) : Fld := ⟨QMG_QnCONS n, 15, 0⟩
/-- QMG_QnSTAT (R73, 02_rhapol_interface.md). -/
def QMG_QnSTAT (n : Nat) : Nat := 0x20020014 + n * 0x40
def QMG_QnSTAT_STOPPED (n : Nat) : Fld := ⟨QMG_QnSTAT n, 1, 1⟩
def QMG_QnSTAT_OVF (n : Nat) : Fld := ⟨QMG_QnSTAT n, 0, 0⟩
/-- QMG_QnDROP (R73, 02_rhapol_interface.md). -/
def QMG_QnDROP (n : Nat) : Nat := 0x20020018 + n * 0x40
def QMG_QnDROP_COUNT (n : Nat) : Fld := ⟨QMG_QnDROP n, 31, 0⟩
/-- QMG_QnFULL (R73, 02_rhapol_interface.md). -/
def QMG_QnFULL (n : Nat) : Nat := 0x2002001c + n * 0x40
def QMG_QnFULL_COUNT (n : Nat) : Fld := ⟨QMG_QnFULL n, 31, 0⟩
/-- CHn_CFG (R85, 03_channels_switching.md). -/
def CHn_CFG (n : Nat) : Nat := 0x20810000 + (n / 16) * 0x100000 + (n % 16) * 0x1000
def CHn_CFG_SLEW (n : Nat) : Fld := ⟨CHn_CFG n, 11, 10⟩
def CHn_CFG_OLOFF_EN (n : Nat) : Fld := ⟨CHn_CFG n, 9, 9⟩
def CHn_CFG_OLON_EN (n : Nat) : Fld := ⟨CHn_CFG n, 8, 8⟩
def CHn_CFG_HOLD_PWM (n : Nat) : Fld := ⟨CHn_CFG n, 7, 7⟩
def CHn_CFG_EXTSEL (n : Nat) : Fld := ⟨CHn_CFG n, 6, 4⟩
def CHn_CFG_SRC (n : Nat) : Fld := ⟨CHn_CFG n, 1, 0⟩
/-- CHn_TIM (R85, 03_channels_switching.md). -/
def CHn_TIM (n : Nat) : Nat := 0x20810008 + (n / 16) * 0x100000 + (n % 16) * 0x1000
def CHn_TIM_RETRY_DLY (n : Nat) : Fld := ⟨CHn_TIM n, 31, 24⟩
def CHn_TIM_RETRY_MAX (n : Nat) : Fld := ⟨CHn_TIM n, 23, 20⟩
def CHn_TIM_TINR (n : Nat) : Fld := ⟨CHn_TIM n, 15, 10⟩
def CHn_TIM_TTRIP (n : Nat) : Fld := ⟨CHn_TIM n, 9, 0⟩
/-- CHn_CMD (R85, 03_channels_switching.md). -/
def CHn_CMD (n : Nat) : Nat := 0x2081000c + (n / 16) * 0x100000 + (n % 16) * 0x1000
def CHn_CMD_ON (n : Nat) : Fld := ⟨CHn_CMD n, 0, 0⟩
/-- CHn_STAT (R85, 03_channels_switching.md). -/
def CHn_STAT (n : Nat) : Nat := 0x20810010 + (n / 16) * 0x100000 + (n % 16) * 0x1000
def CHn_STAT_STATE (n : Nat) : Fld := ⟨CHn_STAT n, 31, 28⟩
def CHn_STAT_HOLD (n : Nat) : Fld := ⟨CHn_STAT n, 27, 27⟩
def CHn_STAT_OUT (n : Nat) : Fld := ⟨CHn_STAT n, 26, 26⟩
def CHn_STAT_TLATCH (n : Nat) : Fld := ⟨CHn_STAT n, 25, 25⟩
def CHn_STAT_HLATCH (n : Nat) : Fld := ⟨CHn_STAT n, 24, 24⟩
def CHn_STAT_RETRY_LEFT (n : Nat) : Fld := ⟨CHn_STAT n, 23, 20⟩
def CHn_STAT_CAUSE (n : Nat) : Fld := ⟨CHn_STAT n, 19, 16⟩
def CHn_STAT_OL_ON (n : Nat) : Fld := ⟨CHn_STAT n, 15, 15⟩
def CHn_STAT_OL_OFF (n : Nat) : Fld := ⟨CHn_STAT n, 14, 14⟩
def CHn_STAT_STB (n : Nat) : Fld := ⟨CHn_STAT n, 13, 13⟩
def CHn_STAT_LIMITING (n : Nat) : Fld := ⟨CHn_STAT n, 12, 12⟩
/-- CHn_FLT (R85, 03_channels_switching.md). -/
def CHn_FLT (n : Nat) : Nat := 0x20810014 + (n / 16) * 0x100000 + (n % 16) * 0x1000
def CHn_FLT_CFG_ERR (n : Nat) : Fld := ⟨CHn_FLT n, 11, 11⟩
def CHn_FLT_NOLEASE (n : Nat) : Fld := ⟨CHn_FLT n, 10, 10⟩
def CHn_FLT_PWM_FAST (n : Nat) : Fld := ⟨CHn_FLT n, 9, 9⟩
def CHn_FLT_LOCKED (n : Nat) : Fld := ⟨CHn_FLT n, 8, 8⟩
def CHn_FLT_SUPPLY (n : Nat) : Fld := ⟨CHn_FLT n, 7, 7⟩
def CHn_FLT_STB (n : Nat) : Fld := ⟨CHn_FLT n, 6, 6⟩
def CHn_FLT_OL_OFF (n : Nat) : Fld := ⟨CHn_FLT n, 5, 5⟩
def CHn_FLT_OL_ON (n : Nat) : Fld := ⟨CHn_FLT n, 4, 4⟩
def CHn_FLT_HARNESS (n : Nat) : Fld := ⟨CHn_FLT n, 3, 3⟩
def CHn_FLT_THERMAL (n : Nat) : Fld := ⟨CHn_FLT n, 2, 2⟩
def CHn_FLT_OVERCURRENT (n : Nat) : Fld := ⟨CHn_FLT n, 1, 1⟩
def CHn_FLT_SHORT (n : Nat) : Fld := ⟨CHn_FLT n, 0, 0⟩
/-- CHn_CNT (R85, 03_channels_switching.md). -/
def CHn_CNT (n : Nat) : Nat := 0x20810018 + (n / 16) * 0x100000 + (n % 16) * 0x1000
def CHn_CNT_TRIPS (n : Nat) : Fld := ⟨CHn_CNT n, 31, 16⟩
def CHn_CNT_RESTARTS (n : Nat) : Fld := ⟨CHn_CNT n, 15, 0⟩
/-- CHn_ROLE (R85, 03_channels_switching.md). -/
def CHn_ROLE (n : Nat) : Nat := 0x2081001c + (n / 16) * 0x100000 + (n % 16) * 0x1000
def CHn_ROLE_PAIRED (n : Nat) : Fld := ⟨CHn_ROLE n, 5, 5⟩
def CHn_ROLE_ESSENTIAL (n : Nat) : Fld := ⟨CHn_ROLE n, 4, 4⟩
def CHn_ROLE_PRIO (n : Nat) : Fld := ⟨CHn_ROLE n, 3, 0⟩
/-- CHn_MEAS_I (R113, 04_channels_harness.md). -/
def CHn_MEAS_I (n : Nat) : Nat := 0x20810080 + (n / 16) * 0x100000 + (n % 16) * 0x1000
def CHn_MEAS_I_IMEAN (n : Nat) : Fld := ⟨CHn_MEAS_I n, 31, 16⟩
def CHn_MEAS_I_IRMS (n : Nat) : Fld := ⟨CHn_MEAS_I n, 15, 0⟩
/-- CHn_MEAS_V (R113, 04_channels_harness.md). -/
def CHn_MEAS_V (n : Nat) : Nat := 0x20810084 + (n / 16) * 0x100000 + (n % 16) * 0x1000
def CHn_MEAS_V_VOUT (n : Nat) : Fld := ⟨CHn_MEAS_V n, 31, 16⟩
def CHn_MEAS_V_IPEAK (n : Nat) : Fld := ⟨CHn_MEAS_V n, 15, 0⟩
/-- CHn_MEAS_T (R113, 04_channels_harness.md). -/
def CHn_MEAS_T (n : Nat) : Nat := 0x20810088 + (n / 16) * 0x100000 + (n % 16) * 0x1000
def CHn_MEAS_T_TJ (n : Nat) : Fld := ⟨CHn_MEAS_T n, 23, 16⟩
def CHn_MEAS_T_PSW (n : Nat) : Fld := ⟨CHn_MEAS_T n, 15, 0⟩
/-- CHn_MEAS_D (R113, 04_channels_harness.md). -/
def CHn_MEAS_D (n : Nat) : Nat := 0x2081008c + (n / 16) * 0x100000 + (n % 16) * 0x1000
def CHn_MEAS_D_DUTY (n : Nat) : Fld := ⟨CHn_MEAS_D n, 31, 16⟩
def CHn_MEAS_D_VDROP (n : Nat) : Fld := ⟨CHn_MEAS_D n, 15, 0⟩
/-- CHn_MEAS_G (R113, 04_channels_harness.md). -/
def CHn_MEAS_G (n : Nat) : Nat := 0x20810090 + (n / 16) * 0x100000 + (n % 16) * 0x1000
def CHn_MEAS_G_FI (n : Nat) : Fld := ⟨CHn_MEAS_G n, 31, 16⟩
def CHn_MEAS_G_FP (n : Nat) : Fld := ⟨CHn_MEAS_G n, 15, 0⟩
/-- CHn_MEAS_FRM (R113, 04_channels_harness.md). -/
def CHn_MEAS_FRM (n : Nat) : Nat := 0x20810094 + (n / 16) * 0x100000 + (n % 16) * 0x1000
def CHn_MEAS_FRM_FRAME (n : Nat) : Fld := ⟨CHn_MEAS_FRM n, 31, 0⟩
/-- CHn_WIRE_AMB (R119, 04_channels_harness.md). -/
def CHn_WIRE_AMB (n : Nat) : Nat := 0x20810044 + (n / 16) * 0x100000 + (n % 16) * 0x1000
def CHn_WIRE_AMB_TAMB (n : Nat) : Fld := ⟨CHn_WIRE_AMB n, 7, 0⟩
/-- CHn_WIRE_TC (R119, 04_channels_harness.md). -/
def CHn_WIRE_TC (n : Nat) : Nat := 0x20810048 + (n / 16) * 0x100000 + (n % 16) * 0x1000
def CHn_WIRE_TC_TC (n : Nat) : Fld := ⟨CHn_WIRE_TC n, 15, 0⟩
/-- CHn_IEXP (R119, 04_channels_harness.md). -/
def CHn_IEXP (n : Nat) : Nat := 0x2081004c + (n / 16) * 0x100000 + (n % 16) * 0x1000
def CHn_IEXP_IEXP (n : Nat) : Fld := ⟨CHn_IEXP n, 11, 0⟩
/-- CHn_SIG_CFG (R123, 04_channels_harness.md). -/
def CHn_SIG_CFG (n : Nat) : Nat := 0x20810100 + (n / 16) * 0x100000 + (n % 16) * 0x1000
def CHn_SIG_CFG_EDGE (n : Nat) : Fld := ⟨CHn_SIG_CFG n, 17, 16⟩
def CHn_SIG_CFG_DIV (n : Nat) : Fld := ⟨CHn_SIG_CFG n, 15, 8⟩
def CHn_SIG_CFG_DEVN (n : Nat) : Fld := ⟨CHn_SIG_CFG n, 7, 4⟩
def CHn_SIG_CFG_RATE (n : Nat) : Fld := ⟨CHn_SIG_CFG n, 3, 2⟩
def CHn_SIG_CFG_CMP_EN (n : Nat) : Fld := ⟨CHn_SIG_CFG n, 1, 1⟩
/-- CHn_SIG_STAT (R123, 04_channels_harness.md). -/
def CHn_SIG_STAT (n : Nat) : Nat := 0x20810104 + (n / 16) * 0x100000 + (n % 16) * 0x1000
def CHn_SIG_STAT_COUNT (n : Nat) : Fld := ⟨CHn_SIG_STAT n, 31, 16⟩
def CHn_SIG_STAT_DEV (n : Nat) : Fld := ⟨CHn_SIG_STAT n, 15, 8⟩
def CHn_SIG_STAT_EDGE_TYPE (n : Nat) : Fld := ⟨CHn_SIG_STAT n, 1, 1⟩
def CHn_SIG_STAT_BUSY (n : Nat) : Fld := ⟨CHn_SIG_STAT n, 0, 0⟩
/-- CHn_SIG_SKIP (R123, 04_channels_harness.md). -/
def CHn_SIG_SKIP (n : Nat) : Nat := 0x20810110 + (n / 16) * 0x100000 + (n % 16) * 0x1000
def CHn_SIG_SKIP_COUNT (n : Nat) : Fld := ⟨CHn_SIG_SKIP n, 31, 0⟩
/-- CHn_LIM (R85, 03_channels_switching.md). -/
def CHn_LIM (n : Nat) : Nat := 0x20810004 + (n / 16) * 0x100000 + (n % 16) * 0x1000
def CHn_LIM_IINR (n : Nat) : Fld := ⟨CHn_LIM n, 27, 16⟩
def CHn_LIM_ILIM (n : Nat) : Fld := ⟨CHn_LIM n, 11, 0⟩
/-- CHn_WIRE (R119, 04_channels_harness.md). -/
def CHn_WIRE (n : Nat) : Nat := 0x20810040 + (n / 16) * 0x100000 + (n % 16) * 0x1000
def CHn_WIRE_LENGTH (n : Nat) : Fld := ⟨CHn_WIRE n, 31, 16⟩
def CHn_WIRE_BUNDLE (n : Nat) : Fld := ⟨CHn_WIRE n, 11, 10⟩
def CHn_WIRE_CLASS (n : Nat) : Fld := ⟨CHn_WIRE n, 9, 7⟩
def CHn_WIRE_SIZE (n : Nat) : Fld := ⟨CHn_WIRE n, 3, 0⟩
/-- CHn_SIG_F0 (R123, 04_channels_harness.md). -/
def CHn_SIG_F0 (n : Nat) : Nat := 0x20810108 + (n / 16) * 0x100000 + (n % 16) * 0x1000
def CHn_SIG_F0_IPK (n : Nat) : Fld := ⟨CHn_SIG_F0 n, 31, 16⟩
def CHn_SIG_F0_TPK (n : Nat) : Fld := ⟨CHn_SIG_F0 n, 15, 0⟩
/-- CHn_SIG_F1 (R123, 04_channels_harness.md). -/
def CHn_SIG_F1 (n : Nat) : Nat := 0x2081010c + (n / 16) * 0x100000 + (n % 16) * 0x1000
def CHn_SIG_F1_ISET (n : Nat) : Fld := ⟨CHn_SIG_F1 n, 31, 16⟩
def CHn_SIG_F1_Q (n : Nat) : Fld := ⟨CHn_SIG_F1 n, 15, 0⟩
/-- CHn_SIG_WIN (R123, 04_channels_harness.md). -/
def CHn_SIG_WIN (n j f : Nat) : Nat := 0x20810120 + (n / 16) * 0x100000 + (n % 16) * 0x1000 + j * 0x60 + f * 0x4
def CHn_SIG_WIN_MAX (n j f : Nat) : Fld := ⟨CHn_SIG_WIN n j f, 31, 16⟩
def CHn_SIG_WIN_MIN (n j f : Nat) : Fld := ⟨CHn_SIG_WIN n j f, 15, 0⟩
/-- CHn_SIG_ENV (R123, 04_channels_harness.md). -/
def CHn_SIG_ENV (n j s : Nat) : Nat := 0x20810140 + (n / 16) * 0x100000 + (n % 16) * 0x1000 + j * 0x80 + s * 0x4
def CHn_SIG_ENV_MAX (n j s : Nat) : Fld := ⟨CHn_SIG_ENV n j s, 31, 16⟩
def CHn_SIG_ENV_MIN (n j s : Nat) : Fld := ⟨CHn_SIG_ENV n j s, 15, 0⟩
/-- BOLE_ID (R87, 03_channels_switching.md). -/
def BOLE_ID (d : Nat) : Nat := 0x20800000 + d * 0x100000
def BOLE_ID_VERSION (d : Nat) : Fld := ⟨BOLE_ID d, 7, 4⟩
def BOLE_ID_DIE (d : Nat) : Fld := ⟨BOLE_ID d, 1, 0⟩
/-- BOLE_STAT (R87, 03_channels_switching.md). -/
def BOLE_STAT (d : Nat) : Nat := 0x20800004 + d * 0x100000
def BOLE_STAT_SUPPLY (d : Nat) : Fld := ⟨BOLE_STAT d, 11, 8⟩
def BOLE_STAT_GND_LOSS (d : Nat) : Fld := ⟨BOLE_STAT d, 7, 7⟩
def BOLE_STAT_RELEASE (d : Nat) : Fld := ⟨BOLE_STAT d, 6, 6⟩
def BOLE_STAT_LEASE (d : Nat) : Fld := ⟨BOLE_STAT d, 5, 5⟩
def BOLE_STAT_LOCAL_FRAME (d : Nat) : Fld := ⟨BOLE_STAT d, 4, 4⟩
def BOLE_STAT_SEQ_RUN (d : Nat) : Fld := ⟨BOLE_STAT d, 3, 3⟩
def BOLE_STAT_LINK_OK (d : Nat) : Fld := ⟨BOLE_STAT d, 2, 2⟩
def BOLE_STAT_HOLD (d : Nat) : Fld := ⟨BOLE_STAT d, 0, 0⟩
/-- BOLE_VSUP (R87, 03_channels_switching.md). -/
def BOLE_VSUP (d : Nat) : Nat := 0x20800008 + d * 0x100000
def BOLE_VSUP_MV (d : Nat) : Fld := ⟨BOLE_VSUP d, 15, 0⟩
/-- BOLE_HOLD (R87, 03_channels_switching.md). -/
def BOLE_HOLD (d : Nat) : Nat := 0x2080000c + d * 0x100000
def BOLE_HOLD_ADOPT (d : Nat) : Fld := ⟨BOLE_HOLD d, 0, 0⟩
/-- BOLE_GOV_SPARE (R131, 04_channels_harness.md). -/
def BOLE_GOV_SPARE (d : Nat) : Nat := 0x20800010 + d * 0x100000
def BOLE_GOV_SPARE_SPARE_I (d : Nat) : Fld := ⟨BOLE_GOV_SPARE d, 31, 16⟩
def BOLE_GOV_SPARE_SPARE_P (d : Nat) : Fld := ⟨BOLE_GOV_SPARE d, 15, 0⟩
/-- BOLE_GOV_LOAD (R131, 04_channels_harness.md). -/
def BOLE_GOV_LOAD (d : Nat) : Nat := 0x20800014 + d * 0x100000
def BOLE_GOV_LOAD_LOAD_I (d : Nat) : Fld := ⟨BOLE_GOV_LOAD d, 31, 16⟩
def BOLE_GOV_LOAD_LOAD_P (d : Nat) : Fld := ⟨BOLE_GOV_LOAD d, 15, 0⟩
/-- SO_SWA_STAT (R105, 03_channels_switching.md). -/
def SO_SWA_STAT (d : Nat) : Nat := 0x20802000 + d * 0x100000
def SO_SWA_STAT_CUR (d : Nat) : Fld := ⟨SO_SWA_STAT d, 25, 16⟩
def SO_SWA_STAT_CAUSE (d : Nat) : Fld := ⟨SO_SWA_STAT d, 7, 4⟩
def SO_SWA_STAT_TRIPPED (d : Nat) : Fld := ⟨SO_SWA_STAT d, 3, 3⟩
def SO_SWA_STAT_OUT (d : Nat) : Fld := ⟨SO_SWA_STAT d, 2, 2⟩
def SO_SWA_STAT_GATE_EN (d : Nat) : Fld := ⟨SO_SWA_STAT d, 1, 1⟩
/-- SO_SWB_STAT (R105, 03_channels_switching.md). -/
def SO_SWB_STAT (d : Nat) : Nat := 0x20802004 + d * 0x100000
def SO_SWB_STAT_CUR (d : Nat) : Fld := ⟨SO_SWB_STAT d, 25, 16⟩
def SO_SWB_STAT_CAUSE (d : Nat) : Fld := ⟨SO_SWB_STAT d, 7, 4⟩
def SO_SWB_STAT_TRIPPED (d : Nat) : Fld := ⟨SO_SWB_STAT d, 3, 3⟩
def SO_SWB_STAT_OUT (d : Nat) : Fld := ⟨SO_SWB_STAT d, 2, 2⟩
def SO_SWB_STAT_GATE_EN (d : Nat) : Fld := ⟨SO_SWB_STAT d, 1, 1⟩
/-- LIMB_STAT (R150, 05_field_io_kerf.md). -/
def LIMB_STAT (l : Nat) : Nat := 0x20600004 + l * 0x100000
def LIMB_STAT_LOCAL_FRAME (l : Nat) : Fld := ⟨LIMB_STAT l, 2, 2⟩
def LIMB_STAT_LINK_OK (l : Nat) : Fld := ⟨LIMB_STAT l, 1, 1⟩
def LIMB_STAT_HOLD (l : Nat) : Fld := ⟨LIMB_STAT l, 0, 0⟩
/-- LIMB_HOLD (R150, 05_field_io_kerf.md). -/
def LIMB_HOLD (l : Nat) : Nat := 0x2060000c + l * 0x100000
def LIMB_HOLD_ADOPT (l : Nat) : Fld := ⟨LIMB_HOLD l, 0, 0⟩
/-- UIOp_CFG (R150, 05_field_io_kerf.md). -/
def UIOp_CFG (p : Nat) : Nat := 0x20610000 + (p / 48) * 0x100000 + (p % 48) * 0x1000
def UIOp_CFG_SSSEL (p : Nat) : Fld := ⟨UIOp_CFG p, 17, 16⟩
def UIOp_CFG_PULL (p : Nat) : Fld := ⟨UIOp_CFG p, 13, 12⟩
def UIOp_CFG_OUT_HOLD (p : Nat) : Fld := ⟨UIOp_CFG p, 11, 11⟩
def UIOp_CFG_OUT_SRC (p : Nat) : Fld := ⟨UIOp_CFG p, 10, 10⟩
def UIOp_CFG_OVS (p : Nat) : Fld := ⟨UIOp_CFG p, 9, 8⟩
def UIOp_CFG_MODE (p : Nat) : Fld := ⟨UIOp_CFG p, 3, 0⟩
/-- UIOp_DIG (R150, 05_field_io_kerf.md). -/
def UIOp_DIG (p : Nat) : Nat := 0x20610004 + (p / 48) * 0x100000 + (p % 48) * 0x1000
def UIOp_DIG_FILT (p : Nat) : Fld := ⟨UIOp_DIG p, 31, 28⟩
def UIOp_DIG_HYST (p : Nat) : Fld := ⟨UIOp_DIG p, 27, 26⟩
def UIOp_DIG_EDGE (p : Nat) : Fld := ⟨UIOp_DIG p, 25, 25⟩
def UIOp_DIG_GLITCH (p : Nat) : Fld := ⟨UIOp_DIG p, 23, 16⟩
def UIOp_DIG_THRESH (p : Nat) : Fld := ⟨UIOp_DIG p, 8, 0⟩
/-- UIOp_OUT (R150, 05_field_io_kerf.md). -/
def UIOp_OUT (p : Nat) : Nat := 0x20610008 + (p / 48) * 0x100000 + (p % 48) * 0x1000
def UIOp_OUT_TMR (p : Nat) : Fld := ⟨UIOp_OUT p, 21, 16⟩
def UIOp_OUT_ON (p : Nat) : Fld := ⟨UIOp_OUT p, 0, 0⟩
/-- UIOp_STAT (R150, 05_field_io_kerf.md). -/
def UIOp_STAT (p : Nat) : Nat := 0x2061000c + (p / 48) * 0x100000 + (p % 48) * 0x1000
def UIOp_STAT_LOCKED (p : Nat) : Fld := ⟨UIOp_STAT p, 3, 3⟩
def UIOp_STAT_SHUNT_OFF (p : Nat) : Fld := ⟨UIOp_STAT p, 2, 2⟩
def UIOp_STAT_HOLD (p : Nat) : Fld := ⟨UIOp_STAT p, 1, 1⟩
def UIOp_STAT_OUT (p : Nat) : Fld := ⟨UIOp_STAT p, 0, 0⟩
/-- UIOp_FLT (R150, 05_field_io_kerf.md). -/
def UIOp_FLT (p : Nat) : Nat := 0x20610010 + (p / 48) * 0x100000 + (p % 48) * 0x1000
def UIOp_FLT_CFG_ERR (p : Nat) : Fld := ⟨UIOp_FLT p, 5, 5⟩
def UIOp_FLT_SHUNT (p : Nat) : Fld := ⟨UIOp_FLT p, 4, 4⟩
def UIOp_FLT_OPEN (p : Nat) : Fld := ⟨UIOp_FLT p, 3, 3⟩
def UIOp_FLT_THERMAL (p : Nat) : Fld := ⟨UIOp_FLT p, 2, 2⟩
def UIOp_FLT_SHORT (p : Nat) : Fld := ⟨UIOp_FLT p, 1, 1⟩
def UIOp_FLT_RANGE (p : Nat) : Fld := ⟨UIOp_FLT p, 0, 0⟩
/-- UIOp_VAL (R150, 05_field_io_kerf.md). -/
def UIOp_VAL (p : Nat) : Nat := 0x20610014 + (p / 48) * 0x100000 + (p % 48) * 0x1000
def UIOp_VAL_VALID (p : Nat) : Fld := ⟨UIOp_VAL p, 31, 31⟩
def UIOp_VAL_OVR (p : Nat) : Fld := ⟨UIOp_VAL p, 30, 30⟩
def UIOp_VAL_UNR (p : Nat) : Fld := ⟨UIOp_VAL p, 29, 29⟩
def UIOp_VAL_SUPPLY (p : Nat) : Fld := ⟨UIOp_VAL p, 28, 28⟩
def UIOp_VAL_VALUE (p : Nat) : Fld := ⟨UIOp_VAL p, 15, 0⟩
/-- SSs_CFG (R150, 05_field_io_kerf.md). -/
def SSs_CFG (s : Nat) : Nat := 0x20640000 + (s / 4) * 0x100000 + (s % 4) * 0x1000
def SSs_CFG_VSEL (s : Nat) : Fld := ⟨SSs_CFG s, 1, 1⟩
def SSs_CFG_ON (s : Nat) : Fld := ⟨SSs_CFG s, 0, 0⟩
/-- SSs_STAT (R150, 05_field_io_kerf.md). -/
def SSs_STAT (s : Nat) : Nat := 0x20640004 + (s / 4) * 0x100000 + (s % 4) * 0x1000
def SSs_STAT_VOUT (s : Nat) : Fld := ⟨SSs_STAT s, 31, 16⟩
def SSs_STAT_IOUT (s : Nat) : Fld := ⟨SSs_STAT s, 15, 8⟩
def SSs_STAT_STATE (s : Nat) : Fld := ⟨SSs_STAT s, 3, 0⟩
/-- SSs_FLT (R150, 05_field_io_kerf.md). -/
def SSs_FLT (s : Nat) : Nat := 0x20640008 + (s / 4) * 0x100000 + (s % 4) * 0x1000
def SSs_FLT_CFG_ERR (s : Nat) : Fld := ⟨SSs_FLT s, 4, 4⟩
def SSs_FLT_BACKFEED (s : Nat) : Fld := ⟨SSs_FLT s, 3, 3⟩
def SSs_FLT_UNDER (s : Nat) : Fld := ⟨SSs_FLT s, 2, 2⟩
def SSs_FLT_OVERCURRENT (s : Nat) : Fld := ⟨SSs_FLT s, 1, 1⟩
/-- EXT_STAT (R150, 05_field_io_kerf.md). -/
def EXT_STAT : Nat := 0x20748000
def EXT_STAT_EDGE : Fld := ⟨EXT_STAT, 15, 8⟩
def EXT_STAT_LEVEL : Fld := ⟨EXT_STAT, 7, 0⟩
/-- TRXj_CTRL (R192, 06_can.md). -/
def TRXj_CTRL (j : Nat) : Nat := 0x20680000 + (j / 12) * 0x100000 + (j % 12) * 0x1000
def TRXj_CTRL_WAKE_EN (j : Nat) : Fld := ⟨TRXj_CTRL j, 2, 2⟩
def TRXj_CTRL_MODE (j : Nat) : Fld := ⟨TRXj_CTRL j, 1, 0⟩
/-- TRXj_STAT (R192, 06_can.md). -/
def TRXj_STAT (j : Nat) : Nat := 0x20680004 + (j / 12) * 0x100000 + (j % 12) * 0x1000
def TRXj_STAT_BIAS (j : Nat) : Fld := ⟨TRXj_STAT j, 6, 6⟩
def TRXj_STAT_WAKE (j : Nat) : Fld := ⟨TRXj_STAT j, 5, 5⟩
def TRXj_STAT_TXD_BLOCK (j : Nat) : Fld := ⟨TRXj_STAT j, 4, 4⟩
def TRXj_STAT_THERM (j : Nat) : Fld := ⟨TRXj_STAT j, 3, 3⟩
def TRXj_STAT_STATE (j : Nat) : Fld := ⟨TRXj_STAT j, 1, 0⟩
/-- TRXj_FLT (R192, 06_can.md). -/
def TRXj_FLT (j : Nat) : Nat := 0x20680008 + (j / 12) * 0x100000 + (j % 12) * 0x1000
def TRXj_FLT_BUS_DOM (j : Nat) : Fld := ⟨TRXj_FLT j, 2, 2⟩
def TRXj_FLT_THERMAL (j : Nat) : Fld := ⟨TRXj_FLT j, 1, 1⟩
def TRXj_FLT_TXD_DOM (j : Nat) : Fld := ⟨TRXj_FLT j, 0, 0⟩
/-- KRF_STAT (R162, 05_field_io_kerf.md). -/
def KRF_STAT : Nat := 0x20500000
def KRF_STAT_SENSE_OK : Fld := ⟨KRF_STAT, 3, 0⟩
/-- KTt_CFG (R162, 05_field_io_kerf.md). -/
def KTt_CFG (t : Nat) : Nat := 0x20510000 + t * 0x1000
def KTt_CFG_PIN (t : Nat) : Fld := ⟨KTt_CFG t, 30, 24⟩
def KTt_CFG_WIN (t : Nat) : Fld := ⟨KTt_CFG t, 23, 16⟩
def KTt_CFG_SYNC (t : Nat) : Fld := ⟨KTt_CFG t, 3, 3⟩
def KTt_CFG_MODE (t : Nat) : Fld := ⟨KTt_CFG t, 2, 0⟩
/-- KTt_PER (R162, 05_field_io_kerf.md). -/
def KTt_PER (t : Nat) : Nat := 0x20510004 + t * 0x1000
def KTt_PER_PERIOD (t : Nat) : Fld := ⟨KTt_PER t, 23, 0⟩
/-- KTt_PH (R162, 05_field_io_kerf.md). -/
def KTt_PH (t : Nat) : Nat := 0x20510008 + t * 0x1000
def KTt_PH_PHASE (t : Nat) : Fld := ⟨KTt_PH t, 23, 0⟩
/-- KTt_DUTY (R162, 05_field_io_kerf.md). -/
def KTt_DUTY (t : Nat) : Nat := 0x2051000c + t * 0x1000
def KTt_DUTY_DUTY (t : Nat) : Fld := ⟨KTt_DUTY t, 15, 0⟩
/-- KTt_CAP0 (R162, 05_field_io_kerf.md). -/
def KTt_CAP0 (t : Nat) : Nat := 0x20510010 + t * 0x1000
def KTt_CAP0_VALUE (t : Nat) : Fld := ⟨KTt_CAP0 t, 31, 0⟩
/-- KTt_CAP1 (R162, 05_field_io_kerf.md). -/
def KTt_CAP1 (t : Nat) : Nat := 0x20510014 + t * 0x1000
def KTt_CAP1_VALUE (t : Nat) : Fld := ⟨KTt_CAP1 t, 31, 0⟩
/-- KTt_STAT (R162, 05_field_io_kerf.md). -/
def KTt_STAT (t : Nat) : Nat := 0x20510018 + t * 0x1000
def KTt_STAT_QERR (t : Nat) : Fld := ⟨KTt_STAT t, 31, 16⟩
def KTt_STAT_OVR (t : Nat) : Fld := ⟨KTt_STAT t, 2, 2⟩
def KTt_STAT_STALE (t : Nat) : Fld := ⟨KTt_STAT t, 1, 1⟩
def KTt_STAT_RUN (t : Nat) : Fld := ⟨KTt_STAT t, 0, 0⟩
/-- KCc_CFG (R162, 05_field_io_kerf.md). -/
def KCc_CFG (c : Nat) : Nat := 0x20590000 + c * 0x1000
def KCc_CFG_EN (c : Nat) : Fld := ⟨KCc_CFG c, 31, 31⟩
def KCc_CFG_FF_EN (c : Nat) : Fld := ⟨KCc_CFG c, 30, 30⟩
def KCc_CFG_DWAVE (c : Nat) : Fld := ⟨KCc_CFG c, 29, 28⟩
def KCc_CFG_CH (c : Nat) : Fld := ⟨KCc_CFG c, 21, 16⟩
def KCc_CFG_RFF (c : Nat) : Fld := ⟨KCc_CFG c, 15, 0⟩
/-- KCc_SET (R162, 05_field_io_kerf.md). -/
def KCc_SET (c : Nat) : Nat := 0x20590004 + c * 0x1000
def KCc_SET_RAMP (c : Nat) : Fld := ⟨KCc_SET c, 31, 16⟩
def KCc_SET_SETPOINT (c : Nat) : Fld := ⟨KCc_SET c, 15, 0⟩
/-- KCc_GAIN (R162, 05_field_io_kerf.md). -/
def KCc_GAIN (c : Nat) : Nat := 0x20590008 + c * 0x1000
def KCc_GAIN_KI (c : Nat) : Fld := ⟨KCc_GAIN c, 31, 16⟩
def KCc_GAIN_KP (c : Nat) : Fld := ⟨KCc_GAIN c, 15, 0⟩
/-- KCc_DITH (R162, 05_field_io_kerf.md). -/
def KCc_DITH (c : Nat) : Nat := 0x2059000c + c * 0x1000
def KCc_DITH_DFREQ (c : Nat) : Fld := ⟨KCc_DITH c, 31, 16⟩
def KCc_DITH_DAMP (c : Nat) : Fld := ⟨KCc_DITH c, 15, 0⟩
/-- KCc_LIM (R162, 05_field_io_kerf.md). -/
def KCc_LIM (c : Nat) : Nat := 0x20590010 + c * 0x1000
def KCc_LIM_DMAX (c : Nat) : Fld := ⟨KCc_LIM c, 31, 16⟩
def KCc_LIM_DMIN (c : Nat) : Fld := ⟨KCc_LIM c, 15, 0⟩
/-- KCc_OUT (R162, 05_field_io_kerf.md). -/
def KCc_OUT (c : Nat) : Nat := 0x20590014 + c * 0x1000
def KCc_OUT_IFB (c : Nat) : Fld := ⟨KCc_OUT c, 31, 16⟩
def KCc_OUT_DUTY (c : Nat) : Fld := ⟨KCc_OUT c, 15, 0⟩
/-- KCc_DIAG (R162, 05_field_io_kerf.md). -/
def KCc_DIAG (c : Nat) : Nat := 0x20590018 + c * 0x1000
def KCc_DIAG_REST (c : Nat) : Fld := ⟨KCc_DIAG c, 31, 16⟩
def KCc_DIAG_SAT (c : Nat) : Fld := ⟨KCc_DIAG c, 3, 3⟩
def KCc_DIAG_SENSE_LOST (c : Nat) : Fld := ⟨KCc_DIAG c, 2, 2⟩
def KCc_DIAG_HELD (c : Nat) : Fld := ⟨KCc_DIAG c, 1, 1⟩
def KCc_DIAG_RUN (c : Nat) : Fld := ⟨KCc_DIAG c, 0, 0⟩
/-- KCc_CNT (R162, 05_field_io_kerf.md). -/
def KCc_CNT (c : Nat) : Nat := 0x2059001c + c * 0x1000
def KCc_CNT_MISS (c : Nat) : Fld := ⟨KCc_CNT c, 31, 16⟩
def KCc_CNT_SATF (c : Nat) : Fld := ⟨KCc_CNT c, 15, 0⟩
/-- CANn_CFG (R174, 06_can.md). -/
def CANn_CFG (n : Nat) : Nat := 0x20100000 + n * 0x1000
def CANn_CFG_TDC_EN (n : Nat) : Fld := ⟨CANn_CFG n, 19, 19⟩
def CANn_CFG_PXHD (n : Nat) : Fld := ⟨CANn_CFG n, 18, 18⟩
def CANn_CFG_FD_EN (n : Nat) : Fld := ⟨CANn_CFG n, 17, 17⟩
def CANn_CFG_OPMODE (n : Nat) : Fld := ⟨CANn_CFG n, 15, 14⟩
def CANn_CFG_TRIPLE (n : Nat) : Fld := ⟨CANn_CFG n, 13, 13⟩
def CANn_CFG_TXORD (n : Nat) : Fld := ⟨CANn_CFG n, 12, 12⟩
def CANn_CFG_BOFF_HOLD (n : Nat) : Fld := ⟨CANn_CFG n, 11, 11⟩
def CANn_CFG_BOFF_TX (n : Nat) : Fld := ⟨CANn_CFG n, 10, 10⟩
def CANn_CFG_DIRECT (n : Nat) : Fld := ⟨CANn_CFG n, 2, 0⟩
/-- CANn_CTRL (R174, 06_can.md). -/
def CANn_CTRL (n : Nat) : Nat := 0x20100004 + n * 0x1000
def CANn_CTRL_BOFF_REL (n : Nat) : Fld := ⟨CANn_CTRL n, 1, 1⟩
def CANn_CTRL_RUN (n : Nat) : Fld := ⟨CANn_CTRL n, 0, 0⟩
/-- CANn_NBT (R174, 06_can.md). -/
def CANn_NBT (n : Nat) : Nat := 0x20100008 + n * 0x1000
def CANn_NBT_NSJW (n : Nat) : Fld := ⟨CANn_NBT n, 29, 23⟩
def CANn_NBT_NTSEG2 (n : Nat) : Fld := ⟨CANn_NBT n, 22, 16⟩
def CANn_NBT_NTSEG1 (n : Nat) : Fld := ⟨CANn_NBT n, 15, 8⟩
def CANn_NBT_NBRP (n : Nat) : Fld := ⟨CANn_NBT n, 7, 0⟩
/-- CANn_DBT (R174, 06_can.md). -/
def CANn_DBT (n : Nat) : Nat := 0x2010000c + n * 0x1000
def CANn_DBT_DSJW (n : Nat) : Fld := ⟨CANn_DBT n, 23, 20⟩
def CANn_DBT_DTSEG2 (n : Nat) : Fld := ⟨CANn_DBT n, 19, 16⟩
def CANn_DBT_DTSEG1 (n : Nat) : Fld := ⟨CANn_DBT n, 12, 8⟩
def CANn_DBT_DBRP (n : Nat) : Fld := ⟨CANn_DBT n, 4, 0⟩
/-- CANn_TDC (R174, 06_can.md). -/
def CANn_TDC (n : Nat) : Nat := 0x20100010 + n * 0x1000
def CANn_TDC_TDCO (n : Nat) : Fld := ⟨CANn_TDC n, 14, 8⟩
def CANn_TDC_TDCF (n : Nat) : Fld := ⟨CANn_TDC n, 6, 0⟩
/-- CANn_STAT (R174, 06_can.md). -/
def CANn_STAT (n : Nat) : Nat := 0x20100014 + n * 0x1000
def CANn_STAT_STATE (n : Nat) : Fld := ⟨CANn_STAT n, 31, 28⟩
def CANn_STAT_WARN (n : Nat) : Fld := ⟨CANn_STAT n, 27, 27⟩
def CANn_STAT_LEC (n : Nat) : Fld := ⟨CANn_STAT n, 26, 24⟩
def CANn_STAT_ACT (n : Nat) : Fld := ⟨CANn_STAT n, 23, 22⟩
def CANn_STAT_GATED (n : Nat) : Fld := ⟨CANn_STAT n, 21, 21⟩
def CANn_STAT_TEC (n : Nat) : Fld := ⟨CANn_STAT n, 16, 8⟩
def CANn_STAT_REC (n : Nat) : Fld := ⟨CANn_STAT n, 7, 0⟩
/-- CANn_TDCV (R174, 06_can.md). -/
def CANn_TDCV (n : Nat) : Nat := 0x20100018 + n * 0x1000
def CANn_TDCV_VALID (n : Nat) : Fld := ⟨CANn_TDCV n, 7, 7⟩
def CANn_TDCV_TDCV (n : Nat) : Fld := ⟨CANn_TDCV n, 6, 0⟩
/-- CANn_FLT (R174, 06_can.md). -/
def CANn_FLT (n : Nat) : Nat := 0x2010001c + n * 0x1000
def CANn_FLT_TDC_RANGE (n : Nat) : Fld := ⟨CANn_FLT n, 9, 9⟩
def CANn_FLT_CFG_ERR (n : Nat) : Fld := ⟨CANn_FLT n, 8, 8⟩
def CANn_FLT_TXB_BUSY (n : Nat) : Fld := ⟨CANn_FLT n, 7, 7⟩
def CANn_FLT_TXFAIL (n : Nat) : Fld := ⟨CANn_FLT n, 6, 6⟩
def CANn_FLT_RXLOST (n : Nat) : Fld := ⟨CANn_FLT n, 5, 5⟩
def CANn_FLT_RXOVR (n : Nat) : Fld := ⟨CANn_FLT n, 4, 4⟩
def CANn_FLT_PXH (n : Nat) : Fld := ⟨CANn_FLT n, 3, 3⟩
def CANn_FLT_WARN (n : Nat) : Fld := ⟨CANn_FLT n, 2, 2⟩
def CANn_FLT_BOFF (n : Nat) : Fld := ⟨CANn_FLT n, 1, 1⟩
def CANn_FLT_PASSIVE (n : Nat) : Fld := ⟨CANn_FLT n, 0, 0⟩
/-- CANn_CNT_TX (R174, 06_can.md). -/
def CANn_CNT_TX (n : Nat) : Nat := 0x20100020 + n * 0x1000
def CANn_CNT_TX_COUNT (n : Nat) : Fld := ⟨CANn_CNT_TX n, 31, 0⟩
/-- CANn_CNT_RX (R174, 06_can.md). -/
def CANn_CNT_RX (n : Nat) : Nat := 0x20100024 + n * 0x1000
def CANn_CNT_RX_COUNT (n : Nat) : Fld := ⟨CANn_CNT_RX n, 31, 0⟩
/-- CANn_CNT_ERR (R174, 06_can.md). -/
def CANn_CNT_ERR (n : Nat) : Nat := 0x20100028 + n * 0x1000
def CANn_CNT_ERR_COUNT (n : Nat) : Fld := ⟨CANn_CNT_ERR n, 31, 0⟩
/-- CANn_CNT_PXH (R174, 06_can.md). -/
def CANn_CNT_PXH (n : Nat) : Nat := 0x2010002c + n * 0x1000
def CANn_CNT_PXH_COUNT (n : Nat) : Fld := ⟨CANn_CNT_PXH n, 31, 0⟩
/-- CANn_CNT_LOST (R174, 06_can.md). -/
def CANn_CNT_LOST (n : Nat) : Nat := 0x20100030 + n * 0x1000
def CANn_CNT_LOST_COUNT (n : Nat) : Fld := ⟨CANn_CNT_LOST n, 31, 0⟩
/-- CANn_TXC (R181, 06_can.md). -/
def CANn_TXC (n : Nat) : Nat := 0x20100040 + n * 0x1000
def CANn_TXC_FAIL (n : Nat) : Fld := ⟨CANn_TXC n, 26, 24⟩
def CANn_TXC_DONE (n : Nat) : Fld := ⟨CANn_TXC n, 18, 16⟩
def CANn_TXC_PEND (n : Nat) : Fld := ⟨CANn_TXC n, 10, 8⟩
def CANn_TXC_ABORT (n : Nat) : Fld := ⟨CANn_TXC n, 6, 4⟩
def CANn_TXC_REQ (n : Nat) : Fld := ⟨CANn_TXC n, 2, 0⟩
/-- CANn_RXNEW (R184, 06_can.md). -/
def CANn_RXNEW (n : Nat) : Nat := 0x20100060 + n * 0x1000
def CANn_RXNEW_BITS (n : Nat) : Fld := ⟨CANn_RXNEW n, 31, 0⟩
/-- CANn_RXOVR (R184, 06_can.md). -/
def CANn_RXOVR (n : Nat) : Nat := 0x20100064 + n * 0x1000
def CANn_RXOVR_BITS (n : Nat) : Fld := ⟨CANn_RXOVR n, 31, 0⟩
/-- CANn_RXLOCK (R184, 06_can.md). -/
def CANn_RXLOCK (n : Nat) : Nat := 0x20100068 + n * 0x1000
def CANn_RXLOCK_BITS (n : Nat) : Fld := ⟨CANn_RXLOCK n, 31, 0⟩
/-- CANn_RXUNLOCK (R184, 06_can.md). -/
def CANn_RXUNLOCK (n : Nat) : Nat := 0x2010006c + n * 0x1000
def CANn_RXUNLOCK_BITS (n : Nat) : Fld := ⟨CANn_RXUNLOCK n, 31, 0⟩
/-- TXBb_W0 (R181, 06_can.md). -/
def TXBb_W0 (n b : Nat) : Nat := 0x20100100 + n * 0x1000 + b * 0x80
def TXBb_W0_XTD (n b : Nat) : Fld := ⟨TXBb_W0 n b, 31, 31⟩
def TXBb_W0_RTR (n b : Nat) : Fld := ⟨TXBb_W0 n b, 30, 30⟩
def TXBb_W0_FDF (n b : Nat) : Fld := ⟨TXBb_W0 n b, 29, 29⟩
def TXBb_W0_ID (n b : Nat) : Fld := ⟨TXBb_W0 n b, 28, 0⟩
/-- TXBb_W1 (R181, 06_can.md). -/
def TXBb_W1 (n b : Nat) : Nat := 0x20100104 + n * 0x1000 + b * 0x80
def TXBb_W1_SSHOT (n b : Nat) : Fld := ⟨TXBb_W1 n b, 31, 31⟩
def TXBb_W1_FILT (n b : Nat) : Fld := ⟨TXBb_W1 n b, 23, 16⟩
def TXBb_W1_BRS (n b : Nat) : Fld := ⟨TXBb_W1 n b, 15, 15⟩
def TXBb_W1_ESI (n b : Nat) : Fld := ⟨TXBb_W1 n b, 14, 14⟩
def TXBb_W1_LEN (n b : Nat) : Fld := ⟨TXBb_W1 n b, 13, 7⟩
def TXBb_W1_DLC (n b : Nat) : Fld := ⟨TXBb_W1 n b, 3, 0⟩
/-- TXBb_TS (R181, 06_can.md). -/
def TXBb_TS (n b : Nat) : Nat := 0x20100108 + n * 0x1000 + b * 0x80
def TXBb_TS_TIME (n b : Nat) : Fld := ⟨TXBb_TS n b, 31, 0⟩
/-- TXBb_D (R181, 06_can.md). -/
def TXBb_D (n b k : Nat) : Nat := 0x2010010c + n * 0x1000 + b * 0x80 + k * 0x4
def TXBb_D_DATA (n b k : Nat) : Fld := ⟨TXBb_D n b k, 31, 0⟩
/-- MOm_W0 (R181, 06_can.md). -/
def MOm_W0 (n b : Nat) : Nat := 0x20100400 + n * 0x1000 + b * 0x50
def MOm_W0_XTD (n b : Nat) : Fld := ⟨MOm_W0 n b, 31, 31⟩
def MOm_W0_RTR (n b : Nat) : Fld := ⟨MOm_W0 n b, 30, 30⟩
def MOm_W0_FDF (n b : Nat) : Fld := ⟨MOm_W0 n b, 29, 29⟩
def MOm_W0_ID (n b : Nat) : Fld := ⟨MOm_W0 n b, 28, 0⟩
/-- MOm_W1 (R181, 06_can.md). -/
def MOm_W1 (n b : Nat) : Nat := 0x20100404 + n * 0x1000 + b * 0x50
def MOm_W1_SSHOT (n b : Nat) : Fld := ⟨MOm_W1 n b, 31, 31⟩
def MOm_W1_FILT (n b : Nat) : Fld := ⟨MOm_W1 n b, 23, 16⟩
def MOm_W1_BRS (n b : Nat) : Fld := ⟨MOm_W1 n b, 15, 15⟩
def MOm_W1_ESI (n b : Nat) : Fld := ⟨MOm_W1 n b, 14, 14⟩
def MOm_W1_LEN (n b : Nat) : Fld := ⟨MOm_W1 n b, 13, 7⟩
def MOm_W1_DLC (n b : Nat) : Fld := ⟨MOm_W1 n b, 3, 0⟩
/-- MOm_TIME (R181, 06_can.md). -/
def MOm_TIME (n b : Nat) : Nat := 0x20100408 + n * 0x1000 + b * 0x50
def MOm_TIME_TIME (n b : Nat) : Fld := ⟨MOm_TIME n b, 31, 0⟩
/-- MOm_D (R181, 06_can.md). -/
def MOm_D (n b k : Nat) : Nat := 0x2010040c + n * 0x1000 + b * 0x50 + k * 0x4
def MOm_D_DATA (n b k : Nat) : Fld := ⟨MOm_D n b k, 31, 0⟩
/-- MOm_FID (R182, 06_can.md). -/
def MOm_FID (n m : Nat) : Nat := 0x20100e00 + n * 0x1000 + m * 0x8
def MOm_FID_EN (n m : Nat) : Fld := ⟨MOm_FID n m, 31, 31⟩
def MOm_FID_XTD (n m : Nat) : Fld := ⟨MOm_FID n m, 30, 30⟩
def MOm_FID_RTR (n m : Nat) : Fld := ⟨MOm_FID n m, 29, 29⟩
def MOm_FID_ID (n m : Nat) : Fld := ⟨MOm_FID n m, 28, 0⟩
/-- CANn_FFk_ID (R182, 06_can.md). -/
def CANn_FFk_ID (n m : Nat) : Nat := 0x20100f00 + n * 0x1000 + m * 0x8
def CANn_FFk_ID_EN (n m : Nat) : Fld := ⟨CANn_FFk_ID n m, 31, 31⟩
def CANn_FFk_ID_XTD (n m : Nat) : Fld := ⟨CANn_FFk_ID n m, 30, 30⟩
def CANn_FFk_ID_RTR (n m : Nat) : Fld := ⟨CANn_FFk_ID n m, 29, 29⟩
def CANn_FFk_ID_ID (n m : Nat) : Fld := ⟨CANn_FFk_ID n m, 28, 0⟩
/-- MOm_FMSK (R182, 06_can.md). -/
def MOm_FMSK (n m : Nat) : Nat := 0x20100e04 + n * 0x1000 + m * 0x8
def MOm_FMSK_FMT (n m : Nat) : Fld := ⟨MOm_FMSK n m, 31, 30⟩
def MOm_FMSK_MASK (n m : Nat) : Fld := ⟨MOm_FMSK n m, 28, 0⟩
/-- CANn_FFk_MSK (R182, 06_can.md). -/
def CANn_FFk_MSK (n m : Nat) : Nat := 0x20100f04 + n * 0x1000 + m * 0x8
def CANn_FFk_MSK_FMT (n m : Nat) : Fld := ⟨CANn_FFk_MSK n m, 31, 30⟩
def CANn_FFk_MSK_MASK (n m : Nat) : Fld := ⟨CANn_FFk_MSK n m, 28, 0⟩
/-- CANn_FIFO_CFG (R185, 06_can.md). -/
def CANn_FIFO_CFG (n : Nat) : Nat := 0x20100f40 + n * 0x1000
def CANn_FIFO_CFG_EN (n : Nat) : Fld := ⟨CANn_FIFO_CFG n, 31, 31⟩
def CANn_FIFO_CFG_ALL (n : Nat) : Fld := ⟨CANn_FIFO_CFG n, 30, 30⟩
def CANn_FIFO_CFG_QUEUE (n : Nat) : Fld := ⟨CANn_FIFO_CFG n, 5, 0⟩
/-- CANn_FIFO_STAT (R185, 06_can.md). -/
def CANn_FIFO_STAT (n : Nat) : Nat := 0x20100f44 + n * 0x1000
def CANn_FIFO_STAT_LEVEL (n : Nat) : Fld := ⟨CANn_FIFO_STAT n, 6, 0⟩
/-- WAKE_SRC (R201, 07_tally_ring.md). -/
def WAKE_SRC : Nat := 0x20690000
def WAKE_SRC_VALID : Fld := ⟨WAKE_SRC, 31, 31⟩
def WAKE_SRC_DURING_COMMIT : Fld := ⟨WAKE_SRC, 30, 30⟩
def WAKE_SRC_ARMED : Fld := ⟨WAKE_SRC, 29, 29⟩
def WAKE_SRC_SRC : Fld := ⟨WAKE_SRC, 4, 0⟩
/-- WAKE_TIME_S (R201, 07_tally_ring.md). -/
def WAKE_TIME_S : Nat := 0x20690004
def WAKE_TIME_S_SEC : Fld := ⟨WAKE_TIME_S, 31, 0⟩
/-- WAKE_TIME_F (R201, 07_tally_ring.md). -/
def WAKE_TIME_F : Nat := 0x20690008
def WAKE_TIME_F_FRAC : Fld := ⟨WAKE_TIME_F, 14, 0⟩
/-- WAKE_PEND (R201, 07_tally_ring.md). -/
def WAKE_PEND : Nat := 0x2069000c
def WAKE_PEND_PEND : Fld := ⟨WAKE_PEND, 31, 0⟩
/-- WAKE_EN (R201, 07_tally_ring.md). -/
def WAKE_EN : Nat := 0x20690010
def WAKE_EN_TRX : Fld := ⟨WAKE_EN, 31, 8⟩
def WAKE_EN_EN : Fld := ⟨WAKE_EN, 7, 2⟩
def WAKE_EN_FIXED : Fld := ⟨WAKE_EN, 1, 0⟩
/-- WAKE_IN_CFG (R201, 07_tally_ring.md). -/
def WAKE_IN_CFG : Nat := 0x20690014
def WAKE_IN_CFG_POL0 : Fld := ⟨WAKE_IN_CFG, 3, 3⟩
def WAKE_IN_CFG_HOLD0 : Fld := ⟨WAKE_IN_CFG, 2, 2⟩
def WAKE_IN_CFG_EDGE0 : Fld := ⟨WAKE_IN_CFG, 1, 0⟩
def WAKE_IN_CFG_POL1 : Fld := ⟨WAKE_IN_CFG, 7, 7⟩
def WAKE_IN_CFG_HOLD1 : Fld := ⟨WAKE_IN_CFG, 6, 6⟩
def WAKE_IN_CFG_EDGE1 : Fld := ⟨WAKE_IN_CFG, 5, 4⟩
def WAKE_IN_CFG_POL2 : Fld := ⟨WAKE_IN_CFG, 11, 11⟩
def WAKE_IN_CFG_HOLD2 : Fld := ⟨WAKE_IN_CFG, 10, 10⟩
def WAKE_IN_CFG_EDGE2 : Fld := ⟨WAKE_IN_CFG, 9, 8⟩
def WAKE_IN_CFG_POL3 : Fld := ⟨WAKE_IN_CFG, 15, 15⟩
def WAKE_IN_CFG_HOLD3 : Fld := ⟨WAKE_IN_CFG, 14, 14⟩
def WAKE_IN_CFG_EDGE3 : Fld := ⟨WAKE_IN_CFG, 13, 12⟩
/-- WAKE_RTC_ALM (R201, 07_tally_ring.md). -/
def WAKE_RTC_ALM : Nat := 0x20690018
def WAKE_RTC_ALM_SEC : Fld := ⟨WAKE_RTC_ALM, 31, 0⟩
/-- WAKE_CMT (R201, 07_tally_ring.md). -/
def WAKE_CMT : Nat := 0x2069001c
def WAKE_CMT_COMMIT : Fld := ⟨WAKE_CMT, 0, 0⟩
/-- WAKE_CMT_STAT (R201, 07_tally_ring.md). -/
def WAKE_CMT_STAT : Nat := 0x20690020
def WAKE_CMT_STAT_REF_TRX : Fld := ⟨WAKE_CMT_STAT, 2, 2⟩
def WAKE_CMT_STAT_REF_PEND : Fld := ⟨WAKE_CMT_STAT, 1, 1⟩
def WAKE_CMT_STAT_CANCELLED : Fld := ⟨WAKE_CMT_STAT, 0, 0⟩
/-- WAKE_CNT (R201, 07_tally_ring.md). -/
def WAKE_CNT : Nat := 0x20690024
def WAKE_CNT_CANCEL : Fld := ⟨WAKE_CNT, 31, 16⟩
def WAKE_CNT_SLEEPS : Fld := ⟨WAKE_CNT, 15, 0⟩
/-- ESW_Pp_CFG (R241, 08_ethernet_time.md). -/
def ESW_Pp_CFG (p : Nat) : Nat := 0x20210000 + p * 0x1000
def ESW_Pp_CFG_EN (p : Nat) : Fld := ⟨ESW_Pp_CFG p, 31, 31⟩
def ESW_Pp_CFG_ROLE (p : Nat) : Fld := ⟨ESW_Pp_CFG p, 30, 29⟩
def ESW_Pp_CFG_SPEED (p : Nat) : Fld := ⟨ESW_Pp_CFG p, 28, 27⟩
def ESW_Pp_CFG_PTP_EN (p : Nat) : Fld := ⟨ESW_Pp_CFG p, 26, 26⟩
def ESW_Pp_CFG_ACC_TAGGED (p : Nat) : Fld := ⟨ESW_Pp_CFG p, 25, 25⟩
def ESW_Pp_CFG_DEFPCP (p : Nat) : Fld := ⟨ESW_Pp_CFG p, 23, 21⟩
def ESW_Pp_CFG_PVID (p : Nat) : Fld := ⟨ESW_Pp_CFG p, 11, 0⟩
/-- ESW_Pp_PLCA (R241, 08_ethernet_time.md). -/
def ESW_Pp_PLCA (p : Nat) : Nat := 0x20210004 + p * 0x1000
def ESW_Pp_PLCA_CNT (p : Nat) : Fld := ⟨ESW_Pp_PLCA p, 15, 8⟩
def ESW_Pp_PLCA_ID (p : Nat) : Fld := ⟨ESW_Pp_PLCA p, 7, 0⟩
/-- ESW_Pp_ASYM (R241, 08_ethernet_time.md). -/
def ESW_Pp_ASYM (p : Nat) : Nat := 0x20210008 + p * 0x1000
def ESW_Pp_ASYM_ASYM (p : Nat) : Fld := ⟨ESW_Pp_ASYM p, 31, 0⟩
/-- ESW_Pp_STAT (R241, 08_ethernet_time.md). -/
def ESW_Pp_STAT (p : Nat) : Nat := 0x2021000c + p * 0x1000
def ESW_Pp_STAT_LINK (p : Nat) : Fld := ⟨ESW_Pp_STAT p, 31, 31⟩
def ESW_Pp_STAT_SQI (p : Nat) : Fld := ⟨ESW_Pp_STAT p, 30, 28⟩
def ESW_Pp_STAT_PHYST (p : Nat) : Fld := ⟨ESW_Pp_STAT p, 1, 0⟩
/-- ESW_Pp_TSQ_STAT (R241, 08_ethernet_time.md). -/
def ESW_Pp_TSQ_STAT (p : Nat) : Nat := 0x20210010 + p * 0x1000
def ESW_Pp_TSQ_STAT_OVF (p : Nat) : Fld := ⟨ESW_Pp_TSQ_STAT p, 3, 3⟩
def ESW_Pp_TSQ_STAT_COUNT (p : Nat) : Fld := ⟨ESW_Pp_TSQ_STAT p, 2, 0⟩
/-- ESW_Pp_TSQ_ID (R241, 08_ethernet_time.md). -/
def ESW_Pp_TSQ_ID (p : Nat) : Nat := 0x20210014 + p * 0x1000
def ESW_Pp_TSQ_ID_SEQID (p : Nat) : Fld := ⟨ESW_Pp_TSQ_ID p, 15, 0⟩
/-- ESW_Pp_TSQ_S (R241, 08_ethernet_time.md). -/
def ESW_Pp_TSQ_S (p : Nat) : Nat := 0x20210018 + p * 0x1000
def ESW_Pp_TSQ_S_SEC (p : Nat) : Fld := ⟨ESW_Pp_TSQ_S p, 31, 0⟩
/-- ESW_Pp_TSQ_NS (R241, 08_ethernet_time.md). -/
def ESW_Pp_TSQ_NS (p : Nat) : Nat := 0x2021001c + p * 0x1000
def ESW_Pp_TSQ_NS_NS (p : Nat) : Fld := ⟨ESW_Pp_TSQ_NS p, 31, 0⟩
/-- ESW_Pp_TSQ_POP (R241, 08_ethernet_time.md). -/
def ESW_Pp_TSQ_POP (p : Nat) : Nat := 0x20210020 + p * 0x1000
def ESW_Pp_TSQ_POP_POP (p : Nat) : Fld := ⟨ESW_Pp_TSQ_POP p, 0, 0⟩
/-- ESW_Pp_RX (R241, 08_ethernet_time.md). -/
def ESW_Pp_RX (p : Nat) : Nat := 0x20210040 + p * 0x1000
def ESW_Pp_RX_COUNT (p : Nat) : Fld := ⟨ESW_Pp_RX p, 31, 0⟩
/-- ESW_Pp_TX (R241, 08_ethernet_time.md). -/
def ESW_Pp_TX (p : Nat) : Nat := 0x20210044 + p * 0x1000
def ESW_Pp_TX_COUNT (p : Nat) : Fld := ⟨ESW_Pp_TX p, 31, 0⟩
/-- ESW_Pp_DROP (R241, 08_ethernet_time.md). -/
def ESW_Pp_DROP (p : Nat) : Nat := 0x20210048 + p * 0x1000
def ESW_Pp_DROP_COUNT (p : Nat) : Fld := ⟨ESW_Pp_DROP p, 31, 0⟩
/-- ESW_Pp_RXERR (R241, 08_ethernet_time.md). -/
def ESW_Pp_RXERR (p : Nat) : Nat := 0x2021004c + p * 0x1000
def ESW_Pp_RXERR_COUNT (p : Nat) : Fld := ⟨ESW_Pp_RXERR p, 31, 0⟩
/-- ESW_Pp_QCIDROP (R241, 08_ethernet_time.md). -/
def ESW_Pp_QCIDROP (p : Nat) : Nat := 0x20210050 + p * 0x1000
def ESW_Pp_QCIDROP_COUNT (p : Nat) : Fld := ⟨ESW_Pp_QCIDROP p, 31, 0⟩
/-- ESW_Pp_GCL_CFG (R241, 08_ethernet_time.md). -/
def ESW_Pp_GCL_CFG (p : Nat) : Nat := 0x20210100 + p * 0x1000
def ESW_Pp_GCL_CFG_EN (p : Nat) : Fld := ⟨ESW_Pp_GCL_CFG p, 31, 31⟩
def ESW_Pp_GCL_CFG_LEN (p : Nat) : Fld := ⟨ESW_Pp_GCL_CFG p, 30, 24⟩
def ESW_Pp_GCL_CFG_K (p : Nat) : Fld := ⟨ESW_Pp_GCL_CFG p, 5, 0⟩
/-- ESW_Pp_GCL_STAT (R241, 08_ethernet_time.md). -/
def ESW_Pp_GCL_STAT (p : Nat) : Nat := 0x20210104 + p * 0x1000
def ESW_Pp_GCL_STAT_OPER (p : Nat) : Fld := ⟨ESW_Pp_GCL_STAT p, 31, 31⟩
def ESW_Pp_GCL_STAT_ENTRY (p : Nat) : Fld := ⟨ESW_Pp_GCL_STAT p, 5, 0⟩
/-- ESW_Pp_GCLe_G (R241, 08_ethernet_time.md). -/
def ESW_Pp_GCLe_G (p e : Nat) : Nat := 0x20210200 + p * 0x1000 + e * 0x8
def ESW_Pp_GCLe_G_GATES (p e : Nat) : Fld := ⟨ESW_Pp_GCLe_G p e, 7, 0⟩
/-- ESW_Pp_GCLe_T (R241, 08_ethernet_time.md). -/
def ESW_Pp_GCLe_T (p e : Nat) : Nat := 0x20210204 + p * 0x1000 + e * 0x8
def ESW_Pp_GCLe_T_T (p e : Nat) : Fld := ⟨ESW_Pp_GCLe_T p e, 31, 0⟩
/-- ESW_QPk_CFG (R241, 08_ethernet_time.md). -/
def ESW_QPk_CFG (k : Nat) : Nat := 0x20280000 + k * 0x40
def ESW_QPk_CFG_EN (k : Nat) : Fld := ⟨ESW_QPk_CFG k, 31, 31⟩
def ESW_QPk_CFG_OWNER (k : Nat) : Fld := ⟨ESW_QPk_CFG k, 27, 24⟩
def ESW_QPk_CFG_TXQ (k : Nat) : Fld := ⟨ESW_QPk_CFG k, 23, 18⟩
def ESW_QPk_CFG_RXQ (k : Nat) : Fld := ⟨ESW_QPk_CFG k, 17, 12⟩
def ESW_QPk_CFG_BUFQ (k : Nat) : Fld := ⟨ESW_QPk_CFG k, 11, 6⟩
/-- ESW_QPk_MAC_LO (R241, 08_ethernet_time.md). -/
def ESW_QPk_MAC_LO (k : Nat) : Nat := 0x20280004 + k * 0x40
def ESW_QPk_MAC_LO_MAC (k : Nat) : Fld := ⟨ESW_QPk_MAC_LO k, 31, 0⟩
/-- ESW_QPk_MAC_HI (R241, 08_ethernet_time.md). -/
def ESW_QPk_MAC_HI (k : Nat) : Nat := 0x20280008 + k * 0x40
def ESW_QPk_MAC_HI_MAC (k : Nat) : Fld := ⟨ESW_QPk_MAC_HI k, 15, 0⟩
/-- ESW_QPk_TSIGN (R241, 08_ethernet_time.md). -/
def ESW_QPk_TSIGN (k : Nat) : Nat := 0x2028000c + k * 0x40
def ESW_QPk_TSIGN_COUNT (k : Nat) : Fld := ⟨ESW_QPk_TSIGN k, 31, 0⟩
/-- TMU_LC_NS (R242, 08_ethernet_time.md). -/
def TMU_LC_NS : Nat := 0x20300000
def TMU_LC_NS_NS : Fld := ⟨TMU_LC_NS, 29, 0⟩
/-- TMU_LC_S_LO (R242, 08_ethernet_time.md). -/
def TMU_LC_S_LO : Nat := 0x20300004
def TMU_LC_S_LO_SEC : Fld := ⟨TMU_LC_S_LO, 31, 0⟩
/-- TMU_LC_S_HI (R242, 08_ethernet_time.md). -/
def TMU_LC_S_HI : Nat := 0x20300008
def TMU_LC_S_HI_SEC : Fld := ⟨TMU_LC_S_HI, 31, 0⟩
/-- TMU_STEER (R242, 08_ethernet_time.md). -/
def TMU_STEER : Nat := 0x2030000c
def TMU_STEER_STEER : Fld := ⟨TMU_STEER, 31, 0⟩
/-- TMU_CFG (R242, 08_ethernet_time.md). -/
def TMU_CFG : Nat := 0x20300010
def TMU_CFG_RET_HOLD : Fld := ⟨TMU_CFG, 23, 16⟩
def TMU_CFG_DOMB : Fld := ⟨TMU_CFG, 14, 8⟩
def TMU_CFG_DOMA : Fld := ⟨TMU_CFG, 6, 0⟩
/-- TMU_CTRL (R242, 08_ethernet_time.md). -/
def TMU_CTRL : Nat := 0x20300014
def TMU_CTRL_TRACK : Fld := ⟨TMU_CTRL, 0, 0⟩
/-- TMU_STAT (R242, 08_ethernet_time.md). -/
def TMU_STAT : Nat := 0x20300018
def TMU_STAT_TOFS : Fld := ⟨TMU_STAT, 15, 8⟩
def TMU_STAT_CFG_ERR : Fld := ⟨TMU_STAT, 4, 4⟩
def TMU_STAT_STEPPED : Fld := ⟨TMU_STAT, 3, 3⟩
def TMU_STAT_HOLDOVER : Fld := ⟨TMU_STAT, 2, 2⟩
def TMU_STAT_FOLLOW : Fld := ⟨TMU_STAT, 1, 0⟩
/-- TMU_DOMx_STAT (R242, 08_ethernet_time.md). -/
def TMU_DOMx_STAT (x : Nat) : Nat := 0x20300100 + x * 0x40
def TMU_DOMx_STAT_VALID (x : Nat) : Fld := ⟨TMU_DOMx_STAT x, 31, 31⟩
def TMU_DOMx_STAT_GMCHG (x : Nat) : Fld := ⟨TMU_DOMx_STAT x, 30, 30⟩
def TMU_DOMx_STAT_QUAL (x : Nat) : Fld := ⟨TMU_DOMx_STAT x, 29, 29⟩
def TMU_DOMx_STAT_ROLE (x : Nat) : Fld := ⟨TMU_DOMx_STAT x, 28, 27⟩
def TMU_DOMx_STAT_STEPS (x : Nat) : Fld := ⟨TMU_DOMx_STAT x, 23, 16⟩
/-- TMU_DOMx_GMID_LO (R242, 08_ethernet_time.md). -/
def TMU_DOMx_GMID_LO (x : Nat) : Nat := 0x20300104 + x * 0x40
def TMU_DOMx_GMID_LO_GMID (x : Nat) : Fld := ⟨TMU_DOMx_GMID_LO x, 31, 0⟩
/-- TMU_DOMx_GMID_HI (R242, 08_ethernet_time.md). -/
def TMU_DOMx_GMID_HI (x : Nat) : Nat := 0x20300108 + x * 0x40
def TMU_DOMx_GMID_HI_GMID (x : Nat) : Fld := ⟨TMU_DOMx_GMID_HI x, 31, 0⟩
/-- TMU_DOMx_OFS_LO (R242, 08_ethernet_time.md). -/
def TMU_DOMx_OFS_LO (x : Nat) : Nat := 0x2030010c + x * 0x40
def TMU_DOMx_OFS_LO_OFS (x : Nat) : Fld := ⟨TMU_DOMx_OFS_LO x, 31, 0⟩
/-- TMU_DOMx_OFS_HI (R242, 08_ethernet_time.md). -/
def TMU_DOMx_OFS_HI (x : Nat) : Nat := 0x20300110 + x * 0x40
def TMU_DOMx_OFS_HI_OFS (x : Nat) : Fld := ⟨TMU_DOMx_OFS_HI x, 31, 0⟩
/-- TMU_DOMx_RATE (R242, 08_ethernet_time.md). -/
def TMU_DOMx_RATE (x : Nat) : Nat := 0x20300114 + x * 0x40
def TMU_DOMx_RATE_RATE (x : Nat) : Fld := ⟨TMU_DOMx_RATE x, 31, 0⟩
/-- TMU_DOMx_UPD_LO (R242, 08_ethernet_time.md). -/
def TMU_DOMx_UPD_LO (x : Nat) : Nat := 0x20300118 + x * 0x40
def TMU_DOMx_UPD_LO_UPD (x : Nat) : Fld := ⟨TMU_DOMx_UPD_LO x, 31, 0⟩
/-- TMU_DOMx_UPD_HI (R242, 08_ethernet_time.md). -/
def TMU_DOMx_UPD_HI (x : Nat) : Nat := 0x2030011c + x * 0x40
def TMU_DOMx_UPD_HI_UPD (x : Nat) : Fld := ⟨TMU_DOMx_UPD_HI x, 31, 0⟩
/-- TMU_DOMx_AGE (R242, 08_ethernet_time.md). -/
def TMU_DOMx_AGE (x : Nat) : Nat := 0x20300120 + x * 0x40
def TMU_DOMx_AGE_AGE (x : Nat) : Fld := ⟨TMU_DOMx_AGE x, 31, 0⟩
/-- TMU_AB_OFS_LO (R242, 08_ethernet_time.md). -/
def TMU_AB_OFS_LO : Nat := 0x20300180
def TMU_AB_OFS_LO_OFS : Fld := ⟨TMU_AB_OFS_LO, 31, 0⟩
/-- TMU_AB_OFS_HI (R242, 08_ethernet_time.md). -/
def TMU_AB_OFS_HI : Nat := 0x20300184
def TMU_AB_OFS_HI_OFS : Fld := ⟨TMU_AB_OFS_HI, 31, 0⟩
/-- TMU_AB_RATE (R242, 08_ethernet_time.md). -/
def TMU_AB_RATE : Nat := 0x20300188
def TMU_AB_RATE_RATE : Fld := ⟨TMU_AB_RATE, 31, 0⟩
/-- TMU_AB_STAT (R242, 08_ethernet_time.md). -/
def TMU_AB_STAT : Nat := 0x2030018c
def TMU_AB_STAT_AB_VALID : Fld := ⟨TMU_AB_STAT, 0, 0⟩
/-- LGW_CTRL (R264, 09_landing_gwebry.md). -/
def LGW_CTRL : Nat := 0x20400000
def LGW_CTRL_RUN : Fld := ⟨LGW_CTRL, 0, 0⟩
/-- LGW_ETH (R264, 09_landing_gwebry.md). -/
def LGW_ETH : Nat := 0x20400004
def LGW_ETH_ETYPE : Fld := ⟨LGW_ETH, 15, 0⟩
/-- LGW_CNT_PEAK (R264, 09_landing_gwebry.md). -/
def LGW_CNT_PEAK : Nat := 0x20400010
def LGW_CNT_PEAK_COUNT : Fld := ⟨LGW_CNT_PEAK, 31, 0⟩
/-- LGW_CNT_DROP (R264, 09_landing_gwebry.md). -/
def LGW_CNT_DROP : Nat := 0x20400014
def LGW_CNT_DROP_COUNT : Fld := ⟨LGW_CNT_DROP, 31, 0⟩
/-- LGW_CNT_MISFIT (R264, 09_landing_gwebry.md). -/
def LGW_CNT_MISFIT : Nat := 0x20400018
def LGW_CNT_MISFIT_COUNT : Fld := ⟨LGW_CNT_MISFIT, 31, 0⟩
/-- LGW_CNT_BADCTN (R264, 09_landing_gwebry.md). -/
def LGW_CNT_BADCTN : Nat := 0x2040001c
def LGW_CNT_BADCTN_COUNT : Fld := ⟨LGW_CNT_BADCTN, 31, 0⟩
/-- LGW_BLKb (R264, 09_landing_gwebry.md). -/
def LGW_BLKb (b : Nat) : Nat := 0x20400100 + b * 0x4
def LGW_BLKb_EN (b : Nat) : Fld := ⟨LGW_BLKb b, 31, 31⟩
def LGW_BLKb_SYS (b : Nat) : Fld := ⟨LGW_BLKb b, 30, 30⟩
def LGW_BLKb_OWNER (b : Nat) : Fld := ⟨LGW_BLKb b, 19, 16⟩
def LGW_BLKb_NQ (b : Nat) : Fld := ⟨LGW_BLKb b, 5, 0⟩
/-- LGW_CTNc_0 (R264, 09_landing_gwebry.md). -/
def LGW_CTNc_0 (c : Nat) : Nat := 0x20410000 + c * 0x10
def LGW_CTNc_0_EN (c : Nat) : Fld := ⟨LGW_CTNc_0 c, 31, 31⟩
def LGW_CTNc_0_PCP (c : Nat) : Fld := ⟨LGW_CTNc_0 c, 30, 28⟩
def LGW_CTNc_0_PORT (c : Nat) : Fld := ⟨LGW_CTNc_0 c, 27, 23⟩
def LGW_CTNc_0_VID (c : Nat) : Fld := ⟨LGW_CTNc_0 c, 11, 0⟩
/-- LGW_CTNc_4 (R264, 09_landing_gwebry.md). -/
def LGW_CTNc_4 (c : Nat) : Nat := 0x20410004 + c * 0x10
def LGW_CTNc_4_OFFSET (c : Nat) : Fld := ⟨LGW_CTNc_4 c, 31, 16⟩
def LGW_CTNc_4_K (c : Nat) : Fld := ⟨LGW_CTNc_4 c, 5, 0⟩
/-- LGW_CTNc_8 (R264, 09_landing_gwebry.md). -/
def LGW_CTNc_8 (c : Nat) : Nat := 0x20410008 + c * 0x10
def LGW_CTNc_8_DMAC (c : Nat) : Fld := ⟨LGW_CTNc_8 c, 31, 0⟩
/-- LGW_CTNc_C (R264, 09_landing_gwebry.md). -/
def LGW_CTNc_C (c : Nat) : Nat := 0x2041000c + c * 0x10
def LGW_CTNc_C_ALLOW (c : Nat) : Fld := ⟨LGW_CTNc_C c, 31, 16⟩
def LGW_CTNc_C_DMAC (c : Nat) : Fld := ⟨LGW_CTNc_C c, 15, 0⟩
/-- GWB_Lg_STAT (R275, 09_landing_gwebry.md). -/
def GWB_Lg_STAT (g : Nat) : Nat := 0x20420000 + g * 0x1000
def GWB_Lg_STAT_UP (g : Nat) : Fld := ⟨GWB_Lg_STAT g, 31, 31⟩
def GWB_Lg_STAT_TRAINING (g : Nat) : Fld := ⟨GWB_Lg_STAT g, 30, 30⟩
/-- GWB_Lg_LOCK (R275, 09_landing_gwebry.md). -/
def GWB_Lg_LOCK (g : Nat) : Nat := 0x20420004 + g * 0x1000
def GWB_Lg_LOCK_LOCK_TO (g : Nat) : Fld := ⟨GWB_Lg_LOCK g, 2, 2⟩
def GWB_Lg_LOCK_GRANT (g : Nat) : Fld := ⟨GWB_Lg_LOCK g, 1, 1⟩
def GWB_Lg_LOCK_REQ (g : Nat) : Fld := ⟨GWB_Lg_LOCK g, 0, 0⟩
/-- GWB_Lg_CNT0 (R275, 09_landing_gwebry.md). -/
def GWB_Lg_CNT0 (g : Nat) : Nat := 0x20420008 + g * 0x1000
def GWB_Lg_CNT0_DISCARD (g : Nat) : Fld := ⟨GWB_Lg_CNT0 g, 31, 16⟩
def GWB_Lg_CNT0_REPLAY (g : Nat) : Fld := ⟨GWB_Lg_CNT0 g, 15, 0⟩
/-- GWB_Lg_CNT1 (R275, 09_landing_gwebry.md). -/
def GWB_Lg_CNT1 (g : Nat) : Nat := 0x2042000c + g * 0x1000
def GWB_Lg_CNT1_TIMEOUT (g : Nat) : Fld := ⟨GWB_Lg_CNT1 g, 31, 16⟩
def GWB_Lg_CNT1_RETRY (g : Nat) : Fld := ⟨GWB_Lg_CNT1 g, 15, 0⟩
/-- GWB_Lg_CNT2 (R275, 09_landing_gwebry.md). -/
def GWB_Lg_CNT2 (g : Nat) : Nat := 0x20420010 + g * 0x1000
def GWB_Lg_CNT2_SIDE (g : Nat) : Fld := ⟨GWB_Lg_CNT2 g, 31, 16⟩
def GWB_Lg_CNT2_RETRAIN (g : Nat) : Fld := ⟨GWB_Lg_CNT2 g, 15, 0⟩
/-- GWB_Lg_ERR_ADDR (R275, 09_landing_gwebry.md). -/
def GWB_Lg_ERR_ADDR (g : Nat) : Nat := 0x20420014 + g * 0x1000
def GWB_Lg_ERR_ADDR_ADDR (g : Nat) : Fld := ⟨GWB_Lg_ERR_ADDR g, 31, 0⟩
/-- GWB_Lg_ERR_INFO (R275, 09_landing_gwebry.md). -/
def GWB_Lg_ERR_INFO (g : Nat) : Nat := 0x20420018 + g * 0x1000
def GWB_Lg_ERR_INFO_VALID (g : Nat) : Fld := ⟨GWB_Lg_ERR_INFO g, 31, 31⟩
def GWB_Lg_ERR_INFO_MORE (g : Nat) : Fld := ⟨GWB_Lg_ERR_INFO g, 30, 30⟩
def GWB_Lg_ERR_INFO_TYPE (g : Nat) : Fld := ⟨GWB_Lg_ERR_INFO g, 29, 27⟩
def GWB_Lg_ERR_INFO_RQC (g : Nat) : Fld := ⟨GWB_Lg_ERR_INFO g, 26, 24⟩
def GWB_Lg_ERR_INFO_W (g : Nat) : Fld := ⟨GWB_Lg_ERR_INFO g, 23, 23⟩
def GWB_Lg_ERR_INFO_PID (g : Nat) : Fld := ⟨GWB_Lg_ERR_INFO g, 22, 19⟩
def GWB_Lg_ERR_INFO_CLASS (g : Nat) : Fld := ⟨GWB_Lg_ERR_INFO g, 18, 17⟩
/-- GWB_Lg_SIDE_ADDR (R275, 09_landing_gwebry.md). -/
def GWB_Lg_SIDE_ADDR (g : Nat) : Nat := 0x2042001c + g * 0x1000
def GWB_Lg_SIDE_ADDR_ADDR (g : Nat) : Fld := ⟨GWB_Lg_SIDE_ADDR g, 31, 0⟩
/-- GWB_Lg_PFr_BASE (R275, 09_landing_gwebry.md). -/
def GWB_Lg_PFr_BASE (g r : Nat) : Nat := 0x20420040 + g * 0x1000 + r * 0x8
def GWB_Lg_PFr_BASE_LINE (g r : Nat) : Fld := ⟨GWB_Lg_PFr_BASE g r, 19, 6⟩
def GWB_Lg_PFr_BASE_NPW (g r : Nat) : Fld := ⟨GWB_Lg_PFr_BASE g r, 1, 1⟩
def GWB_Lg_PFr_BASE_PREFETCH (g r : Nat) : Fld := ⟨GWB_Lg_PFr_BASE g r, 0, 0⟩
/-- GWB_Lg_PFr_LIM (R275, 09_landing_gwebry.md). -/
def GWB_Lg_PFr_LIM (g r : Nat) : Nat := 0x20420044 + g * 0x1000 + r * 0x8
def GWB_Lg_PFr_LIM_LINE (g r : Nat) : Fld := ⟨GWB_Lg_PFr_LIM g r, 19, 6⟩
/-- LGW_SLOT (R248, 09_landing_gwebry.md). -/
def LGW_SLOT (r k : Nat) : Nat := 0x20440000 + r * 0x10 + k * 0x4
def LGW_SLOT_WORD (r k : Nat) : Fld := ⟨LGW_SLOT r k, 31, 0⟩
/-- LGW_ROUTE (R249, 09_landing_gwebry.md). -/
def LGW_ROUTE (r k : Nat) : Nat := 0x20480000 + r * 0x20 + k * 0x4
def LGW_ROUTE_WORD (r k : Nat) : Fld := ⟨LGW_ROUTE r k, 31, 0⟩
/-- LSC_FATAL (R305, 10_application_complex.md). -/
def LSC_FATAL : Nat := 0x20d00000
def LSC_FATAL_CAUSE : Fld := ⟨LSC_FATAL, 3, 0⟩
/-- LSC_Pk_CFG (R305, 10_application_complex.md). -/
def LSC_Pk_CFG (k : Nat) : Nat := 0x20D10000 + (if k = 8 then 0x20000 else k * 0x1000) + 0x0
def LSC_Pk_CFG_PRESENT (k : Nat) : Fld := ⟨LSC_Pk_CFG k, 1, 1⟩
def LSC_Pk_CFG_SPLIT (k : Nat) : Fld := ⟨LSC_Pk_CFG k, 0, 0⟩
/-- LSC_Pk_CTRL (R305, 10_application_complex.md). -/
def LSC_Pk_CTRL (k : Nat) : Nat := 0x20D10000 + (if k = 8 then 0x20000 else k * 0x1000) + 0x4
def LSC_Pk_CTRL_HALT (k : Nat) : Fld := ⟨LSC_Pk_CTRL k, 1, 1⟩
def LSC_Pk_CTRL_START (k : Nat) : Fld := ⟨LSC_Pk_CTRL k, 0, 0⟩
/-- LSC_Pk_STAT (R305, 10_application_complex.md). -/
def LSC_Pk_STAT (k : Nat) : Nat := 0x20D10000 + (if k = 8 then 0x20000 else k * 0x1000) + 0x8
def LSC_Pk_STAT_STATE (k : Nat) : Fld := ⟨LSC_Pk_STAT k, 31, 28⟩
def LSC_Pk_STAT_LINE (k : Nat) : Fld := ⟨LSC_Pk_STAT k, 27, 27⟩
def LSC_Pk_STAT_FIFO (k : Nat) : Fld := ⟨LSC_Pk_STAT k, 22, 16⟩
def LSC_Pk_STAT_HOSTED (k : Nat) : Fld := ⟨LSC_Pk_STAT k, 4, 4⟩
def LSC_Pk_STAT_PID (k : Nat) : Fld := ⟨LSC_Pk_STAT k, 3, 0⟩
/-- LSC_Pk_MM_LO (R305, 10_application_complex.md). -/
def LSC_Pk_MM_LO (k : Nat) : Nat := 0x20D10000 + (if k = 8 then 0x20000 else k * 0x1000) + 0xc
def LSC_Pk_MM_LO_GROUPS (k : Nat) : Fld := ⟨LSC_Pk_MM_LO k, 31, 0⟩
/-- LSC_Pk_MM_HI (R305, 10_application_complex.md). -/
def LSC_Pk_MM_HI (k : Nat) : Nat := 0x20D10000 + (if k = 8 then 0x20000 else k * 0x1000) + 0x10
def LSC_Pk_MM_HI_GROUPS (k : Nat) : Fld := ⟨LSC_Pk_MM_HI k, 31, 0⟩
/-- LSC_Pk_MM_T_LO (R305, 10_application_complex.md). -/
def LSC_Pk_MM_T_LO (k : Nat) : Nat := 0x20D10000 + (if k = 8 then 0x20000 else k * 0x1000) + 0x14
def LSC_Pk_MM_T_LO_TIME (k : Nat) : Fld := ⟨LSC_Pk_MM_T_LO k, 31, 0⟩
/-- LSC_Pk_MM_T_HI (R305, 10_application_complex.md). -/
def LSC_Pk_MM_T_HI (k : Nat) : Nat := 0x20D10000 + (if k = 8 then 0x20000 else k * 0x1000) + 0x18
def LSC_Pk_MM_T_HI_TIME (k : Nat) : Fld := ⟨LSC_Pk_MM_T_HI k, 31, 0⟩
/-- LSC_Pk_TEST (R305, 10_application_complex.md). -/
def LSC_Pk_TEST (k : Nat) : Nat := 0x20D10000 + (if k = 8 then 0x20000 else k * 0x1000) + 0x1c
def LSC_Pk_TEST_DONE (k : Nat) : Fld := ⟨LSC_Pk_TEST k, 31, 31⟩
def LSC_Pk_TEST_PASS (k : Nat) : Fld := ⟨LSC_Pk_TEST k, 30, 30⟩
def LSC_Pk_TEST_ALARM_FAIL (k : Nat) : Fld := ⟨LSC_Pk_TEST k, 29, 29⟩
def LSC_Pk_TEST_FAILGRP (k : Nat) : Fld := ⟨LSC_Pk_TEST k, 13, 8⟩
/-- LSC_Pk_CNT (R305, 10_application_complex.md). -/
def LSC_Pk_CNT (k : Nat) : Nat := 0x20D10000 + (if k = 8 then 0x20000 else k * 0x1000) + 0x20
def LSC_Pk_CNT_MISMATCH (k : Nat) : Fld := ⟨LSC_Pk_CNT k, 31, 16⟩
def LSC_Pk_CNT_LOCKUP (k : Nat) : Fld := ⟨LSC_Pk_CNT k, 15, 0⟩
/-- MEM_SC_CFG (R305, 10_application_complex.md). -/
def MEM_SC_CFG : Nat := 0x20d40000
def MEM_SC_CFG_WAYS : Fld := ⟨MEM_SC_CFG, 4, 0⟩
/-- MEM_CE_CNT (R305, 10_application_complex.md). -/
def MEM_CE_CNT : Nat := 0x20d40004
def MEM_CE_CNT_SRAM : Fld := ⟨MEM_CE_CNT, 31, 16⟩
def MEM_CE_CNT_DRAM : Fld := ⟨MEM_CE_CNT, 15, 0⟩
/-- MEM_CE_CACHE (R305, 10_application_complex.md). -/
def MEM_CE_CACHE : Nat := 0x20d40008
def MEM_CE_CACHE_CACHE : Fld := ⟨MEM_CE_CACHE, 15, 0⟩
/-- MEM_UE_CNT (R305, 10_application_complex.md). -/
def MEM_UE_CNT : Nat := 0x20d4000c
def MEM_UE_CNT_SRAM : Fld := ⟨MEM_UE_CNT, 31, 16⟩
def MEM_UE_CNT_DRAM : Fld := ⟨MEM_UE_CNT, 15, 0⟩
/-- MEM_ERR_ADDR_LO (R305, 10_application_complex.md). -/
def MEM_ERR_ADDR_LO : Nat := 0x20d40010
def MEM_ERR_ADDR_LO_ADDR : Fld := ⟨MEM_ERR_ADDR_LO, 31, 0⟩
/-- MEM_ERR_ADDR_HI (R305, 10_application_complex.md). -/
def MEM_ERR_ADDR_HI : Nat := 0x20d40014
def MEM_ERR_ADDR_HI_ADDR : Fld := ⟨MEM_ERR_ADDR_HI, 7, 0⟩
/-- MEM_ERR_INFO (R305, 10_application_complex.md). -/
def MEM_ERR_INFO : Nat := 0x20d40018
def MEM_ERR_INFO_VALID : Fld := ⟨MEM_ERR_INFO, 31, 31⟩
def MEM_ERR_INFO_MORE : Fld := ⟨MEM_ERR_INFO, 30, 30⟩
def MEM_ERR_INFO_MEM : Fld := ⟨MEM_ERR_INFO, 29, 28⟩
def MEM_ERR_INFO_SCRUB : Fld := ⟨MEM_ERR_INFO, 27, 27⟩
def MEM_ERR_INFO_HEART : Fld := ⟨MEM_ERR_INFO, 26, 26⟩
def MEM_ERR_INFO_RQC : Fld := ⟨MEM_ERR_INFO, 25, 23⟩
def MEM_ERR_INFO_W : Fld := ⟨MEM_ERR_INFO, 22, 22⟩
def MEM_ERR_INFO_PID : Fld := ⟨MEM_ERR_INFO, 21, 18⟩
/-- MEM_SCRUB_SRAM (R305, 10_application_complex.md). -/
def MEM_SCRUB_SRAM : Nat := 0x20d4001c
def MEM_SCRUB_SRAM_PASSES : Fld := ⟨MEM_SCRUB_SRAM, 31, 16⟩
def MEM_SCRUB_SRAM_LAST : Fld := ⟨MEM_SCRUB_SRAM, 15, 0⟩
/-- MEM_SCRUB_DRAM (R305, 10_application_complex.md). -/
def MEM_SCRUB_DRAM : Nat := 0x20d40020
def MEM_SCRUB_DRAM_PASSES : Fld := ⟨MEM_SCRUB_DRAM, 31, 16⟩
def MEM_SCRUB_DRAM_LAST : Fld := ⟨MEM_SCRUB_DRAM, 15, 0⟩
/-- EVR_Pp_DONE (R320, 11_partitions_worlds.md). -/
def EVR_Pp_DONE (p : Nat) : Nat := 0x20010000 + p * 0x1000
def EVR_Pp_DONE_DONE (p : Nat) : Fld := ⟨EVR_Pp_DONE p, 0, 0⟩
/-- EVR_Pp_WDG (R320, 11_partitions_worlds.md). -/
def EVR_Pp_WDG (p : Nat) : Nat := 0x20010004 + p * 0x1000
def EVR_Pp_WDG_KICK (p : Nat) : Fld := ⟨EVR_Pp_WDG p, 0, 0⟩
/-- EVR_Pp_FSTAT (R320, 11_partitions_worlds.md). -/
def EVR_Pp_FSTAT (p : Nat) : Nat := 0x20010008 + p * 0x1000
def EVR_Pp_FSTAT_STATE (p : Nat) : Fld := ⟨EVR_Pp_FSTAT p, 31, 28⟩
def EVR_Pp_FSTAT_TICK_PEND (p : Nat) : Fld := ⟨EVR_Pp_FSTAT p, 27, 27⟩
def EVR_Pp_FSTAT_IN_FRAME (p : Nat) : Fld := ⟨EVR_Pp_FSTAT p, 26, 26⟩
def EVR_Pp_FSTAT_USED (p : Nat) : Fld := ⟨EVR_Pp_FSTAT p, 15, 0⟩
/-- EVR_Pp_OVR (R320, 11_partitions_worlds.md). -/
def EVR_Pp_OVR (p : Nat) : Nat := 0x2001000c + p * 0x1000
def EVR_Pp_OVR_OVERRUN (p : Nat) : Fld := ⟨EVR_Pp_OVR p, 31, 16⟩
def EVR_Pp_OVR_MISSED (p : Nat) : Fld := ⟨EVR_Pp_OVR p, 15, 0⟩
/-- KSU_LCS (R412, 14_keys_security.md). -/
def KSU_LCS : Nat := 0x20c00000
def KSU_LCS_TORN : Fld := ⟨KSU_LCS, 5, 5⟩
def KSU_LCS_SEALED : Fld := ⟨KSU_LCS, 4, 4⟩
def KSU_LCS_STATE : Fld := ⟨KSU_LCS, 2, 0⟩
/-- KSU_STAT (R412, 14_keys_security.md). -/
def KSU_STAT : Nat := 0x20c00004
def KSU_STAT_SLOTS : Fld := ⟨KSU_STAT, 13, 8⟩
def KSU_STAT_DRBG_OK : Fld := ⟨KSU_STAT, 2, 2⟩
def KSU_STAT_ROOT_FAIL : Fld := ⟨KSU_STAT, 1, 1⟩
def KSU_STAT_ROOT_OK : Fld := ⟨KSU_STAT, 0, 0⟩
/-- KSU_AUTH (R412, 14_keys_security.md). -/
def KSU_AUTH : Nat := 0x20c00008
def KSU_AUTH_CORES : Fld := ⟨KSU_AUTH, 23, 16⟩
def KSU_AUTH_SCOPE : Fld := ⟨KSU_AUTH, 5, 0⟩
/-- KSU_UID_LO (R412, 14_keys_security.md). -/
def KSU_UID_LO : Nat := 0x20c0000c
def KSU_UID_LO_UID : Fld := ⟨KSU_UID_LO, 31, 0⟩
/-- KSU_UID_HI (R412, 14_keys_security.md). -/
def KSU_UID_HI : Nat := 0x20c00010
def KSU_UID_HI_UID : Fld := ⟨KSU_UID_HI, 31, 0⟩
/-- KSU_SLOTs (R412, 14_keys_security.md). -/
def KSU_SLOTs (s : Nat) : Nat := 0x20c10000 + s * 0x8
def KSU_SLOTs_VALID (s : Nat) : Fld := ⟨KSU_SLOTs s, 31, 31⟩
def KSU_SLOTs_CLASS (s : Nat) : Fld := ⟨KSU_SLOTs s, 30, 29⟩
def KSU_SLOTs_KTYPE (s : Nat) : Fld := ⟨KSU_SLOTs s, 28, 27⟩
def KSU_SLOTs_USAGE (s : Nat) : Fld := ⟨KSU_SLOTs s, 26, 20⟩
def KSU_SLOTs_OWNER (s : Nat) : Fld := ⟨KSU_SLOTs s, 19, 16⟩
def KSU_SLOTs_KID (s : Nat) : Fld := ⟨KSU_SLOTs s, 15, 0⟩
/-- KSU_CEi_STAT (R412, 14_keys_security.md). -/
def KSU_CEi_STAT (e : Nat) : Nat := 0x20c20000 + e * 0x10
def KSU_CEi_STAT_BUSY (e : Nat) : Fld := ⟨KSU_CEi_STAT e, 31, 31⟩
def KSU_CEi_STAT_VQ (e : Nat) : Fld := ⟨KSU_CEi_STAT e, 4, 0⟩
/-- KSU_CEi_CNT (R412, 14_keys_security.md). -/
def KSU_CEi_CNT (e : Nat) : Nat := 0x20c20004 + e * 0x10
def KSU_CEi_CNT_DENY (e : Nat) : Fld := ⟨KSU_CEi_CNT e, 31, 16⟩
def KSU_CEi_CNT_UNITS (e : Nat) : Fld := ⟨KSU_CEi_CNT e, 15, 0⟩
/-- KSU_GATEu (R325, 11_partitions_worlds.md). -/
def KSU_GATEu (u : Nat) : Nat := 0x20c80000 + u * 0x4
def KSU_GATEu_HELD (u : Nat) : Fld := ⟨KSU_GATEu u, 3, 3⟩
def KSU_GATEu_GATED (u : Nat) : Fld := ⟨KSU_GATEu u, 2, 2⟩
def KSU_GATEu_VOTE_H (u : Nat) : Fld := ⟨KSU_GATEu u, 1, 1⟩
def KSU_GATEu_VOTE_S (u : Nat) : Fld := ⟨KSU_GATEu u, 0, 0⟩
/-- KSU_WM (R325, 11_partitions_worlds.md). -/
def KSU_WM : Nat := 0x20c80100
def KSU_WM_WM_DRAM : Fld := ⟨KSU_WM, 31, 20⟩
def KSU_WM_WM_SRAM : Fld := ⟨KSU_WM, 19, 11⟩
def KSU_WM_L2HW : Fld := ⟨KSU_WM, 10, 8⟩
def KSU_WM_SCHW : Fld := ⟨KSU_WM, 4, 0⟩
/-- SIL_STAT (R358, 12_safety_island.md). -/
def SIL_STAT : Nat := 0x207a0000
def SIL_STAT_STATE : Fld := ⟨SIL_STAT, 31, 28⟩
def SIL_STAT_HOLD : Fld := ⟨SIL_STAT, 27, 27⟩
def SIL_STAT_CONFIRMED : Fld := ⟨SIL_STAT, 26, 26⟩
def SIL_STAT_LOCAL_FRAME : Fld := ⟨SIL_STAT, 25, 25⟩
def SIL_STAT_BANK : Fld := ⟨SIL_STAT, 24, 24⟩
def SIL_STAT_STARTS : Fld := ⟨SIL_STAT, 23, 16⟩
def SIL_STAT_VERSION : Fld := ⟨SIL_STAT, 15, 0⟩
/-- SIL_CHECK (R358, 12_safety_island.md). -/
def SIL_CHECK : Nat := 0x207a0004
def SIL_CHECK_VALUE : Fld := ⟨SIL_CHECK, 31, 0⟩
/-- SIL_CONF (R358, 12_safety_island.md). -/
def SIL_CONF : Nat := 0x207a0008
def SIL_CONF_VALUE : Fld := ⟨SIL_CONF, 31, 0⟩
/-- SIL_PEND (R358, 12_safety_island.md). -/
def SIL_PEND : Nat := 0x207a000c
def SIL_PEND_VALUE : Fld := ⟨SIL_PEND, 31, 0⟩
/-- SIL_FN_LO (R358, 12_safety_island.md). -/
def SIL_FN_LO : Nat := 0x207a0010
def SIL_FN_LO_STATE0 : Fld := ⟨SIL_FN_LO, 3, 0⟩
def SIL_FN_LO_STATE1 : Fld := ⟨SIL_FN_LO, 7, 4⟩
def SIL_FN_LO_STATE2 : Fld := ⟨SIL_FN_LO, 11, 8⟩
def SIL_FN_LO_STATE3 : Fld := ⟨SIL_FN_LO, 15, 12⟩
def SIL_FN_LO_STATE4 : Fld := ⟨SIL_FN_LO, 19, 16⟩
def SIL_FN_LO_STATE5 : Fld := ⟨SIL_FN_LO, 23, 20⟩
def SIL_FN_LO_STATE6 : Fld := ⟨SIL_FN_LO, 27, 24⟩
def SIL_FN_LO_STATE7 : Fld := ⟨SIL_FN_LO, 31, 28⟩
/-- SIL_FN_HI (R358, 12_safety_island.md). -/
def SIL_FN_HI : Nat := 0x207a0014
def SIL_FN_HI_STATE0 : Fld := ⟨SIL_FN_HI, 3, 0⟩
def SIL_FN_HI_STATE1 : Fld := ⟨SIL_FN_HI, 7, 4⟩
def SIL_FN_HI_STATE2 : Fld := ⟨SIL_FN_HI, 11, 8⟩
def SIL_FN_HI_STATE3 : Fld := ⟨SIL_FN_HI, 15, 12⟩
def SIL_FN_HI_STATE4 : Fld := ⟨SIL_FN_HI, 19, 16⟩
def SIL_FN_HI_STATE5 : Fld := ⟨SIL_FN_HI, 23, 20⟩
def SIL_FN_HI_STATE6 : Fld := ⟨SIL_FN_HI, 27, 24⟩
def SIL_FN_HI_STATE7 : Fld := ⟨SIL_FN_HI, 31, 28⟩
/-- SIL_IN (R358, 12_safety_island.md). -/
def SIL_IN : Nat := 0x207a0018
def SIL_IN_SI0 : Fld := ⟨SIL_IN, 3, 0⟩
def SIL_IN_SI1 : Fld := ⟨SIL_IN, 7, 4⟩
def SIL_IN_SI2 : Fld := ⟨SIL_IN, 11, 8⟩
def SIL_IN_SI3 : Fld := ⟨SIL_IN, 15, 12⟩
def SIL_IN_SI4 : Fld := ⟨SIL_IN, 19, 16⟩
def SIL_IN_SI5 : Fld := ⟨SIL_IN, 23, 20⟩
def SIL_IN_SI6 : Fld := ⟨SIL_IN, 27, 24⟩
def SIL_IN_SI7 : Fld := ⟨SIL_IN, 31, 28⟩
/-- SIL_OUT (R358, 12_safety_island.md). -/
def SIL_OUT : Nat := 0x207a001c
def SIL_OUT_RESET : Fld := ⟨SIL_OUT, 28, 28⟩
def SIL_OUT_TP_FLT : Fld := ⟨SIL_OUT, 27, 24⟩
def SIL_OUT_SWI_VALID : Fld := ⟨SIL_OUT, 23, 20⟩
def SIL_OUT_SWO_ACT : Fld := ⟨SIL_OUT, 19, 16⟩
def SIL_OUT_SO0 : Fld := ⟨SIL_OUT, 3, 0⟩
def SIL_OUT_SO1 : Fld := ⟨SIL_OUT, 7, 4⟩
def SIL_OUT_SO2 : Fld := ⟨SIL_OUT, 11, 8⟩
def SIL_OUT_SO3 : Fld := ⟨SIL_OUT, 15, 12⟩
/-- SIL_FLT (R358, 12_safety_island.md). -/
def SIL_FLT : Nat := 0x207a0020
def SIL_FLT_CODE : Fld := ⟨SIL_FLT, 31, 24⟩
def SIL_FLT_SOURCE : Fld := ⟨SIL_FLT, 23, 16⟩
/-- SIL_EVAL (R358, 12_safety_island.md). -/
def SIL_EVAL : Nat := 0x207a0024
def SIL_EVAL_COUNT : Fld := ⟨SIL_EVAL, 31, 0⟩
/-- SIL_CNT (R358, 12_safety_island.md). -/
def SIL_CNT : Nat := 0x207a0028
def SIL_CNT_DEMANDS : Fld := ⟨SIL_CNT, 31, 16⟩
def SIL_CNT_FAULTS : Fld := ⟨SIL_CNT, 15, 0⟩
/-- ISB_CTRL (R432, 15_field_update.md). -/
def ISB_CTRL : Nat := 0x207b0000
def ISB_CTRL_CONFIRM : Fld := ⟨ISB_CTRL, 3, 3⟩
def ISB_CTRL_RESTART : Fld := ⟨ISB_CTRL, 2, 2⟩
def ISB_CTRL_TRIAL : Fld := ⟨ISB_CTRL, 1, 1⟩
def ISB_CTRL_ERASE : Fld := ⟨ISB_CTRL, 0, 0⟩
/-- ISB_ADDR (R432, 15_field_update.md). -/
def ISB_ADDR : Nat := 0x207b0004
def ISB_ADDR_ADDR : Fld := ⟨ISB_ADDR, 18, 0⟩
/-- ISB_DATA (R432, 15_field_update.md). -/
def ISB_DATA : Nat := 0x207b0008
def ISB_DATA_DATA : Fld := ⟨ISB_DATA, 31, 0⟩
/-- ISB_STAT (R432, 15_field_update.md). -/
def ISB_STAT : Nat := 0x207b000c
def ISB_STAT_ERR : Fld := ⟨ISB_STAT, 2, 2⟩
def ISB_STAT_TRIAL : Fld := ⟨ISB_STAT, 1, 1⟩
def ISB_STAT_BUSY : Fld := ⟨ISB_STAT, 0, 0⟩
/-- PAIR_CFG (R390, 13_pairing.md). -/
def PAIR_CFG : Nat := 0x20f00000
def PAIR_CFG_PAIR_ID : Fld := ⟨PAIR_CFG, 31, 16⟩
def PAIR_CFG_TWIN : Fld := ⟨PAIR_CFG, 3, 3⟩
def PAIR_CFG_POSITION : Fld := ⟨PAIR_CFG, 2, 2⟩
def PAIR_CFG_HOME : Fld := ⟨PAIR_CFG, 1, 1⟩
def PAIR_CFG_EN : Fld := ⟨PAIR_CFG, 0, 0⟩
/-- PAIR_STAT (R390, 13_pairing.md). -/
def PAIR_STAT : Nat := 0x20f00004
def PAIR_STAT_ROLE : Fld := ⟨PAIR_STAT, 31, 28⟩
def PAIR_STAT_SYNCED : Fld := ⟨PAIR_STAT, 27, 27⟩
def PAIR_STAT_MIRROR_OK : Fld := ⟨PAIR_STAT, 26, 26⟩
def PAIR_STAT_PL_OK : Fld := ⟨PAIR_STAT, 25, 25⟩
def PAIR_STAT_SIG_OK : Fld := ⟨PAIR_STAT, 24, 24⟩
def PAIR_STAT_REL_IN : Fld := ⟨PAIR_STAT, 23, 23⟩
def PAIR_STAT_LEASE_OUT : Fld := ⟨PAIR_STAT, 22, 22⟩
def PAIR_STAT_EPOCH : Fld := ⟨PAIR_STAT, 15, 0⟩
/-- PAIR_AGE (R390, 13_pairing.md). -/
def PAIR_AGE : Nat := 0x20f00008
def PAIR_AGE_RENEW : Fld := ⟨PAIR_AGE, 31, 16⟩
def PAIR_AGE_SIG : Fld := ⟨PAIR_AGE, 15, 0⟩
/-- PAIR_IMG (R390, 13_pairing.md). -/
def PAIR_IMG : Nat := 0x20f0000c
def PAIR_IMG_FRAME : Fld := ⟨PAIR_IMG, 31, 0⟩
/-- PAIR_CKPT (R390, 13_pairing.md). -/
def PAIR_CKPT : Nat := 0x20f00010
def PAIR_CKPT_FRAME : Fld := ⟨PAIR_CKPT, 31, 0⟩
/-- PAIR_CNT0 (R390, 13_pairing.md). -/
def PAIR_CNT0 : Nat := 0x20f00014
def PAIR_CNT0_TAKEOVERS : Fld := ⟨PAIR_CNT0, 31, 16⟩
def PAIR_CNT0_YIELDS : Fld := ⟨PAIR_CNT0, 15, 0⟩
/-- PAIR_CNT1 (R390, 13_pairing.md). -/
def PAIR_CNT1 : Nat := 0x20f00018
def PAIR_CNT1_MIRROR_TO : Fld := ⟨PAIR_CNT1, 31, 16⟩
def PAIR_CNT1_BADFRM : Fld := ⟨PAIR_CNT1, 15, 0⟩
/-- INR_FILL (R447, 16_incidents.md). -/
def INR_FILL : Nat := 0x20e00000
def INR_FILL_GENERAL : Fld := ⟨INR_FILL, 31, 16⟩
def INR_FILL_ALARM : Fld := ⟨INR_FILL, 15, 0⟩
/-- INR_SEQ (R447, 16_incidents.md). -/
def INR_SEQ : Nat := 0x20e00004
def INR_SEQ_SEQ : Fld := ⟨INR_SEQ, 31, 0⟩
/-- INR_DROP_TRACE (R447, 16_incidents.md). -/
def INR_DROP_TRACE : Nat := 0x20e00008
def INR_DROP_TRACE_COUNT : Fld := ⟨INR_DROP_TRACE, 31, 0⟩
/-- INR_DROP_LOG (R447, 16_incidents.md). -/
def INR_DROP_LOG : Nat := 0x20e0000c
def INR_DROP_LOG_COUNT : Fld := ⟨INR_DROP_LOG, 31, 0⟩
/-- INR_MERGE (R447, 16_incidents.md). -/
def INR_MERGE : Nat := 0x20e00010
def INR_MERGE_COUNT : Fld := ⟨INR_MERGE, 31, 0⟩
/-- INR_EXP_SKIP (R447, 16_incidents.md). -/
def INR_EXP_SKIP : Nat := 0x20e00014
def INR_EXP_SKIP_COUNT : Fld := ⟨INR_EXP_SKIP, 31, 0⟩
/-- INR_FREEZE (R447, 16_incidents.md). -/
def INR_FREEZE : Nat := 0x20e00018
def INR_FREEZE_ACTIVE : Fld := ⟨INR_FREEZE, 31, 31⟩
def INR_FREEZE_SLOT : Fld := ⟨INR_FREEZE, 18, 16⟩
def INR_FREEZE_MISSED : Fld := ⟨INR_FREEZE, 15, 0⟩
/-- SUP_CAUSE (R468, 17_supervisor.md). -/
def SUP_CAUSE : Nat := 0x20000000
def SUP_CAUSE_FIRST : Fld := ⟨SUP_CAUSE, 31, 28⟩
def SUP_CAUSE_SRC : Fld := ⟨SUP_CAUSE, 8, 0⟩
/-- SUP_LAST (R468, 17_supervisor.md). -/
def SUP_LAST : Nat := 0x20000004
def SUP_LAST_COLD : Fld := ⟨SUP_LAST, 2, 2⟩
def SUP_LAST_REACH : Fld := ⟨SUP_LAST, 1, 0⟩
/-- SUP_STRAP (R468, 17_supervisor.md). -/
def SUP_STRAP : Nat := 0x20000008
def SUP_STRAP_BOOT_USED : Fld := ⟨SUP_STRAP, 9, 9⟩
def SUP_STRAP_ZONE : Fld := ⟨SUP_STRAP, 8, 6⟩
def SUP_STRAP_CLKM : Fld := ⟨SUP_STRAP, 5, 4⟩
def SUP_STRAP_BOOT : Fld := ⟨SUP_STRAP, 1, 0⟩
/-- SUP_MODE (R468, 17_supervisor.md). -/
def SUP_MODE : Nat := 0x2000000c
def SUP_MODE_MODE : Fld := ⟨SUP_MODE, 31, 28⟩
def SUP_MODE_DEGR : Fld := ⟨SUP_MODE, 15, 0⟩
/-- SUP_VSUP (R468, 17_supervisor.md). -/
def SUP_VSUP : Nat := 0x20000010
def SUP_VSUP_VA : Fld := ⟨SUP_VSUP, 31, 16⟩
def SUP_VSUP_VB : Fld := ⟨SUP_VSUP, 15, 0⟩
/-- SUP_VM (R468, 17_supervisor.md). -/
def SUP_VM : Nat := 0x20000014
def SUP_VM_LOSS_B : Fld := ⟨SUP_VM, 20, 20⟩
def SUP_VM_LOSS_A : Fld := ⟨SUP_VM, 19, 19⟩
def SUP_VM_START_OK : Fld := ⟨SUP_VM, 18, 18⟩
def SUP_VM_EXT : Fld := ⟨SUP_VM, 17, 17⟩
def SUP_VM_OVER36 : Fld := ⟨SUP_VM, 16, 16⟩
def SUP_VM_VM : Fld := ⟨SUP_VM, 15, 0⟩
/-- SUP_TEMP (R468, 17_supervisor.md). -/
def SUP_TEMP : Nat := 0x20000018
def SUP_TEMP_PLATE : Fld := ⟨SUP_TEMP, 31, 24⟩
def SUP_TEMP_CROWN : Fld := ⟨SUP_TEMP, 23, 16⟩
def SUP_TEMP_BOLE : Fld := ⟨SUP_TEMP, 15, 8⟩
def SUP_TEMP_LIMB : Fld := ⟨SUP_TEMP, 7, 0⟩
/-- SUP_CLK (R468, 17_supervisor.md). -/
def SUP_CLK : Nat := 0x2000001c
def SUP_CLK_CLKF : Fld := ⟨SUP_CLK, 31, 16⟩
def SUP_CLK_FALLBACK : Fld := ⟨SUP_CLK, 2, 2⟩
def SUP_CLK_SRC : Fld := ⟨SUP_CLK, 1, 0⟩
/-- SUP_SWR (R468, 17_supervisor.md). -/
def SUP_SWR : Nat := 0x20000020
def SUP_SWR_REACH : Fld := ⟨SUP_SWR, 1, 1⟩
def SUP_SWR_GO : Fld := ⟨SUP_SWR, 0, 0⟩
/-- SUP_BLKRST_CAN (R468, 17_supervisor.md). -/
def SUP_BLKRST_CAN : Nat := 0x20000024
def SUP_BLKRST_CAN_CAN : Fld := ⟨SUP_BLKRST_CAN, 23, 0⟩
/-- SUP_BLKRST (R468, 17_supervisor.md). -/
def SUP_BLKRST : Nat := 0x20000028
def SUP_BLKRST_CRYPTO : Fld := ⟨SUP_BLKRST, 7, 3⟩
def SUP_BLKRST_INR : Fld := ⟨SUP_BLKRST, 2, 2⟩
def SUP_BLKRST_LGW : Fld := ⟨SUP_BLKRST, 1, 1⟩
def SUP_BLKRST_ESW : Fld := ⟨SUP_BLKRST, 0, 0⟩
/-- SUP_FWDG (R468, 17_supervisor.md). -/
def SUP_FWDG : Nat := 0x2000002c
def SUP_FWDG_PERIOD : Fld := ⟨SUP_FWDG, 31, 16⟩
def SUP_FWDG_KICK : Fld := ⟨SUP_FWDG, 15, 0⟩
/-- SUP_OPT (R468, 17_supervisor.md). -/
def SUP_OPT : Nat := 0x20000030
def SUP_OPT_INTR : Fld := ⟨SUP_OPT, 31, 24⟩
def SUP_OPT_HOLDS : Fld := ⟨SUP_OPT, 23, 16⟩
def SUP_OPT_DEFAULTS : Fld := ⟨SUP_OPT, 3, 3⟩
def SUP_OPT_SPLIT : Fld := ⟨SUP_OPT, 2, 2⟩
def SUP_OPT_COPY : Fld := ⟨SUP_OPT, 1, 0⟩
/-- SUP_STARTS (R468, 17_supervisor.md). -/
def SUP_STARTS : Nat := 0x20000034
def SUP_STARTS_COUNT : Fld := ⟨SUP_STARTS, 31, 0⟩

end Sys2Proof.Machine.R
end

