-- ==== Sys2Proof/Machine/State.lean ====
section
/-! DEFINITION. The state of the module: plain data. Registers of every table of the spec are kept in `regs` (a
sparse list in one canonical form: addresses strictly rising, no entry equal to the Reset column); what the spec gives
the machine beside its register tables is kept in the structures below, one per unit. -/

namespace Sys2Proof.Machine

/-- Reasons a step can stop with a fault: none. Every command of the block has an effect in every state. -/
inductive Fault where
  deriving DecidableEq, Repr

/-- Reasons a step has no meaning. -/
inductive Refusal where
  /-- Raised by an arm of `exec` that has no meaning yet; safe, since nothing is claimed of it. -/
  | notModelled (mnemonic : String)
  deriving DecidableEq, Repr

/-- Who may receive an event (R75): the holders of any subscription, the partition or partitions that own the resource
named, the Forester and SYSTEM partitions only, or the Forester mailbox. -/
inductive Owner where
  | pub | part (p : Nat) | parts (ps : List Nat) | sys | box16
  deriving DecidableEq, Repr

/-- An event as the router carries it and as the Forester receives it (R75). -/
structure EvRec where
  num : Nat
  frame : Nat
  time : Nat
  payload : List Byte
  deriving DecidableEq, Repr

/-- An entry of the incident recorder (R438); `reserve` tells its place (alarm reserve or general ring, R439),
`sent` whether it has been exported (R443). -/
structure IncEntry where
  seq : Nat
  source : Nat
  cls : Nat
  merged : Bool := false
  mixed : Bool := false
  code : Nat
  frame : Nat
  time : Nat
  data0 : List Byte
  data1 : List Byte := []
  count : Nat := 1
  lastTime : Nat := 0
  lastFrame : Nat := 0
  reserve : Bool := false
  sent : Bool := false
  deriving DecidableEq, Repr

/-- A snapshot slot of the record store (R444, R445). -/
structure Snapshot where
  ttr : Nat
  pre : Nat
  post : Nat
  entries : List IncEntry
  drops : Nat
  incomplete : Bool := false
  deriving DecidableEq, Repr

/-- A freeze (R444): the trigger instant and the window, in ns; the drops in it, and whether a reset fell inside. -/
structure Freeze where
  ttr : Nat
  pre : Nat
  post : Nat
  drops : Nat := 0
  cut : Bool := false
  deriving DecidableEq, Repr

/-- The incident recorder (16_incidents.md): the ring's unflushed entries, the areas of the record store with the entries
written since each began, snapshot slots, the freeze in progress and those to write, drops by source (TRACE, LOG), the
per-frame and per-turn marks, the export bucket in 10^-6 bits with its instant, entries not exported in the turn, the
diagnostic totals (R448). -/
structure Recorder where
  ring : List IncEntry := []
  alarmArea : List IncEntry := []
  generalArea : List IncEntry := []
  alarmPos : Nat := 0
  generalPos : Nat := 0
  nextSlot : Nat := 0
  slots : List (Option Snapshot) := List.replicate 8 none
  freeze : Option Freeze := none
  toWrite : List Freeze := []
  srcDrops : List (Nat × Nat × Nat) := []
  dropRaised : List Nat := []
  mergeRaised : Bool := false
  skipRaised : Bool := false
  bucket : Nat := 131072000000
  bucketAt : Nat := 0
  skipped : Nat := 0
  totals : List Nat := List.replicate 208 0
  deriving DecidableEq, Repr

/-- One configuration record: the bytes of copy 0 and copy 1 as stored (R76; an erased copy holds none) and the copy
in force (R77). -/
structure Record where
  c0 : List Byte := []
  c1 : List Byte := []
  used : Option Nat := none
  deriving DecidableEq, Repr

/-- An accepted COMMIT (R64-R66): the mailbox it came from, its groups, the snapshot of staged register words and of
staged table entries of group 0x0560, whether it was issued in time with its links healthy (R29), the boundary at which
it is due, the end of its wait for a link, and its commit instant once reached. -/
structure Commit where
  issuer : Nat
  groups : List Nat
  snap : List (Nat × Word)
  tab : List (Nat × List Byte) := []
  timely : Bool := true
  due : Nat := 0
  waitUntil : Option Nat := none
  instant : Option Nat := none
  deriving DecidableEq, Repr

/-- Kind of a response: `plain` for data, a write taken or the denial of R20; the error types of a Gwebry link (R269, R274,
R275); RETRY on the island bus (R271); `again`, the fabric retry of a full issue buffer (R268). -/
inductive RespType where
  | plain | decerr | slverr | timeout | lock | link | retry | again
  deriving DecidableEq, Repr

/-- The response of the fabric to the last access: the data, whether it is an error response (R20), and its kind. -/
structure BusResp where
  data : Word := 0
  err : Bool := false
  type : RespType := .plain
  deriving DecidableEq, Repr

/-- The frame generator beside its registers (01_architecture.md): whether a first boundary has come (R31, R32), the
instant of the last boundary, whether it began a turn (R25, R33), the HI latch of each requester (R37: P0-P15, Forester, debug port, others), the run of
sync intervals for ALIGNED (R34), and a slot correction to make (R33). -/
structure FrameGen where
  first : Bool := false
  last : Nat := 0
  newTurn : Bool := false
  hiLatch : List Word := List.replicate 19 0
  alignRun : Nat := 0
  slotFix : Option Nat := none
  deriving DecidableEq, Repr

/-- A mailbox beside its words: the requester of the ring (R39, R506), the ring time (R42), whether the command is
discarded by a partition reset (R46), and LONG entries reserved or held (R53). -/
structure Mbx where
  ringAttr : Attr := ⟨false, 0, 0⟩
  ringTime : Nat := 0
  longUsed : List Bool := List.replicate 8 false
  deriving DecidableEq, Repr

/-- A LONG command accepted and not finished (R53, R74, R507). -/
structure LongCmd where
  mbx : Nat
  entry : Option Nat
  queue : Option Nat := none
  opcode : Nat
  tag : Nat
  flags : Nat
  gen : Nat
  payload : List Byte
  resultAddr : Nat := 0
  attr : Attr
  stale : Bool := false
  deriving DecidableEq, Repr

/-- A hardware queue beside its registers: the completions the Forester holds (R74), and the per-frame mark of
QMG_STALE_DROP (R73). -/
structure QState where
  held : List (List Byte) := []
  staleRaised : Bool := false
  deriving DecidableEq, Repr

/-- A partition beside its registers (11_partitions_worlds.md): its MANIFEST entry once created (R309, R311), the
feature words of SYS_HELLO (R57), subscriptions, the reset in progress (R314-R317), restart history (R296), the
watchdog and frame work (R319, R320), whether a command stopped it (R467), the slot whose images a trial gives it (R428). -/
structure Part where
  created : Bool := false
  entry : List Byte := []
  granted : Option Nat := none
  requested : Nat := 0
  subs : List (Nat × Nat) := []
  causes : List Nat := []
  cause : Nat := 0
  lastCause : Nat := 0
  resetAt : Nat := 0
  fences : List Nat := []
  charged : List Nat := []
  restarts : Nat := 0
  spent : Bool := false
  wdgFrom : Option Nat := none
  tickAt : Option Nat := none
  doneSeen : Bool := true
  overSeen : Bool := false
  usedMax : Nat := 0
  loadOk : Bool := false
  stopCmd : Bool := false
  trialSlot : Option Nat := none
  deriving DecidableEq, Repr

/-- What the governor has decided for a channel's turn-on or shed, until the next boundary (R127, R128): the quantity
with its load and limit, the reason, and the channel that was granted. -/
inductive Verdict where
  | none | grant
  | refuse (q load limit : Nat)
  | shed (q why granted : Nat)
  deriving DecidableEq, Repr

/-- A Scaler capture in progress (R121): off-edge or on-edge, and the configuration word it runs under. -/
structure Capture where
  off : Bool
  cfg : Word
  deriving DecidableEq, Repr

/-- A load channel beside its registers (03_channels_switching.md, 04_channels_harness.md): the IN_K level, the
instants that R82 and R89 need, the pending protective restart (R93), and what R119, R125 and R121 keep. `dt` is the
wire rise in nK, `fi` and `fp` the filters in 10 nA and 10 nW, `sigDiv` the edges still to skip under the DIV `sigOf`. -/
structure Chan where
  line : Bool := false
  lastOn : Option Nat := none
  delayOn : Option Nat := none
  fastRaised : Bool := false
  offSince : Option Nat := none
  window : Bool := false
  restart : Bool := false
  offFrames : Nat := 0
  offMid : Bool := false
  wasOff : Bool := true
  dieLatch : Bool := false
  deferRaised : Bool := false
  revCur : Bool := false
  analogOff : Option Nat := none
  verdict : Verdict := .none
  dt : Int := 0
  fi : Int := 0
  fp : Int := 0
  warned : Bool := false
  sigDiv : Nat := 0
  sigOf : Nat := 0
  capture : Option Capture := none
  samples : List Int := []
  capFrame : Nat := 0
  captured : Bool := false
  devRun : Nat × Nat := (0, 0)
  devRaised : Bool × Bool := (false, false)
  deriving DecidableEq, Repr

/-- Supply conditions of a bole die (R97), the instant its lease line or release last changed (R133), and the instant
its microsequencer stopped (R100). -/
structure Bole where
  extLow : Bool := false
  extHigh : Bool := false
  over36 : Bool := false
  loadDump : Bool := false
  undervolt : Bool := false
  studLoss : Bool := false
  reverse : Bool := false
  gndLoss : Bool := false
  leaseAt : Option Nat := none
  seqStop : Nat := 0
  deriving DecidableEq, Repr

/-- A far die's part of hold (R99, R148), by Gwebry link: the events queued, those lost, the last marker and the number
of boundaries from its own oscillator since. -/
structure FarDie where
  queue : List (Nat × Owner × List Byte) := []
  lost : Nat := 0
  marker : Nat := 0
  localJ : Nat := 0
  deriving DecidableEq, Repr

/-- A safety output switch beside its register (R104, R105, R125): since when its gate enable is low, and the filters. -/
structure SoSw where
  lowAt : Option Nat := none
  fi : Int := 0
  fp : Int := 0
  deriving DecidableEq, Repr

/-- The budget governor (R124-R131, R134, R136): the plate temperature taken, the limit and its reference at the last
raise, the loads of the last instant, the loads and limits of the 39 instants before, which quantities are over
with no candidate left, and the counts. -/
structure Gov where
  plate : Option Int := none
  plim : Int := 5000000000
  refPlim : Option Int := none
  loads : List Int := List.replicate 8 0
  hist : List (List Int × List Int) := []
  ovr : List Bool := List.replicate 8 false
  refusals : Nat := 0
  sheds : Nat := 0
  deriving DecidableEq, Repr

/-- A UIO pin beside its registers (R139-R148): the comparator's level, the filtered level and the run of boundary samples
unlike it, the input voltage at the last boundary (mV), the level its driver takes from a Kerf timer, whether a boundary has
seen ON at 0 since the output locked, the qualified edges of the frame and whether one was lost on the link, the MODE of
the last boundary, the runs of boundaries with OVR, UNR and an open load, and whether this run of OVR or UNR was reported. -/
structure Pin where
  level : Bool := false
  filt : Bool := false
  agree : Nat := 0
  mv : Nat := 0
  line : Bool := false
  offSeen : Bool := false
  edges : Nat := 0
  lost : Bool := false
  was : Nat := 0
  ovrRun : Nat := 0
  unrRun : Nat := 0
  openRun : Nat := 0
  ranged : Bool := false
  deriving DecidableEq, Repr

/-- A sensor supply beside its registers (R149): whether SS_FAULT is outstanding, whether its output is low, since when it
has worked normally (on, neither limiting nor low), and whether it had done so for 1 s when limiting began. -/
structure SenSup where
  fault : Bool := false
  under : Bool := false
  onAt : Option Nat := none
  long : Bool := false
  deriving DecidableEq, Repr

/-- The Forester's mirror of UIOp_VAL, which UIO_READ answers from, and FRM_NUM_LO of its boundary (R166). -/
structure UioMirror where
  frm : Nat := 0
  vals : List Word := List.replicate 96 0
  deriving DecidableEq, Repr

/-- A Kerf timer beside its registers (R143-R145, R153, R154): the frame of its reference boundary, the line, the duty
loaded at the last period start, the capture: edges (ticks), the last interval, the quadrature decoder; and the edges sent to a
limb that it has not applied yet (R147). -/
structure Kt where
  refAt : Nat := 0
  line : Bool := false
  duty : Nat := 0
  edges : List Nat := []
  lastEdge : Option Nat := none
  interval : Option Nat := none
  pos : Int := 0
  posHist : List Int := []
  levelA : Bool := false
  levelB : Bool := false
  lastTs : Option (Nat × Bool) := none
  prevPos : Int := 0
  quadRaised : Bool := false
  sent : List Bool := []
  deriving DecidableEq, Repr

/-- The last sense message of a die (R157): a number of its frame and slot, the stud voltage, the sums and counts, the channel states
and the hold state it carried. -/
structure SenseRx where
  id : Nat
  stud : Nat
  cur : List (Nat × Int × Nat)
  states : List Nat
  hold : Bool
  deriving DecidableEq, Repr

/-- A current controller beside its registers (R158-R161, R509): iref in 1/16 mA, iref_d in nA, the integrator in
10^-15 of full duty, the dither phase in slots, the last interval sums and counts, the runs of present and of missing
slots, the saturation of the frame, and the run of saturated frames. -/
structure Kc where
  iref : Int := 0
  irefd : Int := 0
  integ : Int := 0
  phase : Nat := 0
  sums : List (Int × Nat) := []
  presentRun : Nat := 0
  missRun : Nat := 0
  lastMsg : Option Nat := none
  execs : Nat := 0
  satAll : Bool := true
  satRaised : Bool := false
  satRun : Nat := 0
  rest : List Nat := []
  studs : List Nat := []
  duties : List Nat := []
  deriving DecidableEq, Repr

/-- A CAN frame in the words of R180-R182: W0, W1, TIME and its data bytes. -/
structure CanMsg where
  w0 : Word
  w1 : Word
  time : Nat := 0
  data : List Byte := []
  deriving DecidableEq, Repr

/-- A frame to send, with its source (R179): none the Landing feed, q below 64 queue q, 64 the Forester's source queue;
TAG, GEN and CPL of its descriptor, and the not-before instant. -/
structure CanTx where
  src : Option Nat
  msg : CanMsg
  tag : Nat := 0
  gen : Nat := 0
  cpl : Bool := false
  notBefore : Option Nat := none
  deriving DecidableEq, Repr

/-- A CAN controller beside its registers (06_can.md): the FIFO with its count of frames (R185), the shadow slots
(R184), the source lists (R179, R196), the fed buffers, the buffer offered on the bus, the aborts that wait for it
(R181), the source last served, the per-frame marks, and the local clock where RUN = 0 applied until it stops (R176). -/
structure Can where
  fifo : List (Nat × CanMsg) := []
  fifoTag : Nat := 0
  shadows : List (Nat × CanMsg) := []
  landing : List CanTx := []
  sends : List CanTx := []
  bufs : List (Option CanTx) := [none, none, none]
  offered : Option Nat := none
  aborts : List Nat := []
  lastServed : Nat := 0
  ovrRaised : List Nat := []
  lostRaised : Bool := false
  stopAt : Option Nat := none
  deriving DecidableEq, Repr

/-- A transceiver beside its registers (R190): when it last detected wake activity. -/
structure Trx where
  wakeAt : Option Nat := none
  deriving DecidableEq, Repr

/-- A key blob (R398): its header fields, SEQ, the material in clear as the slot or the unwrapping gives it, and whether
its tag or header fails. -/
structure Blob where
  cls : Nat
  lcs : Nat
  ktype : Nat
  usage : Nat
  owner : Nat
  kid : Nat
  seq : Nat
  key : List Byte
  bad : Bool := false
  deriving DecidableEq, Repr

/-- A copy of a key commit record (R400); `pos` 0xFF for a deleted KID. -/
structure KeyCommit where
  cseq : Nat
  pos : Nat
  seq : Nat
  deriving DecidableEq, Repr

/-- A KID of the key directory (R400): positions 0 and 1, copies 0 and 1 of its commit record (none: invalid). -/
structure KeyEntry where
  kid : Nat
  p0 : Option Blob := none
  p1 : Option Blob := none
  c0 : Option KeyCommit := none
  c1 : Option KeyCommit := none
  deriving DecidableEq, Repr

/-- A crypto job begun (R326, R410): virtual queue, hardware queue, descriptor, whether it is started on an engine, whether
its slot is to be zeroized (R403). -/
structure Job where
  vq : Nat
  queue : Nat
  desc : List Byte
  dead : Bool := false
  deriving DecidableEq, Repr

/-- Keys and security beside their registers (14_keys_security.md): the level of DBG-EN, the OTP (life-cycle words: 0
blank, 1 programmed, 2 torn; SEALED; UID; PUF enrolled), the life-cycle code seen at the last start, slots and private
slots, the key directory, the challenge with its instant and request, wrong responses, lockout and authorization
ends, jobs and the virtual queue each engine serves, the slots to zeroize at the end of a unit with the reason (R403). -/
structure Sec where
  dbgEn : Bool := true
  words : List Nat := List.replicate 5 0
  sealed : Bool := false
  uid : Nat := 0
  lcSeen : Nat := 0
  slots : List (Option Blob) := List.replicate 32 none
  privs : List (Option Blob) := List.replicate 4 none
  dir : List KeyEntry := []
  chal : Option (List Byte × Nat × List Byte) := none
  fails : List Nat := []
  lockEnd : Option Nat := none
  authEnd : Option Nat := none
  jobs : List Job := []
  serving : List (Option Nat) := List.replicate 5 none
  clearing : List (Nat × Nat) := []
  deriving DecidableEq, Repr

/-- The supervisor beside its registers (17_supervisor.md): the next step of R457 to release (9 when all are released),
the sources asserted with their reach (0 Whole, 1 Module, 2 Crown), the main regulator, the thresholds of R451 and R452,
straps to be sampled, the BOOT action of the start, OPTIONS copies, interrupted loads, the hold-off, clock fall-back and
a failing TCXO, the time base lost since, the watchdog, whether Safe Hold has a record as its cause, whether the boot
record or the slot is bad, the end of SYS_RESET's delay, the sources of the last reset (R419), the regulator-off instant of Sleep (R212), the
image request of Update mode, WDGREACH of the options in force, straps sampled since the last start. -/
structure Sup where
  rel : Nat := 2
  srcs : List (Nat × Nat) := []
  regOn : Bool := false
  startOk : Bool := false
  lossA : Bool := false
  lossB : Bool := false
  ext : Bool := false
  hot : Bool := false
  cut : Bool := false
  strapDue : Bool := true
  boot : Nat := 0
  opts : Record := {}
  intr : List Nat := []
  holdEnd : Option Nat := none
  holdNew : Bool := false
  fallback : Bool := false
  tcxoBad : Bool := false
  belowHold : Bool := false
  localFrom : Option Nat := none
  kickAt : Nat := 0
  periodSet : Bool := false
  safeRec : Bool := false
  bootBad : Bool := false
  swr : Option (Nat × Nat) := none
  lastSrc : List Nat := []
  offAt : Option Nat := none
  imageAt : Option Nat := none
  wdgReach : Bool := false
  strapNew : Bool := false
  deriving DecidableEq, Repr

/-- A hart (R279, R303, R324): whether it runs, its world, mode and pc, WEPC and WCAUSE, the instant of its WCALL, a
frame tick held while it is in heartwood, whether a debugger holds it halted or in reset, the last illegal-instruction
exception, and what a debugger wrote (register number, value). -/
structure Hart where
  run : Bool := false
  heart : Bool := false
  mode : Nat := 3
  pc : Nat := 0
  wepc : Nat := 0
  wcause : Nat := 0
  callAt : Option Nat := none
  ticks : Nat := 0
  held : Bool := false
  dbg : Bool := false
  rst : Bool := false
  trap : Bool := false
  wrote : List (Nat × Nat) := []
  deriving DecidableEq, Repr

/-- What the debug module last answered on X6 (R302, R303): nothing yet, a request carried out, the core unavailable, or busy
with a full replay FIFO. -/
inductive DbgAns where
  | none | done | unavailable | busy
  deriving DecidableEq, Repr

/-- The application complex beside its registers (10_application_complex.md): harts, the replay FIFO of each pair as the
instants of its writes (R303), poisoned 64-bit words by address (R287), memories whose MEM_CE event was raised in the
frame, pairs that ran when another pair's mismatch halted them, with the instant (R294), and the debug module's last answer. -/
structure Cpx where
  harts : List Hart := List.replicate 16 {}
  fifo : List (List Nat) := List.replicate 8 []
  poison : List Nat := []
  ceRaised : List Nat := []
  sameHalt : List (Nat × Nat) := []
  dbgAns : DbgAns := .none
  deriving DecidableEq, Repr

/-- A parameter area of the island (R357). -/
structure IslPar where
  seq : Nat
  body : List Byte
  check : Nat
  user : Nat
  deriving DecidableEq, Repr

/-- A fault of an input, TP or SO (R338, R339, R344), or of the island: code, source, whether its cause persists. -/
structure IslFault where
  code : Nat
  source : Nat
  live : Bool := true
  deriving DecidableEq, Repr

/-- The safety island beside its registers (12_safety_island.md): parameter areas of banks A and B, the pending body, the
bank selector, whether a trial bank runs, the firmware words of the banks, the bank operation in progress; the last
evaluation, its end, whether it came from the own timer; instants of island faults and whether the third has come;
SAFE-RESET: high since, low since, a release to take, stuck; inputs discrepant since; correct TP periods by TP and by input; output taps: runs of
evaluations by condition, low since, lines high since; trips; OFF_DELAY ends and demands by function; evaluations of a
function since the last one with a fault, up to 2; safe wires: valid periods and the last valid edge; pair terms; faults, the log of the
last 16, events for the Forester with the evaluation count, filtered
channel levels, safe wires in demand, the mirror and its frame. -/
structure Sil where
  pars : List (Option IslPar) := [none, none]
  pend : List Byte := []
  sel : Nat := 0
  onTrial : Bool := false
  fw : List (List (Nat × Word)) := [[], []]
  op : Option (Option (Nat × Word)) := none
  startAt : Nat := 0
  evalAt : Option Nat := none
  evalDone : Bool := true
  faultAt : List Nat := []
  dead : Bool := false
  lineAt : Nat := 0
  high : Option Nat := none
  low : Option Nat := none
  release : Bool := false
  stuck : Bool := false
  disc : List (Option Nat) := List.replicate 8 none
  tpGood : List Nat := List.replicate 4 0
  siGood : List Nat := List.replicate 8 0
  extRun : List Nat := List.replicate 4 0
  midRun : List Nat := List.replicate 4 0
  lowRun : List Nat := List.replicate 4 0
  tapLow : List (Option Nat) := List.replicate 4 none
  onAt : List (Option Nat) := List.replicate 4 none
  trips : List Bool := List.replicate 4 false
  offEnd : List (Option Nat) := List.replicate 16 none
  demands : List Nat := List.replicate 16 0
  clearFor : List Nat := List.replicate 16 0
  swiGood : List Nat := List.replicate 4 0
  swiAt : List (Option Nat) := List.replicate 4 none
  pairs : Nat := 0
  faults : List IslFault := []
  log : List (Nat × Nat × Nat × Nat) := []
  evs : List (Nat × List Byte × Nat) := []
  flt : List (Bool × Bool) := List.replicate 8 (false, false)
  swiDem : List Bool := List.replicate 4 true
  mirror : List Word := List.replicate 11 0
  mirrorFrame : Nat := 0
  deriving DecidableEq, Repr

/-- A pairing frame sent (R389): its type, SEQ and body. -/
structure PairTx where
  type : Nat
  seq : Nat
  body : List Byte
  deriving DecidableEq, Repr

/-- The pairing unit beside its registers (13_pairing.md): the end of the ARBITRATE wait, the last service by the
Forester, last RENEW, CHK-LEASE period, HELLO and receipt at all; inputs valid or high since; path events raised; the image with its SEQ and whether one is held;
STATE values; the checkpoint in progress and the newest complete one; published, send and restored slots or turns; what the
partner reported (SYNCED, digests equal); SEQ by TYPE sent and expected; tx, tb and the stage of a takeover; the handback
boundary and whether this module takes; the MIRROR that waits for its ACK; frames of the last send; the
frames of an IMAGE so far, the lead's frame number, the levels of CHK-LEASE OUT and CHK-RELEASE OUT, and whether a stuck
release was reported. An expected SEQ of 65,536 stands for any. -/
structure PairU where
  waitEnd : Option Nat := none
  held : Bool := false
  served : Nat := 0
  renewAt : Option Nat := none
  sigAt : Option Nat := none
  helloAt : Option Nat := none
  sigFrom : Option Nat := none
  relFrom : Option Nat := none
  relLow : Nat := 0
  lost : Bool × Bool := (false, false)
  mismatch : Bool := false
  image : List (Nat × Word) := []
  haveImage : Bool := false
  kcs : List (Nat × Int × Int) := []
  ckptTurn : Nat := 0
  ckptParts : List (Nat × Nat × List Byte) := []
  ckptDone : Option (Nat × List (Nat × List Byte)) := none
  pub : List (Option Nat) := List.replicate 16 none
  send : List (Option Nat) := List.replicate 16 none
  restored : List (Option Nat) := List.replicate 16 none
  ckptGot : Bool := false
  ckptOut : List (Nat × Nat) := []
  ckptShare : Nat := 0
  sendTurn : Nat := 0
  fromCkpt : List Nat := []
  final : Option Nat := none
  peerSynced : Bool := false
  digests : Bool := false
  peerFlags : Nat := 0
  txSeq : List Nat := List.replicate 9 0
  rxSeq : List Nat := List.replicate 9 65536
  tx : Option Nat := none
  tb : Nat := 0
  stage : Nat := 0
  syncedAt : Bool := false
  handT : Option Nat := none
  taking : Bool := false
  mirror : Option (Nat × Nat) := none
  mirrorHold : Bool := false
  sleepFlag : Bool := false
  sent : List PairTx := []
  imgRun : Nat := 0
  leadFrame : Nat := 0
  chkLease : Bool := false
  chkRel : Bool := false
  stuck : Bool := false
  deriving DecidableEq, Repr

/-- A component in a slot or a package (R416, R417, R421): number, version, bytes, digest, ranges. -/
structure Comp where
  num : Nat
  ver : Nat
  data : List Byte
  digest : List Byte
  ranges : List (Nat × Nat × Nat) := []
  deriving DecidableEq, Repr

/-- A code flash slot (R417): whether its directory is valid, and its components. -/
structure Slot where
  ok : Bool := false
  comps : List Comp := []
  deriving DecidableEq, Repr

/-- A copy of the boot record (R418); `lcs` is the life-cycle state under whose key its HMAC is valid. -/
structure BootRec where
  seq : Nat := 1
  active : Nat := 0
  trial : Nat := 0
  kind : Nat := 0
  starts : Nat := 0
  comp : Nat := 0
  rollback : Nat := 0
  pkg : Nat := 0
  window : Nat := 0
  tstart : Nat := 0
  owner : Nat := 0
  lcs : Nat := 0
  deriving DecidableEq, Repr

/-- A copy of the progress bitmap (R424): PACKAGE_ID, SEQ, bits. -/
structure BitCopy where
  pkg : Nat
  seq : Nat
  bits : Nat
  deriving DecidableEq, Repr

/-- Field update (15_field_update.md): slots A and B, copies of the boot record, the staged header (empty: none) with its
OWNER, bitmap copies and billets, components found ready, the slot that runs, the digests in the microcode RAMs (boles,
limbs, switch; empty after a loss), migration copies M0 and M1 by record type, whether a record is read from them. -/
structure Updater where
  slots : List Slot := [{}, {}]
  b0 : Option BootRec := none
  b1 : Option BootRec := none
  header : List Byte := []
  owner : Nat := 0
  m0 : Option BitCopy := none
  m1 : Option BitCopy := none
  billets : List (Nat × List Byte) := []
  ready : List Nat := []
  running : Nat := 0
  ucode : List (List Byte) := List.replicate 7 []
  migr : List Record := List.replicate 11 {}
  landing : Option Nat := none
  deriving DecidableEq, Repr

/-- A ring segment of the Tally ring (R202-R207): its entry, protocol state (TLY_GET's code) with its stage while
FORMING, the present set and the nodes that join at the next round, the READY bits of the round and of the last complete
one, ROUND and PHASE, whether all were ready and acknowledged, the first that was not, the last message, the sleep-wait.
Stages: 0 listening, 1 ring heard, 2 waiting to send a formation message, 3 to send a JOIN, 4 before round 0, 5 left. -/
structure Ring where
  on : Bool := false
  bad : Bool := false
  seg : Nat := 0
  addr : Nat := 0
  st : Nat := 4
  stage : Nat := 0
  heard : Bool := false
  present : Nat := 0
  joined : Nat := 0
  ready : Nat := 0
  lastReady : Nat := 0
  round : Nat := 255
  phase : Nat := 0
  nextPhase : Nat := 0
  allReady : Bool := true
  allAck : Bool := true
  nay : Nat × Nat := (255, 0)
  active : Bool := false
  lastNode : Option Nat := none
  lastNext : Nat := 0
  waitFrom : Option Nat := none
  protoErrs : Nat := 0
  deriving DecidableEq, Repr

/-- A stay-awake request (R209): its expiry in ns, its duration in s, its renewals. -/
structure Stay where
  pid : Nat
  reason : Nat
  dur : Nat
  expiry : Nat
  renewals : Nat := 0
  deriving DecidableEq, Repr

/-- Network sleep and wake beside the registers (07_tally_ring.md): ring segments, the pending view (R200), stay-awake
requests, alarms by partition (R214), the filtered WAKE-IN levels (R199), whether MINAWAKE has ended, since when no veto is
active (R207), the frames that the reserved Landing routes hold for each ring (R202), the local sleep-wait,
TRXj_CTRL as configured while the transceivers are in SLEEP for a commit (R210), and the commit point while the regulator-off is to come (R211). -/
structure Tally where
  rings : List Ring := List.replicate 4 {}
  view : Nat := 0
  stays : List Stay := []
  alarms : List (Option Nat) := List.replicate 16 none
  wakeIn : List Bool := List.replicate 4 false
  awake : Bool := false
  quietFrom : Option Nat := none
  inbox : List (List CanFrame) := List.replicate 4 []
  localWait : Option Nat := none
  ready : Option (List Word) := none
  commitAt : Option Nat := none
  deriving DecidableEq, Repr

/-- What the time unit holds of a gPTP domain beside the page that its registers show (R233, R242): the last accepted
Sync as a reading of the local clock, offset and rate against that clock, grandmaster identity, return qualification, the
port on which it was received; and
what tracks the domain between Syncs: the instant of that Sync, the domain time at it, its rate against the TCXO nominal. -/
structure Dom where
  sync : Option Nat := none
  ofs : Int := 0
  rate : Int := 0
  gmid : Nat := 0
  ret : Bool := false
  at_ : Nat := 0
  base : Int := 0
  nom : Int := 0
  port : Nat := 31
  deriving DecidableEq, Repr

/-- A forwarding database entry (R219): ports as a mask; a learned entry names one. -/
structure FdbEntry where
  mac : Nat
  vid : Nat
  ports : Nat
  fixed : Bool
  deriving DecidableEq, Repr

/-- A VLAN (R219): member ports, untagged egress ports, member queue pairs. -/
structure Vlan where
  vid : Nat
  members : Nat
  untagged : Nat
  qps : Nat
  deriving DecidableEq, Repr

/-- A stream filter (R229). -/
structure QciFilter where
  mac : Nat
  vid : Nat
  bySrc : Bool
  blockOver : Bool
  gate : Nat
  meter : Nat
  maxSdu : Nat
  blocked : Bool := false
  deriving DecidableEq, Repr

/-- A gate list (R226): in use, cycle in frames, entries as gates and interval in ns. -/
structure GateList where
  en : Bool := false
  k : Nat := 1
  entries : List (Nat × Nat) := []
  deriving DecidableEq, Repr

/-- A stream gate: the list in force and one that waits for its cycle start (R228, R229). -/
structure QciGate where
  oper : GateList := {}
  admin : Option GateList := none
  deriving DecidableEq, Repr

/-- A flow meter (R229): rates in kbit/s, bursts in bytes, the buckets in bits × 10^6 and when they were last filled. -/
structure QciMeter where
  cir : Nat
  eir : Nat
  cbs : Nat
  ebs : Nat
  ctok : Nat
  etok : Nat
  at_ : Nat
  deriving DecidableEq, Repr

/-- A frame in the switch buffer (R220-R225): its TC, ingress port, the queue pair it is for (host ports), and what its
descriptor asked: a timestamp identifier, a completion with queue, TAG and GEN. -/
structure EthQd where
  frame : EthFrame
  tc : Nat
  ingress : Nat
  qp : Nat := 0
  tsId : Option Nat := none
  cpl : Option (Nat × Nat × Nat) := none
  deriving DecidableEq, Repr

/-- A switch port beside its registers: frames queued in arrival order, the frame on the wire (R220), the timestamp queue, the
list in force, which is the admin list of reset at first (R228), class S values that wait for the port to stop (R246), the
mark of ETH_DROP, and the boundaries in a row with SQI below 3 with the mark that they have been told (R247). -/
structure EthPort where
  queue : List EthQd := []
  current : Option EthQd := none
  tsq : List (Nat × Nat × Nat) := []
  oper : GateList := { entries := [(0xFF, 250000)] }
  waitS : Option (Nat × Nat × Nat × Nat) := none
  dropRaised : Bool := false
  sqiRun : Nat := 0
  sqiTold : Bool := false
  deriving DecidableEq, Repr

/-- The switch beside its registers (08_ethernet_time.md): tables, ports, the receive buffers posted by queue pair, the
mark of ETH_RXQ_STALL, Landing's frames that wait in HP3's transmit queue with their egress ports (R260), and the sequence numbers of the gPTP messages. -/
structure Eth where
  fdb : List FdbEntry := []
  vlans : List Vlan := []
  filters : List (Nat × QciFilter) := []
  gates : List (Nat × QciGate) := []
  meters : List (Nat × QciMeter) := []
  ports : List EthPort := List.replicate 21 {}
  posted : List (List Nat) := List.replicate 32 []
  stallRaised : Bool := false
  hp3Tx : List (Nat × EthQd) := []
  ptpSeq : Nat := 0
  deriving DecidableEq, Repr

/-- An execution that Landing has taken (R261): its route, whether it is the build of an emission, the source's W0, W1
or PDU ID, the source data, the not-before instant of the emission, and for a PDU its container with the mark that it is the last. -/
structure LgwItem where
  route : Nat
  build : Bool := false
  w0 : Word := 0
  data : List Byte := []
  nb : Nat := 0
  ctn : Option (Nat × Bool) := none
  deriving DecidableEq, Repr

/-- What Landing keeps of a route beside its slot: the boundary of its last update or enable (R255), the turn in which EN
applied (R256), the frame of its last build, and the last frame of a FRAME route. -/
structure LgwRt where
  upd : Nat := 0
  turn : Nat := 0
  built : Option Nat := none
  frame : Option (Word × List Byte) := none
  deriving DecidableEq, Repr

/-- Landing beside its registers, entries and slots (09_landing_gwebry.md): the count of executions of the frame and the
pending list (R261), emitters with an update since their last build (R256), routes, turns counted, the PDUs built of a container that has not left (R260), SEQ by container
(R259), the last frame in which a container was built, the silence of R385, recovery histories of received streams
(R388), and the per-frame marks. -/
structure Lgw where
  execs : Nat := 0
  wait : List LgwItem := []
  due : List Nat := []
  rts : List (Nat × LgwRt) := []
  turns : Nat := 0
  pdus : List (Nat × List (List Byte)) := []
  seqs : List (Nat × Nat) := []
  ctnAt : List (Nat × Nat) := []
  silent : Bool := false
  streams : List (Nat × Nat × List Nat) := []
  badRaised : Bool := false
  misRaised : List Nat := []
  twinRaised : Bool := false
  deriving DecidableEq, Repr

/-- A request on a Gwebry link (R267-R271): tag, requester, address, the word written if it is a write, whether it is a
posted write (one that waits for a training link or a lock), whether its requester still waits, and the completion
held for it once it has arrived (data, error type). -/
structure GwbTx where
  tag : Nat
  attr : Attr
  addr : Nat
  val : Option Word := none
  posted : Bool := false
  waits : Bool := true
  held : Option (Word × Option Nat) := none
  deriving DecidableEq, Repr

/-- A held prefetch line (R272, R273): its address, its words, and which of its words are read-sensitive and not read. -/
structure GwbLine where
  addr : Nat
  words : List Word
  sens : List Bool
  deriving DecidableEq, Repr

/-- A Gwebry link beside its page (R265-R275): requests in the order in which they came, those that their requesters repeat
because the issue buffer is full (R268), prefetch lines, the requester that holds or asks for the lock, the one whose next
access gets the LOCK error, failed replays of the packet and its sequence number, failed trainings, whether the link is down,
the mark of GWB_DELAYED_DISCARD. -/
structure Gwb where
  txs : List GwbTx := []
  again : List GwbTx := []
  nextTag : Nat := 0
  lines : List GwbLine := []
  locker : Option Attr := none
  lockErr : Option Attr := none
  replays : Nat := 0
  replaySeq : Nat := 0
  fails : Nat := 0
  down : Bool := false
  discRaised : Bool := false
  deriving DecidableEq, Repr

/-- The service UART (R489): the bytes of a frame not yet complete, and the replies to the last bytes received. -/
structure Uart where
  buf : List Byte := []
  replies : List (List Byte) := []
  deriving DecidableEq, Repr

/-- The local clock (R231): an instant, what the clock reads beyond it there in 10^-9 ns, and the rate in ppb by which
it runs faster than the TCXO from there on, which TMU_STEER shows. -/
structure Clock where
  at_ : Nat := 0
  ofs : Int := 0
  rate : Int := 0
  deriving DecidableEq, Repr

/-- The state of the module. `pending` is the queue of commands that wait, first in, first out; `now` is ns since
the wake domain's power-on, and `clk` the local clock of the time unit (R231); `freeCtr` counts the free values taken so far (the model's own field, not the spec's). -/
structure State where
  pending : List Instr := []
  now : Nat := 0
  freeCtr : Nat := 0
  regs : List (Nat × Word) := []
  staged : List (Nat × Word) := []
  stagedTab : List (Nat × List Byte) := []
  commits : List Commit := []
  mem : List Host.Cell := []
  clk : Clock := {}
  bus : BusResp := {}
  events : List EvRec := []
  frm : FrameGen := {}
  mbxs : List Mbx := List.replicate 17 {}
  longs : List LongCmd := []
  svcBuf : List (Nat × Byte) := []
  fwVersion : Nat := 0
  records : List Record := List.replicate 11 {}
  queues : List QState := List.replicate 64 {}
  parts : List Part := List.replicate 16 {}
  inc : Recorder := {}
  chans : List Chan := List.replicate 64 {}
  boles : List Bole := List.replicate 4 {}
  dies : List FarDie := List.replicate 6 {}
  sos : List SoSw := List.replicate 8 {}
  gov : Gov := {}
  pins : List Pin := List.replicate 96 {}
  uioMirror : UioMirror := {}
  sups : List SenSup := List.replicate 8 {}
  extIn : List (Bool × Bool) := List.replicate 8 (false, false)
  kts : List Kt := List.replicate 128 {}
  kcs : List Kc := List.replicate 32 {}
  sense : List (Option SenseRx) := List.replicate 4 none
  cans : List Can := List.replicate 24 {}
  trxs : List Trx := List.replicate 24 {}
  sec : Sec := {}
  svr : Sup := {}
  tly : Tally := {}
  doms : List Dom := [{}, {}]
  eth : Eth := {}
  lgw : Lgw := {}
  gwbs : List Gwb := List.replicate 6 {}
  cpx : Cpx := {}
  sil : Sil := {}
  pairU : PairU := {}
  upd : Updater := {}
  uart : Uart := {}
  deriving DecidableEq, Repr

/-- The machine right after reset: every register at its Reset column, nothing pending. -/
def State.reset : State := {}

end Sys2Proof.Machine
end

