-- ==== Sys2Proof/Machine/Update.lean ====
section
/-! DEFINITION. One update per field of State: the field changed by a function, every other field as it was. -/

namespace Sys2Proof.Machine

def State.onPending (f : List Instr → List Instr) (s : State) : State := { s with pending := f s.pending }
def State.onNow (f : Nat → Nat) (s : State) : State := { s with now := f s.now }
def State.onFreeCtr (f : Nat → Nat) (s : State) : State := { s with freeCtr := f s.freeCtr }
def State.onRegs (f : List (Nat × Word) → List (Nat × Word)) (s : State) : State := { s with regs := f s.regs }
def State.onStaged (f : List (Nat × Word) → List (Nat × Word)) (s : State) : State := { s with staged := f s.staged }
def State.onStagedTab (f : List (Nat × List Byte) → List (Nat × List Byte)) (s : State) : State := { s with stagedTab := f s.stagedTab }
def State.onCommits (f : List Commit → List Commit) (s : State) : State := { s with commits := f s.commits }
def State.onMem (f : List Host.Cell → List Host.Cell) (s : State) : State := { s with mem := f s.mem }
def State.onClk (f : Clock → Clock) (s : State) : State := { s with clk := f s.clk }
def State.onBus (f : BusResp → BusResp) (s : State) : State := { s with bus := f s.bus }
def State.onEvents (f : List EvRec → List EvRec) (s : State) : State := { s with events := f s.events }
def State.onFrm (f : FrameGen → FrameGen) (s : State) : State := { s with frm := f s.frm }
def State.onMbxs (f : List Mbx → List Mbx) (s : State) : State := { s with mbxs := f s.mbxs }
def State.onLongs (f : List LongCmd → List LongCmd) (s : State) : State := { s with longs := f s.longs }
def State.onSvcBuf (f : List (Nat × Byte) → List (Nat × Byte)) (s : State) : State := { s with svcBuf := f s.svcBuf }
def State.onFwVersion (f : Nat → Nat) (s : State) : State := { s with fwVersion := f s.fwVersion }
def State.onRecords (f : List Record → List Record) (s : State) : State := { s with records := f s.records }
def State.onQueues (f : List QState → List QState) (s : State) : State := { s with queues := f s.queues }
def State.onParts (f : List Part → List Part) (s : State) : State := { s with parts := f s.parts }
def State.onInc (f : Recorder → Recorder) (s : State) : State := { s with inc := f s.inc }
def State.onChans (f : List Chan → List Chan) (s : State) : State := { s with chans := f s.chans }
def State.onBoles (f : List Bole → List Bole) (s : State) : State := { s with boles := f s.boles }
def State.onDies (f : List FarDie → List FarDie) (s : State) : State := { s with dies := f s.dies }
def State.onSos (f : List SoSw → List SoSw) (s : State) : State := { s with sos := f s.sos }
def State.onGov (f : Gov → Gov) (s : State) : State := { s with gov := f s.gov }
def State.onPins (f : List Pin → List Pin) (s : State) : State := { s with pins := f s.pins }
def State.onUioMirror (f : UioMirror → UioMirror) (s : State) : State := { s with uioMirror := f s.uioMirror }
def State.onSups (f : List SenSup → List SenSup) (s : State) : State := { s with sups := f s.sups }
def State.onExtIn (f : List (Bool × Bool) → List (Bool × Bool)) (s : State) : State := { s with extIn := f s.extIn }
def State.onKts (f : List Kt → List Kt) (s : State) : State := { s with kts := f s.kts }
def State.onKcs (f : List Kc → List Kc) (s : State) : State := { s with kcs := f s.kcs }
def State.onSense (f : List (Option SenseRx) → List (Option SenseRx)) (s : State) : State := { s with sense := f s.sense }
def State.onCans (f : List Can → List Can) (s : State) : State := { s with cans := f s.cans }
def State.onTrxs (f : List Trx → List Trx) (s : State) : State := { s with trxs := f s.trxs }
def State.onSec (f : Sec → Sec) (s : State) : State := { s with sec := f s.sec }
def State.onSvr (f : Sup → Sup) (s : State) : State := { s with svr := f s.svr }
def State.onTly (f : Tally → Tally) (s : State) : State := { s with tly := f s.tly }
def State.onDoms (f : List Dom → List Dom) (s : State) : State := { s with doms := f s.doms }
def State.onEth (f : Eth → Eth) (s : State) : State := { s with eth := f s.eth }
def State.onLgw (f : Lgw → Lgw) (s : State) : State := { s with lgw := f s.lgw }
def State.onGwbs (f : List Gwb → List Gwb) (s : State) : State := { s with gwbs := f s.gwbs }
def State.onCpx (f : Cpx → Cpx) (s : State) : State := { s with cpx := f s.cpx }
def State.onSil (f : Sil → Sil) (s : State) : State := { s with sil := f s.sil }
def State.onPairU (f : PairU → PairU) (s : State) : State := { s with pairU := f s.pairU }
def State.onUpd (f : Updater → Updater) (s : State) : State := { s with upd := f s.upd }
def State.onUart (f : Uart → Uart) (s : State) : State := { s with uart := f s.uart }

end Sys2Proof.Machine
end

