-- ==== Sys2Proof/Machine/Ops.lean ====
section
/-! DEFINITION. The named operations over registers, memory and time that every meaning uses. A block has no exception
entry; raising an event stands in Machine/Events.lean. -/

namespace Sys2Proof.Machine

/-- The outcome of a command. -/
abbrev Out := Host.Outcome State Fault Refusal

/-- What a byte of memory that nothing has written reads as (R286 leaves RAM contents open). DESIGN CHOICE. -/
def memDefault (_ : Nat) : Byte := 0

/-- A field that lies in its word. -/
def Fld.ok (f : Fld) : Prop := f.lo ≤ f.hi ∧ f.hi < 32

/-- Two fields with no bit in common. -/
def Fld.apart (f g : Fld) : Prop := f.addr ≠ g.addr ∨ f.hi < g.lo ∨ g.hi < f.lo

/-- The active word of a register. -/
def State.raw (s : State) (a : Nat) : Word := sget regReset s.regs a

/-- A register word set. -/
def State.setRaw (s : State) (a : Nat) (v : Word) : State := s.onRegs fun r => sset regReset r a v

/-- The active value of a field. -/
def State.rd (s : State) (f : Fld) : Nat := bitsOf (s.raw f.addr) f.hi f.lo

/-- A field set; the register's other bits stay. -/
def State.wr (s : State) (f : Fld) (v : Nat) : State := s.setRaw f.addr (setBits (s.raw f.addr) f.hi f.lo v)

/-- Whether a field is not 0. -/
def State.isSet (s : State) (f : Fld) : Bool := s.rd f ≠ 0

/-- A one-bit field set to a truth value. -/
def State.wrB (s : State) (f : Fld) (b : Bool) : State := s.wr f (b2n b)

/-- A counter field raised by k, stopping at its largest value. -/
def State.bump (s : State) (f : Fld) (k : Nat := 1) : State := s.wr f (sat (2 ^ (f.hi + 1 - f.lo) - 1) (s.rd f + k))

/-- A counter field raised by k, modulo its width. -/
def State.count (s : State) (f : Fld) (k : Nat := 1) : State := s.wr f (s.rd f + k)

/-- A 64-bit value in two registers. -/
def State.wr64 (s : State) (lo hi : Nat) (v : Nat) : State :=
  (s.setRaw lo (BitVec.ofNat 32 v)).setRaw hi (BitVec.ofNat 32 (v / 2 ^ 32))

/-- The 64-bit value of two registers. -/
def State.rd64 (s : State) (lo hi : Nat) : Nat := (s.raw lo).toNat + 2 ^ 32 * (s.raw hi).toNat

/-- A state changed only under a condition. -/
def State.when (s : State) (c : Bool) (f : State → State) : State := if c then f s else s

/-- A change made for each element of a list, in order. -/
def State.each {α : Type} (s : State) (l : List α) (f : State → α → State) : State := l.foldl f s

/-- The registers of an address range return to their Reset column. -/
def State.clearRegs (s : State) (p : Nat → Bool) : State := s.onRegs fun r => r.filter fun e => !p e.1

/-- A byte of memory. -/
def State.memGet (s : State) (a : Nat) : Byte := sget memDefault s.mem a

/-- A byte of memory written. -/
def State.memSet (s : State) (a : Nat) (v : Byte) : State := s.onMem fun m => sset memDefault m a v

/-- A byte string written from an address on. -/
def State.memWrite (s : State) (a : Nat) : List Byte → State
  | [] => s
  | b :: t => (s.memSet a b).memWrite (a + 1) t

/-- A byte string read from an address on. -/
def State.memRead (s : State) (a : Nat) : Nat → List Byte
  | 0 => []
  | n + 1 => s.memGet a :: s.memRead (a + 1) n

/-- Poison of whole 64-bit words that a range covers is cleared (R287). -/
def State.unpoison (s : State) (a n : Nat) : State :=
  s.onCpx fun c => { c with poison := c.poison.filter fun w => !(decide (a ≤ w) && decide (w + 8 ≤ a + n)) }

/-- The 64-bit word of an address. -/
def wordBase (addr : Nat) : Nat := addr / 8 * 8
def State.isPoisoned (s : State) (addr : Nat) : Bool := s.cpx.poison.contains (wordBase addr)

/-- Poisoned words that a range touches. -/
def State.poisonIn (s : State) (a n : Nat) : List Nat := s.cpx.poison.filter fun w => decide (w < a + n) && decide (a < w + 8)

/-- A requester's write of bytes (R287): a poisoned word written whole is good again; what is narrower leaves it as it is. -/
def State.memPut (s : State) (a : Nat) (b : List Byte) : State :=
  if (s.poisonIn a b.length).isEmpty then s.memWrite a b
  else
    let s1 := s.unpoison a b.length
    s1.each ((b.zipIdx a).filter fun x => !s1.isPoisoned x.2) fun s x => s.memSet x.2 x.1

/-- Every byte of a range written 0, which is what an unlisted byte reads as. -/
def State.memZero (s : State) (a n : Nat) : State := s.onMem fun m => m.filter fun e => e.1 < a || a + n ≤ e.1

/-- The bytes of one range copied to another of the same length (the target range is zeroed first). -/
def State.memCopy (s : State) (src dst n : Nat) : State :=
  let cells := s.mem.filter fun e => src ≤ e.1 && e.1 < src + n
  (s.memZero dst n).each cells fun s e => s.memSet (e.1 - src + dst) e.2

/-- A free value: one that the spec leaves open, and the next state of the counter behind it. -/
def State.fresh (s : State) : BitVec 64 × State := (Config.freeValue s.freeCtr, s.onFreeCtr (· + 1))

/-- The reading of the local clock at an instant, in ns (R231). -/
def Clock.read (c : Clock) (t : Nat) : Nat :=
  (((t : Int) * 1000000000 + c.ofs + ((t : Int) - c.at_) * c.rate) / 1000000000).toNat

/-- The first instant at which the local clock has a reading or a later one. -/
def Clock.when (c : Clock) (lc : Int) : Nat :=
  (-((c.ofs - c.at_ * c.rate - lc * 1000000000) / (1000000000 + c.rate))).toNat

/-- The clock runs on from an instant at another rate. -/
def Clock.steer (c : Clock) (t : Nat) (rate : Int) : Clock :=
  { at_ := t, ofs := c.ofs + ((t : Int) - c.at_) * c.rate, rate := rate }

/-- The clock set to a reading at an instant, at the TCXO nominal rate. -/
def Clock.set (t lc : Nat) : Clock := { at_ := t, ofs := ((lc : Int) - t) * 1000000000 }

/-- The local clock of the time unit in ns (R231). -/
def State.lc (s : State) : Nat := s.clk.read s.now

/-- Bits 31 to 0 of the frame count (R37). -/
def State.frame (s : State) : Nat := (s.raw R.FRM_NUM_LO).toNat

/-- The reading of the local clock at the last frame boundary. -/
def State.frameLc (s : State) : Nat := s.clk.read s.frm.last

/-- The frame time since the last frame boundary: it runs by the local clock, so it scales with a slewed frame (R26). -/
def State.inFrame (s : State) : Nat := s.lc - s.frameLc

/-- The instant that lies a frame time after the last boundary (R26). -/
def State.frameAt (s : State) (off : Nat) : Nat := s.clk.when (s.frameLc + off)

/-- The seconds of the real-time clock (R198). -/
def State.rtc (s : State) : Nat := s.now / 1000000000

/-- The end of every meaning: the queue is not the command's (R24 to R510 know none), and the sparse lists stand in
their canonical form. -/
def State.finish (s t : State) : Out :=
  .next { t with pending := s.pending, regs := settle regReset t.regs, mem := settle memDefault t.mem }

end Sys2Proof.Machine
end

