-- ==== Sys2Proof/Machine/Events.lean ====
section
/-! DEFINITION. The incident recorder's entries (16_incidents.md) and the event router (R75): what raising an event
does. -/

namespace Sys2Proof.Machine

/-- Events still to raise: number, who may receive it, payload bytes 16 and on of the entry. -/
abbrev More := List (Nat × Owner × List Byte)

/-- Ring length of the alarm reserve and of the general ring (R439). -/
def alarmReserve : Nat := 8192
def generalRing : Nat := 57344

/-- Type number of a configuration record less 1 (R76). -/
def recManifest : Nat := 0
def recSafety : Nat := 1
def recPairing : Nat := 2
def recChannel : Nat := 3
def recFieldio : Nat := 4
def recCan : Nat := 5
def recNet : Nat := 6
def recLanding : Nat := 7
def recTally : Nat := 8
def recIncident : Nat := 9
def recKeypolicy : Nat := 10

/-- A stored copy of a record (R76). -/
def Record.copy (r : Record) (c : Nat) : List Byte := if c = 0 then r.c0 else r.c1

/-- A body as FORMAT 1 lays it out; what a later FORMAT says is that release's matter (R77). -/
def bodyOne (t : Nat) (c : List Byte) : List Byte :=
  let b := (c.drop 32).take (le c 4 4)
  if le c 2 2 = 1 then b else Config.formatOne (t + 1) (le c 2 2) b

/-- The record that the firmware reads (R77, R430): the migration copies while a trial uses them. -/
def State.inUse (s : State) (t : Nat) : Record :=
  let m := s.upd.migr.getD t {}
  if m.used.isSome then m else s.records.getD t {}

/-- The body of the copy in force of a record (R77). -/
def State.recBody (s : State) (t : Nat) : Option (List Byte) :=
  let r := s.inUse t
  r.used.map fun c => bodyOne t (r.copy c)

/-- Classes of a recorder entry (R438). -/
def clsAlarm : Nat := 0
def clsTrace : Nat := 1
def clsLog : Nat := 2

/-- The class of an event in the recorder (R436, R437, R446): none where it is not recorded. -/
def State.incClass (s : State) (e : Nat) : Option Nat :=
  if 464 ≤ e ∧ e ≤ 469 then none
  else match s.recBody recIncident with
    | some b =>
      match nbits (le b (32 + e / 4) 1) (2 * (e % 4) + 1) (2 * (e % 4)) with
      | 1 => some clsAlarm
      | 2 => some clsTrace
      | 3 => some clsLog
      | _ => none
    | none =>
      if e ≤ 31 ∨ e ∈ [34, 37, 66, 96, 97, 98, 128, 324, 386, 397, 419, 454, 489] then some clsAlarm else some clsTrace

/-- Whether an unflushed entry lies in the window of the freeze in progress (R445). -/
def Recorder.isFrozen (r : Recorder) (e : IncEntry) : Bool :=
  match r.freeze with
  | some f => decide (f.ttr ≤ e.time + f.pre ∧ e.time ≤ f.ttr + f.post)
  | none => false

/-- Entries of the general ring and of the alarm reserve. -/
def Recorder.general (r : Recorder) : Nat := (r.ring.filter fun e => !e.reserve).length
def Recorder.alarms (r : Recorder) : Nat := (r.ring.filter fun e => e.reserve).length

/-- INR_FILL as the ring stands (R447). -/
def State.incFill (s : State) : State :=
  (s.wr R.INR_FILL_GENERAL (s.inc.general / 2)).wr R.INR_FILL_ALARM s.inc.alarms

/-- A drop counted for its class and source (R442), with INC_DROP at most once per frame and class. -/
def State.incDrop (s : State) (cls source : Nat) : State × More :=
  let add := fun (x : Nat × Nat × Nat) =>
    if cls = clsTrace then (x.1, sat 0xFFFF (x.2.1 + 1), x.2.2) else (x.1, x.2.1, sat 0xFFFF (x.2.2 + 1))
  let ds := s.inc.srcDrops
  let ds' := if ds.any (fun x => x.1 = source) then ds.map fun x => if x.1 = source then add x else x
    else ds ++ [add (source, 0, 0)]
  let s1 := (s.onInc fun r => { r with srcDrops := ds', freeze := r.freeze.map fun f => { f with drops := f.drops + 1 } }).bump
    (if cls = clsTrace then R.INR_DROP_TRACE_COUNT else R.INR_DROP_LOG_COUNT)
  if cls ∈ s.inc.dropRaised then (s1, [])
  else (s1.onInc fun r => { r with dropRaised := cls :: r.dropRaised },
    [(465, .sys, BitVec.ofNat 8 cls :: leBytes 2 source)])

/-- A new entry at the end of the ring, with the next SEQ (R438). -/
def State.incPush (s : State) (e : IncEntry) : State :=
  let q := s.rd R.INR_SEQ_SEQ
  ((s.onInc fun r => { r with ring := r.ring ++ [{ e with seq := q }] }).count R.INR_SEQ_SEQ).incFill

/-- The first entry of the ring that meets a condition, with the entry of least TIME among several kept in ring order. -/
def Recorder.findSeq (r : Recorder) (p : IncEntry → Bool) : Option Nat := (r.ring.find? p).map IncEntry.seq

/-- An alarm merged into the entry with a SEQ (R441). -/
def State.incMerge (s : State) (q : Nat) (e : IncEntry) (f : IncEntry → IncEntry) : State × More :=
  let m := fun (x : IncEntry) =>
    if x.seq = q then f { x with merged := true, count := x.count + 1, lastTime := e.time, lastFrame := e.frame } else x
  let s1 := (s.onInc fun r => { r with ring := r.ring.map m }).bump R.INR_MERGE_COUNT
  if s.inc.mergeRaised then (s1, [])
  else (s1.onInc fun r => { r with mergeRaised := true }, [(464, .sys, leBytes 2 e.source ++ leBytes 1 e.code)])

/-- The oldest entry, by TIME, that meets a condition. -/
def Recorder.oldest (r : Recorder) (p : IncEntry → Bool) : Option Nat :=
  ((r.ring.filter p).foldl (fun (acc : Option IncEntry) e =>
    match acc with
    | some a => if e.time < a.time then some e else some a
    | none => some e) none).map IncEntry.seq

/-- Whether the INCIDENT record has a class exported (R443, R446). -/
def State.exports (s : State) (cls : Nat) : Bool :=
  match s.recBody recIncident with
  | some b => nbit (le b 1 1) 0 && nbit (le b 1 1) (cls + 1)
  | none => false

/-- An entry freed from the ring: one that was to be exported and was not sent is counted (R443). -/
def State.incFreed (s : State) (e : IncEntry) : State :=
  if s.exports e.cls ∧ !e.sent then (s.bump R.INR_EXP_SKIP_COUNT).onInc fun r => { r with skipped := r.skipped + 1 } else s

/-- An entry removed from the ring by eviction, counted as a drop of its own class and source (R442). -/
def State.incEvict (s : State) (q : Nat) : State × More :=
  match s.inc.ring.find? (fun e => e.seq = q) with
  | some e => ((s.incFreed e).onInc fun r => { r with ring := r.ring.filter fun x => x.seq ≠ q }).incDrop e.cls e.source
  | none => (s, [])

/-- An ALARM entry (R439, R441). -/
def State.incAlarm (s : State) (e : IncEntry) : State × More :=
  let r := s.inc
  if r.alarms < alarmReserve then
    ((s.onInc fun r => { r with mergeRaised := false }).incPush { e with reserve := true }, [])
  else match r.findSeq fun x => x.cls = clsAlarm && x.source = e.source && x.code = e.code with
  | some q => s.incMerge q e id
  | none =>
    if r.general < generalRing then (s.incPush e, [])
    else match r.oldest (fun x => x.cls = clsTrace && !x.reserve && !r.isFrozen x) with
    | some q => let (s1, m) := s.incEvict q; (s1.incPush e, m)
    | none => match r.oldest (fun x => x.cls = clsLog && !x.reserve && !r.isFrozen x) with
      | some q => let (s1, m) := s.incEvict q; (s1.incPush e, m)
      | none => match r.oldest (fun x => x.cls = clsAlarm && x.source = e.source) with
        | some q => s.incMerge q e fun x => { x with mixed := true, code := 0xFF }
        | none => match r.oldest (fun x => x.cls = clsAlarm) with
          | some q => s.incMerge q e fun x => { x with mixed := true, code := 0xFF, source := 0xFFFF }
          | none => (s, [])

/-- A TRACE or LOG entry (R442). -/
def State.incPlain (s : State) (e : IncEntry) : State × More :=
  let r := s.inc
  if r.general < generalRing then (s.incPush e, [])
  else if e.cls = clsTrace then s.incDrop clsTrace e.source
  else match r.oldest (fun x => x.cls = clsTrace && !x.reserve && !r.isFrozen x) with
    | some q => let (s1, m) := s.incEvict q; (s1.incPush e, m)
    | none => s.incDrop clsLog e.source

/-- An entry written, merged or dropped (R439, R441, R442). -/
def State.incEnter (s : State) (e : IncEntry) : State × More :=
  let (t, m) := if e.cls = clsAlarm then s.incAlarm e else s.incPlain e
  (t.incFill, m)

/-- PRE and POST of the record in ns, 1,000 ms without one (R446). -/
def State.incWindow (s : State) : Nat × Nat :=
  match s.recBody recIncident with
  | some b => (le b 20 2 * 1000000, le b 22 2 * 1000000)
  | none => (1000000000, 1000000000)

/-- The slot that the next snapshot takes: the oldest, after those still to write (R444). -/
def Recorder.slotNext (r : Recorder) : Nat := (r.nextSlot + r.toWrite.length) % 8

/-- A trigger (R444, R445): a freeze begins, or is missed while one is in progress. -/
def State.incTrigger (s : State) : State × More :=
  match s.inc.freeze with
  | some _ => (s.bump R.INR_FREEZE_MISSED, [])
  | none =>
    let (pre, post) := s.incWindow
    ((s.onInc fun r => { r with freeze := some { ttr := s.lc, pre := pre, post := post } }).wr R.INR_FREEZE_ACTIVE 1,
      [(466, .sys, leBytes 1 s.inc.slotNext)])

/-- The trigger event of the record, if one is set (R446). -/
def State.incTrigEvent (s : State) : Option Nat :=
  (s.recBody recIncident).bind fun b => if le b 24 2 = 0xFFFF then none else some (le b 24 2)

/-- A partition's MANIFEST flag byte (R309). -/
def Part.flags (p : Part) : Nat := le p.entry 0 1
def Part.isSystem (p : Part) : Bool := p.created && nbit p.flags 2
def Part.isSafety (p : Part) : Bool := p.created && nbit p.flags 1
def Part.isHeart (p : Part) : Bool := p.created && nbit p.flags 3

/-- Partition p. -/
def State.part (s : State) (p : Nat) : Part := s.parts.getD p {}

/-- Partition p changed. -/
def State.modPart (s : State) (p : Nat) (f : Part → Part) : State := s.onParts fun l => updAt l p f

/-- Base address of mailbox m (R38). -/
def mbxBase (m : Nat) : Nat := 0x20030000 + m * 0x1000

/-- The word of EVT_PEND (offset 0x800) or EVT_OVF (0x840) that holds event e (R40). -/
def pendWord (m e : Nat) : Nat := mbxBase m + 0x800 + 4 * (e / 32)
def ovfWord (m e : Nat) : Nat := mbxBase m + 0x840 + 4 * (e / 32)

/-- Whether a bit of a word is set. -/
def State.wordBit (s : State) (a i : Nat) : Bool := (s.raw a).getLsbD i

/-- A bit of a word set or cleared. -/
def State.setWordBit (s : State) (a i : Nat) (b : Bool) : State := s.wr ⟨a, i, i⟩ (b2n b)

/-- MBX_STAT.EVT: at least one EVT_PEND bit is set (R44). -/
def State.evtRefresh (s : State) (m : Nat) : State :=
  s.wrB (R.MBX_STAT_EVT m) ((List.range 16).any fun k => decide (s.raw (mbxBase m + 0x800 + 4 * k) ≠ 0))

/-- Words written from an address on. -/
def State.setWords (s : State) (a : Nat) : List Word → State
  | [] => s
  | w :: t => (s.setRaw a w).setWords (a + 4) t

/-- Delivery of an event to one mailbox (R75): EVT_PEND, EVT_OVF, the payload entry or the loss. The second part
tells whether MBX_EVT_LOST left 0. -/
def State.deliver (s : State) (m prio : Nat) (e : EvRec) : State × Bool :=
  let i := e.num % 32
  let s1 := s.when (s.wordBit (pendWord m e.num) i) fun s => s.setWordBit (ovfWord m e.num) i true
  let s2 := (s1.setWordBit (pendWord m e.num) i true).wrB (R.MBX_STAT_EVT m) true
  let h := s.rd (R.MBX_EVT_HEAD_IDX m)
  if (h + 1) % 20 = s.rd (R.MBX_EVT_TAIL_IDX m) then
    (s2.bump (R.MBX_EVT_LOST_COUNT m), s.rd (R.MBX_EVT_LOST_COUNT m) = 0)
  else
    let bytes := leBytes 2 e.num ++ leBytes 1 prio ++ [0] ++ leBytes 4 e.frame ++ leBytes 8 e.time ++ padTo 16 e.payload
    ((s2.setWords (mbxBase m + 0x980 + 32 * (h % 20)) (leWords bytes)).wr (R.MBX_EVT_HEAD_IDX m) ((h + 1) % 20), false)

/-- Who receives an event that partition p has subscribed to (R75). -/
def State.mayReceive (s : State) (p : Nat) : Owner → Bool
  | .pub => true
  | .part q => q = p || (s.part p).isSystem
  | .parts qs => qs.contains p || (s.part p).isSystem
  | .sys => (s.part p).isSystem
  | .box16 => (s.part p).isSystem

/-- The mailboxes an event goes to, with the priority. -/
def State.receivers (s : State) (e : Nat) (o : Owner) : List (Nat × Nat) :=
  ((List.range 16).filterMap fun p =>
    if s.mayReceive p o then ((s.part p).subs.find? fun x => x.1 = e).map fun x => (p, x.2) else none) ++
  (if o = .box16 then [(16, 0)] else [])

/-- The event interrupt of priority prio of partition p (R75): asserted while a PEND bit of an event subscribed at that
priority is set. Mailbox 16 has none. -/
def State.eventIrq (s : State) (p prio : Nat) : Bool :=
  (s.part p).subs.any fun x => decide (x.2 = prio) && s.wordBit (pendWord p x.1) (x.1 % 32)

/-- One event: the Forester receives it, the router delivers it, the recorder enters it (R75, R436, R444). -/
def State.raiseOne (s : State) (e : Nat) (o : Owner) (payload : List Byte) : State × More :=
  let rec0 : EvRec := ⟨e, s.frame, s.lc, payload⟩
  let s1 := s.onEvents (· ++ [rec0])
  let (s2, lost) := (s1.receivers e o).foldl (fun (acc : State × List Nat) x =>
    let (t, l) := acc.1.deliver x.1 x.2 rec0
    (t, if l then acc.2 ++ [x.1] else acc.2)) (s1, [])
  let full : More := lost.map fun m => (41, if m = 16 then Owner.box16 else .part m, [BitVec.ofNat 8 m])
  let (s3, m3) := match s2.incClass e with
    | some c => s2.incEnter { seq := 0, source := e, cls := c, code := (payload.getD 0 0).toNat, frame := rec0.frame,
                              time := rec0.time, data0 := padTo 16 payload }
    | none => (s2, [])
  let (s4, m4) := if s3.incTrigEvent = some e then s3.incTrigger else (s3, [])
  (s4, full ++ m3 ++ m4)

/-- Events raised in order with those that raising them brings (EVT_RING_FULL, INC events), up to a bound that no
chain reaches: each mailbox fills once, and each INC event comes once a frame. -/
def raiseLoop : Nat → More → State → State
  | 0, _, s => s
  | _, [], s => s
  | n + 1, (e, o, p) :: rest, s =>
    let (t, more) := s.raiseOne e o p
    raiseLoop n (rest ++ more) t

/-- An event raised (R22, R75). -/
def State.raise (s : State) (e : Nat) (o : Owner) (payload : List Byte := []) : State := raiseLoop 128 [(e, o, payload)] s

/-- Events raised in order. -/
def State.raises (s : State) (l : More) : State := raiseLoop (128 + l.length) l s

/-- The owner of an event by the partition that owns its resource: none makes it a system event. -/
def ownerOf : Option Nat → Owner
  | some p => .part p
  | none => .sys

/-- The owner of an event that names a mailbox (R75). -/
def ownerMbx (m : Nat) : Owner := if m = 16 then .box16 else .part m

/-- Words that the router or the recorder writes when an event is raised: the event words of a mailbox (R40, R44, R75)
and the recorder's page (R447). -/
def eventWord (a : Nat) : Prop :=
  (∃ m ≤ 16, (mbxBase m + 0x800 ≤ a ∧ a < mbxBase m + 0x880) ∨ (mbxBase m + 0x980 ≤ a ∧ a < mbxBase m + 0xC00) ∨
    a = mbxBase m + 0xC04 ∨ a = mbxBase m + 0xC0C ∨ a = mbxBase m + 0xC14) ∨
  (0x20E00000 ≤ a ∧ a < 0x20E00020)

end Sys2Proof.Machine
end

