-- ==== Sys2Proof/Machine/Resources.lean ====
section
/-! DEFINITION. Which partition holds which resource: the MANIFEST entries of created partitions (R308-R310), the
features of R506, and the owner of each commit group (R63). -/

namespace Sys2Proof.Machine

/-- The number that stands for the Forester where an owner or an issuer is a number; mailbox 16 is its mailbox. -/
def forester : Nat := 16

/-- Whether a partition's entry names resource i of the mask at a byte offset (R309). -/
def Part.has (p : Part) (off i : Nat) : Bool := p.created && bitAt (p.entry.drop off) i

/-- The created partition whose mask at a byte offset names resource i. -/
def State.holder (s : State) (off i : Nat) : Option Nat := (List.range 16).find? fun p => (s.part p).has off i

def offQueues : Nat := 104
def offCanOwn : Nat := 112
def offCanShare : Nat := 116
def offChOwn : Nat := 212
def offChRead : Nat := 220
def offUioOwn : Nat := 228
def offUioRead : Nat := 240
def offSsOwn : Nat := 252
def offExtOwn : Nat := 253
def offKtOwn : Nat := 256
def offKcOwn : Nat := 272
def offLgwBlk : Nat := 276
def offQp : Nat := 284
def offVq : Nat := 288
def offVqHw : Nat := 292
def offKeys : Nat := 296
def offWake : Nat := 300
def offFeat : Nat := 304
def offWin : Nat := 320
def offEvt : Nat := 448

/-- Owner of channel n, pin p, supply u, EXT-IN k, timer t, controller c, route block b, key slot. -/
def State.chOwner (s : State) (n : Nat) : Option Nat := s.holder offChOwn n
def State.uioOwner (s : State) (p : Nat) : Option Nat := s.holder offUioOwn p
def State.ssOwner (s : State) (u : Nat) : Option Nat := s.holder offSsOwn u
def State.extOwner (s : State) (k : Nat) : Option Nat := s.holder offExtOwn k
def State.ktOwner (s : State) (t : Nat) : Option Nat := s.holder offKtOwn t
def State.kcOwner (s : State) (c : Nat) : Option Nat := s.holder offKcOwn c
def State.canOwner (s : State) (n : Nat) : Option Nat := s.holder offCanOwn n
def State.qpOwner (s : State) (k : Nat) : Option Nat := s.holder offQp k
def State.vqOwner (s : State) (v : Nat) : Option Nat := s.holder offVq v
def State.queueOwner (s : State) (q : Nat) : Option Nat := s.holder offQueues q

/-- Owner of route block b as LGW_BLKb names it (R248, R264): the Forester for a SYS block. -/
def State.blkOwner (s : State) (b : Nat) : Option Nat :=
  if s.isSet (R.LGW_BLKb_EN b) then
    (if s.isSet (R.LGW_BLKb_SYS b) then some forester else some (s.rd (R.LGW_BLKb_OWNER b)))
  else none

/-- One CAN_SHARE entry of a partition: bytes 116 + 12 i (R309). -/
structure CanShare where
  ctrl : Nat
  send : Bool
  mo : Nat
  id : Nat

def Part.canShare (p : Part) (i : Nat) : CanShare :=
  let o := offCanShare + 12 * i
  ⟨le p.entry o 1, nbit (le p.entry (o + 1) 1) 0, le p.entry (o + 4) 4, le p.entry (o + 8) 4⟩

/-- Whether a partition shares controller n. -/
def Part.sharesCan (p : Part) (n : Nat) : Bool := p.created && (List.range 8).any fun i => (p.canShare i).ctrl = n

/-- A REGION of a partition (R309): address of its first byte, length in bytes, HW, RW. -/
structure Region where
  base : Nat
  size : Nat
  hw : Bool
  rw : Bool
  dram : Bool

/-- Region i of a partition: 64 KiB granules of system SRAM, 2 MiB granules of LPDDR5X (R308). -/
def Part.region (p : Part) (i : Nat) : Option Region :=
  let o := 40 + 8 * i
  let f := le p.entry o 1
  let first := le p.entry (o + 2) 2
  let n := le p.entry (o + 4) 2
  if n = 0 then none
  else if nbit f 0 then some ⟨0x800000000 + first * 0x200000, n * 0x200000, nbit f 1, nbit f 2, true⟩
  else some ⟨0x10000000 + first * 0x10000, n * 0x10000, nbit f 1, nbit f 2, false⟩

/-- The regions of a created partition. -/
def Part.regions (p : Part) : List Region := if p.created then (List.range 8).filterMap p.region else []

/-- Whether a range lies wholly in one RW system SRAM region of a partition (R507, R74). -/
def Part.inRwSram (p : Part) (a n : Nat) : Bool :=
  p.regions.any fun r => !r.dram && r.rw && decide (r.base ≤ a) && decide (a + n ≤ r.base + r.size)

/-- The network owner partition of the NET record (R241): body byte 1. -/
def State.netOwner (s : State) : Option Nat :=
  (s.recBody recNet).bind fun b => if le b 1 1 < 16 then some (le b 1 1) else none

/-- What the NET record says of gPTP in a domain (R237): external port configuration instead of BMCA, priority1, and the port
in SLAVE state under external port configuration. -/
structure PtpCfg where
  ext : Bool
  prio : Nat
  slave : Nat
  deriving DecidableEq, Repr

/-- The gPTP settings of domain x: NET body bytes 2 to 4 for A, 5 to 7 for B. Without a record BMCA, and no grandmaster.
DESIGN CHOICE: the spec lays out no NET body. -/
def State.ptpCfg (s : State) (x : Nat) : PtpCfg :=
  match s.recBody recNet with
  | some b => ⟨nbit (le b (2 + 3 * x) 1) 0, le b (3 + 3 * x) 1, le b (4 + 3 * x) 1⟩
  | none => ⟨false, 255, 31⟩

/-- The owner of a commit group (R63, R87, R151, R163, R175, R186, R243, R249, R264): a partition number, or the
Forester. -/
def State.groupOwner (s : State) (g : Nat) : Option Nat :=
  if 0x0200 ≤ g ∧ g < 0x0240 then s.chOwner (g - 0x0200)
  else if 0x0300 ≤ g ∧ g < 0x0360 then s.uioOwner (g - 0x0300)
  else if 0x0360 ≤ g ∧ g < 0x0380 then s.kcOwner (g - 0x0360)
  else if 0x0380 ≤ g ∧ g < 0x0400 then s.ktOwner (g - 0x0380)
  else if 0x0400 ≤ g ∧ g < 0x0418 then some ((s.canOwner (g - 0x0400)).getD forester)
  else if 0x0420 ≤ g ∧ g < 0x0438 then some ((s.canOwner (g - 0x0420)).getD forester)
  else if (0x0500 ≤ g ∧ g < 0x0515) ∨ (0x0520 ≤ g ∧ g < 0x0535) ∨ g = 0x0560 then s.netOwner
  else if 0x0600 ≤ g ∧ g < 0x0640 then s.blkOwner (g - 0x0600)
  else if g = 0x0640 then some forester
  else none

/-- Whether a group number names a group at all. -/
def groupExists (g : Nat) : Bool :=
  (0x0200 ≤ g ∧ g < 0x0240) ∨ (0x0300 ≤ g ∧ g < 0x0400) ∨ (0x0400 ≤ g ∧ g < 0x0418) ∨ (0x0420 ≤ g ∧ g < 0x0438) ∨
  (0x0500 ≤ g ∧ g < 0x0515) ∨ (0x0520 ≤ g ∧ g < 0x0535) ∨ g = 0x0560 ∨ (0x0600 ≤ g ∧ g < 0x0641)

/-- OFFERED of the TZM640-F (R1, R58): every bit that R58 lists. -/
def offered : Nat := 0x1FFFF + 2 ^ 17 + 0x7F * 2 ^ 32 + 0xFFF * 2 ^ 64

/-- The set that MANIFEST permits to a partition (R309 FEAT). -/
def Part.permitted (p : Part) : Nat := le p.entry offFeat 16

/-- Whether a partition holds a feature (R506). -/
def Part.holds (p : Part) (bit : Nat) : Bool :=
  match p.granted with
  | some g => nbit g bit
  | none => false

/-- (address, word) pairs of a record body from an offset on: the form the model gives to record bodies whose layout the
spec does not state. DESIGN CHOICE. -/
def pairsFrom : Nat → List Byte → List (Nat × Word)
  | 0, _ => []
  | k + 1, b => if b.length < 8 then [] else (le b 0 4, BitVec.ofNat 32 (le b 4 4)) :: pairsFrom k (b.drop 8)

def State.recPairs (s : State) (t off : Nat) : List (Nat × Word) :=
  match s.recBody t with
  | some b => pairsFrom (b.length / 8) (b.drop off)
  | none => []

/-- Bits of a register that a configuration sets: its RW fields (R7, R8). -/
def rwMask (a : Nat) : Word :=
  match lookupReg a with
  | some (r, _) => r.mask fun f => f.acc == .rw
  | none => 0

/-- Register words of a record put into the RW fields of blocks at Start-up. -/
def State.recordWords (s : State) (t off : Nat) (p : Nat → Bool) : State :=
  ((s.recPairs t off).filter fun x => p x.1).foldl (fun s x => s.setRaw x.1 ((s.raw x.1 &&& ~~~(rwMask x.1)) ||| (x.2 &&& rwMask x.1))) s

/-- The word that such a record gives a register; none where it names it not. -/
def State.recWord (s : State) (t off addr : Nat) : Option Word := ((s.recPairs t off).find? fun x => x.1 = addr).map (·.2)

/-- The generation number of mailbox m (R44). -/
def State.gen (s : State) (m : Nat) : Nat := s.rd (R.MBX_STAT_GEN m)

/-- Partition states of EVR_Pp_FSTAT.STATE (R320). -/
def stOff : Nat := 0
def stStopped : Nat := 1
def stLoading : Nat := 2
def stRunning : Nat := 3
def stQuiescing : Nat := 4

def State.partState (s : State) (p : Nat) : Nat := s.rd (R.EVR_Pp_FSTAT_STATE p)

end Sys2Proof.Machine
end

