-- ==== Sys2Proof/Machine/Commit.lean ====
section
/-! DEFINITION. Staged values and the acceptance of a COMMIT (R10, R12, R28, R29, R62-R67). -/

namespace Sys2Proof.Machine

/-- The commit group of a register (0: none), from its table. -/
def groupOf (a : Nat) : Nat :=
  match lookupReg a with
  | some (r, ix) => r.group (fun k => ix.getD k 0)
  | none => 0

/-- The newest snapshot word of a register among the accepted commits that have not applied. -/
def State.snapWord (s : State) (a : Nat) : Option Word :=
  s.commits.foldl (fun acc c => match c.snap.find? (fun e => e.1 = a) with | some e => some e.2 | none => acc) none

/-- What a read of the class F fields of a register returns (R12, R64, R65): the staged value, else the value of an
accepted snapshot, else the active value. -/
def State.view (s : State) (a : Nat) : Word :=
  match s.staged.find? (fun e => e.1 = a) with
  | some e => e.2
  | none => (s.snapWord a).getD (s.raw a)

/-- A field of the view. -/
def State.vrd (s : State) (f : Fld) : Nat := bitsOf (s.view f.addr) f.hi f.lo

/-- A register word staged (R12). -/
def State.stage (s : State) (a : Nat) (w : Word) : State := s.onStaged fun l => sput l a w

/-- A field staged: the word's other bits as a read would return them. -/
def State.stageFld (s : State) (f : Fld) (v : Nat) : State := s.stage f.addr (setBits (s.view f.addr) f.hi f.lo v)

/-- Staged register words of a group. -/
def State.stagedOf (s : State) (g : Nat) : List (Nat × Word) := s.staged.filter fun e => groupOf e.1 = g

/-- Whether a group holds staged values; group 0x0560 holds staged table entries (R243). -/
def State.hasStaged (s : State) (g : Nat) : Bool := !(s.stagedOf g).isEmpty || (g == 0x0560 && !s.stagedTab.isEmpty)

/-- The groups that hold staged values, in ascending order. -/
def State.stagedGroups (s : State) : List Nat :=
  let gs : List Nat := s.staged.map (fun e => groupOf e.1) ++ (if s.stagedTab.isEmpty then [] else [0x0560])
  sortNat gs.eraseDups

/-- The staged values of groups discarded. -/
def State.discard (s : State) (gs : List Nat) : State :=
  (s.onStaged fun l => l.filter fun e => !(gs.contains (groupOf e.1))).onStagedTab fun l =>
    if gs.contains 0x0560 then [] else l

/-- The Gwebry link that carries a group's staging (R29): link 2 + d for a channel's die, 0 or 1 for a pin's limb;
none for a group on the crown die. -/
def groupLink (g : Nat) : Option Nat :=
  if 0x0200 ≤ g ∧ g < 0x0240 then some (2 + (g - 0x0200) / 16)
  else if 0x0300 ≤ g ∧ g < 0x0360 then some ((g - 0x0300) / 48)
  else none

/-- A link carries register traffic: up and not training (R265). -/
def State.linkOk (s : State) (g : Nat) : Bool := s.isSet (R.GWB_Lg_STAT_UP g) && !s.isSet (R.GWB_Lg_STAT_TRAINING g)

/-- Guard start, 230 us after the boundary, in ns (R26). -/
def guardStart : Nat := 230000

/-- A COMMIT accepted (R29, R64, R67): the snapshot of the named groups that hold staged values; nothing changes when
none does. -/
def State.acceptCommit (s : State) (issuer : Nat) (groups : List Nat) : State :=
  let gs := sortNat (groups.eraseDups.filter s.hasStaged)
  if gs.isEmpty then s
  else
    let healthy := gs.all fun g => match groupLink g with | some l => s.linkOk l | none => true
    let c : Commit := {
      issuer := issuer
      groups := gs
      snap := gs.flatMap s.stagedOf
      tab := if gs.contains 0x0560 then s.stagedTab else []
      timely := decide (s.inFrame ≤ guardStart)
      due := s.rd64 R.FRM_NUM_LO R.FRM_NUM_HI + 1
      waitUntil := if healthy then none else some (s.now + 1000000) }
    (((s.discard gs).onCommits (· ++ [c])).wr (R.MBX_CSTAT_PENDING issuer) 1).wr (R.MBX_CSTAT_REJECTED issuer) 0

/-- PENDING as the accepted commits of a mailbox stand (R44). -/
def State.refreshPending (s : State) (m : Nat) : State :=
  s.wrB (R.MBX_CSTAT_PENDING m) (s.commits.any fun c => c.issuer = m)

/-- A COMMIT rejected (R65): nothing applies, MBX_CSTAT names group and rule, CFG_REJECT is raised. Its PID byte is the
number of the mailbox, so 16 for a COMMIT issued through mailbox 16, for which the spec gives no PID. DESIGN CHOICE. -/
def State.rejectCommit (s : State) (m g rule : Nat) : State :=
  let s1 := (((s.wr (R.MBX_CSTAT_GROUP m) g).wr (R.MBX_CSTAT_RULE m) rule).wr (R.MBX_CSTAT_REJECTED m) 1).refreshPending m
  s1.raise 33 (ownerMbx m) (leBytes 2 g ++ leBytes 1 rule ++ leBytes 1 m)

/-- The values that the rules of R65 are checked against: the snapshot over the active words. -/
def State.overlay (s : State) (snap : List (Nat × Word)) (a : Nat) : Word :=
  match snap.find? (fun e => e.1 = a) with
  | some e => e.2
  | none => s.raw a

/-- A field of a view of register words. -/
def vw (v : Nat → Word) (f : Fld) : Nat := bitsOf (v f.addr) f.hi f.lo

/-- Bits of a word that its register gives class F. -/
def stagedMask (a : Nat) : Word :=
  match lookupReg a with
  | some (r, _) => r.mask fun f => f.upd == .staged
  | none => 0

/-- The class F fields of a register take a snapshot word; its other fields stay. -/
def State.applyWord (s : State) (a : Nat) (w : Word) : State :=
  let m := stagedMask a
  s.setRaw a ((s.raw a &&& ~~~ m) ||| (w &&& m))

end Sys2Proof.Machine
end

