-- ==== Sys2Proof/Machine/Rhapol.lean ====
section
/-! DEFINITION. The Rhapol interface (02_rhapol_interface.md): the check order of R56, responses (R43, R48), LONG
commands (R53), and the frame in which each opcode's handler stands. -/

namespace Sys2Proof.Machine

/-- Status codes (R55). -/
def stOk : Nat := 0x0000
def stAccepted : Nat := 0x0001
def stBadOpcode : Nat := 0x0010
def stNotGranted : Nat := 0x0011
def stStale : Nat := 0x0012
def stBusy : Nat := 0x0013
def stRange : Nat := 0x0014
def stConflict : Nat := 0x0015
def stSafetyLocked : Nat := 0x0016
def stNotLeased : Nat := 0x0017
def stAbsent : Nat := 0x0018
def stInternal : Nat := 0x00FF

/-- Command classes (R47). -/
def clRt : Nat := 0
def clNormal : Nat := 1
def clLong : Nat := 2

/-- A command as the Forester takes it (R47, R74): its mailbox (the queue owner's for a queue command), requester,
header fields and the first LEN payload bytes. -/
structure Ctx where
  mbx : Nat
  attr : Attr
  opcode : Nat
  tag : Nat
  flags : Nat
  gen : Nat
  len : Nat
  hdrRsvd : Nat
  payload : List Byte
  queue : Option Nat := none
  resultAddr : Nat := 0

/-- What the handler of an opcode answers: status, detail, result bytes and the state with the command's effect. -/
structure Reply where
  st : Nat
  detail : Nat := 0
  result : List Byte := []
  s : State

def Ctx.cls (c : Ctx) : Nat := c.flags % 4
def Ctx.expert (c : Ctx) : Bool := nbit c.flags 2
/-- A payload field of n bytes. -/
def Ctx.arg (c : Ctx) (off n : Nat) : Nat := le c.payload off n
/-- The service port bridge (R39). -/
def Ctx.isService (c : Ctx) : Bool := c.mbx = forester && c.attr.rqc.val = 3
/-- The partition that calls: the mailbox's, or in mailbox 16 the requester's; none for the service port bridge. -/
def Ctx.caller (c : Ctx) : Option Nat :=
  if c.mbx < 16 then some c.mbx else if c.attr.rqc.val = 3 then none else some c.attr.pid.val

/-- Whether the caller holds a feature (R506). -/
def State.callerHolds (s : State) (c : Ctx) (bit : Nat) : Bool :=
  match c.caller with
  | some p => (s.part p).holds bit
  | none => nbit offered bit

/-- Whether the caller is a SYSTEM partition. -/
def State.callerSystem (s : State) (c : Ctx) : Bool :=
  match c.caller with
  | some p => (s.part p).isSystem
  | none => false

/-- Whether the caller owns a resource with this owner. -/
def Ctx.owns (c : Ctx) (o : Option Nat) : Bool :=
  match c.caller, o with
  | some p, some q => p = q
  | _, _ => false

/-- An opcode (its owning chapter's table): the classes it permits, the meaningful bits of each payload byte (R56
step 5), the requester check of step 3, the resource check of step 7 (a DETAIL when it fails), the payload bytes it
needs, its handler for steps 8 to 10, and whether what the handler does stays when it refuses (AUTH_RESP, R407). -/
structure OpSpec where
  opcode : Nat
  classes : List Nat
  bits : List Byte → Nat → Nat
  requester : State → Ctx → Option Nat := fun _ _ => none
  grant : State → Ctx → Option Nat := fun _ _ => none
  need : List Byte → Nat
  keep : Bool := false
  body : Ctx → State → Reply

/-- A payload of n listed bytes with every bit meaningful. -/
def allBits (n : Nat) (_ : List Byte) (i : Nat) : Nat := if i < n then 0xFF else 0

/-- Whether bit 0x0002 of R55 applies: a payload byte or bit that is RSVD or unlisted is not 0. -/
def rsvdBad (bits : List Byte → Nat → Nat) (p : List Byte) : Bool :=
  (p.zipIdx).any fun (x : Byte × Nat) => x.1.toNat &&& (0xFF - bits p x.2) ≠ 0

def Reply.ok (s : State) (result : List Byte := []) : Reply := ⟨stOk, 0, result, s⟩
def Reply.err (s : State) (st detail : Nat) : Reply := ⟨st, detail, [], s⟩
def Reply.range (s : State) (off : Nat) : Reply := ⟨stRange, off, [], s⟩
def Reply.accepted (s : State) : Reply := ⟨stAccepted, 0, [], s⟩

/-- Whether the service port may send an opcode in the present life-cycle state (R39, R404, R406). -/
def State.svcAllows (s : State) (c : Ctx) : Bool :=
  let lc := s.rd R.KSU_LCS_STATE
  if lc ≤ 2 then true
  else if lc ≤ 4 then
    [0x0101, 0x0102, 0x0910, 0x0911].contains c.opcode || nbit (s.rd R.KSU_AUTH_SCOPE) 0 ||
    (decide (c.opcode = 0x0904) && decide (1 ≤ c.arg 0 2 ∧ c.arg 0 2 ≤ 3) && decide (c.arg 3 1 = 2) && !s.isSet R.KSU_LCS_SEALED)
  else [0x0101, 0x0102, 0x0901].contains c.opcode

/-- Step 3 of R56 (R506): SYS_HELLO, the group, the LONG class, the expert level, feature 38. -/
def State.step3 (s : State) (o : OpSpec) (c : Ctx) : Option Nat :=
  let g := o.opcode / 256
  if c.mbx ≠ forester ∧ o.opcode ≠ 0x0101 ∧ !s.isSet (R.MBX_STAT_HELLO c.mbx) then some 0xFFFF
  else if g ≠ 1 ∧ !s.callerHolds c (63 + g) then some (63 + g)
  else if c.cls = clLong ∧ !s.callerHolds c 33 then some 33
  else if c.expert ∧ !s.callerHolds c 32 then some 32
  else if o.opcode = 0x0131 ∧ !s.callerHolds c 38 then some 38
  else if c.isService ∧ !s.svcAllows c then some 0xFFFE
  else o.requester s c

/-- The reserved parts of a command header (R47, R56 step 2). -/
def Ctx.hdrBad (c : Ctx) : Bool := c.flags / 8 ≠ 0 || c.cls = 3 || c.hdrRsvd ≠ 0

/-- Steps 1 to 4 of R56, which read the header alone: the first status and DETAIL that apply. -/
def State.headBad (s : State) (o : OpSpec) (c : Ctx) : Option (Nat × Nat) :=
  if c.gen ≠ s.gen c.mbx then some (stStale, s.gen c.mbx)
  else if !(o.classes.contains c.cls) && c.cls ≠ 3 then some (stBadOpcode, 1)
  else if c.hdrBad then some (stBadOpcode, 2)
  else match s.step3 o c with
  | some d => some (stNotGranted, d)
  | none => if c.len > 1008 then some (stRange, 0xFFFF) else none

/-- Steps 5 to 10 of R56 with the handler. BUSY for the class bound replaces step 10 only; any status but OK and
ACCEPTED leaves the state as it was (R51). -/
def State.bodyRun (s : State) (o : OpSpec) (c : Ctx) (busy : Bool) : Reply :=
  if rsvdBad o.bits c.payload then Reply.err s stBadOpcode 2
  else match o.grant s c with
  | some d => Reply.err s stNotGranted d
  | none =>
    if c.len < o.need c.payload then Reply.err s stRange 0xFFFF
    else
      let r := o.body c s
      if r.st = stOk ∨ r.st = stAccepted then (if busy then Reply.err s stBusy 0 else r)
      else if o.keep then r else { r with s := s }

/-- The check order of R56 and the handler; INTERNAL replaces any step. -/
def State.runChecks (s : State) (o : OpSpec) (c : Ctx) (fate : Fate) : Reply :=
  match fate with
  | .internal code => Reply.err s stInternal code
  | _ =>
    match s.headBad o c with
    | some (st, d) => Reply.err s st d
    | none => s.bodyRun o c (decide (fate = .busy))

/-- The bytes of words in the register space, from an aligned address. -/
def State.bytesAt (s : State) (a n : Nat) : List Byte :=
  ((List.range ((n + 3) / 4)).flatMap fun k => leBytes 4 (s.raw (a + 4 * k)).toNat).take n

/-- The command in the slot of mailbox m (R42, R47), with the requester of its ring. -/
def State.slotCtx (s : State) (m : Nat) : Ctx :=
  let h := s.bytesAt (mbxBase m) 16
  let len := le h 6 2
  { mbx := m, attr := (s.mbxs.getD m {}).ringAttr, opcode := le h 0 2, tag := le h 2 1, flags := le h 3 1,
    gen := le h 4 2, len := len, hdrRsvd := le h 8 8, payload := s.bytesAt (mbxBase m + 16) (min len 1008) }

/-- A slot of 1 KiB written: the bytes given, zeros after them. -/
def State.writeSlot (s : State) (a : Nat) (bytes : List Byte) : State :=
  (s.clearRegs fun x => decide (a ≤ x ∧ x < a + 0x400)).setWords a (leWords bytes)

/-- The response written and the doorbell freed (R43, R48). -/
def State.respond (s : State) (c : Ctx) (st detail : Nat) (result : List Byte) : State :=
  let hdr := leBytes 2 c.opcode ++ leBytes 1 c.tag ++ leBytes 1 c.flags ++ leBytes 2 c.gen ++ leBytes 2 result.length ++
    leBytes 2 st ++ leBytes 2 detail ++ leBytes 4 s.frame
  (((s.writeSlot (mbxBase c.mbx + 0x400) (hdr ++ result)).wr (R.MBX_STAT_RESP_TAG c.mbx) c.tag).wr
    (R.MBX_STAT_DONE c.mbx) 1).wr (R.MBX_STAT_BUSY c.mbx) 0

/-- Outstanding LONG commands of a mailbox: occupied completion entries and queue commands not finished (R53, R74). -/
def State.longOpen (s : State) (m : Nat) : Nat :=
  ((s.mbxs.getD m {}).longUsed.filter id).length +
  (s.longs.filter fun l => l.mbx = m && l.queue.isSome && !l.stale).length

/-- MBX_STAT.LONG_OPEN: occupied completion entries (R44). -/
def State.refreshLong (s : State) (m : Nat) : State :=
  s.wr (R.MBX_STAT_LONG_OPEN m) ((s.mbxs.getD m {}).longUsed.filter id).length

def State.modMbx (s : State) (m : Nat) (f : Mbx → Mbx) : State := s.onMbxs fun l => updAt l m f

/-- The record of an outstanding LONG command. -/
def Ctx.toLong (c : Ctx) (e : Option Nat) : LongCmd :=
  { mbx := c.mbx, entry := e, queue := c.queue, opcode := c.opcode, tag := c.tag, flags := c.flags, gen := c.gen,
    payload := c.payload, resultAddr := c.resultAddr, attr := c.attr }

/-- A LONG command taken up (R53): BUSY with DETAIL 8 for a ninth, else the lowest free entry. -/
def State.longTake (s : State) (c : Ctx) (r : Reply) : Reply :=
  if s.longOpen c.mbx ≥ 8 then Reply.err s stBusy 8
  else if c.queue.isSome then { r with s := r.s.onLongs fun l => l ++ [c.toLong none] }
  else
    match ((s.mbxs.getD c.mbx {}).longUsed).findIdx? (fun b => !b) with
    | none => Reply.err s stBusy 8
    | some e =>
      let s1 := r.s.modMbx c.mbx fun b => { b with longUsed := updAt b.longUsed e fun _ => true }
      { r with detail := e, s := (s1.onLongs fun l => l ++ [c.toLong (some e)]).refreshLong c.mbx }

/-- The outcome of a command's checks and handler, LONG acceptance included. -/
def State.runOp (s : State) (o : OpSpec) (c : Ctx) (fate : Fate) : Reply :=
  let r := s.runChecks o c fate
  if r.st = stAccepted then s.longTake c r else r

/-- The events of a response: RHP_INTERNAL, and RHP_RT_BUSY for an RT command that is BUSY for time (R75). -/
def State.replyEvents (s : State) (c : Ctx) (st detail : Nat) : State :=
  if st = stInternal then s.raise 43 (ownerMbx c.mbx) (leBytes 2 c.opcode ++ leBytes 2 detail)
  else if st = stBusy ∧ detail = 0 ∧ c.cls = clRt then s.raise 42 (ownerMbx c.mbx) (leBytes 2 c.opcode ++ leBytes 1 c.mbx)
  else s

/-- The response to the command of a slot; none when the command's effect has reset the mailbox (R46). -/
def State.answer (s : State) (c : Ctx) (r : Reply) : State :=
  if r.s.gen c.mbx = s.gen c.mbx ∧ r.s.isSet (R.MBX_STAT_BUSY c.mbx) then
    (r.s.respond c r.st r.detail r.result).replyEvents c r.st r.detail
  else r.s

/-- An RT command that waits in a mailbox. -/
def State.rtWaits (s : State) (m : Nat) : Bool := s.isSet (R.MBX_STAT_BUSY m) && decide ((s.slotCtx m).cls = clRt)

/-- Whether the command of mailbox m waits for an RT command of another mailbox (R52): RT commands go before NORMAL and
LONG work, and among themselves in the order of their ring times. -/
def State.yields (s : State) (m : Nat) : Bool :=
  (List.range 17).any fun k => decide (k ≠ m) && s.rtWaits k &&
    (!s.rtWaits m || decide ((s.mbxs.getD k {}).ringTime < (s.mbxs.getD m {}).ringTime))

/-- The Forester takes the command locked in the slot of mailbox m, if that is this opcode's and its turn: checks, effect,
response (R42, R43, R51, R52, R56). Otherwise there is nothing to take. -/
def State.runRow (s : State) (o : OpSpec) (m : Nat) (fate : Fate) : State :=
  let c := s.slotCtx m
  if s.isSet (R.MBX_STAT_BUSY m) ∧ c.opcode = o.opcode ∧ !s.yields m then
    s.answer c (s.runOp o c fate)
  else s

/-- The CONFLICT of R63: a group that the caller would stage in already holds uncommitted staged values. -/
def State.stagedConflict (s : State) (gs : List Nat) : Option Nat := gs.find? s.hasStaged

/-- A basic command's staging and COMMIT (R60): field values staged, then the groups committed for the caller. -/
def State.basicCommit (s : State) (m : Nat) (vals : List (Fld × Nat)) (groups : List Nat) : State :=
  (vals.foldl (fun (s : State) (x : Fld × Nat) => s.stageFld x.1 x.2) s).acceptCommit m groups

end Sys2Proof.Machine
end

