-- ==== Sys2Proof/Machine/Channels.lean ====
section
/-! DEFINITION. Load channels: drive sources, the channel states of R88, protection, inhibits, hold and the pairing
inputs (03_channels_switching.md), and the safety output switches (R104, R105). -/

namespace Sys2Proof.Machine

def State.chan (s : State) (n : Nat) : Chan := s.chans.getD n {}
def State.modChan (s : State) (n : Nat) (f : Chan → Chan) : State := s.onChans fun l => updAt l n f
def State.bole (s : State) (d : Nat) : Bole := s.boles.getD d {}
def State.modBole (s : State) (d : Nat) (f : Bole → Bole) : State := s.onBoles fun l => updAt l d f
/-- A far die by its Gwebry link: 0 and 1 the limbs, 2 + d the bole Bd. -/
def State.die (s : State) (g : Nat) : FarDie := s.dies.getD g {}
def State.modDie (s : State) (g : Nat) (f : FarDie → FarDie) : State := s.onDies fun l => updAt l g f

/-- The bole die of a channel (R79). -/
def dieOf (n : Nat) : Nat := n / 16
/-- The 16 channels of a die. -/
def chansOf (d : Nat) : List Nat := (List.range 16).map (16 * d + ·)
/-- A value of R79 by the class of channel n. -/
def clsOf (n h md l : Nat) : Nat := byClass (n % 16) h md l

/-- Channel states (R88). -/
def csOff : Nat := 0
def csOn : Nat := 1
def csInrush : Nat := 2
def csLimiting : Nat := 3
def csTripped : Nat := 4
def csWaitLatch : Nat := 5
def csLocked : Nat := 6
def csInhibit : Nat := 7
def csRefused : Nat := 8
def csShed : Nat := 9
def csNoLease : Nat := 10
def csDeferred : Nat := 11

/-- Causes of CHn_STAT.CAUSE. -/
def caShort : Nat := 1
def caOvercurrent : Nat := 2
def caThermalAbs : Nat := 3
def caThermalDelta : Nat := 4
def caHarness : Nat := 5
def caUndervolt : Nat := 6
def caLoadDump : Nat := 7
def caGndLoss : Nat := 8
def caStudLoss : Nat := 9
def caReverse : Nat := 10
def caShed : Nat := 11
def caRelease : Nat := 12
def caDieThermal : Nat := 13

/-- An event of a far die: queued in hold or while its link is down, up to 64 (R99, R148), else raised. -/
def State.dieEvent (s : State) (g : Nat) (hold : Fld) (linkOk : Fld) (e : Nat) (o : Owner) (p : List Byte) : State :=
  if s.isSet hold || !s.isSet linkOk then
    if (s.die g).queue.length < 64 then s.modDie g fun x => { x with queue := x.queue ++ [(e, o, p)] }
    else s.modDie g fun x => { x with lost := x.lost + 1 }
  else s.raise e o p

/-- An event of bole die d. -/
def State.boleEvent (s : State) (d e : Nat) (o : Owner) (p : List Byte) : State :=
  s.dieEvent (2 + d) (R.BOLE_STAT_HOLD d) (R.BOLE_STAT_LINK_OK d) e o p

/-- An event of a channel (R110, R136): payload bytes 16 and 17 its number and its die. -/
def State.chEvent (s : State) (n e : Nat) (p : List Byte) : State :=
  s.boleEvent (dieOf n) e (ownerOf (s.chOwner n)) ([BitVec.ofNat 8 n, BitVec.ofNat 8 (dieOf n)] ++ p)

/-- An event of a channel that is public (R110). -/
def State.chPublic (s : State) (n e : Nat) (p : List Byte) : State :=
  s.boleEvent (dieOf n) e .pub ([BitVec.ofNat 8 n, BitVec.ofNat 8 (dieOf n)] ++ p)

/-- A die-wide event. -/
def State.dieWide (s : State) (d e : Nat) (p : List Byte) : State :=
  s.boleEvent d e .pub ([0xFF, BitVec.ofNat 8 d] ++ p)

/-- Whether a channel is in an on state (R88). -/
def State.chOnState (s : State) (n : Nat) : Bool :=
  let st := s.rd (R.CHn_STAT_STATE n)
  st = csOn || st = csInrush || st = csLimiting

def State.setCh (s : State) (n st : Nat) : State := s.wr (R.CHn_STAT_STATE n) st

/-- Whether the microsequencer of a channel's die runs (R100). -/
def State.seqRun (s : State) (n : Nat) : Bool := s.isSet (R.BOLE_STAT_SEQ_RUN (dieOf n))

/-- The inhibit cause of a die, the highest of R510. -/
def Bole.cause (b : Bole) : Option Nat :=
  if b.reverse then some caReverse else if b.loadDump then some caLoadDump else if b.gndLoss then some caGndLoss
  else if b.studLoss then some caStudLoss else if b.undervolt then some caUndervolt else none

/-- The inhibit cause of a channel: its die's, or its own reverse current (R97). -/
def State.inhibitOf (s : State) (n : Nat) : Option Nat :=
  if (s.chan n).revCur then some caReverse else (s.bole (dieOf n)).cause

/-- Whether a PAIRED channel may not turn on: its lease line inactive or its release input high (R88, R102). -/
def State.leaseBlocks (s : State) (n : Nat) : Bool :=
  s.isSet (R.CHn_ROLE_PAIRED n) &&
    (!s.isSet (R.BOLE_STAT_LEASE (dieOf n)) || s.isSet (R.BOLE_STAT_RELEASE (dieOf n)))

def State.latched (s : State) (n : Nat) : Bool := s.isSet (R.CHn_STAT_TLATCH n) || s.isSet (R.CHn_STAT_HLATCH n)

/-! The drive of the output (R81-R83, R99) and Scaler's captures (R121). -/

/-- Drive sources. -/
def srcReg : Nat := 0
def srcKerf : Nat := 1
def srcExt : Nat := 2

/-- What the drive source of a channel in an on state asks of its output (R81), HOLD_PWM in hold (R99, R101). -/
def State.chWant (s : State) (n : Nat) : Bool :=
  s.chOnState n && s.isSet (R.CHn_CMD_ON n) && (s.chan n).analogOff.isNone &&
    (let src := s.rd (R.CHn_CFG_SRC n)
     if src = srcReg then true
     else if s.isSet (R.CHn_STAT_HOLD n) then s.isSet (R.CHn_CFG_HOLD_PWM n)
     else if src = srcKerf then (s.chan n).line
     else (s.extIn.getD (s.rd (R.CHn_CFG_EXTSEL n)) (false, false)).1)

/-- The least PWM period in ns, doubled below 12 V on the stud (R79, R82, R97). -/
def State.minPeriod (s : State) (n : Nat) : Nat :=
  clsOf n 2000000 1000000 500000 *
    (if (s.bole (dieOf n)).extLow && s.rd (R.BOLE_VSUP_MV (dieOf n)) < 12000 then 2 else 1)

/-- A switching edge before Scaler (R121): captured, or counted in CHn_SIG_SKIP. An edge that arrives during a capture does
not count toward DIV + 1. DESIGN CHOICE. -/
def State.sigEdge (s : State) (n : Nat) (off : Bool) : State :=
  let sel := s.rd (R.CHn_SIG_CFG_EDGE n)
  if !nbit sel (b2n off) then s
  else if (s.chan n).capture.isSome then s.bump (R.CHn_SIG_SKIP_COUNT n)
  else if (s.chan n).sigDiv > 0 then
    (s.modChan n fun c => { c with sigDiv := c.sigDiv - 1 }).bump (R.CHn_SIG_SKIP_COUNT n)
  else
    (s.modChan n fun c => { c with capture := some ⟨off, s.raw (R.CHn_SIG_CFG n)⟩, sigDiv := s.rd (R.CHn_SIG_CFG_DIV n), sigOf := s.rd (R.CHn_SIG_CFG_DIV n) }).wr
      (R.CHn_SIG_STAT_BUSY n) 1

/-- A capture ended by a protective turn-off or an inhibit is discarded and counted (R121). -/
def State.sigDiscard (s : State) (n : Nat) : State :=
  if (s.chan n).capture.isSome then
    ((s.modChan n fun c => { c with capture := none }).wr (R.CHn_SIG_STAT_BUSY n) 0).bump (R.CHn_SIG_SKIP_COUNT n)
  else s

/-- The output starts to conduct (R83); an on-edge of a PWM channel off for 10 ms opens the inrush window (R89). -/
def State.switchOn (s : State) (n : Nat) : State :=
  let c := s.chan n
  let idle := match c.offSince with | some t => decide (t + 10000000 ≤ s.now) | none => false
  let s1 := ((s.modChan n fun c => { c with delayOn := none }).wr (R.CHn_STAT_OUT n) 1).sigEdge n false
  if s.rd (R.CHn_CFG_SRC n) ≠ srcReg && idle then
    let s2 := s1.modChan n fun c => { c with window := true }
    if s2.rd (R.CHn_STAT_STATE n) = csOn then s2.setCh n csInrush else s2
  else s1

/-- The output stops conducting. -/
def State.switchOff (s : State) (n : Nat) : State :=
  (((s.modChan n fun c => { c with offSince := some s.now, delayOn := none }).wr (R.CHn_STAT_OUT n) 0).wr
    (R.CHn_STAT_LIMITING n) 0).sigEdge n true

/-- The output brought to what its source asks; a turn-on that waits for its period (R82) goes on waiting. -/
def State.drive (s : State) (n : Nat) : State :=
  let out := s.isSet (R.CHn_STAT_OUT n)
  if !s.chWant n then (if out then s.switchOff n else s.modChan n fun c => { c with delayOn := none })
  else if out || (s.chan n).delayOn.isSome then s
  else s.switchOn n

/-- An on-edge of the IN line that drives a channel (R82): within the least PWM period of the on-edge before it, the turn-on
is delayed and CHn_FLT.PWM_FAST set, with CH_PWM_FAST once per frame. In hold the line is ignored (R99). -/
def State.inOn (s : State) (n : Nat) : State :=
  if s.isSet (R.CHn_STAT_HOLD n) then s
  else
    let t := match (s.chan n).lastOn with | some x => max s.now (x + s.minPeriod n) | none => s.now
    let s1 := s.modChan n fun c => { c with lastOn := some t }
    if t = s.now || !s.chWant n || s.isSet (R.CHn_STAT_OUT n) then s1.drive n
    else
      let s2 := (s1.modChan n fun c => { c with delayOn := some t }).wr (R.CHn_FLT_PWM_FAST n) 1
      if (s.chan n).fastRaised then s2
      else (s2.modChan n fun c => { c with fastRaised := true }).chEvent n 328 []

/-- Delayed turn-ons whose least period has elapsed (R82). -/
def State.driveDue (s : State) : State :=
  s.each (List.range 64) fun s n =>
    match (s.chan n).delayOn with
    | some t => if t ≤ s.now then s.switchOn n else s
    | none => s

/-- Time moves on: delayed turn-ons that fall due take place. -/
def State.advance (s : State) (t : Nat) : State := (s.onNow (max t)).driveDue

/-! Turning on (R88, R94, R102). -/

/-- The first check of the turn-on order that applies, the governor's aside. -/
def State.turnOnBlock (s : State) (n : Nat) : Option Nat :=
  if (s.inhibitOf n).isSome then some csInhibit
  else if s.latched n then some csWaitLatch
  else if s.leaseBlocks n then some csNoLease
  else if (s.bole (dieOf n)).over36 then some csDeferred
  else none

/-- A turn-on attempt that a check stops (R88, R97, R102). -/
def State.enterBlocked (s : State) (n st : Nat) : State :=
  let s1 := s.setCh n st
  if st = csInhibit then s1.wr (R.CHn_FLT_SUPPLY n) 1
  else if st = csNoLease then
    (if s.rd (R.CHn_STAT_STATE n) = csNoLease then s1 else (s1.wr (R.CHn_FLT_NOLEASE n) 1).chEvent n 329 [])
  else if st = csDeferred && !(s.chan n).deferRaised then
    (s1.modChan n fun c => { c with deferRaised := true }).chPublic n 333 []
  else s1

/-- A turn-on: INRUSH, with the window open; a protective restart uses a retry, and a turn-on after a boundary with
ON at 0 refills the retries (R88, R89, R93, R94). -/
def State.inrush (s : State) (n : Nat) : State :=
  let c := s.chan n
  let s1 :=
    if c.restart then
      let left := s.rd (R.CHn_STAT_RETRY_LEFT n) - 1
      ((s.wr (R.CHn_STAT_RETRY_LEFT n) left).bump (R.CHn_CNT_RESTARTS n)).chEvent n 323 (leBytes 1 left)
    else if c.wasOff then s.wr (R.CHn_STAT_RETRY_LEFT n) (s.rd (R.CHn_TIM_RETRY_MAX n))
    else s
  ((s1.modChan n fun c => { c with restart := false, wasOff := false, window := true }).setCh n csInrush).drive n

/-! Turning off. -/

/-- An output turned off at once, its window closed. -/
def State.forceOff (s : State) (n : Nat) : State :=
  let s1 := s.modChan n fun c => { c with window := false, delayOn := none }
  if s.isSet (R.CHn_STAT_OUT n) then s1.switchOff n else s1.wr (R.CHn_STAT_LIMITING n) 0

/-- The flag of CHn_FLT for a protective cause. -/
def fltOf (n cause : Nat) : Fld :=
  if cause = caShort then R.CHn_FLT_SHORT n else if cause = caOvercurrent then R.CHn_FLT_OVERCURRENT n
  else if cause = caHarness then R.CHn_FLT_HARNESS n else R.CHn_FLT_THERMAL n

/-- The frames of RETRY_DLY count from a turn-off (R93). -/
def State.offNow (s : State) (n : Nat) : State := s.modChan n fun c => { c with offFrames := 0, offMid := decide (s.inFrame ≠ 0) }

/-- The state after a protective turn-off (R88, R93). -/
def State.afterTrip (s : State) (n cause : Nat) : State :=
  let s1 := s.modChan n fun c => { c with analogOff := none }
  if s.rd (R.CHn_STAT_RETRY_LEFT n) > 0 then
    (s1.modChan n fun c => { c with restart := true }).setCh n (if s.latched n then csWaitLatch else csTripped)
  else
    (((s1.modChan n fun c => { c with restart := false }).setCh n csLocked).wr (R.CHn_FLT_LOCKED n) 1).chEvent n 324
      (leBytes 1 cause)

/-- A protective turn-off of a channel in an on state (R93), with its event; in the analog-only interval the state
follows when the microsequencer runs again (R100). -/
def State.protectOff (s : State) (n cause event : Nat) (p : List Byte) : State :=
  if !s.chOnState n || (s.chan n).analogOff.isSome then s
  else
    let s1 := (((((s.sigDiscard n).forceOff n).offNow n).wr (R.CHn_STAT_CAUSE n) cause).wr (fltOf n cause) 1).bump (R.CHn_CNT_TRIPS n)
    let s2 := if event = 0 then s1 else s1.chEvent n event p
    if s.seqRun n then s2.afterTrip n cause else s2.modChan n fun c => { c with analogOff := some cause }

/-- A channel enters INHIBIT (R88, R96): from an on state it turns off; a pending protective restart stays pending. -/
def State.inhibit (s : State) (n cause : Nat) : State :=
  let st := s.rd (R.CHn_STAT_STATE n)
  if s.chOnState n then
    if (s.chan n).analogOff.isSome then s
    else
      let s1 := ((s.sigDiscard n).forceOff n).wr (R.CHn_STAT_CAUSE n) cause
      if s.seqRun n then (s1.wr (R.CHn_FLT_SUPPLY n) 1).setCh n csInhibit
      else s1.modChan n fun c => { c with analogOff := some cause }
  else if (st = csTripped ∨ st = csWaitLatch) ∧ s.seqRun n then (s.wr (R.CHn_FLT_SUPPLY n) 1).setCh n csInhibit
  else s

/-- Causes that the analog core acts on without the microsequencer (R100). -/
def analogCause (c : Nat) : Bool := c = caGndLoss || c = caLoadDump || c = caReverse

/-- Whether the analog core alone inhibits a channel: a cause of its die, since reverse current on one channel is not among
what it acts on (R100). -/
def State.analogInhibits (s : State) (n : Nat) : Bool :=
  match (s.bole (dieOf n)).cause with | some c => analogCause c | none => false

/-- The channels of a list follow the inhibit causes that now hold (R96, R510). CHn_STAT.CAUSE follows them only where it
already shows an inhibit cause: a channel that enters INHIBIT without a turn-off keeps the cause of its last turn-off, since
the spec names no other. DESIGN CHOICE. -/
def State.applyInhibits (s : State) (ns : List Nat) : State :=
  s.each ns fun s n =>
    match s.inhibitOf n with
    | some c =>
      if s.rd (R.CHn_STAT_STATE n) = csInhibit then
        (if 6 ≤ s.rd (R.CHn_STAT_CAUSE n) ∧ s.rd (R.CHn_STAT_CAUSE n) ≤ 10 then s.wr (R.CHn_STAT_CAUSE n) c else s)
      else if s.seqRun n || s.analogInhibits n then s.inhibit n c
      else s
    | none =>
      if s.rd (R.CHn_STAT_STATE n) = csInhibit ∧ s.seqRun n ∧ (s.chan n).restart ∧ s.isSet (R.CHn_CMD_ON n) then
        s.setCh n (if s.latched n then csWaitLatch else csTripped)
      else s

/-- A supply condition set or cleared in a die (R97). -/
def Bole.set (b : Bole) (c : SupplyCond) (v : Bool) : Bole :=
  match c with
  | .extLow => { b with extLow := v }
  | .extHigh => { b with extHigh := v }
  | .over36 => { b with over36 := v }
  | .loadDump => { b with loadDump := v }
  | .undervolt => { b with undervolt := v }
  | .studLoss => { b with studLoss := v }
  | .reverse => { b with reverse := v }
  | .gndLoss => { b with gndLoss := v }
  | .reverseCur _ => b

/-- BOLE_STAT.SUPPLY: the condition present with the highest code. -/
def Bole.supply (b : Bole) : Nat :=
  if b.reverse then 7 else if b.studLoss then 6 else if b.undervolt then 5 else if b.loadDump then 4
  else if b.over36 then 3 else if b.extHigh then 2 else if b.extLow then 1 else 0

/-- The dies a condition reaches (R80, R97): a stud condition both dies of the stud, ground loss all four. -/
def condDies (d : Nat) : SupplyCond → List Nat
  | .studLoss => [2 * (d / 2), 2 * (d / 2) + 1]
  | .gndLoss => [0, 1, 2, 3]
  | _ => [d]

/-! Safety output switches (R104, R105). Switch A of SOk lies on Bk, switch B on B((k + 1) mod 4). -/

def soDie (k : Nat) (sw : Bool) : Nat := if sw then (k + 1) % 4 else k
def soIdx (k : Nat) (sw : Bool) : Nat := 2 * k + b2n sw
def soCause (k : Nat) (sw : Bool) : Fld := if sw then R.SO_SWB_STAT_CAUSE (soDie k sw) else R.SO_SWA_STAT_CAUSE k
def soTripped (k : Nat) (sw : Bool) : Fld := if sw then R.SO_SWB_STAT_TRIPPED (soDie k sw) else R.SO_SWA_STAT_TRIPPED k
def soOut (k : Nat) (sw : Bool) : Fld := if sw then R.SO_SWB_STAT_OUT (soDie k sw) else R.SO_SWA_STAT_OUT k
def soGate (k : Nat) (sw : Bool) : Fld := if sw then R.SO_SWB_STAT_GATE_EN (soDie k sw) else R.SO_SWA_STAT_GATE_EN k
def soCur (k : Nat) (sw : Bool) : Fld := if sw then R.SO_SWB_STAT_CUR (soDie k sw) else R.SO_SWA_STAT_CUR k
def State.so (s : State) (k : Nat) (sw : Bool) : SoSw := s.sos.getD (soIdx k sw) {}
def State.modSo (s : State) (k : Nat) (sw : Bool) (f : SoSw → SoSw) : State := s.onSos fun l => updAt l (soIdx k sw) f

/-- A switch conducts while its gate enable is high, it has not tripped and no inhibit holds (R104, R105). -/
def State.soDrive (s : State) (k : Nat) (sw : Bool) : State :=
  let inh := (s.bole (soDie k sw)).cause.isSome
  let on := s.isSet (soGate k sw) && !s.isSet (soTripped k sw) && !inh
  let was := s.isSet (soOut k sw)
  let s1 := s.wrB (soOut k sw) on
  if on then s1.wr (soCause k sw) 0
  else if was && inh && !s.isSet (soTripped k sw) then s1.wr (soCause k sw) 4
  else s1

/-- Both switches that a die carries. -/
def State.soDieDrive (s : State) (d : Nat) : State := (s.soDrive d false).soDrive ((d + 3) % 4) true

/-- The gate-enable line of a switch changes (R104); a tripped switch is freed when its line has been low for 1 ms. -/
def State.soGateChange (s : State) (k : Nat) (sw : Bool) (level : Bool) : State :=
  if s.isSet (soGate k sw) = level then s
  else
    let s1 := s.wrB (soGate k sw) level
    if !level then (s1.modSo k sw fun x => { x with lowAt := some s.now }).soDrive k sw
    else
      let long := match (s.so k sw).lowAt with | some t => decide (t + 1000000 ≤ s.now) | none => true
      let s2 := if long && s.isSet (soTripped k sw) then (s1.wr (soTripped k sw) 0).wr (soCause k sw) 0 else s1
      (s2.modSo k sw fun x => { x with lowAt := none }).soDrive k sw

/-- A switch trips (R105): 1 short circuit, 2 overcurrent, 3 thermal shutdown. -/
def State.soTrip (s : State) (k : Nat) (sw : Bool) (cause : Nat) : State :=
  if !s.isSet (soOut k sw) then s
  else
    (((s.wr (soTripped k sw) 1).wr (soCause k sw) cause).wr (soOut k sw) 0).dieWide (soDie k sw) 337
      (leBytes 1 k ++ leBytes 1 (b2n sw) ++ leBytes 1 cause)

/-! Supply conditions (R97). -/

/-- A condition entered or left on one die. -/
def State.dieCond (s : State) (d : Nat) (c : SupplyCond) (v : Bool) (mv : Nat) : State :=
  let before := (s.bole d).cause
  let s1 := s.modBole d fun b => b.set c v
  let b := s1.bole d
  let s2 := (s1.wr (R.BOLE_STAT_SUPPLY d) b.supply).wrB (R.BOLE_STAT_GND_LOSS d) b.gndLoss
  let s3 := if !v && c = .over36 then s2.each (chansOf d) fun s n => s.modChan n fun x => { x with deferRaised := false } else s2
  let after := b.cause
  let s4 :=
    if before = after then s3
    else
      let s3' := match before with
        | some x => if v then s3 else s3.dieWide d 332 (leBytes 1 x)
        | none => s3
      match after with
      | some y => s3'.dieWide d 331 (leBytes 1 y ++ leBytes 2 (mv / 10))
      | none => s3'
  (s4.applyInhibits (chansOf d)).soDieDrive d

/-- Reverse current on a conducting channel (R97), not evaluated on a PAIRED channel for 250 us after a change of the
lease line or a release (R133), nor while the microsequencer stands (R100). -/
def State.reverseCur (s : State) (n : Nat) (v : Bool) (mv : Nat) : State :=
  let masked := s.isSet (R.CHn_ROLE_PAIRED n) &&
    (match (s.bole (dieOf n)).leaseAt with | some t => decide (s.now < t + 250000) | none => false)
  if !s.seqRun n ∨ v = (s.chan n).revCur ∨ (v ∧ (!s.isSet (R.CHn_STAT_OUT n) ∨ masked)) then s
  else
    let before := s.inhibitOf n
    let s1 := s.modChan n fun c => { c with revCur := v }
    let after := s1.inhibitOf n
    let s2 :=
      if before = after then s1
      else
        let s1' := match before with
          | some x => if v then s1 else s1.chPublic n 332 (leBytes 1 x)
          | none => s1
        match after with
        | some y => s1'.chPublic n 331 (leBytes 1 y ++ leBytes 2 (mv / 10))
        | none => s1'
    s2.applyInhibits [n]

def State.supplyCond (s : State) (d : Nat) (c : SupplyCond) (v : Bool) (mv : Nat) : State :=
  match c with
  | .reverseCur n => s.reverseCur n v mv
  | _ => s.each (condDies d c) fun s d => s.dieCond d c v mv

/-! Thermal shutdown and latches (R92). -/

/-- THERMAL_SHUTDOWN: a channel that is not in an on state sets no latch; the spec states it for a die's shutdown only.
DESIGN CHOICE. -/
def State.thermalOff (s : State) (n : Nat) (delta : Bool) (temp : Int) : State :=
  let cause := if delta then caThermalDelta else caThermalAbs
  if s.chOnState n then
    (s.wr (R.CHn_STAT_TLATCH n) 1).protectOff n cause 322 (leBytes 1 cause ++ leBytes 1 (unsigned 8 temp))
  else s

/-- The die reference reaches 155 degrees C: conducting channels turn off, every channel sets its latch. -/
def State.dieThermal (s : State) (d : Nat) : State :=
  s.each (chansOf d) fun s n =>
    let s1 := (s.wr (R.CHn_STAT_TLATCH n) 1).modChan n fun c => { c with dieLatch := true }
    s1.protectOff n caDieThermal 322 (leBytes 1 caDieThermal ++ leBytes 1 (s.rd (R.CHn_MEAS_T_TJ n)))

def State.thermalClear (s : State) (n : Nat) : State :=
  if s.isSet (R.CHn_STAT_TLATCH n) then
    ((s.wr (R.CHn_STAT_TLATCH n) 0).modChan n fun c => { c with dieLatch := false }).chEvent n 325 [0]
  else s

/-! Lease line and release (R102, R103). -/

def State.leaseLine (s : State) (d : Nat) (level : Bool) : State :=
  if s.isSet (R.BOLE_STAT_LEASE d) = level then s
  else (s.wrB (R.BOLE_STAT_LEASE d) level).modBole d fun b => { b with leaseAt := some s.now }

/-- The pairing release reaches a die (R103): every conducting PAIRED channel turns off. One that the analog core has
already turned off goes on under R93 or R96 when the microsequencer runs (R100). -/
def State.releaseDie (s : State) (d : Nat) (level : Bool) : State :=
  if s.isSet (R.BOLE_STAT_RELEASE d) = level then s
  else
    let s1 := (s.wrB (R.BOLE_STAT_RELEASE d) level).modBole d fun b => { b with leaseAt := some s.now }
    if !level then s1
    else s1.each (chansOf d) fun s n =>
      if s.isSet (R.CHn_ROLE_PAIRED n) && s.chOnState n && (s.chan n).analogOff.isNone then
        ((((s.forceOff n).wr (R.CHn_STAT_CAUSE n) caRelease).setCh n csNoLease).modChan n fun c => { c with restart := false }).chEvent n 330 []
      else s

/-! Hold and re-adoption (R99-R101). -/

/-- Staged values and the parts of accepted COMMITs of the groups that a predicate names are discarded (R99). -/
def State.dropGroups (s : State) (p : Nat → Bool) : State :=
  let s1 := s.onStaged fun l => l.filter fun e => !p (groupOf e.1)
  let s2 := s1.onCommits fun l => (l.map fun c =>
    { c with groups := c.groups.filter fun g => !p g, snap := c.snap.filter fun e => !p (groupOf e.1) }).filter
    fun c => !c.groups.isEmpty
  s2.each (List.range 17) fun s m => s.refreshPending m

/-- The groups of bole die d, and of limb die l. -/
def groupOfBole (d g : Nat) : Bool := 0x0200 + 16 * d ≤ g && g < 0x0200 + 16 * d + 16
def groupOfLimb (l g : Nat) : Bool := 0x0300 + 48 * l ≤ g && g < 0x0300 + 48 * l + 48

/-- A bole die enters hold: 0 crown reset, 1 link silence (R99); it sheds and restores nothing there (R130). -/
def State.boleHold (s : State) (d why : Nat) : State :=
  if s.isSet (R.BOLE_STAT_HOLD d) then s
  else
    let s1 := (s.wr (R.BOLE_STAT_HOLD d) 1).dropGroups (groupOfBole d)
    let s2 := s1.each (chansOf d) fun s n => ((s.wr (R.CHn_STAT_HOLD n) 1).modChan n fun c => { c with verdict := .none }).drive n
    s2.dieWide d 334 (leBytes 1 why)

/-- The events queued on a far die delivered (R99). -/
def State.flushDie (s : State) (g : Nat) : State :=
  let q := (s.die g).queue
  (s.modDie g fun x => { x with queue := [], lost := 0 }).raises q

/-- The effect of BOLE_HOLD.ADOPT (R101): ignored while LINK_OK is 0. REG channels leave hold; a KERF or EXT channel leaves it
at the first boundary after a commit of its group. -/
def State.boleAdopt (s : State) (d : Nat) : State :=
  if !s.isSet (R.BOLE_STAT_LINK_OK d) || !s.isSet (R.BOLE_STAT_HOLD d) then s
  else
    let lost := sat 0xFFFF (s.die (2 + d)).lost
    let s1 := s.wr (R.BOLE_STAT_HOLD d) 0
    let s2 := s1.each (chansOf d) fun s n =>
      if s.rd (R.CHn_CFG_SRC n) = srcReg then (s.wr (R.CHn_STAT_HOLD n) 0).drive n else s
    (s2.flushDie (2 + d)).dieWide d 335 (leBytes 2 lost)

/-- The microsequencer stops (R100): only the analog core acts. -/
def State.seqStop (s : State) (d : Nat) : State :=
  if s.isSet (R.BOLE_STAT_SEQ_RUN d) then
    (s.wr (R.BOLE_STAT_SEQ_RUN d) 0).modBole d fun b => { b with seqStop := s.now }
  else s

/-- The microsequencer runs again (R100): turn-offs of the interval go on under R93 or R96 by cause. -/
def State.seqResume (s : State) (d : Nat) : State :=
  if s.isSet (R.BOLE_STAT_SEQ_RUN d) then s
  else
    let us := sat 0xFFFF ((s.now - (s.bole d).seqStop) / 1000)
    let s1 := s.wr (R.BOLE_STAT_SEQ_RUN d) 1
    let s2 := s1.each (chansOf d) fun s n =>
      match (s.chan n).analogOff with
      | some c =>
        if 6 ≤ c ∧ c ≤ 10 then
          ((s.modChan n fun x => { x with analogOff := none }).wr (R.CHn_FLT_SUPPLY n) 1).setCh n csInhibit
        else s.afterTrip n c
      | none => s
    (s2.applyInhibits (chansOf d)).dieWide d 336 (leBytes 2 us)

/-! Arrivals of this chapter. -/

/-- The IN line that drives channel n has taken a level: an on-edge where it rose (R82), else the output follows. -/
def State.inLine (s : State) (n : Nat) (rose : Bool) : State := if rose then s.inOn n else s.drive n

def execInEdge (src : EdgeSrc) (level : Bool) (s : State) : Out :=
  s.finish <| match src with
    | .k n =>
      let t := s.modChan n fun c => { c with line := level }
      if s.rd (R.CHn_CFG_SRC n) = srcKerf then t.inLine n (level && !(s.chan n).line) else t
    | .x j =>
      let rose := level && !(s.extIn.getD j (false, false)).1
      (s.onExtIn fun l => updAt l j fun x => (level, x.2)).each (List.range 64) fun s n =>
        if s.rd (R.CHn_CFG_SRC n) = srcExt ∧ s.rd (R.CHn_CFG_EXTSEL n) = j.val then s.inLine n rose else s

def State.windowEnd (s : State) (n : Nat) : State :=
  let s1 := s.modChan n fun c => { c with window := false }
  if s.rd (R.CHn_STAT_STATE n) = csInrush then s1.setCh n csOn else s1

def execInrushWindowEnd (n : Fin 64) (s : State) : Out := s.finish (s.windowEnd n)

def execCurrentCeilingReached (n : Fin 64) (s : State) : Out :=
  s.finish <|
    if (s.rd (R.CHn_STAT_STATE n) = csOn ∨ s.rd (R.CHn_STAT_STATE n) = csInrush) ∧ s.isSet (R.CHn_STAT_OUT n) then
      (s.setCh n csLimiting).wr (R.CHn_STAT_LIMITING n) 1
    else s

def execCurrentBelowCeiling (n : Fin 64) (s : State) : Out :=
  s.finish <|
    if s.rd (R.CHn_STAT_STATE n) = csLimiting then
      (s.setCh n (if (s.chan n).window then csInrush else csOn)).wr (R.CHn_STAT_LIMITING n) 0
    else s

/-- OVERCURRENT_TRIP (R90): the timer is held at 0 while the inrush window is open, and is the microsequencer's. -/
def execOvercurrentTrip (n : Fin 64) (cur : Nat) (s : State) : Out :=
  s.finish <|
    if (s.chan n).window || !s.seqRun n then s
    else s.protectOff n caOvercurrent 321 (leBytes 2 (sat 0xFFFF cur))

def execShortCircuit (n : Fin 64) (peak : Nat) (s : State) : Out :=
  s.finish (s.protectOff n caShort 320 (leBytes 2 (sat 0xFFFF peak)))

def execThermalShutdown (n : Fin 64) (delta : Bool) (temp : Int) (s : State) : Out := s.finish (s.thermalOff n delta temp)
def execDieThermalShutdown (d : Fin 4) (s : State) : Out := s.finish (s.dieThermal d)
def execThermalLatchClear (n : Fin 64) (s : State) : Out := s.finish (s.thermalClear n)

/-- RETRY_REFILL (R94). -/
def execRetryRefill (n : Fin 64) (s : State) : Out :=
  s.finish (if s.chOnState n then s.wr (R.CHn_STAT_RETRY_LEFT n) (s.rd (R.CHn_TIM_RETRY_MAX n)) else s)

/-- A flag of R95 set, with its event when it becomes 1. -/
def State.setOpen (s : State) (n : Nat) (stat flt : Fld) (e : Nat) (p : List Byte) : State :=
  let s1 := (s.wr stat 1).wr flt 1
  if s.isSet stat then s1 else s1.chEvent n e p

/-- Whether the partner may drive a channel's output (R133). -/
def State.partnerDrives (s : State) (n : Nat) : Bool :=
  s.isSet (R.CHn_ROLE_PAIRED n) && !s.isSet (R.BOLE_STAT_LEASE (dieOf n))

def execOpenLoadDetect (n : Fin 64) (offState : Bool) (s : State) : Out :=
  s.finish <|
    if offState then
      (if s.isSet (R.CHn_CFG_OLOFF_EN n) && !s.isSet (R.CHn_STAT_OUT n) && !s.partnerDrives n then
        s.setOpen n (R.CHn_STAT_OL_OFF n) (R.CHn_FLT_OL_OFF n) 326 [1] else s)
    else if s.isSet (R.CHn_CFG_OLON_EN n) && s.chOnState n then
      s.setOpen n (R.CHn_STAT_OL_ON n) (R.CHn_FLT_OL_ON n) 326 [0]
    else s

def execStbDetect (n : Fin 64) (s : State) : Out :=
  s.finish <|
    if !s.isSet (R.CHn_STAT_OUT n) && !s.partnerDrives n then
      s.setOpen n (R.CHn_STAT_STB n) (R.CHn_FLT_STB n) 327 (leBytes 2 (s.rd (R.CHn_MEAS_V_VOUT n)))
    else s

def execSupplyConditionEnter (d : Fin 4) (cond : SupplyCond) (mv : Nat) (s : State) : Out :=
  s.finish (s.supplyCond d cond true mv)
def execSupplyConditionLeave (d : Fin 4) (cond : SupplyCond) (mv : Nat) (s : State) : Out :=
  s.finish (s.supplyCond d cond false mv)
def execSequencerResume (d : Fin 4) (s : State) : Out := s.finish (s.seqResume d)
def execLeaseLineChange (d : Fin 4) (level : Bool) (s : State) : Out := s.finish (s.leaseLine d level)
def execSoGateEnableChange (k : Fin 4) (sw : Bool) (level : Bool) (s : State) : Out := s.finish (s.soGateChange k sw level)
def execSoSwitchTrip (k : Fin 4) (sw : Bool) (cause : Fin 3) (s : State) : Out := s.finish (s.soTrip k sw (cause + 1))

end Sys2Proof.Machine
end

