-- ==== Sys2Proof/Machine/Harness.lean ====
section
/-! DEFINITION. Measurement, the wire thermal model and Scaler (04_channels_harness.md), and the boundary of a bole die
(R88, R93, R112-R119, R125, R128, R129). -/

namespace Sys2Proof.Machine

/-! Measurement (R111-R113). -/

/-- The means of a frame's samples in the units of CHn_MEAS: rounded to the nearest step. -/
def State.measLatch (s : State) (n : Nat) (o : ChanObs) (stud : Nat) : State :=
  let l := o.samples
  let cnt : Int := max 1 l.length
  let cond := l.filter fun x => x.on
  let imean := roundDiv (isum (l.map fun x => x.cur)) (cnt * 10)
  let sq := isum (l.map fun x => x.cur * x.cur)
  let irms := (isqrt (sq / cnt).toNat + 5) / 10
  let vout := roundDiv (isum (l.map fun x => (x.volt : Int))) (cnt * 10)
  let psw := roundDiv (isum (l.map fun x => ((stud : Int) - x.volt) * x.cur)) (cnt * 10000)
  let peak := (l.foldl (fun m x => max m x.cur.natAbs) 0 + 50) / 100
  let duty := roundDiv (65535 * cond.length) cnt
  let s1 := ((s.wr (R.CHn_MEAS_I_IMEAN n) (unsigned 16 (clampInt (-32767) 32767 imean))).wr (R.CHn_MEAS_I_IRMS n)
    (sat 0xFFFF irms)).wr (R.CHn_MEAS_V_VOUT n) (sat 0xFFFF vout.toNat)
  let s2 := ((s1.wr (R.CHn_MEAS_V_IPEAK n) (sat 0xFFFF peak)).wr (R.CHn_MEAS_T_TJ n) (unsigned 8 (clampInt (-128) 127 o.tj))).wr
    (R.CHn_MEAS_T_PSW n) (sat 0xFFFF psw.toNat)
  s2.wr (R.CHn_MEAS_D_DUTY n) duty.toNat

/-- The mean current of the conducting samples, in mA. -/
def ionOf (o : ChanObs) : Int :=
  let cond := o.samples.filter fun x => x.on
  isum (cond.map fun x => x.cur) / max 1 (cond.length : Int)

/-- The flags of R95 that the frame's samples no longer support clear. -/
def State.openClear (s : State) (n : Nat) (o : ChanObs) (stud : Nat) : State :=
  let off := o.samples.all fun x => !x.on
  let v := 10 * s.rd (R.CHn_MEAS_V_VOUT n)
  let onOpen := !off && s.isSet (R.CHn_CFG_OLON_EN n) && decide (ionOf o < clsOf n 1000 300 50)
  let offOpen := off && s.isSet (R.CHn_CFG_OLOFF_EN n) && decide (2000 < v) && decide (10 * v ≤ 7 * stud)
  let short := off && decide (10 * v > 7 * stud)
  ((s.when (!onOpen) (·.wr (R.CHn_STAT_OL_ON n) 0)).when (!offOpen) (·.wr (R.CHn_STAT_OL_OFF n) 0)).when (!short)
    (·.wr (R.CHn_STAT_STB n) 0)

/-! The wire model (R114-R119). Rises are in nK. -/

/-- rho20 in micro-ohm per metre, theta in 0.1 K m/W and tau in s by SIZE (R114). -/
def wireTable : List (Nat × Nat × Nat) :=
  [(52000, 181, 54), (37100, 147, 65), (24700, 124, 79), (18500, 112, 88), (12700, 98, 104), (7600, 79, 133),
   (4710, 64, 166), (3140, 55, 198), (1820, 43, 255), (1160, 37, 312), (743, 30, 382), (527, 26, 448), (368, 22, 531)]

/-- B of R115 in hundredths. -/
def bundleOf (b : Nat) : Nat := [100, 125, 150, 200].getD b 100

/-- Tclass of R115 in degrees C. -/
def tclassOf (c : Nat) : Nat := [85, 100, 125, 150, 175, 200].getD c 200

/-- TAMB in degrees C. -/
def State.tamb (s : State) (n : Nat) : Int := signed 8 (s.rd (R.CHn_WIRE_AMB_TAMB n))

/-- The estimated conductor temperature in nK above 0 degrees C. -/
def State.wireTc (s : State) (n : Nat) : Int := s.tamb n * 1000000000 + (s.chan n).dt

/-- rho over rho20, in 10^-14 (R116). -/
def rhoFactor (tc : Int) : Int := 100000000000000 + 393 * (tc - 20000000000)

/-- One update of the rise from IRMS (10 mA) over a frame of tf ns (R116). -/
def wireStep (tc dt : Int) (size bundle irms tf : Nat) : Int :=
  let (rho, theta, tau) := wireTable.getD size (0, 0, 1)
  let b := bundleOf bundle
  let target : Int := ((100 * irms * irms * rho * theta * b : Nat) : Int) * rhoFactor tc / 100000000000000000000
  dt + (tf : Int) * (target - dt) * 100 / ((tau * 1000000000 * b : Nat) : Int)

/-- The model and VDROP at a boundary, with the configuration of the frame just ended. -/
def State.wireUpdate (s : State) (n : Nat) (o : ChanObs) (tf : Nat) : State :=
  let size := s.rd (R.CHn_WIRE_SIZE n)
  if size > 12 then s.wr (R.CHn_MEAS_D_VDROP n) 0
  else
    let tc := s.wireTc n
    let s1 := s.modChan n fun c =>
      { c with dt := wireStep tc c.dt size (s.rd (R.CHn_WIRE_BUNDLE n)) (s.rd (R.CHn_MEAS_I_IRMS n)) tf }
    let rho : Int := ((wireTable.getD size (0, 0, 1)).1 : Nat)
    let v := ionOf o * rho * rhoFactor tc / 100000000000000 * (s.rd (R.CHn_WIRE_LENGTH n) : Nat) / 1000000000
    s1.wr (R.CHn_MEAS_D_VDROP n) (sat 0xFFFF v.toNat)

/-- The governor's filters (R125). -/
def State.govFilter (s : State) (n : Nat) : State :=
  let im := max 0 (signed 16 (s.rd (R.CHn_MEAS_I_IMEAN n)))
  let p : Int := s.rd (R.CHn_MEAS_T_PSW n)
  let s1 := s.modChan n fun c =>
    { c with fi := c.fi + (im * 1000000 - c.fi) / 4000, fp := c.fp + (p * 1000000 - c.fp) / 4000 }
  (s1.wr (R.CHn_MEAS_G_FI n) (sat 0xFFFF ((s1.chan n).fi / 1000000).toNat)).wr (R.CHn_MEAS_G_FP n)
    (sat 0xFFFF ((s1.chan n).fp / 1000000).toNat)

/-- The trip and the warning of R118 and R119 at a boundary, with the configuration that now applies. -/
def State.harnessCheck (s : State) (n : Nat) : State :=
  if s.rd (R.CHn_WIRE_SIZE n) > 12 then
    (s.modChan n fun c => { c with dt := 0 }).wr (R.CHn_WIRE_TC_TC n) (unsigned 16 (s.tamb n * 10))
  else
    let tc := s.wireTc n
    let tcl : Int := tclassOf (s.rd (R.CHn_WIRE_CLASS n)) * 1000000000
    let deci := unsigned 16 (tc / 100000000)
    let s1 := s.wr (R.CHn_WIRE_TC_TC n) deci
    let s2 :=
      if tc ≥ tcl ∧ !s.isSet (R.CHn_STAT_HLATCH n) then
        let t := ((s1.wr (R.CHn_STAT_HLATCH n) 1).wr (R.CHn_FLT_HARNESS n) 1).chEvent n 352
          (leBytes 2 deci ++ leBytes 2 (s.rd (R.CHn_MEAS_I_IRMS n)))
        if s.isSet (R.CHn_CMD_ON n) then t.protectOff n caHarness 0 [] else t
      else s1
    if tc ≥ tcl - 10000000000 ∧ !(s.chan n).warned then
      (s2.modChan n fun c => { c with warned := true }).chEvent n 353 (leBytes 2 deci)
    else if tc < tcl - 15000000000 then s2.modChan n fun c => { c with warned := false }
    else s2

/-- The harness latch clears at 20 K below Tclass, or when the model goes off (R118, R119). -/
def State.harnessClear (s : State) (n : Nat) : State :=
  let tcl : Int := tclassOf (s.rd (R.CHn_WIRE_CLASS n)) * 1000000000
  if s.isSet (R.CHn_STAT_HLATCH n) ∧ (s.rd (R.CHn_WIRE_SIZE n) > 12 ∨ s.wireTc n ≤ tcl - 20000000000) then
    (s.wr (R.CHn_STAT_HLATCH n) 0).chEvent n 325 [1]
  else s

/-! Contributions (R126): currents in 10 nA, dissipations in 10 nW. -/

/-- Ron_max of R79 in 0.1 milliohm. -/
def ronMax (n : Nat) : Nat := clsOf n 10 34 150

/-- c and cp of a channel, whatever its state. -/
def State.contrib (s : State) (n : Nat) : Int × Int :=
  let e := s.rd (R.CHn_IEXP_IEXP n)
  (max (e * 10000000 : Nat) (s.chan n).fi, max (e * e * ronMax n * 100 : Nat) (s.chan n).fp)

/-! The boundary of a die. -/

/-- An unannounced turn-on decided by the die against its spare allowance (R129). -/
def State.spareDecide (s : State) (n : Nat) : State :=
  let d := dieOf n
  let (c, cp) := s.contrib n
  let si : Int := s.rd (R.BOLE_GOV_SPARE_SPARE_I d)
  let sp : Int := s.rd (R.BOLE_GOV_SPARE_SPARE_P d)
  if s.isSet (R.CHn_ROLE_ESSENTIAL n) then s.inrush n
  else if c ≤ si * 10000000 ∧ cp ≤ sp * 1000000 then
    ((s.wr (R.BOLE_GOV_SPARE_SPARE_I d) ((si * 10000000 - c) / 10000000).toNat).wr (R.BOLE_GOV_SPARE_SPARE_P d)
      ((sp * 1000000 - cp) / 1000000).toNat).inrush n
  else
    let q3 := decide (c ≤ si * 10000000)
    let need := if q3 then cp / 1000000 else c / 10000000
    let left := if q3 then sp else si
    ((s.setCh n csRefused).onGov fun g => { g with refusals := sat 0xFFFFFFFF (g.refusals + 1) }).chEvent n 354
      ([if q3 then 3 else 0, 1] ++ leBytes 2 (sat 0xFFFF need.toNat) ++ leBytes 2 left.toNat)

/-- A turn-on attempt at a boundary: a check stops it, the governor's verdict decides it, or it is left to the die. -/
def State.request (s : State) (n : Nat) (v : Verdict) : State × Bool :=
  match s.turnOnBlock n with
  | some st => (s.enterBlocked n st, false)
  | none =>
    match v with
    | .grant =>
      let shed := s.rd (R.CHn_STAT_STATE n) = csShed
      ((if shed then s.chEvent n 356 [] else s).inrush n, false)
    | .refuse q load limit =>
      if s.rd (R.CHn_STAT_STATE n) = csRefused then (s, false)
      else (((s.setCh n csRefused).onGov fun g => { g with refusals := sat 0xFFFFFFFF (g.refusals + 1) }).chEvent n 354
        (leBytes 1 q ++ [0] ++ leBytes 2 load ++ leBytes 2 limit), false)
    | _ => (s, true)

/-- A frame counted toward RETRY_DLY (R93). -/
def State.frameOff (s : State) (n : Nat) : State :=
  s.modChan n fun c => { c with offMid := false, offFrames := if c.offMid then c.offFrames else c.offFrames + 1 }

/-- A change of CHn_SIG_CFG.DIV applies (R123): the count of edges begins anew, with the next one captured. DESIGN CHOICE. -/
def State.sigApply (s : State) (n : Nat) : State :=
  if s.rd (R.CHn_SIG_CFG_DIV n) = (s.chan n).sigOf then s
  else s.modChan n fun c => { c with sigDiv := 0, sigOf := s.rd (R.CHn_SIG_CFG_DIV n) }

/-- One channel at a boundary of its die (R88, R93, R96, R97, R102, R128); true when the die still has to decide. -/
def State.chStep (s0 : State) (n : Nat) : State × Bool :=
  let v := (s0.chan n).verdict
  let s := (s0.frameOff n).modChan n fun c => { c with verdict := .none }
  let st := s.rd (R.CHn_STAT_STATE n)
  let c := s.chan n
  if !s.isSet (R.CHn_CMD_ON n) then
    (((s.modChan n fun c => { c with wasOff := true, restart := false, window := false, analogOff := none }).setCh n csOff).drive n, false)
  else if st = csOff then s.request n v
  else if st = csTripped ∨ st = csWaitLatch then
    (if s.latched n then (s, false)
     else if !c.restart then s.request n .none
     else if s.rd (R.CHn_TIM_RETRY_DLY n) ≤ c.offFrames ∧ s.rd (R.CHn_STAT_RETRY_LEFT n) > 0 then s.request n .none
     else (s, false))
  else if st = csInhibit then
    (if (s.inhibitOf n).isSome then (s, false)
     else if c.restart then (s.setCh n (if s.latched n then csWaitLatch else csTripped), false)
     else s.request n .none)
  else if st = csRefused ∨ st = csShed then
    (match v with
     | .grant => s.request n v
     | _ => (s, false))
  else if st = csNoLease then
    (if s.leaseBlocks n then (s, false)
     else match s.turnOnBlock n with
     | some x => (s.enterBlocked n x, false)
     | none => (s.inrush n, false))
  else if st = csDeferred then (if (s.bole (dieOf n)).over36 then (s, false) else s.request n .none)
  else if st = csLocked then (s, false)
  else match v with
    | .shed q why granted =>
      ((((((s.forceOff n).wr (R.CHn_STAT_CAUSE n) caShed).setCh n csShed).onGov fun g =>
        { g with sheds := sat 0xFFFFFFFF (g.sheds + 1) })).chEvent n 355
        (leBytes 1 q ++ leBytes 1 why ++ leBytes 1 granted), false)
    | _ => (s.drive n, false)

/-- Channels in the order of R129: PRIO descending, then number ascending. -/
def State.byPrio (s : State) (ns : List Nat) : List Nat :=
  ((List.range 16).reverse).flatMap fun p => ns.filter fun n => s.rd (R.CHn_ROLE_PRIO n) = p

/-- What a bole die latches and computes of the frame just ended, of tf ns, before commits apply (R112, R116, R125). -/
def State.bolePre (s : State) (d : Nat) (obs : FrameObs) (tf : Nat) : State :=
  if !s.isSet (R.BOLE_STAT_SEQ_RUN d) then s
  else
    let stud := if d < 2 then obs.studA else obs.studB
    let s0 := s.wr (R.BOLE_VSUP_MV d) (sat 0xFFFF stud)
    let s1 := s0.each (chansOf d) fun s n =>
      let o := match obs.chans.find? fun x => x.1.val = n with | some x => x.2 | none => { samples := [] }
      let t := (s.measLatch n o stud).openClear n o stud
      (((t.wireUpdate n o tf).govFilter n).wr (R.CHn_MEAS_FRM_FRAME n) s.frame).modChan n fun c => { c with fastRaised := false }
    let so := fun (s : State) (k : Nat) (sw : Bool) =>
      let i := (obs.soCur.find? fun x => x.1.val = k).map fun x => if sw then x.2.2 else x.2.1
      let t := s.wr (soCur k sw) (sat 1023 (i.getD 0))
      let a : Int := t.rd (soCur k sw)
      t.modSo k sw fun x =>
        { x with fi := x.fi + (a * 10000000 - x.fi) / 4000, fp := x.fp + (a * a * 4000 - x.fp) / 4000 }
    so (so s1 d false) ((d + 3) % 4) true

/-- The rest of a die's boundary, once commits have applied; `gs` are the groups applied (R88, R101, R118, R128, R129). -/
def State.bolePost (s : State) (d : Nat) (gs : List Nat) : State :=
  if !s.isSet (R.BOLE_STAT_SEQ_RUN d) then s.each (chansOf d) State.frameOff
  else
    let s1 := s.each (chansOf d) fun s n =>
      ((if s.isSet (R.CHn_STAT_HOLD n) ∧ !s.isSet (R.BOLE_STAT_HOLD d) ∧ gs.contains (0x0200 + n) then
        s.wr (R.CHn_STAT_HOLD n) 0 else s).sigApply n).harnessCheck n
    let (s2, ask) := (chansOf d).foldl (fun (acc : State × List Nat) n =>
      let (t, q) := acc.1.chStep n
      (t, if q then acc.2 ++ [n] else acc.2)) (s1, [])
    let s3 := s2.each (s2.byPrio ask) fun s n => s.spareDecide n
    s3.each (chansOf d) fun s n => s.harnessClear n

/-! Scaler (R121-R123). -/

/-- A number between the bounds of a CHn_SIG window. -/
def inWin (lo hi v : Nat) : Bool := decide (lo ≤ v ∧ v ≤ hi)

/-- The features of 256 samples in 0.1 A: IPK, TPK in us, ISET, Q in 10 uC (R122). ISET, Q and the means of R123 are cut to
whole units, since the spec gives no rounding; DESIGN CHOICE. -/
def sigFeatures (smp : List Nat) (us : Nat) : Nat × Nat × Nat × Nat :=
  let ipk := smp.foldl max 0
  let tpk := smp.idxOf ipk * us
  let iset := (smp.drop 224).foldl (· + ·) 0 / 32
  let q := smp.foldl (· + ·) 0 * us / 100
  (ipk, tpk, iset, q)

/-- A capture ends (R122, R123). Q that does not fit its 16 bits reads 0xFFFF and is compared so; a capture with CMP_EN = 0
neither ends a run of deviating captures nor arms the event again: the spec states none of these. DESIGN CHOICE. -/
def State.captureDone (s : State) (n : Nat) (samples : List Int) : State :=
  match (s.chan n).capture with
  | none => s
  | some cap =>
    let raw := samples.take 256 ++ List.replicate (256 - samples.length) 0
    let smp := raw.map fun (x : Int) => x.toNat
    let us := 2 ^ bitsOf cap.cfg 3 2
    let (ipk, tpk, iset, q0) := sigFeatures smp us
    let q := sat 0xFFFF q0
    let j := b2n cap.off
    let s1 := (((s.wr (R.CHn_SIG_F0_IPK n) (sat 0xFFFF ipk)).wr (R.CHn_SIG_F0_TPK n) (sat 0xFFFF tpk)).wr
      (R.CHn_SIG_F1_ISET n) (sat 0xFFFF iset)).wr (R.CHn_SIG_F1_Q n) q
    let s2 := ((s1.count (R.CHn_SIG_STAT_COUNT n)).wr (R.CHn_SIG_STAT_EDGE_TYPE n) j).wr (R.CHn_SIG_STAT_BUSY n) 0
    let s3 := s2.modChan n fun c =>
      { c with capture := none, captured := true, capFrame := s.frame,
               samples := raw.map fun x => clampInt (-32768) 32767 x }
    if !s.isSet (R.CHn_SIG_CFG_CMP_EN n) then s3.wr (R.CHn_SIG_STAT_DEV n) 0
    else
      let bad (f v : Nat) : Bool := !inWin (s.rd (R.CHn_SIG_WIN_MIN n j f)) (s.rd (R.CHn_SIG_WIN_MAX n j f)) v
      let segs := (List.range 16).filter fun g =>
        !inWin (s.rd (R.CHn_SIG_ENV_MIN n j g)) (s.rd (R.CHn_SIG_ENV_MAX n j g)) (((smp.drop (16 * g)).take 16).foldl (· + ·) 0 / 16)
      let dev := b2n (bad 0 ipk) + 2 * b2n (bad 1 tpk) + 4 * b2n (bad 2 iset) + 8 * b2n (bad 3 q) + 16 * b2n (!segs.isEmpty)
      let s4 := s3.wr (R.CHn_SIG_STAT_DEV n) dev
      let c := s.chan n
      let run := if cap.off then c.devRun.2 else c.devRun.1
      let raised := if cap.off then c.devRaised.2 else c.devRaised.1
      let put (r : Nat) (f : Bool) (s : State) : State := s.modChan n fun c =>
        { c with devRun := if cap.off then (c.devRun.1, r) else (r, c.devRun.2),
                 devRaised := if cap.off then (c.devRaised.1, f) else (f, c.devRaised.2) }
      if dev = 0 then put 0 false s4
      else if run + 1 ≥ max 1 (s.rd (R.CHn_SIG_CFG_DEVN n)) ∧ !raised then
        (put (run + 1) true s4).chEvent n 359 (leBytes 1 j ++ leBytes 1 dev ++ leBytes 2 (segs.foldl (fun m g => m + 2 ^ g) 0))
      else put (run + 1) raised s4

def execCaptureComplete (n : Fin 64) (samples : List Int) (s : State) : Out := s.finish (s.captureDone n samples)

end Sys2Proof.Machine
end

