-- ==== Sys2Proof/Machine/Governor.lean ====
section
/-! DEFINITION. The budget governor (R124-R131, R136). Quantities: 0-3 the dies, 4 stud A, 5 stud B, 6 the module, in
10 nA; 7 the dissipation, in 10 nW. -/

namespace Sys2Proof.Machine

/-- A load on die d: current on the die, its stud and the module, dissipation. -/
def loadVec (d : Nat) (c cp : Int) : List Int :=
  (List.range 8).map fun q => if q = d ∨ q = 4 + d / 2 ∨ q = 6 then c else if q = 7 then cp else 0

def vadd (a b : List Int) : List Int := List.zipWith (· + ·) a b
def vsub (a b : List Int) : List Int := List.zipWith (· - ·) a b

/-- Limits of R124. -/
def State.govLimits (s : State) : List Int :=
  [16000000000, 16000000000, 16000000000, 16000000000, 20000000000, 20000000000, 32000000000, s.gov.plim]

/-- Plim of R124 in 10 nW for a plate temperature in degrees C. -/
def plimOf (t : Int) : Int := if t ≤ 85 then 5000000000 else max 2000000000 (5000000000 - 150000000 * (t - 85))

/-- Quantity codes of the events of R136. -/
def qCode (q : Nat) : Nat := if q < 4 then 0 else if q < 6 then 1 else if q = 6 then 2 else 3

/-- A load or a limit in the unit of its event field: 0.1 A, or 10 mW. -/
def qUnit (q : Nat) (v : Int) : Nat := sat 0xFFFF ((if q = 7 then v / 1000000 else v / 10000000).toNat)

/-- What channel n adds. -/
def State.chVec (s : State) (n : Nat) : List Int := let (c, cp) := s.contrib n; loadVec (dieOf n) c cp

/-- The loads of R126: channels in an on state, and the safety outputs. -/
def State.govLoads (s : State) : List Int :=
  let z : List Int := List.replicate 8 0
  let ch := ((List.range 64).filter s.chOnState).foldl (fun a n => vadd a (s.chVec n)) z
  (List.range 4).foldl (fun a k => vadd a (loadVec k (s.so k false).fi ((s.so k false).fp + (s.so k true).fp))) ch

/-- A die that the governor can act on (R130). -/
def State.govLive (s : State) (n : Nat) : Bool :=
  s.isSet (R.BOLE_STAT_LINK_OK (dieOf n)) && !s.isSet (R.BOLE_STAT_HOLD (dieOf n))

/-- Whether quantity q counts a channel of a die. -/
def counts (d q : Nat) : Bool := q = d || q = 4 + d / 2 || q = 6 || q = 7

/-- What the governor works on: the loads, and the verdicts so far. -/
structure GovWork where
  load : List Int
  shed : List (Nat × Nat × Nat × Nat) := []
  deriving DecidableEq, Repr

def GovWork.isShed (w : GovWork) (n : Nat) : Bool := w.shed.any fun x => x.1 = n

/-- Candidates counted in a quantity that a list names, with PRIO below a bound: lowest PRIO first, then highest number. -/
def State.govCandidates (s : State) (w : GovWork) (qs : List Nat) (below : Nat) : List Nat :=
  (List.range (min 16 below)).flatMap fun p =>
    ((List.range 64).reverse).filter fun n =>
      s.chOnState n && s.govLive n && !w.isShed n && !s.isSet (R.CHn_ROLE_ESSENTIAL n) &&
      decide (s.rd (R.CHn_ROLE_PRIO n) = p) && qs.any fun q => counts (dieOf n) q

def GovWork.shedOne (w : GovWork) (v : List Int) (n q why granted : Nat) : GovWork :=
  { load := vsub w.load v, shed := w.shed ++ [(n, qCode q, why, granted)] }

/-- The first loop of R127 for one quantity: candidates are shed one by one until the quantity is within its limit. -/
def State.govShedQ (s : State) (lim : List Int) (w : GovWork) (q : Nat) : GovWork :=
  (s.govCandidates w [q] 16).foldl (fun w n =>
    if w.load.getD q 0 ≤ lim.getD q 0 then w else w.shedOne (s.chVec n) n q 0 0xFF) w

/-- Quantities that a turn-on on die d with vector v would exceed. -/
def exceeded (d : Nat) (lim load v : List Int) : List Nat :=
  (List.range 8).filter fun q => counts d q && decide (load.getD q 0 + v.getD q 0 > lim.getD q 0)

/-- The one shed set that makes room for channel n (R127), if there is one. -/
def State.govRoom (s : State) (lim : List Int) (w : GovWork) (n : Nat) : Option GovWork :=
  let v := s.chVec n
  let ovr := exceeded (dieOf n) lim w.load v
  let q := ovr.headD 0
  let r := (s.govCandidates w ovr (s.rd (R.CHn_ROLE_PRIO n))).foldl (fun w' m =>
    if (exceeded (dieOf n) lim w'.load v).isEmpty then w' else w'.shedOne (s.chVec m) m q 1 n) w
  if (exceeded (dieOf n) lim r.load v).isEmpty then some r else none

/-- The value that a COMMIT past its commit instant gives CHn_CMD.ON at the next boundary, else the active value. -/
def State.dueOn (s : State) (n : Nat) : Bool :=
  let a := R.CHn_CMD n
  let w := s.commits.foldl (fun acc c =>
    if c.instant.isSome then (match c.snap.find? fun e => e.1 = a with | some e => e.2 | none => acc) else acc) (s.raw a)
  w.getLsbD 0

/-- Announced turn-ons (R127), in the order of decision. -/
def State.announced (s : State) : List Nat :=
  let ns := (List.range 64).filter fun n =>
    let st := s.rd (R.CHn_STAT_STATE n)
    s.govLive n && s.dueOn n && (st = csRefused || st = csShed || (st = csOff && (s.turnOnBlock n).isNone))
  let ess := ns.filter fun n => s.isSet (R.CHn_ROLE_ESSENTIAL n)
  let oth := ns.filter fun n => !s.isSet (R.CHn_ROLE_ESSENTIAL n)
  s.byPrio ess ++ s.byPrio oth

/-- Whether a SHED channel fits within 0.95 of every limit, now and at the 39 instants before (R127). -/
def State.govRestore (s : State) (n : Nat) (lim load v : List Int) : Bool :=
  s.gov.hist.length = 39 && ((load, lim) :: s.gov.hist).all fun h =>
    (List.range 8).all fun q => !counts (dieOf n) q || decide (100 * (h.1.getD q 0 + v.getD q 0) ≤ 95 * h.2.getD q 0)

/-- The decision on one announced turn-on. -/
def State.govDecide (lim : List Int) (acc : State × GovWork) (n : Nat) : State × GovWork :=
  let (s, w) := acc
  let v := s.chVec n
  let grant (w : GovWork) : State × GovWork :=
    (s.modChan n fun c => { c with verdict := .grant }, { w with load := vadd w.load v })
  let ovr := exceeded (dieOf n) lim w.load v
  if s.isSet (R.CHn_ROLE_ESSENTIAL n) then grant w
  else if s.rd (R.CHn_STAT_STATE n) = csShed then
    (if s.govRestore n lim w.load v then grant w else (s, w))
  else if ovr.isEmpty then grant w
  else
    let refuse : State × GovWork :=
      let q := ovr.headD 0
      (s.modChan n fun c => { c with verdict := .refuse (qCode q) (qUnit q (w.load.getD q 0)) (qUnit q (lim.getD q 0)) }, w)
    if s.rd (R.CHn_ROLE_PRIO n) ≥ 8 then
      (match s.govRoom lim w n with
       | some r => grant r
       | none => refuse)
    else refuse

/-- GOV_ESSENTIAL_OVER (R127), once until the load falls within the limit. -/
def State.govOver (s : State) (lim load : List Int) (q : Nat) : State :=
  if load.getD q 0 ≤ lim.getD q 0 then s.onGov fun g => { g with ovr := updAt g.ovr q fun _ => false }
  else if s.gov.ovr.getD q false then s
  else (s.onGov fun g => { g with ovr := updAt g.ovr q fun _ => true }).raise 357 .pub
    ([0xFF, 0xFF] ++ leBytes 1 (qCode q) ++ [0] ++ leBytes 2 (qUnit q (load.getD q 0)) ++ leBytes 2 (qUnit q (lim.getD q 0)))

/-- The plate temperature taken, once per turn (R124), with GOV_LIMIT_CHANGE (R136). -/
def State.govPlate (s : State) (t : Int) : State :=
  let p := plimOf t
  let s1 := s.onGov fun g => { g with plate := some t, plim := p }
  match s.gov.refPlim with
  | none => s1.onGov fun g => { g with refPlim := some p }
  | some r =>
    if (p - r).natAbs < 100000000 then s1
    else (s1.onGov fun g => { g with refPlim := some p }).raise 358 .pub
      ([0xFF, 0xFF] ++ leBytes 2 (p / 1000000).toNat ++ leBytes 1 (unsigned 8 t))

/-- The spare allowance of a die, for the loads after the decisions (R129), and its load register, for those under R126. -/
def State.govSpare (s : State) (load now dl : List Int) (d : Nat) : State :=
  if !s.govLive (16 * d) then s
  else
    let si := min (16000000000 - load.getD d 0) (min ((20000000000 - load.getD (4 + d / 2) 0) / 2) ((32000000000 - load.getD 6 0) / 4))
    let sp := (s.gov.plim - load.getD 7 0) / 4
    (((s.wr (R.BOLE_GOV_SPARE_SPARE_I d) (qUnit 0 si)).wr (R.BOLE_GOV_SPARE_SPARE_P d) (qUnit 7 sp)).wr
      (R.BOLE_GOV_LOAD_LOAD_I d) (qUnit 0 (now.getD d 0))).wr (R.BOLE_GOV_LOAD_LOAD_P d) (qUnit 7 (dl.getD d 0))

/-- Dissipation load of each die: its channels in an on state and the switches of SOd. -/
def State.dieDiss (s : State) : List Int :=
  (List.range 4).map fun d => isum (((chansOf d).filter s.chOnState).map fun n => (s.contrib n).2) + (s.so d false).fp + (s.so d true).fp

/-- The governor instant (R127): the exceeded quantities in order, then the announced turn-ons, then the spare. -/
def State.governor (s : State) : State :=
  let lim := s.govLimits
  let w0 : GovWork := { load := s.govLoads }
  let (s1, w1) := (List.range 8).foldl (fun (acc : State × GovWork) q =>
    let w := acc.2
    let w' := if w.load.getD q 0 > lim.getD q 0 then s.govShedQ lim w q else w
    (acc.1.govOver lim w'.load q, w')) (s, w0)
  let (s2, w2) := s1.announced.foldl (State.govDecide lim) (s1, w1)
  let s3 := s2.each w2.shed fun s x => s.modChan x.1 fun c => { c with verdict := .shed x.2.1 x.2.2.1 x.2.2.2 }
  let s4 := s3.onGov fun g => { g with loads := w2.load, hist := ((w2.load, lim) :: g.hist).take 39 }
  let dl := s4.dieDiss
  s4.each (List.range 4) fun s d => s.govSpare w2.load w0.load dl d

def execGovernorInstant (s : State) : Out := s.finish s.governor

end Sys2Proof.Machine
end

