-- ==== Sys2Proof/Machine/FieldRules.lean ====
section
/-! DEFINITION. Consistency rules of the channel, pin, timer and controller groups (R87, R120, R151, R163): the number
of the first rule that fails over a view of the register words (R65). -/

namespace Sys2Proof.Machine

/-- A view of register words. -/
abbrev View := Nat → Word

/-- The first number of a list of rules that does not hold. -/
def firstFail (l : List (Nat × Bool)) : Option Nat := (l.find? fun x => !x.2).map (·.1)

/-- Two resources owned by the same partition. -/
def sameOwner (a b : Option Nat) : Bool := a.isSome && a == b

/-- Class maxima and minima of R79 and R163. -/
def ilimMin (n : Nat) : Nat := clsOf n 200 50 10
def ilimMax (n : Nat) : Nat := clsOf n 1500 600 180
def iinrMax (n : Nat) : Nat := clsOf n 3000 1200 360
def classMin (n : Nat) : Nat := clsOf n 160000 80000 40000

/-- The values of group 0x0200 + n that rules 1-11 name, as numbers of any size. -/
structure ChVals where
  ilim : Nat
  iinr : Nat
  tinr : Nat
  ttrip : Nat
  dly : Nat
  src : Nat
  slew : Nat
  ext : Nat
  size : Nat
  cls : Nat
  tamb : Int
  iexp : Nat

/-- The values in a view. -/
def chVals (v : View) (n : Nat) : ChVals where
  ilim := vw v (R.CHn_LIM_ILIM n)
  iinr := vw v (R.CHn_LIM_IINR n)
  tinr := vw v (R.CHn_TIM_TINR n)
  ttrip := vw v (R.CHn_TIM_TTRIP n)
  dly := vw v (R.CHn_TIM_RETRY_DLY n)
  src := vw v (R.CHn_CFG_SRC n)
  slew := vw v (R.CHn_CFG_SLEW n)
  ext := vw v (R.CHn_CFG_EXTSEL n)
  size := vw v (R.CHn_WIRE_SIZE n)
  cls := vw v (R.CHn_WIRE_CLASS n)
  tamb := signed 8 (vw v (R.CHn_WIRE_AMB_TAMB n))
  iexp := vw v (R.CHn_IEXP_IEXP n)

/-- Rule 12: MIN ≤ MAX in every window and envelope segment. RATE and EDGE have no reserved value. -/
def sigRule (v : View) (n : Nat) : Bool :=
  (List.range 2).all fun j =>
    ((List.range 4).all fun f => decide (vw v (R.CHn_SIG_WIN_MIN n j f) ≤ vw v (R.CHn_SIG_WIN_MAX n j f))) &&
    ((List.range 16).all fun g => decide (vw v (R.CHn_SIG_ENV_MIN n j g) ≤ vw v (R.CHn_SIG_ENV_MAX n j g)))

/-- Rules 1-12 of group 0x0200 + n (R87, R120). -/
def State.chRules (s : State) (v : View) (n : Nat) (x : ChVals) : Option Nat :=
  let mode := vw v (R.KTt_CFG_MODE n)
  firstFail [
    (1, decide (ilimMin n ≤ x.ilim ∧ x.ilim ≤ ilimMax n)),
    (2, decide (x.ilim ≤ x.iinr ∧ x.iinr ≤ iinrMax n)),
    (3, decide (x.tinr ≤ 50 ∧ 1 ≤ x.ttrip ∧ x.ttrip ≤ 1000)),
    (4, decide (1 ≤ x.dly)),
    (5, decide (x.src ≠ 3 ∧ x.slew ≠ 3)),
    (6, decide (x.src ≠ srcKerf) || (sameOwner (s.ktOwner n) (s.chOwner n) &&
      (decide (mode = 0) || (decide (mode ≤ 2) && decide (classMin n ≤ vw v (R.KTt_PER_PERIOD n)))))),
    (7, decide (x.src ≠ srcExt) || sameOwner (s.extOwner x.ext) (s.chOwner n)),
    (8, decide (x.size ≤ 12 ∨ x.size = 15)),
    (9, decide (x.cls ≤ 5)),
    (10, decide (-40 ≤ x.tamb ∧ x.tamb ≤ (tclassOf x.cls : Int) - 25)),
    (11, decide (x.iexp ≤ x.ilim)),
    (12, sigRule v n)]

/-- Pin modes (R138). -/
def pmRatio : Nat := 2
def pmDigital : Nat := 5
def pmFreq : Nat := 6
def pmQuad : Nat := 7
def pmLso : Nat := 8
def pmHso : Nat := 9
/-- Timer modes. -/
def tmOff : Nat := 0
def tmPwm : Nat := 1
def tmCc : Nat := 2
def tmFreq : Nat := 3
def tmQuad : Nat := 4

/-- Timers 64 to 127 in a mode whose PIN is p. -/
def boundTimers (v : View) (mode p : Nat) : List Nat :=
  ((List.range 64).map (· + 64)).filter fun t => vw v (R.KTt_CFG_MODE t) = mode ∧ vw v (R.KTt_CFG_PIN t) = p

/-- Rules of group 0x0300 + p (R151). -/
def State.uioRules (s : State) (v : View) (p : Nat) : Option Nat :=
  let mode := vw v (R.UIOp_CFG_MODE p)
  let pull := vw v (R.UIOp_CFG_PULL p)
  let th := vw v (R.UIOp_DIG_THRESH p)
  let tmr := 64 + vw v (R.UIOp_OUT_TMR p)
  let dig := mode = pmDigital || mode = pmFreq || mode = pmQuad
  let kerf := vw v (R.UIOp_CFG_OUT_SRC p) = 1
  let o := s.uioOwner p
  let mate := if p % 2 = 0 then p + 1 else p - 1
  firstFail [
    (1, decide (mode ≤ 9) && (decide (vw v (R.UIOp_CFG_OVS p) = 0) || decide (1 ≤ mode ∧ mode ≤ 4))),
    (2, decide (pull ≠ 3) && (decide (pull = 0) || dig)),
    (3, !dig || decide (10 ≤ th ∧ th ≤ 300)),
    (4, !decide (mode = pmQuad) || (decide (vw v (R.UIOp_CFG_MODE mate) = pmQuad) &&
      (decide (p % 2 = 1) || !(boundTimers v tmQuad p).isEmpty))),
    (5, !decide (mode = pmFreq) || decide ((boundTimers v tmFreq p).length = 1)),
    (6, !kerf || (decide (mode = pmLso ∨ mode = pmHso) && decide (vw v (R.KTt_CFG_MODE tmr) = tmPwm) &&
      decide (vw v (R.KTt_CFG_PIN tmr) = p))),
    (7, (!decide (mode = pmQuad) || (sameOwner o (s.uioOwner mate) && (boundTimers v tmQuad p).all fun t => sameOwner o (s.ktOwner t))) &&
      (!decide (mode = pmFreq) || (boundTimers v tmFreq p).all fun t => sameOwner o (s.ktOwner t)) &&
      (!kerf || sameOwner o (s.ktOwner tmr)))]

/-- Enabled controllers that name channel n. -/
def controllersOf (v : View) (n : Nat) : List Nat :=
  (List.range 32).filter fun c => vw v (R.KCc_CFG_EN c) = 1 ∧ vw v (R.KCc_CFG_CH c) = n

/-- Rules of group 0x0380 + t (R163, timers). -/
def State.ktRules (s : State) (v : View) (t : Nat) : Option Nat :=
  let mode := vw v (R.KTt_CFG_MODE t)
  let per := vw v (R.KTt_PER_PERIOD t)
  let ph := vw v (R.KTt_PH_PHASE t)
  let pin := vw v (R.KTt_CFG_PIN t)
  let o := s.ktOwner t
  let cs := controllersOf v t
  let onPin := t ≥ 64 && (mode = tmPwm || mode = tmFreq || mode = tmQuad)
  firstFail [
    (1, decide (mode ≤ 4) && (decide (mode ≠ tmCc) || decide (t ≤ 63)) && (!decide (mode = tmFreq ∨ mode = tmQuad) || decide (t ≥ 64))),
    (2, !decide (mode = tmPwm) || (decide (8000 ≤ per) && (decide (t ≥ 64) || decide (classMin t ≤ per)) && decide (ph < per))),
    (3, decide (vw v (R.KTt_CFG_SYNC t) = 0) || (decide (per ≠ 0) && decide (800000 % per = 0))),
    (4, !decide (mode = tmCc) || (decide (per % 5000 = 0) && decide (8 ≤ per / 5000 ∧ per / 5000 ≤ 64) &&
      decide (classMin t ≤ per) && decide (ph % 5000 = 0 ∧ ph < per) && decide (cs.length = 1))),
    (5, (!decide (mode = tmFreq) || decide (vw v (R.UIOp_CFG_MODE pin) = pmFreq)) &&
      (!decide (mode = tmQuad) || (decide (pin % 2 = 0) && decide (vw v (R.UIOp_CFG_MODE pin) = pmQuad))) &&
      decide (1 ≤ vw v (R.KTt_CFG_WIN t))),
    (6, !onPin || ((List.range 64).map (· + 64)).all fun u =>
      u = t || !(decide (vw v (R.KTt_CFG_MODE u) = tmPwm ∨ vw v (R.KTt_CFG_MODE u) = tmFreq ∨ vw v (R.KTt_CFG_MODE u) = tmQuad)) ||
        decide (vw v (R.KTt_CFG_PIN u) ≠ pin)),
    (7, (!onPin || (decide (pin < 96) && sameOwner o (s.uioOwner pin) && (!decide (mode = tmQuad) || sameOwner o (s.uioOwner (pin + 1))))) &&
      (!decide (mode = tmCc) || (sameOwner o (s.chOwner t) && cs.all fun c => sameOwner o (s.kcOwner c))))]

/-- Rules of group 0x0360 + c (R163, controllers). -/
def State.kcRules (s : State) (v : View) (c : Nat) : Option Nat :=
  let ch := vw v (R.KCc_CFG_CH c)
  let en := vw v (R.KCc_CFG_EN c) = 1
  let f := vw v (R.KCc_DITH_DFREQ c)
  let w := vw v (R.KCc_CFG_DWAVE c)
  firstFail [
    (1, !en || (decide (vw v (R.KTt_CFG_MODE ch) = tmCc) && sameOwner (s.kcOwner c) (s.chOwner ch) && decide (controllersOf v ch = [c]))),
    (2, decide (vw v (R.KCc_SET_SETPOINT c) + vw v (R.KCc_DITH_DAMP c) ≤ 100 * vw v (R.CHn_LIM_ILIM ch))),
    (3, decide (vw v (R.KCc_LIM_DMIN c) ≤ vw v (R.KCc_LIM_DMAX c)) && decide (w ≠ 3)),
    (4, decide (w = 0) || (decide (25 ≤ f ∧ f ≤ 500) && decide ((2 * 16000 + f) / (2 * f) ≥ 4 * (vw v (R.KTt_PER_PERIOD ch) / 5000))))]

/-- Other groups of these blocks whose rules name a field of group g (R65). -/
def fieldRelated (v : View) (g : Nat) : List Nat :=
  let kcsOf (n : Nat) : List Nat := ((List.range 32).filter fun c => vw v (R.KCc_CFG_CH c) = n).map (0x0360 + ·)
  if 0x0200 ≤ g ∧ g < 0x0240 then (0x0380 + (g - 0x0200)) :: kcsOf (g - 0x0200)
  else if 0x0380 ≤ g ∧ g < 0x03C0 then (0x0200 + (g - 0x0380)) :: kcsOf (g - 0x0380)
  else if 0x03C0 ≤ g ∧ g < 0x0400 then
    ((List.range 96).filter fun p => vw v (R.UIOp_CFG_MODE p) ≥ pmFreq).map (0x0300 + ·) ++ (List.range 64).map (0x03C0 + ·)
  else if 0x0300 ≤ g ∧ g < 0x0360 then
    let p := g - 0x0300
    (if p % 2 = 0 then 0x0300 + p + 1 else 0x0300 + p - 1) ::
      ((List.range 64).filter fun t => vw v (R.KTt_CFG_PIN (64 + t)) = p ∨ vw v (R.KTt_CFG_PIN (64 + t)) + 1 = p).map (0x03C0 + ·)
  else if 0x0360 ≤ g ∧ g < 0x0380 then
    ((List.range 64).filter fun t => vw v (R.KTt_CFG_MODE t) = tmCc).map (0x0380 + ·) ++ (List.range 32).map (0x0360 + ·)
  else []

/-- The first rule of a group of these blocks that fails over a view. -/
def State.fieldRule (s : State) (v : View) (g : Nat) : Option Nat :=
  if 0x0200 ≤ g ∧ g < 0x0240 then s.chRules v (g - 0x0200) (chVals v (g - 0x0200))
  else if 0x0300 ≤ g ∧ g < 0x0360 then s.uioRules v (g - 0x0300)
  else if 0x0360 ≤ g ∧ g < 0x0380 then s.kcRules v (g - 0x0360)
  else if 0x0380 ≤ g ∧ g < 0x0400 then s.ktRules v (g - 0x0380)
  else none

/-- The groups to check for a list of named groups, in ascending order. -/
def withRelated (v : View) (gs : List Nat) : List Nat := sortNat (gs ++ gs.flatMap (fieldRelated v)).eraseDups

/-- The first failure of a list of groups over a view: group and rule. -/
def State.fieldCheck (s : State) (v : View) (gs : List Nat) : Option (Nat × Nat) :=
  (withRelated v gs).findSome? fun g => (s.fieldRule v g).map fun r => (g, r)

/-- A view with field values put over the active words: what a basic command checks (R109, R135, R166). -/
def State.viewWith (s : State) (vals : List (Fld × Nat)) : View := fun a =>
  vals.foldl (fun w x => if x.1.addr = a then setBits w x.1.hi x.1.lo x.2 else w) (s.raw a)

/-- The payload offset of R109: the first field that the failing rule names and the command carries. -/
def detailOf (offs : List (Nat × Nat × Nat)) (f : Nat × Nat) : Nat :=
  match offs.find? fun x => x.1 = f.1 ∧ x.2.1 = f.2 with
  | some x => x.2.2
  | none => 0

end Sys2Proof.Machine
end

