-- ==== Sys2Proof/Machine/ChanCmd.lean ====
section
/-! DEFINITION. The channel commands 0x02xx (R107-R109, R134, R135). -/

namespace Sys2Proof.Machine

/-- NOT_GRANTED of a command that names one resource below a bound in payload byte `off` (R55, R107): a number that
names nothing is a matter of RANGE. -/
def ownGrant (bound off : Nat) (owner : State → Nat → Option Nat) (s : State) (c : Ctx) : Option Nat :=
  if c.arg off 1 < bound ∧ !c.owns (owner s (c.arg off 1)) then some (0x8000 + off) else none

/-- NOT_GRANTED of a command that names resources by a mask of n bits at an offset. -/
def maskGrant (n off : Nat) (owner : State → Nat → Option Nat) (s : State) (c : Ctx) : Option Nat :=
  if (maskIdx n (c.arg off ((n + 7) / 8))).any fun i => !c.owns (owner s i) then some (0x8000 + off) else none

/-- Feature 36, Scaler (R134): step 3 of R56. -/
def scalerReq (s : State) (c : Ctx) : Option Nat := if s.callerHolds c 36 then none else some 36

/-- The staged values and the groups of a basic command staged and committed, or the CONFLICT of R63 (R60). -/
def State.basic (s : State) (c : Ctx) (vals : List (Fld × Nat)) (groups : List Nat) : Reply :=
  match s.stagedConflict groups with
  | some g => Reply.err s stConflict g
  | none => Reply.ok (s.basicCommit c.mbx vals groups)

/-- CH_SET (0x0201, R108). -/
def opChSet : OpSpec where
  opcode := 0x0201
  classes := [clRt, clNormal]
  bits := allBits 16
  grant := maskGrant 64 0 State.chOwner
  need := fun _ => 16
  body := fun c s =>
    let ns := maskIdx 64 (c.arg 0 8)
    let on (n : Nat) : Bool := nbit (c.arg 8 8) n
    if !s.isSet R.PAIR_STAT_LEASE_OUT && ns.any fun n => on n && s.isSet (R.CHn_ROLE_PAIRED n) then
      Reply.err s stNotLeased ((ns.find? fun n => on n && s.isSet (R.CHn_ROLE_PAIRED n)).getD 0)
    else s.basic c (ns.map fun n => (R.CHn_CMD_ON n, b2n (on n))) (ns.map (0x0200 + ·))

/-- Where the rules of a channel's group first name a field that CH_CONFIG carries (R109), with the controller rule that
names ILIM. -/
def chConfigOffs (n : Nat) : List (Nat × Nat × Nat) :=
  let g := 0x0200 + n
  [(g, 1, 4), (g, 2, 4), (g, 3, 8), (g, 4, 10), (g, 5, 1), (g, 6, 1), (g, 7, 1), (g, 11, 4)] ++
  (List.range 32).map fun k => (0x0360 + k, 2, 4)

/-- CH_CONFIG (0x0202, R109). -/
def opChConfig : OpSpec where
  opcode := 0x0202
  classes := [clNormal]
  bits := fun _ i => if i = 2 then 0x03 else if i = 3 ∨ i = 11 ∨ i ≥ 14 then 0 else 0xFF
  grant := ownGrant 64 0 State.chOwner
  need := fun _ => 14
  body := fun c s =>
    let n := c.arg 0 1
    if n > 63 then Reply.range s 0
    else
      let b := c.arg 1 1
      let vals : List (Fld × Nat) :=
        [(R.CHn_CFG_SRC n, nbits b 1 0), (R.CHn_CFG_EXTSEL n, nbits b 4 2), (R.CHn_CFG_HOLD_PWM n, nbits b 5 5),
         (R.CHn_CFG_OLON_EN n, nbits b 6 6), (R.CHn_CFG_OLOFF_EN n, nbits b 7 7), (R.CHn_CFG_SLEW n, nbits (c.arg 2 1) 1 0),
         (R.CHn_LIM_ILIM n, c.arg 4 2), (R.CHn_LIM_IINR n, c.arg 6 2), (R.CHn_TIM_TINR n, c.arg 8 1),
         (R.CHn_TIM_RETRY_MAX n, c.arg 9 1), (R.CHn_TIM_RETRY_DLY n, c.arg 10 1), (R.CHn_TIM_TTRIP n, c.arg 12 2)]
      let v := s.viewWith vals
      let x := { chVals v n with ilim := c.arg 4 2, iinr := c.arg 6 2, tinr := c.arg 8 1, ttrip := c.arg 12 2 }
      match s.chRules v n x with
      | some r => Reply.range s (detailOf (chConfigOffs n) (0x0200 + n, r))
      | none =>
        if c.arg 9 1 > 15 then Reply.range s 9
        else match s.fieldCheck v [0x0200 + n] with
        | some f => Reply.range s (detailOf (chConfigOffs n) f)
        | none => s.basic c vals [0x0200 + n]

/-- CH_GET (0x0203). -/
def opChGet : OpSpec where
  opcode := 0x0203
  classes := [clRt, clNormal]
  bits := allBits 1
  grant := ownGrant 64 0 State.chOwner
  need := fun _ => 1
  body := fun c s =>
    let n := c.arg 0 1
    if n > 63 then Reply.range s 0
    else Reply.ok s (leBytes 4 (s.raw (R.CHn_STAT n)).toNat ++ leBytes 4 (s.raw (R.CHn_FLT n)).toNat ++
      leBytes 4 (s.raw (R.CHn_CFG n)).toNat ++ leBytes 4 (s.raw (R.CHn_CMD n)).toNat ++
      leBytes 2 (s.rd (R.CHn_CNT_TRIPS n)) ++ leBytes 2 (s.rd (R.CHn_CNT_RESTARTS n)) ++ leBytes 4 (s.raw (R.CHn_ROLE n)).toNat)

/-- Sticky bits of a register cleared where a mask has ones. -/
def State.clearBits (s : State) (a : Nat) (m : Nat) : State := s.setRaw a (s.raw a &&& ~~~ (BitVec.ofNat 32 m))

/-- CH_ACK (0x0204). Bits 12-31 of the mask name no bit of CHn_FLT and are taken as reserved (R55). DESIGN CHOICE. -/
def opChAck : OpSpec where
  opcode := 0x0204
  classes := [clNormal]
  bits := fun _ i => if i < 8 then 0xFF else if i = 8 then 0xFF else if i = 9 then 0x0F else 0
  grant := maskGrant 64 0 State.chOwner
  need := fun _ => 12
  body := fun c s => Reply.ok (s.each (maskIdx 64 (c.arg 0 8)) fun s n => s.clearBits (R.CHn_FLT n) (c.arg 8 4))

/-- CH_SO_GET (0x0210). -/
def opChSoGet : OpSpec where
  opcode := 0x0210
  classes := [clRt, clNormal]
  bits := allBits 0
  need := fun _ => 0
  body := fun _ s => Reply.ok s ((List.range 4).flatMap fun k =>
    leBytes 4 (s.raw (R.SO_SWA_STAT k)).toNat ++ leBytes 4 (s.raw (R.SO_SWB_STAT ((k + 1) % 4))).toNat)

/-- GOV_GET (0x0220, R134). -/
def opGovGet : OpSpec where
  opcode := 0x0220
  classes := [clRt, clNormal]
  bits := allBits 0
  need := fun _ => 0
  body := fun _ s =>
    let l (q : Nat) := leBytes 2 (qUnit q (s.gov.loads.getD q 0))
    Reply.ok s (l 6 ++ l 4 ++ l 5 ++ l 0 ++ l 1 ++ l 2 ++ l 3 ++ l 7 ++ leBytes 2 (qUnit 7 s.gov.plim) ++
      leBytes 1 (unsigned 8 (s.gov.plate.getD 25)) ++ [0] ++ leBytes 4 s.gov.refusals ++ leBytes 4 s.gov.sheds)

/-- CH_MEAS_GET (0x0221). -/
def opChMeasGet : OpSpec where
  opcode := 0x0221
  classes := [clRt, clNormal]
  bits := allBits 1
  grant := ownGrant 64 0 State.chOwner
  need := fun _ => 1
  body := fun c s =>
    let n := c.arg 0 1
    if n > 63 then Reply.range s 0
    else Reply.ok s (s.bytesAt (R.CHn_MEAS_I n) 24 ++ leBytes 2 (s.rd (R.CHn_WIRE_TC_TC n)))

/-- Where rules first name a field that a command carries, over the channels it changes. -/
def chOffs (ns : List Nat) (l : List (Nat × Nat)) : List (Nat × Nat × Nat) :=
  ns.flatMap fun n => l.map fun x => (0x0200 + n, x.1, x.2)

/-- CH_WIRE_SET (0x0222, R135). -/
def opChWireSet : OpSpec where
  opcode := 0x0222
  classes := [clNormal]
  bits := fun _ i => if i = 1 then 0x7F else if i = 2 then 0x03 else if i < 8 then 0xFF else 0
  grant := ownGrant 64 0 State.chOwner
  need := fun _ => 8
  body := fun c s =>
    let n := c.arg 0 1
    if n > 63 then Reply.range s 0
    else
      let vals : List (Fld × Nat) :=
        [(R.CHn_WIRE_SIZE n, nbits (c.arg 1 1) 3 0), (R.CHn_WIRE_CLASS n, nbits (c.arg 1 1) 6 4),
         (R.CHn_WIRE_BUNDLE n, nbits (c.arg 2 1) 1 0), (R.CHn_WIRE_AMB_TAMB n, c.arg 3 1), (R.CHn_WIRE_LENGTH n, c.arg 4 2),
         (R.CHn_IEXP_IEXP n, c.arg 6 2)]
      let v := s.viewWith vals
      let x := { chVals v n with iexp := c.arg 6 2 }
      match s.chRules v n x with
      | some r => Reply.range s (detailOf (chOffs [n] [(8, 1), (9, 1), (10, 3), (11, 6)]) (0x0200 + n, r))
      | none => s.basic c vals [0x0200 + n]

/-- CH_TAMB_SET (0x0223, R135). -/
def opChTambSet : OpSpec where
  opcode := 0x0223
  classes := [clRt, clNormal]
  bits := allBits 9
  grant := maskGrant 64 0 State.chOwner
  need := fun _ => 9
  body := fun c s =>
    let ns := maskIdx 64 (c.arg 0 8)
    let vals := ns.map fun n => (R.CHn_WIRE_AMB_TAMB n, c.arg 8 1)
    let v := s.viewWith vals
    match ns.findSome? fun n => (s.chRules v n (chVals v n)).map fun r => (0x0200 + n, r) with
    | some f => Reply.range s (detailOf (chOffs ns [(10, 8)]) f)
    | none => s.basic c vals (ns.map (0x0200 + ·))

/-- SIG_CONFIG (0x0230). -/
def opSigConfig : OpSpec where
  opcode := 0x0230
  classes := [clNormal]
  bits := fun _ i => if i = 1 then 0x1F else if i < 4 then 0xFF else 0
  requester := scalerReq
  grant := ownGrant 64 0 State.chOwner
  need := fun _ => 4
  body := fun c s =>
    let n := c.arg 0 1
    if n > 63 then Reply.range s 0
    else if c.arg 3 1 > 15 then Reply.range s 3
    else
      let vals : List (Fld × Nat) :=
        [(R.CHn_SIG_CFG_EDGE n, nbits (c.arg 1 1) 1 0), (R.CHn_SIG_CFG_RATE n, nbits (c.arg 1 1) 3 2),
         (R.CHn_SIG_CFG_CMP_EN n, nbits (c.arg 1 1) 4 4), (R.CHn_SIG_CFG_DIV n, c.arg 2 1), (R.CHn_SIG_CFG_DEVN n, c.arg 3 1)]
      let v := s.viewWith vals
      match s.chRules v n (chVals v n) with
      | some _ => Reply.range s 1
      | none => s.basic c vals [0x0200 + n]

/-- The first entry of SIG_REF_SET with MIN above MAX: its payload offset. -/
def sigRefBad (c : Ctx) : Option Nat :=
  ((List.range 20).find? fun k => c.arg (4 + 4 * k) 2 > c.arg (4 + 4 * k + 2) 2).map fun k => 4 + 4 * k

/-- SIG_REF_SET (0x0231). -/
def opSigRefSet : OpSpec where
  opcode := 0x0231
  classes := [clNormal]
  bits := fun _ i => if i < 2 ∨ (4 ≤ i ∧ i < 84) then 0xFF else 0
  requester := scalerReq
  grant := ownGrant 64 0 State.chOwner
  need := fun _ => 84
  body := fun c s =>
    let n := c.arg 0 1
    let j := c.arg 1 1
    if n > 63 then Reply.range s 0
    else if j > 1 then Reply.range s 1
    else match sigRefBad c with
    | some d => Reply.range s d
    | none =>
      let vals : List (Fld × Nat) :=
        ((List.range 4).flatMap fun f =>
          [(R.CHn_SIG_WIN_MIN n j f, c.arg (4 + 4 * f) 2), (R.CHn_SIG_WIN_MAX n j f, c.arg (6 + 4 * f) 2)]) ++
        ((List.range 16).flatMap fun g =>
          [(R.CHn_SIG_ENV_MIN n j g, c.arg (20 + 4 * g) 2), (R.CHn_SIG_ENV_MAX n j g, c.arg (22 + 4 * g) 2)])
      let v := s.viewWith vals
      match s.chRules v n (chVals v n) with
      | some r => Reply.range s (detailOf (chOffs [n] [(12, 4)]) (0x0200 + n, r))
      | none => s.basic c vals [0x0200 + n]

/-- SIG_READ (0x0232). -/
def opSigRead : OpSpec where
  opcode := 0x0232
  classes := [clNormal]
  bits := allBits 1
  requester := scalerReq
  grant := ownGrant 64 0 State.chOwner
  need := fun _ => 1
  body := fun c s =>
    let n := c.arg 0 1
    if n > 63 ∨ !(s.chan n).captured then Reply.range s 0
    else Reply.ok s (leBytes 4 (s.raw (R.CHn_SIG_STAT n)).toNat ++ leBytes 4 (s.raw (R.CHn_SIG_F0 n)).toNat ++
      leBytes 4 (s.raw (R.CHn_SIG_F1 n)).toNat ++ leBytes 4 (s.chan n).capFrame ++
      (s.chan n).samples.flatMap fun x => leBytes 2 (unsigned 16 x))

def execChSet (m : Fin 17) (fate : Fate) (s : State) : Out := s.finish (s.runRow opChSet m fate)
def execChConfig (m : Fin 17) (fate : Fate) (s : State) : Out := s.finish (s.runRow opChConfig m fate)
def execChGet (m : Fin 17) (fate : Fate) (s : State) : Out := s.finish (s.runRow opChGet m fate)
def execChAck (m : Fin 17) (fate : Fate) (s : State) : Out := s.finish (s.runRow opChAck m fate)
def execChSoGet (m : Fin 17) (fate : Fate) (s : State) : Out := s.finish (s.runRow opChSoGet m fate)
def execGovGet (m : Fin 17) (fate : Fate) (s : State) : Out := s.finish (s.runRow opGovGet m fate)
def execChMeasGet (m : Fin 17) (fate : Fate) (s : State) : Out := s.finish (s.runRow opChMeasGet m fate)
def execChWireSet (m : Fin 17) (fate : Fate) (s : State) : Out := s.finish (s.runRow opChWireSet m fate)
def execChTambSet (m : Fin 17) (fate : Fate) (s : State) : Out := s.finish (s.runRow opChTambSet m fate)
def execSigConfig (m : Fin 17) (fate : Fate) (s : State) : Out := s.finish (s.runRow opSigConfig m fate)
def execSigRefSet (m : Fin 17) (fate : Fate) (s : State) : Out := s.finish (s.runRow opSigRefSet m fate)
def execSigRead (m : Fin 17) (fate : Fate) (s : State) : Out := s.finish (s.runRow opSigRead m fate)

end Sys2Proof.Machine
end

