-- ==== Sys2Proof/Machine/FieldIo.lean ====
section
/-! DEFINITION. Universal I/O pins, sensor supplies, EXT-IN and the limb dies (R137-R151). -/

namespace Sys2Proof.Machine

def State.pin (s : State) (p : Nat) : Pin := s.pins.getD p {}
def State.modPin (s : State) (p : Nat) (f : Pin → Pin) : State := s.onPins fun l => updAt l p f
def State.sup (s : State) (u : Nat) : SenSup := s.sups.getD u {}
def State.modSup (s : State) (u : Nat) (f : SenSup → SenSup) : State := s.onSups fun l => updAt l u f

/-- The limb of a pin (R137), and the pins of a limb. -/
def limbOf (p : Nat) : Nat := p / 48
def pinsOf (l : Nat) : List Nat := (List.range 48).map (48 * l + ·)

/-- An event of limb die l. -/
def State.limbEvent (s : State) (l e : Nat) (o : Owner) (p : List Byte) : State :=
  s.dieEvent l (R.LIMB_STAT_HOLD l) (R.LIMB_STAT_LINK_OK l) e o p

/-- An event of a pin, with payload bytes 17 and on. -/
def State.pinEvent (s : State) (p e : Nat) (x : List Byte) : State :=
  s.limbEvent (limbOf p) e (ownerOf (s.uioOwner p)) (BitVec.ofNat 8 p :: x)

/-- An event of a sensor supply. -/
def State.supEvent (s : State) (u e : Nat) (x : List Byte) : State :=
  s.limbEvent (u / 4) e (ownerOf (s.ssOwner u)) (BitVec.ofNat 8 u :: x)

/-! Outputs (R146-R148). -/

def State.isOutput (s : State) (p : Nat) : Bool := s.rd (R.UIOp_CFG_MODE p) = pmLso || s.rd (R.UIOp_CFG_MODE p) = pmHso

/-- The output of a pin brought to what its source asks (R146-R148). -/
def State.pinDrive (s : State) (p : Nat) : State :=
  let on := s.isOutput p && s.isSet (R.UIOp_OUT_ON p) && !s.isSet (R.UIOp_STAT_LOCKED p) &&
    (if s.rd (R.UIOp_CFG_OUT_SRC p) = 0 then true
     else if s.isSet (R.UIOp_STAT_HOLD p) then s.isSet (R.UIOp_CFG_OUT_HOLD p)
     else (s.pin p).line)
  s.wrB (R.UIOp_STAT_OUT p) on

/-- An output turns off and locks (R146): 0 short, 1 thermal. -/
def State.pinTrip (s : State) (p : Nat) (flt : Fld) (why : Byte) : State :=
  if !s.isSet (R.UIOp_STAT_OUT p) then s
  else
    ((((s.wr (R.UIOp_STAT_OUT p) 0).wr (R.UIOp_STAT_LOCKED p) 1).wr flt 1).modPin p fun x => { x with offSeen := false }).pinEvent
      p 288 [0, why]

/-- UIOp_FLT.OPEN set, with UIO_OPEN when it becomes 1. -/
def State.pinOpen (s : State) (p : Nat) : State :=
  if s.isSet (R.UIOp_FLT_OPEN p) then s else (s.wr (R.UIOp_FLT_OPEN p) 1).pinEvent p 289 []

/-! Sampling (R139, R140). -/

/-- The threshold comparator with hysteresis (R142), on an input in mV. -/
def State.compare (s : State) (p mv : Nat) : Bool :=
  let th := 100 * s.rd (R.UIOp_DIG_THRESH p)
  let h := [200, 500, 1000, 2000].getD (s.rd (R.UIOp_DIG_HYST p)) 0
  if (s.pin p).level then decide (th ≤ mv + h / 2) else decide (th + h / 2 < mv)

/-- UIOp_VAL written: the quality bits and the value. -/
def State.pinVal (s : State) (p : Nat) (valid ovr unr supply : Bool) (v : Nat) : State :=
  ((((s.wrB (R.UIOp_VAL_VALID p) valid).wrB (R.UIOp_VAL_OVR p) ovr).wrB (R.UIOp_VAL_UNR p) unr).wrB (R.UIOp_VAL_SUPPLY p) supply).wr
    (R.UIOp_VAL_VALUE p) (sat 0xFFFF v)

/-- The supply that a RATIO pin divides by. -/
def State.ratioSupply (s : State) (p : Nat) : Nat := 4 * limbOf p + s.rd (R.UIOp_CFG_SSSEL p)

/-- The samples that OVS takes: 1, 4, 16 or 64 (R139); a sample that the observation does not list is 0. -/
def State.pinTaken (s : State) (p : Nat) (o : PinObs) : List (Nat × Nat) :=
  let n := 4 ^ s.rd (R.UIOp_CFG_OVS p)
  (o.samples ++ List.replicate n (0, 0)).take n

/-- One pin's value at a boundary (R139, R140); in DIGITAL mode the run of samples unlike the filtered level grows, and
with FILT = 0 that level follows each sample (R142). -/
def State.pinSample (s : State) (p : Nat) (o : PinObs) : State :=
  let mode := s.rd (R.UIOp_CFG_MODE p)
  let l := s.pinTaken p o
  let mean := (l.foldl (fun a x => a + x.1) 0 + l.length / 2) / l.length
  match mode with
  | 0 => s.pinVal p false false false false 0
  | 1 => s.pinVal p true (decide (mean > 64000)) false false mean
  | 2 =>
    let ratio := l.foldl (fun a x => a + (if x.2 = 0 then 65535 else min 65535 (x.1 * 65535 / x.2))) 0 / l.length
    let u := s.ratioSupply p
    s.pinVal p true false false (decide (s.rd (R.SSs_STAT_STATE u) ≠ 1) || (s.sup u).under) ratio
  | 3 => s.pinVal p true (decide (mean > 20000)) (decide (mean < 10)) false mean
  | 4 =>
    if s.isSet (R.UIOp_STAT_SHUNT_OFF p) then s.pinVal p false false false false mean
    else s.pinVal p true (decide (mean > 21000)) (decide (mean < 3600)) false mean
  | 5 =>
    let lv := s.compare p o.mv
    let x := s.pin p
    let f := if s.rd (R.UIOp_DIG_FILT p) = 0 then lv else x.filt
    (s.modPin p fun x => { x with level := lv, filt := f, agree := if lv = f then 0 else x.agree + 1 }).pinVal p true false false false
      (b2n f + 2 * b2n lv)
  | 6 => s.pinVal p true false false false (b2n (s.pin p).level + 2 * b2n (s.pin (p + 1)).level)
  | 7 => s.pinVal p true false false false (b2n (s.pin p).level + 2 * b2n (s.pin (p + 1)).level)
  | _ => s.pinVal p true false false false mean

/-- The runs of consecutive boundaries with OVR, with UNR and with an output that is on below 5 mA (R140, R146). -/
def State.pinRuns (s : State) (p : Nat) : State :=
  let ovr := s.isSet (R.UIOp_VAL_OVR p)
  let unr := s.isSet (R.UIOp_VAL_UNR p)
  let low := s.isSet (R.UIOp_STAT_OUT p) && decide (s.rd (R.UIOp_VAL_VALUE p) < 5)
  s.modPin p fun x =>
    { x with ovrRun := if ovr then x.ovrRun + 1 else 0, unrRun := if unr then x.unrRun + 1 else 0,
             openRun := if low then x.openRun + 1 else 0,
             ranged := x.ranged && ((ovr && decide (0 < x.ovrRun)) || (unr && decide (0 < x.unrRun))) }

/-- A pin at a boundary of its die: every pin samples (R139), one that is OFF to no value. -/
def State.pinLatch (s : State) (p : Nat) (o : PinObs) : State :=
  let s1 := if (s.pin p).mv = o.mv then s else s.modPin p fun x => { x with mv := o.mv }
  if s.rd (R.UIOp_CFG_MODE p) = 0 ∧ s.raw (R.UIOp_VAL p) = 0 then s1 else (s1.pinSample p o).pinRuns p

/-- A pin whose MODE has changed begins it: its comparator stands where the input at this boundary puts it, the filtered
level with it, and no run and no edge of the mode before counts (R142, R143). DEDUCED. -/
def State.pinMode (s : State) (p : Nat) : State :=
  let mode := s.rd (R.UIOp_CFG_MODE p)
  if mode = (s.pin p).was then s
  else
    let lv := decide (pmDigital ≤ mode ∧ mode ≤ pmQuad) && s.compare p (s.pin p).mv
    s.modPin p fun x =>
      { x with was := mode, level := lv, filt := lv, agree := 0, edges := 0, lost := false, ovrRun := 0, unrRun := 0, openRun := 0, ranged := false }

/-- A pin once the values of its die's groups have applied: a locked output is freed when ON is 0 at one boundary and 1 at
a later one (R146); a KERF output leaves limb hold at the boundary that applies its group (R148), and takes its timer's
level there (R147). -/
def State.pinPost (s : State) (p : Nat) (gs : List Nat) : State :=
  let s0 := s.pinMode p
  let s1 :=
    if s0.isSet (R.UIOp_STAT_LOCKED p) then
      (if !s0.isSet (R.UIOp_OUT_ON p) then s0.modPin p fun x => { x with offSeen := true }
       else if (s0.pin p).offSeen then s0.wr (R.UIOp_STAT_LOCKED p) 0 else s0)
    else s0
  let mine := gs.contains (0x0300 + p)
  let s2 :=
    if s1.isSet (R.UIOp_STAT_HOLD p) ∧ !s1.isSet (R.LIMB_STAT_HOLD (limbOf p)) ∧ mine then
      s1.wr (R.UIOp_STAT_HOLD p) 0 else s1
  let s3 :=
    if mine ∧ s2.rd (R.UIOp_CFG_OUT_SRC p) = 1 then
      (let v := (s2.kts.getD (64 + s2.rd (R.UIOp_OUT_TMR p)) {}).line
       s2.modPin p fun x => { x with line := v })
    else s2
  s3.pinDrive p

/-! Sensor supplies (R149). States: 0 OFF, 1 ON, 2 LIMITING, 3 RETRY_WAIT, 4 BACKFEED. -/

/-- SS_FAULT raised and remembered. -/
def State.supFault (s : State) (u : Nat) (why : Byte) : State :=
  (s.modSup u fun x => { x with fault := true }).supEvent u 292 [0, why]

/-- Whether normal operation has lasted 1 s at an instant (R149). -/
def SenSup.longAt (x : SenSup) (t : Nat) : Bool := match x.onAt with | some a => decide (a + 1000000000 ≤ t) | none => false

/-- A supply turns on again, with SS_RESTORE after a fault. -/
def State.supOn (s : State) (u : Nat) : State :=
  let s1 := (s.wr (R.SSs_STAT_STATE u) 1).modSup u fun x => { x with onAt := some s.now, long := false, fault := false }
  if (s.sup u).fault then s1.supEvent u 293 [] else s1

/-- The effect of a value of SSs_CFG.ON (R149). -/
def State.supSet (s : State) (u : Nat) (on : Bool) : State :=
  let s1 := s.wrB (R.SSs_CFG_ON u) on
  if !on then (s1.wr (R.SSs_STAT_STATE u) 0).modSup u fun x => { x with onAt := none, long := false, under := false, fault := false }
  else if s.rd (R.SSs_STAT_STATE u) = 0 then s1.supOn u
  else s1

/-- A supply at a boundary: output voltage and current latched, LIMITING and UNDER (R149), which the 10 V setting also has
while the higher stud, `stud` mV, is below 12 V; what it counts as normal operation ends with either. -/
def State.supSample (s : State) (u mv ma stud : Nat) : State :=
  let st := s.rd (R.SSs_STAT_STATE u)
  let s1 := (s.wr (R.SSs_STAT_VOUT u) (sat 0xFFFF mv)).wr (R.SSs_STAT_IOUT u) (sat 0xFF ma)
  if st ≠ 1 ∧ st ≠ 2 then s1.modSup u fun x => { x with under := false }
  else if ma ≥ 180 then
    (s1.wr (R.SSs_STAT_STATE u) 2).modSup u fun x =>
      { x with under := false, long := if st = 1 then x.longAt s.now else x.long, onAt := none }
  else
    let ten := s.isSet (R.SSs_CFG_VSEL u)
    let low := decide (100 * mv < 95 * (if ten then 10000 else 5000)) || (ten && decide (stud < 12000))
    let s2 := (s1.wr (R.SSs_STAT_STATE u) 1).modSup u fun x =>
      { x with under := low, long := false, onAt := if low then none else some (x.onAt.getD s.now) }
    if low then
      (let s3 := s2.wr (R.SSs_FLT_UNDER u) 1
       if (s.sup u).under then s3 else s3.supFault u 2)
    else s2

/-! EXT-IN (R150). -/

/-- A qualified edge on EXT-INk reaches the dies. -/
def State.extEdge (s : State) (k : Nat) (level : Bool) : State :=
  (s.onExtIn fun l => updAt l k fun _ => (level, true)).each (List.range 64) fun s n =>
    if s.rd (R.CHn_CFG_SRC n) = srcExt ∧ s.rd (R.CHn_CFG_EXTSEL n) = k then s.drive n else s

/-- EXT_STAT latched at a boundary. -/
def State.extLatch (s : State) : State :=
  let bit (f : Bool × Bool → Bool) : Nat := (List.range 8).foldl (fun m k => m + (if f (s.extIn.getD k (false, false)) then 2 ^ k else 0)) 0
  ((s.wr R.EXT_STAT_LEVEL (bit (·.1))).wr R.EXT_STAT_EDGE (bit (·.2))).onExtIn fun l => l.map fun x => (x.1, false)

/-! A limb die's boundary, and limb hold (R148). -/

/-- What limb l latches at a boundary. -/
def State.limbPre (s : State) (l : Nat) (obs : FrameObs) : State :=
  let s1 := s.each obs.supplies fun s x => if x.1.val / 4 = l then s.supSample x.1 x.2.1 x.2.2 (max obs.studA obs.studB) else s
  let s2 := s1.each (pinsOf l) fun s p => s.pinLatch p (((obs.pins.find? fun x => x.1.val = p).map (·.2)).getD {})
  if l = 1 then s2.extLatch else s2

/-- The rest of a limb's boundary once commits have applied. -/
def State.limbPost (s : State) (l : Nat) (gs : List Nat) : State := s.each (pinsOf l) fun s p => s.pinPost p gs

/-- The Forester's mirror of every pin, refreshed in phase A (R166); the value of a limb whose link brings none was not
taken this frame, so it reads VALID = 0 (R140). DEDUCED. -/
def State.mirrorPins (s : State) : State :=
  s.onUioMirror fun _ =>
    { frm := s.rd R.FRM_NUM_LO_NUM
      vals := (List.range 96).map fun p =>
        let w := s.raw (R.UIOp_VAL p)
        if s.linkOk (limbOf p) then w else setBits w 31 31 0 }

/-- A limb die enters limb hold: 0 crown reset, 1 link silence. -/
def State.limbHold (s : State) (l why : Nat) : State :=
  if s.isSet (R.LIMB_STAT_HOLD l) then s
  else
    let s1 := (s.wr (R.LIMB_STAT_HOLD l) 1).dropGroups (groupOfLimb l)
    let s2 := s1.each (pinsOf l) fun s p => if s.isOutput p then (s.wr (R.UIOp_STAT_HOLD p) 1).pinDrive p else s
    s2.limbEvent l 294 .pub [BitVec.ofNat 8 l, BitVec.ofNat 8 why]

/-- The effect of LIMB_HOLD.ADOPT: ignored while LINK_OK is 0; the REG outputs leave limb hold, the KERF outputs with the
commit of their group (R148). -/
def State.limbAdopt (s : State) (l : Nat) : State :=
  if !s.isSet (R.LIMB_STAT_LINK_OK l) || !s.isSet (R.LIMB_STAT_HOLD l) then s
  else
    let lost := sat 0xFFFF (s.die l).lost
    let s2 := (s.wr (R.LIMB_STAT_HOLD l) 0).each (pinsOf l) fun s p =>
      if s.rd (R.UIOp_CFG_OUT_SRC p) = 0 then (s.wr (R.UIOp_STAT_HOLD p) 0).pinDrive p else s
    (s2.flushDie l).limbEvent l 295 .pub (BitVec.ofNat 8 l :: leBytes 2 lost)

/-- A far die enters hold, by its Gwebry link (R99, R148). -/
def State.farHold (s : State) (g why : Nat) : State := if g < 2 then s.limbHold g why else s.boleHold (g - 2) why

/-- A boundary from a far die's own oscillator (R99, R148): in hold, once two frame periods have passed without a
marker. -/
def State.localBoundary (s : State) (g : Nat) (obs : FrameObs) : State :=
  let hold := if g < 2 then R.LIMB_STAT_HOLD g else R.BOLE_STAT_HOLD (g - 2)
  let lf := if g < 2 then R.LIMB_STAT_LOCAL_FRAME g else R.BOLE_STAT_LOCAL_FRAME (g - 2)
  if !s.isSet hold then s
  else
    let j := (s.die g).localJ + 1
    let s1 := ((s.wr lf 1).modDie g fun x => { x with localJ := j }).advance ((s.die g).marker + (j + 1) * 250000)
    if g < 2 then (s1.limbPre g obs).limbPost g [] else (s1.bolePre (g - 2) obs 250000).bolePost (g - 2) []

/-- UIO_RANGE_COUNT (R140): OVR (or UNR) has stood at 8 consecutive boundaries; once for each such run. -/
def execUioRangeCount (p : Fin 96) (ovr : Bool) (s : State) : Out :=
  s.finish <|
    let x := s.pin p
    if s.isSet (if ovr then R.UIOp_VAL_OVR p else R.UIOp_VAL_UNR p) && decide (8 ≤ if ovr then x.ovrRun else x.unrRun) && !x.ranged then
      let s1 := ((s.modPin p fun x => { x with ranged := true }).wr (R.UIOp_FLT_RANGE p) 1).pinEvent p 291
        ([0, BitVec.ofNat 8 (b2n ovr)] ++ leBytes 2 (s.rd (R.UIOp_VAL_VALUE p)))
      if s.rd (R.UIOp_CFG_MODE p) = 4 ∧ !ovr then s1.pinOpen p else s1
    else s

def execShuntOvercurrent (p : Fin 96) (s : State) : Out :=
  s.finish <|
    if s.rd (R.UIOp_CFG_MODE p) = 4 ∧ !s.isSet (R.UIOp_STAT_SHUNT_OFF p) then
      (((s.wr (R.UIOp_STAT_SHUNT_OFF p) 1).wr (R.UIOp_FLT_SHUNT p) 1).wr (R.UIOp_VAL_VALID p) 0).pinEvent p 290 []
    else s

def execShuntReconnect (p : Fin 96) (s : State) : Out := s.finish (s.wr (R.UIOp_STAT_SHUNT_OFF p) 0)

/-- DIGITAL_FILTER_EXPIRY (R142): FILT + 1 boundary samples in a row had the other level, which the filtered level
takes. -/
def execDigitalFilterExpiry (p : Fin 96) (level : Bool) (s : State) : Out :=
  s.finish <|
    let x := s.pin p
    if s.rd (R.UIOp_CFG_MODE p) = pmDigital ∧ level = x.level ∧ s.rd (R.UIOp_DIG_FILT p) + 1 ≤ x.agree then
      (s.modPin p fun x => { x with filt := x.level, agree := 0 }).wr ⟨(R.UIOp_VAL_VALUE p).addr, 0, 0⟩ (b2n x.level)
    else s

def execUioOutLimitTrip (p : Fin 96) (s : State) : Out := s.finish (s.pinTrip p (R.UIOp_FLT_SHORT p) 0)
def execUioOutThermal (p : Fin 96) (s : State) : Out := s.finish (s.pinTrip p (R.UIOp_FLT_THERMAL p) 1)
/-- UIO_OUT_OPEN_COUNT (R146): the on-state current was below 5 mA at 8 consecutive boundaries. -/
def execUioOutOpenCount (p : Fin 96) (s : State) : Out :=
  s.finish (if s.isSet (R.UIOp_STAT_OUT p) && decide (8 ≤ (s.pin p).openRun) then s.pinOpen p else s)

/-- KERF_EDGE_MESSAGE (R147): the oldest edge that timer 64 + t has sent reaches the pins it drives; a message of another
level is none of the timer's. -/
def execKerfEdgeMessage (t : Fin 64) (level : Bool) (s : State) : Out :=
  s.finish <|
    match (s.kts.getD (64 + t) {}).sent with
    | [] => s
    | first :: rest =>
      if first ≠ level then s else
      (s.onKts fun l => updAt l (64 + t) fun k => { k with sent := rest }).each (List.range 96) fun s p =>
        if s.rd (R.UIOp_CFG_OUT_SRC p) = 1 ∧ s.rd (R.UIOp_OUT_TMR p) = t.val then
          (s.modPin p fun x => { x with line := level }).pinDrive p
        else s

/-- SS_LIMIT_TIMEOUT (R149): 10 ms of limiting end in the retry wait; SS_FAULT only after 1 s of normal operation before
the limiting began, at its first boundary or, where no boundary saw it, 10 ms ago. -/
def execSsLimitTimeout (u : Fin 8) (s : State) : Out :=
  s.finish <|
    let st := s.rd (R.SSs_STAT_STATE u)
    if st = 1 ∨ st = 2 then
      let long := if st = 2 then (s.sup u).long else (s.sup u).longAt (s.now - 10000000)
      let s1 := (s.wr (R.SSs_STAT_STATE u) 3).wr (R.SSs_FLT_OVERCURRENT u) 1
      if long then s1.supFault u 0 else s1
    else s

def execSsRetryTimer (u : Fin 8) (s : State) : Out :=
  s.finish (if s.rd (R.SSs_STAT_STATE u) = 3 then s.supOn u else s)

def execSsBackfeedDetect (u : Fin 8) (s : State) : Out :=
  s.finish <|
    let st := s.rd (R.SSs_STAT_STATE u)
    if st = 0 ∨ st = 4 then s
    else ((s.wr (R.SSs_STAT_STATE u) 4).wr (R.SSs_FLT_BACKFEED u) 1).supFault u 1

def execSsBackfeedClear (u : Fin 8) (s : State) : Out :=
  s.finish (if s.rd (R.SSs_STAT_STATE u) = 4 then s.supOn u else s)

def execExtInEdge (k : Fin 8) (level : Bool) (s : State) : Out :=
  s.finish (if (s.extIn.getD k (false, false)).1 = level then s else s.extEdge k level)

def execCrownResetIndication (die : Fin 6) (s : State) : Out := s.finish (s.farHold die 0)
def execLinkSilenceTimeout (die : Fin 6) (s : State) : Out := s.finish (s.farHold die 1)
def execDieLocalBoundary (die : Fin 6) (obs : FrameObs) (s : State) : Out := s.finish (s.localBoundary die obs)

end Sys2Proof.Machine
end

