-- ==== Sys2Proof/Machine/Kerf.lean ====
section
/-! DEFINITION. The Kerf engine: timers, edges and current controllers (R143-R145, R152-R161, R509). -/

namespace Sys2Proof.Machine

def State.kt (s : State) (t : Nat) : Kt := s.kts.getD t {}
def State.modKt (s : State) (t : Nat) (f : Kt → Kt) : State := s.onKts fun l => updAt l t f
def State.kc (s : State) (c : Nat) : Kc := s.kcs.getD c {}
def State.modKc (s : State) (c : Nat) (f : Kc → Kc) : State := s.onKcs fun l => updAt l c f

/-- The 64-bit frame number. -/
def State.frame64 (s : State) : Nat := s.rd64 R.FRM_NUM_LO R.FRM_NUM_HI

/-- The line of a timer changes: IN_K of its channel for t ≤ 63 (R152); the limb's edge is a message of its own, sent while
the link of the timer's pin is up (R147). -/
def State.ktLine (s : State) (t : Nat) (v : Bool) : State :=
  let up := s.linkOk (limbOf (s.rd (R.KTt_CFG_PIN t)))
  let s1 := s.modKt t fun k => { k with line := v, sent := if t < 64 || k.line = v || !up then k.sent else k.sent ++ [v] }
  if t < 64 then
    (let s2 := s1.modChan t fun c => { c with line := v }
     if s.rd (R.CHn_CFG_SRC t) = srcKerf then s2.drive t else s2)
  else s1

/-- The on-time in ticks of R154. -/
def onTicks (per duty : Nat) : Nat := per * duty / 65535

/-- The duty that a timer takes at a period start: its own in PWM, its controller's in CC (R154). -/
def State.ktDuty (s : State) (t : Nat) : Nat :=
  if s.rd (R.KTt_CFG_MODE t) = tmCc then
    (match (controllersOf s.raw t).head? with
     | some c => s.rd (R.KCc_OUT_DUTY c)
     | none => 0)
  else s.rd (R.KTt_DUTY_DUTY t)

/-- A period start or the end of an on-time (R154): no on-pulse or off-gap shorter than 1 us, 80 ticks. -/
def State.ktEdge (s : State) (t : Nat) (k : PwmEdge) : State :=
  let mode := s.rd (R.KTt_CFG_MODE t)
  if mode ≠ tmPwm ∧ mode ≠ tmCc then s
  else
    let per := s.rd (R.KTt_PER_PERIOD t)
    match k with
    | .periodStart =>
      let d := s.ktDuty t
      let on := onTicks per d
      (s.modKt t fun x => { x with duty := d }).ktLine t (decide (d = 65535) || decide (80 ≤ on))
    | .onEnd =>
      let d := (s.kt t).duty
      if d = 65535 ∨ per - onTicks per d < 80 then s else s.ktLine t false

/-- The first period start of a timer after its reference instant, in ticks: PHASE, in CC mode 200 ticks later (R153, R154). -/
def State.ktStart (s : State) (t : Nat) : Nat := s.rd (R.KTt_PH_PHASE t) + if s.rd (R.KTt_CFG_MODE t) = tmCc then 200 else 0

/-- The counter of a timer at a boundary in ticks since its period start, if a period has started (R153). -/
def State.ktPos (s : State) (t : Nat) : Option Nat :=
  let per := s.rd (R.KTt_PER_PERIOD t)
  let ph := s.ktStart t
  if per = 0 then none
  else if s.rd (R.KTt_CFG_SYNC t) = 1 then some ((s.rd R.FRM_STAT_SLOT * 20000 + 800000 * per - ph) % per)
  else
    let el := (s.frame64 - (s.kt t).refAt) * 20000
    if el < ph then none else some ((el - ph) % per)

/-- The line of a timer whose counter takes position x of a period at once, from level v: the pulse and the gap are those
of the period, and none shorter than 1 us, 80 ticks, is begun (R153, R154). -/
def ktLevel (v : Bool) (per on x : Nat) : Bool :=
  if on < 80 then false
  else if per - on < 80 then true
  else if x < on then v || decide (80 ≤ on - x)
  else v && decide (per - x < 80)

/-- What a timer does when the values of its group apply at a boundary (R144, R145, R153, R154); `old` is the state
before. -/
def State.ktApply (s old : State) (t : Nat) : State :=
  let same (f : Fld) : Bool := s.rd f = old.rd f
  let mode := s.rd (R.KTt_CFG_MODE t)
  let s1 := s.wrB (R.KTt_STAT_RUN t) (decide (mode ≠ tmOff))
  let pin := s.rd (R.KTt_CFG_PIN t)
  let s2 := if same (R.KTt_CFG_MODE t) then s1 else
    ((((s1.modKt t fun x => { x with edges := [], lastEdge := none, interval := none, pos := 0, posHist := [], lastTs := none,
                                     levelA := (s.pin pin).level, levelB := (s.pin (pin + 1)).level }).wr
      (R.KTt_STAT_QERR t) 0).wr (R.KTt_STAT_STALE t) 0).wr (R.KTt_STAT_OVR t) 0)
  let retime := !(same (R.KTt_CFG_MODE t) && same (R.KTt_PER_PERIOD t) && same (R.KTt_PH_PHASE t) && same (R.KTt_CFG_SYNC t))
  let pwm := mode = tmPwm || mode = tmCc
  if !pwm then (if (s2.kt t).line then s2.ktLine t false else s2)
  else
    let s3 := if retime then s2.modKt t fun x => { x with refAt := s.frame64, duty := s.ktDuty t } else s2
    let per := s.rd (R.KTt_PER_PERIOD t)
    let on := onTicks per (s3.ktDuty t)
    let line := (s3.kt t).line
    if retime then
      (if s.rd (R.KTt_CFG_SYNC t) = 1 then s3.ktLine t (match s3.ktPos t with | some x => ktLevel line per on x | none => false)
       else s3.ktLine t (line && decide (s3.ktStart t < 80 ∧ 80 ≤ on)))
    else if mode = tmPwm ∧ line then
      (let s4 := s3.modKt t fun k => { k with duty := s3.ktDuty t }
       match s3.ktPos t with
       | some x => if on ≤ x ∧ 80 ≤ x ∧ 80 ≤ per - x then s4.ktLine t false else s4
       | none => s4)
    else s3

/-- Ticks of a boundary: every frame holds 20,000 (R152). -/
def State.boundaryTick (s : State) : Nat := s.frame64 * 20000

/-- The frequency of R144 in mHz and whether it is stale. -/
def freqOf (edges : List Nat) (interval lastEdge : Option Nat) (tick : Nat) : Nat × Bool :=
  match lastEdge with
  | none => (0, true)
  | some e =>
    let ts := tick - e
    if ts > 800000000 then (0, true)
    else
      let n := edges.length
      let span := edges.foldl max 0 - edges.foldl min (edges.headD 0)
      if 2 ≤ n ∧ span ≠ 0 then ((n - 1) * 80000000000 / span, false)
      else (80000000000 / max 1 (max (interval.getD 0) ts), false)

/-- A FREQ or QUAD timer at a boundary (R143-R145); `over` when its pin's edge rate was too high in the frame. -/
def State.ktCapture (s : State) (t : Nat) : State :=
  let mode := s.rd (R.KTt_CFG_MODE t)
  if mode ≠ tmFreq ∧ mode ≠ tmQuad then s
  else
    let pin := s.rd (R.KTt_CFG_PIN t)
    let win := s.rd (R.KTt_CFG_WIN t)
    let bad (x : Pin) : Bool := x.lost || decide (x.edges > 15)
    let ovr := bad (s.pin pin) || (mode = tmQuad && bad (s.pin (pin + 1)))
    let s1 := s.wrB (R.KTt_STAT_OVR t) ovr
    let s2 := if ovr then s1.raise 259 (ownerOf (s.ktOwner t)) [BitVec.ofNat 8 t, BitVec.ofNat 8 pin] else s1
    let tick := s.boundaryTick
    if mode = tmFreq then
      let es := (s.kt t).edges.filter fun e => tick ≤ e + win * 20000
      let (f, stale) := freqOf es (s.kt t).interval (s.kt t).lastEdge tick
      (((s2.modKt t fun x => { x with edges := es }).wr (R.KTt_CAP0_VALUE t) (sat 0xFFFFFFFF f)).wr (R.KTt_CAP1_VALUE t)
        (((s.kt t).interval).getD 0xFFFFFFFF)).wrB (R.KTt_STAT_STALE t) stale
    else
      let k := s.kt t
      let back := k.posHist.getD (win - 1) (k.posHist.getLastD 0)
      let rate := (k.pos - back) * 4000 / max 1 win
      ((s2.modKt t fun x => { x with posHist := (k.pos :: k.posHist).take 255, quadRaised := false }).wr (R.KTt_CAP0_VALUE t)
        (unsigned 32 k.pos)).wr (R.KTt_CAP1_VALUE t) (unsigned 32 rate)

/-- The phase of a quadrature pair: A leading B counts up (R145). -/
def quadIdx (a b : Bool) : Int := if a then (if b then 2 else 1) else (if b then 3 else 0)

/-- The input of a FREQ or QUAD pin moves, ts ticks into the frame: a
qualified edge where the comparator changes level and the pulse is not shorter than GLITCH (R142, R143). It reaches Kerf unless
the link loses it. -/
def State.kerfEdge (s : State) (p : Nat) (e : PinEdge) (ts : Nat) : State :=
  let mode := s.rd (R.UIOp_CFG_MODE p)
  let level := s.compare p e.mv
  if (mode ≠ pmFreq ∧ mode ≠ pmQuad) ∨ level = (s.pin p).level ∨ e.us < s.rd (R.UIOp_DIG_GLITCH p) then s
  else
    let tick := s.boundaryTick + ts % 20000
    let gone := e.lost || !s.linkOk (limbOf p)
    let s1 := s.modPin p fun x => { x with level := level, edges := x.edges + 1, lost := x.lost || gone }
    if gone then s1 else
    s1.each ((List.range 64).map (· + 64)) fun s t =>
      let pin := s.rd (R.KTt_CFG_PIN t)
      let k := s.kt t
      if s.rd (R.KTt_CFG_MODE t) = tmFreq ∧ pin = p then
        (if level = (s.rd (R.UIOp_DIG_EDGE p) = 0) then
          s.modKt t fun x => { x with edges := x.edges ++ [tick], lastEdge := some tick,
                                      interval := (x.lastEdge.map fun e => tick - e).orElse fun _ => x.interval }
         else s)
      else if s.rd (R.KTt_CFG_MODE t) = tmQuad ∧ (pin = p ∨ pin + 1 = p) then
        (let isB := decide (pin ≠ p)
         let a := if isB then k.levelA else level
         let b := if isB then level else k.levelB
         if k.lastTs = some (tick, !isB) then
           let s2 := (s.modKt t fun x => { x with levelA := a, levelB := b, pos := x.prevPos, lastTs := none }).bump (R.KTt_STAT_QERR t)
           if k.quadRaised then s2
           else (s2.modKt t fun x => { x with quadRaised := true }).raise 260 (ownerOf (s.ktOwner t))
             ([BitVec.ofNat 8 t, 0] ++ leBytes 2 (s2.rd (R.KTt_STAT_QERR t)))
         else
           let dlt := (quadIdx a b - quadIdx k.levelA k.levelB) % 4
           let stepBy : Int := if dlt = 1 then 1 else if dlt = 3 then -1 else 0
           s.modKt t fun x => { x with levelA := a, levelB := b, prevPos := x.pos, pos := x.pos + stepBy, lastTs := some (tick, isB) })
      else s

/-! Current controllers (R157-R161). -/

/-- A sense message arrives (R157). -/
def State.senseArrive (s : State) (d : Nat) (m : SenseMsg) : State :=
  let rx : SenseRx := {
    id := s.frame64 * 4 + m.slot, stud := m.stud
    cur := m.cur.map fun x => (x.1.val, x.2.1, x.2.2.val)
    states := (chansOf d).map fun n => s.rd (R.CHn_STAT_STATE n)
    hold := s.isSet (R.BOLE_STAT_HOLD d) }
  (s.onSense fun l => updAt l d fun _ => some rx).wr ⟨R.KRF_STAT_SENSE_OK.addr, d, d⟩ 1

/-- The dither of R159 in nA at a phase. -/
def ditherOf (wave damp pd phase : Nat) : Int :=
  let a : Int := (damp * 1000000 : Nat)
  let p : Int := max 1 pd
  let k : Int := phase
  if wave = 1 then
    (if 4 * k ≤ p then a * 4 * k / p else if 4 * k ≤ 3 * p then a * (2 * p - 4 * k) / p else a * (4 * k - 4 * p) / p)
  else if wave = 2 then (if 2 * k < p then a else -a)
  else 0

/-- Pd of R159 in slots. -/
def ditherPd (f : Nat) : Nat := if f = 0 then 1 else (2 * 16000 + f) / (2 * f)

/-- iref moved toward a target by a step, both in 1/16 mA. -/
def moveToward (iref target stp : Int) : Int :=
  if stp = 0 then target else if iref < target then min target (iref + stp) else max target (iref - stp)

/-- Full duty in the integrator's unit. -/
def dutyOne : Int := 1000000000000000

/-- One execution of R158: the new iref (1/16 mA), iref_d (nA), integrator, IFB (nA), duty, and whether the clamp acted. -/
structure KcResult where
  iref : Int
  irefd : Int
  integ : Int
  ifb : Int
  duty : Nat
  satur : Bool
  deriving DecidableEq, Repr

/-- The loop of R158 with the controller's fields as numbers. -/
def kcLoop (setpoint ramp kp ki dmin dmax rff vstud : Nat) (ff : Bool) (iref integ dith sum : Int) (cnt : Nat) : KcResult :=
  let ir := moveToward iref (16 * (setpoint : Int)) ramp
  let ird := max 0 (ir * 62500 + dith)
  let ifb : Int := if cnt = 0 then 0 else sum * 1000000 / cnt
  let e := ird - ifb
  let dff : Int := if ff ∧ vstud ≥ 4000 then ird * rff * 1000000 / vstud else 0
  let dp : Int := kp * e * 1000
  let di : Int := integ + ki * e * 125 / 2
  let d := dff + dp + di
  let hi : Int := dmax * dutyOne / 65535
  let lo : Int := dmin * dutyOne / 65535
  let integ' := if (d > hi ∧ e > 0) ∨ (d < lo ∧ e < 0) then integ else clampInt (-dutyOne) dutyOne di
  let u := dff + dp + integ'
  let v := min hi (max lo u)
  { iref := ir, irefd := ird, integ := integ', ifb := ifb, duty := (roundDiv (65535 * v) dutyOne).toNat, satur := decide (v ≠ u) }

/-- REST of R158 for a period: mean stud voltage × mean duty ÷ IFB, in milliohm, rounded; IFB in nA, at least 50 mA. -/
def restOf (studs duties : List Nat) (ifb : Nat) : Nat :=
  let n := max 1 studs.length
  let num := studs.foldl (· + ·) 0 * duties.foldl (· + ·) 0 * 1000000000
  let den := n * n * 65535 * ifb
  sat 0xFFFF ((2 * num + den) / (2 * den))

/-- The mean of the last periods, rounded; 0xFFFF while there is none. -/
def restMean (l : List Nat) : Nat := if l.isEmpty then 0xFFFF else (2 * l.foldl (· + ·) 0 + l.length) / (2 * l.length)

/-- SENSE_LOST clears after K consecutive present slots (R161). -/
def State.senseBack (s : State) (c k : Nat) : State :=
  if s.isSet (R.KCc_DIAG_SENSE_LOST c) ∧ (s.kc c).presentRun ≥ k then
    (s.wr (R.KCc_DIAG_SENSE_LOST c) 0).raise 257 (ownerOf (s.kcOwner c)) [BitVec.ofNat 8 c, BitVec.ofNat 8 (s.rd (R.KCc_CFG_CH c))]
  else s

/-- A slot without a message for controller c: SENSE_OK of its die reads 0, and a controller that is enabled counts it
(R161, R162). -/
def State.kcMiss (s : State) (c d : Nat) : State :=
  let s1 := s.wr ⟨R.KRF_STAT_SENSE_OK.addr, d, d⟩ 0
  if !s.isSet (R.KCc_CFG_EN c) then s1
  else (s1.bump (R.KCc_CNT_MISS c)).modKc c fun x => { x with presentRun := 0, missRun := x.missRun + 1, sums := [] }

/-- A slot instant of controller c (R158-R161). A message that a slot before has used is none for this one. -/
def State.kcExecute (s : State) (c : Nat) : State :=
  let ch := s.rd (R.KCc_CFG_CH c)
  let d := dieOf ch
  let kc := s.kc c
  let k := max 1 (s.rd (R.KTt_PER_PERIOD ch) / 5000)
  match s.sense.getD d none with
  | none => s.kcMiss c d
  | some m =>
      if kc.lastMsg = some m.id then s.kcMiss c d
      else if !s.isSet (R.KCc_CFG_EN c) then s.modKc c fun x => { x with lastMsg := some m.id }
      else
        let st := m.states.getD (ch % 16) 0
        let own := ((m.cur.find? fun x => x.1 = ch).map (·.2)).getD (0, 0)
        let s1 := s.modKc c fun x =>
          { x with lastMsg := some m.id, presentRun := x.presentRun + 1, missRun := 0, sums := (own :: x.sums).take k }
        if m.hold || !(st = csOn || st = csInrush || st = csLimiting) then
          (((s1.modKc c fun x => { x with iref := 0, irefd := 0, integ := 0, phase := 0 }).wr (R.KCc_OUT_DUTY c) 0).wr
            (R.KCc_DIAG_HELD c) 1).senseBack c k
        else
          let sums := (s1.kc c).sums
          let pd := ditherPd (s.rd (R.KCc_DITH_DFREQ c))
          let r := kcLoop (s.rd (R.KCc_SET_SETPOINT c)) (s.rd (R.KCc_SET_RAMP c)) (s.rd (R.KCc_GAIN_KP c)) (s.rd (R.KCc_GAIN_KI c))
            (s.rd (R.KCc_LIM_DMIN c)) (s.rd (R.KCc_LIM_DMAX c)) (s.rd (R.KCc_CFG_RFF c)) m.stud (s.isSet (R.KCc_CFG_FF_EN c))
            kc.iref kc.integ (ditherOf (s.rd (R.KCc_CFG_DWAVE c)) (s.rd (R.KCc_DITH_DAMP c)) pd kc.phase)
            (isum (sums.map (·.1))) (sums.foldl (fun a x => a + x.2) 0)
          let ifbMa := roundDiv r.ifb 1000000
          let studs := m.stud :: kc.studs
          let duties := r.duty :: kc.duties
          let full := decide (studs.length ≥ k)
          let weak := decide (r.ifb < 50000000)
          let rest := if full && !weak then (restOf studs duties r.ifb.toNat :: kc.rest).take 16 else kc.rest
          let s2 := s1.modKc c fun x =>
            { x with iref := r.iref, irefd := r.irefd, integ := r.integ, phase := (kc.phase + 1) % max 1 pd,
                     execs := x.execs + 1, satAll := x.satAll && r.satur, rest := rest,
                     studs := if full then [] else studs, duties := if full then [] else duties }
          let s3 := (((s2.wr (R.KCc_OUT_DUTY c) r.duty).wr (R.KCc_OUT_IFB c) (unsigned 16 (clampInt (-32768) 32767 ifbMa))).wr
            (R.KCc_DIAG_HELD c) 0).wrB (R.KCc_DIAG_SAT c) r.satur
          (s3.wr (R.KCc_DIAG_REST c) (if weak then 0xFFFF else restMean rest)).senseBack c k

/-- A controller at a boundary: enabling and disabling (R160), and the frame's saturation (R509). The first slot of an
enabled controller is the boundary's own: only the message that came for it counts as present (R161). -/
def State.kcBoundary (s : State) (c : Nat) : State :=
  let en := s.isSet (R.KCc_CFG_EN c)
  let was := s.isSet (R.KCc_DIAG_RUN c)
  let kc := s.kc c
  let sf := decide (kc.execs > 0) && kc.satAll
  let s1 := if sf then s.bump (R.KCc_CNT_SATF c) else s
  let s2 := s1.modKc c fun x =>
    { x with execs := 0, satAll := true, satRaised := x.satRaised && sf, satRun := if sf then x.satRun + 1 else 0 }
  if en && !was then
    ((s2.wr (R.KCc_DIAG_RUN c) 1).wr (R.KCc_DIAG_HELD c) 1).modKc c fun x =>
      { x with iref := 0, irefd := 0, integ := 0, phase := 0, sums := [], presentRun := 0, missRun := 0, studs := [], duties := [], rest := [],
               lastMsg := (s.sense.getD (dieOf (s.rd (R.KCc_CFG_CH c))) none).bind fun m => if m.id + 4 = 4 * s.frame64 then none else some m.id }
  else if !en && was then
    (((s2.wr (R.KCc_DIAG_RUN c) 0).wr (R.KCc_DIAG_HELD c) 0).wr (R.KCc_DIAG_SENSE_LOST c) 0).wr (R.KCc_OUT_DUTY c) 0
  else s2

/-- Kerf at a frame boundary, once commits have applied; `old` is the state before them. The boundary is a slot instant:
SENSE_OK loses the dies whose message for it did not come (R162). -/
def State.kerfBoundary (s old : State) (gs : List Nat) : State :=
  let s1 := s.each (List.range 128) fun s t => if gs.contains (0x0380 + t) then s.ktApply old t else s
  let s2 := s1.each ((List.range 64).map (· + 64)) fun s t => s.ktCapture t
  let s3 := (s2.each (List.range 32) fun s c => s.kcBoundary c).each (List.range 4) fun s d =>
    if (s.sense.getD d none).any fun m => m.id + 4 = 4 * s.frame64 then s else s.wr ⟨R.KRF_STAT_SENSE_OK.addr, d, d⟩ 0
  s3.onPins fun l => l.map fun x => { x with edges := 0, lost := false }

def execFreqQuadEdge (p : Fin 96) (x : PinEdge) (ts : Nat) (s : State) : Out := s.finish (s.kerfEdge p x ts)
def execKerfPwmEdge (t : Fin 128) (kind : PwmEdge) (s : State) : Out := s.finish (s.ktEdge t kind)

/-- IN_K_HOLD_EXPIRY (R155): every IN_K line is driven low. -/
def execInKHoldExpiry (s : State) : Out := s.finish (s.each (List.range 64) fun s t => s.ktLine t false)

def execSenseMessage (d : Fin 4) (msg : SenseMsg) (s : State) : Out := s.finish (s.senseArrive d msg)
def execKcExecute (c : Fin 32) (s : State) : Out := s.finish (s.kcExecute c)

/-- SENSE_LOST_COUNT (R161). -/
def execSenseLostCount (c : Fin 32) (s : State) : Out :=
  s.finish <|
    if s.isSet (R.KCc_CFG_EN c) && !s.isSet (R.KCc_DIAG_SENSE_LOST c) && decide (16 ≤ (s.kc c).missRun) then
      (s.wr (R.KCc_DIAG_SENSE_LOST c) 1).raise 256 (ownerOf (s.kcOwner c)) [BitVec.ofNat 8 c, BitVec.ofNat 8 (s.rd (R.KCc_CFG_CH c))]
    else s

/-- KC_SATURATION_RUN (R509). -/
def execKcSaturationRun (c : Fin 32) (s : State) : Out :=
  s.finish <|
    if s.isSet (R.KCc_CFG_EN c) && !(s.kc c).satRaised && decide (40 ≤ (s.kc c).satRun) then
      (s.modKc c fun x => { x with satRaised := true }).raise 258 (ownerOf (s.kcOwner c))
        ([BitVec.ofNat 8 c, 0] ++ leBytes 2 (s.rd (R.KCc_OUT_IFB c)) ++ leBytes 2 (roundDiv (s.kc c).irefd 1000000).toNat)
    else s

end Sys2Proof.Machine
end

