-- ==== Sys2Proof/Machine/FieldCmd.lean ====
section
/-! DEFINITION. The field I/O and Kerf commands 0x03xx (R165, R166). -/

namespace Sys2Proof.Machine

/-- A basic command of this chapter: the rules its values touch, then staging and COMMIT (R166). -/
def State.fieldBasic (s : State) (c : Ctx) (vals : List (Fld × Nat)) (gs : List Nat) (offs : Nat → Nat → Nat) : Reply :=
  match s.fieldCheck (s.viewWith vals) gs with
  | some f => Reply.range s (offs f.1 f.2)
  | none => s.basic c vals gs

/-- Where the rule that fails first names a field of UIO_CONFIG. -/
def uioOffs (g r : Nat) : Nat :=
  if 0x0300 ≤ g ∧ g < 0x0360 then [0, 1, 1, 4, 1, 1, 2, 7].getD r 0 else 1

/-- Step 7 of UIO_CONFIG: the pin, then the timer that a KERF output names (R165). -/
def uioGrant (s : State) (c : Ctx) : Option Nat :=
  (ownGrant 96 0 State.uioOwner s c).orElse fun _ =>
    if nbit (c.arg 2 1) 2 && decide (c.arg 7 1 < 64) && !c.owns (s.ktOwner (64 + c.arg 7 1)) then some 0x8007 else none

/-- UIO_CONFIG (0x0301). -/
def opUioConfig : OpSpec where
  opcode := 0x0301
  classes := [clNormal]
  bits := fun _ i => if i = 2 then 0x7F else if i < 8 then 0xFF else 0
  grant := uioGrant
  need := fun _ => 8
  body := fun c s =>
    let p := c.arg 0 1
    let b1 := c.arg 1 1
    let b2 := c.arg 2 1
    let mode := nbits b1 3 0
    if p > 95 then Reply.range s 0
    else if mode = pmFreq ∨ mode = pmQuad then Reply.range s 1
    else if c.arg 3 1 > 15 then Reply.range s 3
    else if c.arg 4 2 > 511 then Reply.range s 4
    else if c.arg 7 1 > 63 then Reply.range s 7
    else
      s.fieldBasic c
        [(R.UIOp_CFG_MODE p, mode), (R.UIOp_CFG_OVS p, nbits b1 5 4), (R.UIOp_CFG_PULL p, nbits b1 7 6),
         (R.UIOp_CFG_SSSEL p, nbits b2 1 0), (R.UIOp_CFG_OUT_SRC p, nbits b2 2 2), (R.UIOp_CFG_OUT_HOLD p, nbits b2 3 3),
         (R.UIOp_DIG_EDGE p, nbits b2 4 4), (R.UIOp_DIG_HYST p, nbits b2 6 5), (R.UIOp_DIG_FILT p, c.arg 3 1),
         (R.UIOp_DIG_THRESH p, c.arg 4 2), (R.UIOp_DIG_GLITCH p, c.arg 6 1), (R.UIOp_OUT_TMR p, c.arg 7 1)]
        [0x0300 + p] uioOffs

/-- UIO_READ (0x0302). -/
def opUioRead : OpSpec where
  opcode := 0x0302
  classes := [clRt, clNormal]
  bits := allBits 12
  grant := maskGrant 96 0 State.uioOwner
  need := fun _ => 12
  body := fun c s => Reply.ok s (leBytes 4 s.uioMirror.frm ++
    (maskIdx 96 (c.arg 0 12)).flatMap fun p => leBytes 4 (s.uioMirror.vals.getD p 0).toNat)

/-- UIO_OUT_SET (0x0303). -/
def opUioOutSet : OpSpec where
  opcode := 0x0303
  classes := [clRt, clNormal]
  bits := allBits 24
  grant := maskGrant 96 0 State.uioOwner
  need := fun _ => 24
  body := fun c s =>
    let ps := maskIdx 96 (c.arg 0 12)
    s.fieldBasic c (ps.map fun p => (R.UIOp_OUT_ON p, b2n (nbit (c.arg 12 12) p))) (ps.map (0x0300 + ·)) fun _ _ => 12

/-- UIO_STATUS (0x0304). -/
def opUioStatus : OpSpec where
  opcode := 0x0304
  classes := [clNormal]
  bits := fun _ i => if i = 0 then 0xFF else if i = 1 then 0x3F else 0
  grant := ownGrant 96 0 State.uioOwner
  need := fun _ => 2
  body := fun c s =>
    let p := c.arg 0 1
    if p > 95 then Reply.range s 0
    else Reply.ok (s.clearBits (R.UIOp_FLT p) (c.arg 1 1))
      (leBytes 4 (s.raw (R.UIOp_STAT p)).toNat ++ leBytes 4 (s.raw (R.UIOp_FLT p)).toNat)

/-- SS_SET (0x0310, R166). -/
def opSsSet : OpSpec where
  opcode := 0x0310
  classes := [clNormal]
  bits := fun _ i => if i = 0 then 0xFF else if i = 1 then 0x03 else 0
  grant := ownGrant 8 0 State.ssOwner
  need := fun _ => 2
  body := fun c s =>
    let u := c.arg 0 1
    let on := nbit (c.arg 1 1) 0
    let vsel := nbits (c.arg 1 1) 1 1
    if u > 7 then Reply.range s 0
    else if s.isSet (R.SSs_CFG_ON u) && on && decide (s.rd (R.SSs_CFG_VSEL u) ≠ vsel) then Reply.err s stConflict 0
    else if on then Reply.ok ((s.wr (R.SSs_CFG_VSEL u) vsel).supSet u true)
    else Reply.ok ((s.supSet u false).wr (R.SSs_CFG_VSEL u) vsel)

/-- SS_GET (0x0311). -/
def opSsGet : OpSpec where
  opcode := 0x0311
  classes := [clRt, clNormal]
  bits := allBits 1
  grant := ownGrant 8 0 State.ssOwner
  need := fun _ => 1
  body := fun c s =>
    let u := c.arg 0 1
    if u > 7 then Reply.range s 0
    else Reply.ok s (leBytes 4 (s.raw (R.SSs_STAT u)).toNat ++ leBytes 4 (s.raw (R.SSs_FLT u)).toNat)

/-- Where the rule that fails first names a field of KT_CONFIG. -/
def ktOffs (g r : Nat) : Nat :=
  if 0x0380 ≤ g then [0, 1, 4, 1, 1, 2, 2, 2].getD r 0
  else if 0x0360 ≤ g then (if r = 4 then 4 else 1)
  else if 0x0300 ≤ g then (if r = 7 then 2 else 1)
  else 4

/-- Step 7 of KT_CONFIG: the timer, then the pin that a timer 64 to 127 in a mode other than OFF names (R165). -/
def ktGrant (s : State) (c : Ctx) : Option Nat :=
  (ownGrant 128 0 State.ktOwner s c).orElse fun _ =>
    if 64 ≤ c.arg 0 1 ∧ c.arg 2 1 < 96 ∧ nbits (c.arg 1 1) 2 0 ≠ tmOff ∧ !c.owns (s.uioOwner (c.arg 2 1)) then some 0x8002 else none

/-- KT_CONFIG (0x0320, R166). -/
def opKtConfig : OpSpec where
  opcode := 0x0320
  classes := [clNormal]
  bits := fun _ i => if i = 1 then 0x0F else if i < 14 then 0xFF else 0
  grant := ktGrant
  need := fun _ => 14
  body := fun c s =>
    let t := c.arg 0 1
    let mode := nbits (c.arg 1 1) 2 0
    let pin := c.arg 2 1
    if t > 127 then Reply.range s 0
    else if mode = tmCc then Reply.range s 1
    else if t ≤ 63 ∧ pin ≠ 0 then Reply.range s 2
    else if pin > 95 then Reply.range s 2
    else if c.arg 4 4 ≥ 2 ^ 24 then Reply.range s 4
    else if c.arg 8 4 ≥ 2 ^ 24 then Reply.range s 8
    else
      let pm := if mode = tmFreq then pmFreq else pmQuad
      let pins := if t ≥ 64 ∧ mode = tmFreq then [pin] else if t ≥ 64 ∧ mode = tmQuad then [pin, pin + 1] else []
      let moved := pins.filter fun p => p < 96 ∧ s.rd (R.UIOp_CFG_MODE p) = pmDigital
      s.fieldBasic c
        ([(R.KTt_CFG_MODE t, mode), (R.KTt_CFG_SYNC t, nbits (c.arg 1 1) 3 3), (R.KTt_CFG_PIN t, pin), (R.KTt_CFG_WIN t, c.arg 3 1),
          (R.KTt_PER_PERIOD t, c.arg 4 4), (R.KTt_PH_PHASE t, c.arg 8 4), (R.KTt_DUTY_DUTY t, c.arg 12 2)] ++
         moved.map fun p => (R.UIOp_CFG_MODE p, pm))
        ((0x0380 + t) :: moved.map (0x0300 + ·)) ktOffs

/-- The entries of KT_DUTY: timer and duty. -/
def ktDutyEntries (c : Ctx) : List (Nat × Nat × Nat) :=
  (List.range (min 32 (c.arg 0 1))).map fun i => (4 + 4 * i, c.arg (4 + 4 * i) 1, c.arg (6 + 4 * i) 2)

/-- KT_DUTY (0x0321). -/
def opKtDuty : OpSpec where
  opcode := 0x0321
  classes := [clRt, clNormal]
  bits := fun p i => if i = 0 then 0xFF else if i < 4 then 0 else if i < 4 + 4 * min 32 (le p 0 1) then (if i % 4 = 1 then 0 else 0xFF) else 0
  grant := fun s c => ((ktDutyEntries c).find? fun x => x.2.1 < 128 && !c.owns (s.ktOwner x.2.1)).map fun x => 0x8000 + x.1
  need := fun p => 4 + 4 * min 32 (le p 0 1)
  body := fun c s =>
    let es := ktDutyEntries c
    if c.arg 0 1 < 1 ∨ c.arg 0 1 > 32 then Reply.range s 0
    else match es.find? fun x => x.2.1 > 127 with
    | some x => Reply.range s x.1
    | none => s.fieldBasic c (es.map fun x => (R.KTt_DUTY_DUTY x.2.1, x.2.2)) (es.map fun x => 0x0380 + x.2.1) fun _ _ => 6

/-- KT_GET (0x0322). -/
def opKtGet : OpSpec where
  opcode := 0x0322
  classes := [clRt, clNormal]
  bits := allBits 1
  grant := ownGrant 128 0 State.ktOwner
  need := fun _ => 1
  body := fun c s =>
    let t := c.arg 0 1
    if t > 127 then Reply.range s 0 else Reply.ok s (s.bytesAt (R.KTt_CFG t) 28)

/-- Where the rule that fails first names a field of KC_CONFIG. -/
def kcOffs (g r : Nat) : Nat :=
  if 0x0380 ≤ g then [0, 2, 3, 3, 3, 1, 1, 1].getD r 0
  else if 0x0360 ≤ g then [0, 2, 20, 10, 2].getD r 0
  else 3

/-- Step 7 of KC_CONFIG: the controller, then its channel. -/
def kcGrant (s : State) (c : Ctx) : Option Nat :=
  (ownGrant 32 0 State.kcOwner s c).orElse fun _ => ownGrant 64 1 State.chOwner s c

/-- KC_CONFIG (0x0330, R166). -/
def opKcConfig : OpSpec where
  opcode := 0x0330
  classes := [clNormal]
  bits := fun _ i => if i = 2 then 0x0F else if i < 23 then 0xFF else 0
  grant := kcGrant
  need := fun _ => 23
  body := fun c s =>
    let k := c.arg 0 1
    let ch := c.arg 1 1
    let b := c.arg 2 1
    let en := nbit b 0
    if k > 31 then Reply.range s 0
    else if ch > 63 then Reply.range s 1
    else
      s.fieldBasic c
        ([(R.KCc_CFG_CH k, ch), (R.KCc_CFG_EN k, b2n en), (R.KCc_CFG_FF_EN k, nbits b 1 1), (R.KCc_CFG_DWAVE k, nbits b 3 2),
          (R.KCc_CFG_RFF k, c.arg 4 2), (R.KCc_GAIN_KP k, c.arg 6 2), (R.KCc_GAIN_KI k, c.arg 8 2), (R.KCc_LIM_DMIN k, c.arg 10 2),
          (R.KCc_LIM_DMAX k, c.arg 12 2), (R.KCc_DITH_DFREQ k, c.arg 14 2), (R.KCc_DITH_DAMP k, c.arg 16 2),
          (R.KCc_SET_RAMP k, c.arg 18 2), (R.KCc_SET_SETPOINT k, c.arg 20 2)] ++
         (if en then [(R.KTt_CFG_MODE ch, tmCc), (R.KTt_PER_PERIOD ch, 5000 * c.arg 3 1), (R.KTt_PH_PHASE ch, 5000 * c.arg 22 1)]
          else [(R.KTt_CFG_MODE ch, tmOff)]))
        [0x0360 + k, 0x0380 + ch] kcOffs

/-- KC_SET (0x0331). -/
def opKcSet : OpSpec where
  opcode := 0x0331
  classes := [clRt, clNormal]
  bits := fun _ i => if i = 0 ∨ (2 ≤ i ∧ i < 6) then 0xFF else 0
  grant := ownGrant 32 0 State.kcOwner
  need := fun _ => 6
  body := fun c s =>
    let k := c.arg 0 1
    if k > 31 then Reply.range s 0
    else
      let ramp := if c.arg 4 2 = 0xFFFF then s.rd (R.KCc_SET_RAMP k) else c.arg 4 2
      s.fieldBasic c [(R.KCc_SET_SETPOINT k, c.arg 2 2), (R.KCc_SET_RAMP k, ramp)] [0x0360 + k] fun _ _ => 2

/-- KC_GET (0x0332). -/
def opKcGet : OpSpec where
  opcode := 0x0332
  classes := [clRt, clNormal]
  bits := allBits 1
  grant := ownGrant 32 0 State.kcOwner
  need := fun _ => 1
  body := fun c s =>
    let k := c.arg 0 1
    if k > 31 then Reply.range s 0
    else Reply.ok s (s.bytesAt (R.KCc_OUT k) 8 ++ leBytes 2 (s.rd (R.KCc_SET_SETPOINT k)) ++
      leBytes 2 (sat 0xFFFF (roundDiv (s.kc k).irefd 1000000).toNat) ++ leBytes 4 (s.raw (R.KCc_CNT k)).toNat)

/-- EXT_GET (0x0340). -/
def opExtGet : OpSpec where
  opcode := 0x0340
  classes := [clRt, clNormal]
  bits := allBits 0
  need := fun _ => 0
  body := fun _ s => Reply.ok s (leBytes 4 (s.raw R.EXT_STAT).toNat)

def execUioConfig (m : Fin 17) (fate : Fate) (s : State) : Out := s.finish (s.runRow opUioConfig m fate)
def execUioRead (m : Fin 17) (fate : Fate) (s : State) : Out := s.finish (s.runRow opUioRead m fate)
def execUioOutSet (m : Fin 17) (fate : Fate) (s : State) : Out := s.finish (s.runRow opUioOutSet m fate)
def execUioStatus (m : Fin 17) (fate : Fate) (s : State) : Out := s.finish (s.runRow opUioStatus m fate)
def execSsSet (m : Fin 17) (fate : Fate) (s : State) : Out := s.finish (s.runRow opSsSet m fate)
def execSsGet (m : Fin 17) (fate : Fate) (s : State) : Out := s.finish (s.runRow opSsGet m fate)
def execKtConfig (m : Fin 17) (fate : Fate) (s : State) : Out := s.finish (s.runRow opKtConfig m fate)
def execKtDuty (m : Fin 17) (fate : Fate) (s : State) : Out := s.finish (s.runRow opKtDuty m fate)
def execKtGet (m : Fin 17) (fate : Fate) (s : State) : Out := s.finish (s.runRow opKtGet m fate)
def execKcConfig (m : Fin 17) (fate : Fate) (s : State) : Out := s.finish (s.runRow opKcConfig m fate)
def execKcSet (m : Fin 17) (fate : Fate) (s : State) : Out := s.finish (s.runRow opKcSet m fate)
def execKcGet (m : Fin 17) (fate : Fate) (s : State) : Out := s.finish (s.runRow opKcGet m fate)
def execExtGet (m : Fin 17) (fate : Fate) (s : State) : Out := s.finish (s.runRow opExtGet m fate)

end Sys2Proof.Machine
end

