-- ==== Sys2Proof/Machine/Queues.lean ====
section
/-! DEFINITION. Hardware queues (R70-R73): rings of 32-byte descriptors in system SRAM; and the denial of R20. -/

namespace Sys2Proof

/-- Requester classes (R18). -/
def Attr.isForester (a : Attr) : Bool := a.rqc.val = 1
def Attr.isDebug (a : Attr) : Bool := a.rqc.val = 3
/-- A transaction made for a partition: an application core or a DMA on its behalf. -/
def Attr.isPart (a : Attr) : Bool := a.rqc.val = 0 || a.rqc.val = 2

end Sys2Proof

namespace Sys2Proof.Machine

/-- A transaction denied (R20): an error response, and FAB_DENY, owned by the partition whose PID it carries when its
RQC is 0, 2 or 6 (R23). The payload: bytes 0-4 the address, 5 PID, 6 RQC, 7 W. -/
def State.deny (s : State) (a : Attr) (addr : Nat) : State :=
  let o : Owner := if a.rqc.val = 0 ∨ a.rqc.val = 2 ∨ a.rqc.val = 6 then .part a.pid else .sys
  (s.onBus fun _ => { err := true }).raise 487 o
    (leBytes 5 addr ++ [BitVec.ofNat 8 a.pid, BitVec.ofNat 8 a.rqc, BitVec.ofNat 8 (b2n a.w)])

/-- The response of an access that a target took. -/
def State.respondBus (s : State) (v : Word) : State := s.onBus fun _ => { data := v }

/-- The partitions that own the granule of an address (R307). -/
def State.granuleOwner (s : State) (addr : Nat) : Owner :=
  .parts ((List.range 16).filter fun p => (s.part p).regions.any fun r => decide (r.base ≤ addr ∧ addr < r.base + r.size))

/-- MEM_POISON_READ of a requester (R287, R307). -/
def State.poisonEvent (s : State) (a : Attr) (addr : Nat) : State :=
  s.raise 67 (s.granuleOwner addr) (leBytes 5 addr ++ leBytes 1 a.rqc.val ++ leBytes 1 a.pid.val)

/-- The poisoned words that an engine's read meets, each reported. -/
def State.poisonReads (s : State) (a : Attr) (addr n : Nat) : State := s.each (s.poisonIn addr n) fun s w => s.poisonEvent a w

def State.q (s : State) (n : Nat) : QState := s.queues.getD n {}
def State.modQ (s : State) (n : Nat) (f : QState → QState) : State := s.onQueues fun l => updAt l n f

/-- Ring size in entries, and the address of entry k (R70). -/
def State.qSize (s : State) (n : Nat) : Nat := 2 ^ s.rd (R.QMG_QnCFG_SIZE n)
def State.qBase (s : State) (n : Nat) : Nat := s.rd (R.QMG_QnBASE_LO_ADDR n) * 32 + s.rd (R.QMG_QnBASE_HI_ADDR_HI n) * 2 ^ 32
def State.qEntry (s : State) (n k : Nat) : Nat := s.qBase n + k % s.qSize n * 32

/-- Entries in a ring, and its free entries. -/
def State.qCount (s : State) (n : Nat) : Nat := (s.rd (R.QMG_QnPROD_IDX n) + 65536 - s.rd (R.QMG_QnCONS_IDX n)) % 65536
def State.qRoom (s : State) (n : Nat) : Nat := s.qSize n - s.qCount n

/-- The owner of a queue as QMG holds it; the Forester's own queues name no created partition. -/
def State.qOwner (s : State) (n : Nat) : Option Nat := s.queueOwner n

/-- The generation that entries of a queue must carry (R72, R73). -/
def State.qGen (s : State) (n : Nat) : Nat :=
  match s.qOwner n with
  | some p => s.gen p
  | none => 0

/-- Attributes of an engine's access to a ring (R322): RQC 2 and the owner's PID. -/
def State.qEngineAttr (s : State) (n : Nat) : Attr := ⟨false, Fin.ofNat 16 ((s.qOwner n).getD 0), 2⟩

/-- A stale entry counted (R73), with QMG_STALE_DROP at most once per frame and queue. -/
def State.qStale (s : State) (n : Nat) : State :=
  let s1 := s.bump (R.QMG_QnDROP_COUNT n)
  if (s.q n).staleRaised then s1
  else (s1.modQ n fun x => { x with staleRaised := true }).raise 38 (ownerOf (s.qOwner n)) [BitVec.ofNat 8 n]

/-- The descriptor at the head of a ring, after stale entries of a DIR 0 queue have been discarded. One that cannot be read
because its memory is poisoned stays there (R287). DESIGN CHOICE: the spec does not say what an engine does with it. -/
def State.qHead (s : State) (n : Nat) : Nat → State × Option (List Byte)
  | 0 => (s, none)
  | k + 1 =>
    if s.qCount n = 0 then (s, none)
    else
      let at_ := s.qEntry n (s.rd (R.QMG_QnCONS_IDX n))
      if !(s.poisonIn at_ 32).isEmpty then (s.poisonReads (s.qEngineAttr n) at_ 32, none)
      else
      let d := s.memRead at_ 32
      if le d 4 2 = s.qGen n ∨ (s.qOwner n).isNone then (s, some d)
      else ((s.count (R.QMG_QnCONS_IDX n)).qStale n).qHead n k

/-- The head of an enabled DIR 0 ring. -/
def State.qFront (s : State) (n : Nat) : State × Option (List Byte) :=
  if s.isSet (R.QMG_QnCFG_EN n) && !s.isSet (R.QMG_QnCFG_DIR n) then s.qHead n 4096 else (s, none)

/-- k entries of a ring taken by the engine. -/
def State.qTake (s : State) (n k : Nat) : State := s.count (R.QMG_QnCONS_IDX n) k

/-- The k-th entry from the head of a ring, if the ring holds it. -/
def State.qPeek (s : State) (n k : Nat) : Option (List Byte) :=
  if k < s.qCount n then some (s.memRead (s.qEntry n (s.rd (R.QMG_QnCONS_IDX n) + k)) 32) else none

/-- An entry written by an engine at PROD; the ring has room. -/
def State.qWrite (s : State) (n : Nat) (d : List Byte) : State :=
  (s.memPut (s.qEntry n (s.rd (R.QMG_QnPROD_IDX n))) (padTo 32 d)).count (R.QMG_QnPROD_IDX n)

/-- An entry of a completion or DIR 1 queue (R71, R73): discarded when stale, counted when the ring is full. One for a queue
whose EN is 0 is lost and no counter tells it: the spec does not say what becomes of it. DESIGN CHOICE. -/
def State.qPush (s : State) (n : Nat) (d : List Byte) : State :=
  if !s.isSet (R.QMG_QnCFG_EN n) then s
  else if le d 4 2 ≠ s.qGen n ∧ (s.qOwner n).isSome then s.qStale n
  else if s.qRoom n = 0 then s.bump (R.QMG_QnFULL_COUNT n)
  else s.qWrite n d

/-- Whether an entry of queue n is in progress (R73): a LONG command, a frame in a CAN buffer or in the switch whose
completion is to come, a crypto job. -/
def State.qBusy (s : State) (n : Nat) : Bool :=
  (s.longs.any fun l => decide (l.queue = some n)) ||
  (s.cans.any fun c => c.bufs.any fun b => match b with | some x => decide (x.src = some n) | none => false) ||
  (s.eth.ports.any fun p => (p.current.toList ++ p.queue).any fun f => match f.cpl with | some x => decide (x.1 = n) | none => false) ||
  s.sec.jobs.any fun j => decide (j.queue = n)

/-- STOPPED once EN is 0 and no entry is in progress (R73). -/
def State.qSettle (s : State) (n : Nat) : State :=
  s.when (!s.isSet (R.QMG_QnCFG_EN n) && !s.qBusy n) fun s => s.wr (R.QMG_QnSTAT_STOPPED n) 1

/-- A write of PROD by a side that may (R70, R71). -/
def State.setProd (s : State) (n v : Nat) : State :=
  if (v % 65536 + 65536 - s.rd (R.QMG_QnCONS_IDX n)) % 65536 > s.qSize n then
    (s.wr (R.QMG_QnSTAT_OVF n) 1).raise 39 (ownerOf (s.qOwner n)) [BitVec.ofNat 8 n]
  else s.wr (R.QMG_QnPROD_IDX n) v

/-- Whether a transaction reaches the registers of queue n (R70). -/
def State.qAdmits (s : State) (a : Attr) (n : Nat) : Bool :=
  a.isForester || (a.isPart && decide (s.rd (R.QMG_QnCFG_OWNER n) = a.pid.val))

/-- QUEUE_PROD_WRITE: PROD belongs to the producer side, the partition of a DIR 0 queue. -/
def State.prodWrite (s : State) (a : Attr) (n v : Nat) : State :=
  if !s.qAdmits a n then s.deny a (R.QMG_QnPROD n)
  else
    let s1 := s.respondBus 0
    if a.isForester || !s.isSet (R.QMG_QnCFG_DIR n) then s1.setProd n v else s1

/-- QUEUE_CONS_WRITE: CONS belongs to the consumer side, the partition of a DIR 1 queue. -/
def State.consWrite (s : State) (a : Attr) (n v : Nat) : State :=
  if !s.qAdmits a n then s.deny a (R.QMG_QnCONS n)
  else
    let s1 := s.respondBus 0
    if a.isForester || s.isSet (R.QMG_QnCFG_DIR n) then s1.wr (R.QMG_QnCONS_IDX n) v else s1

def execQueueProdWrite (a : Attr) (q : Fin 64) (v : Nat) (s : State) : Out := s.finish (s.prodWrite a q v)

end Sys2Proof.Machine
end

