-- ==== Sys2Proof/Machine/Access.lean ====
section
/-! DEFINITION. Which transaction a target admits (R18-R20, R38, R39, R61, R70, R320, R322, R432). -/

namespace Sys2Proof.Machine

/-- Window i of a partition (R309): base, length in bytes, RW. -/
def Part.window (p : Part) (i : Nat) : Nat × Nat × Bool :=
  let o := offWin + 8 * i
  (le p.entry o 5, le p.entry (o + 5) 1 * 4096, nbit (le p.entry (o + 6) 1) 0)

/-- Whether an address lies in a register window of a partition; a write needs RW (R61). -/
def Part.inWindow (p : Part) (addr : Nat) (write : Bool) : Bool :=
  p.created && (List.range 16).any fun i =>
    let w := p.window i
    decide (w.1 ≤ addr ∧ addr < w.1 + w.2.1) && (!write || w.2.2)

/-- Blocks that no register window covers and that only the Forester reaches (R61, R305, R390, R432, R447). -/
def closedBlock (addr : Nat) : Bool :=
  (0x20000000 ≤ addr ∧ addr < 0x20010000) ∨ (0x20C00000 ≤ addr ∧ addr < 0x21000000) ∨
  (0x207A0000 ≤ addr ∧ addr < 0x207C0000)

/-- Debug access of a kind: open in TEST and PROVISIONED, by authorization in FIELD and RETURN (R302, R404, R407). -/
def State.debugScope (s : State) (scope : Nat) : Bool :=
  s.sec.dbgEn && (s.rd R.KSU_LCS_STATE = 1 || s.rd R.KSU_LCS_STATE = 2 ||
    ((s.rd R.KSU_LCS_STATE = 3 || s.rd R.KSU_LCS_STATE = 4) && nbit (s.rd R.KSU_AUTH_SCOPE) scope))

/-- Whether a register's target admits a transaction. -/
def State.regAdmits (s : State) (a : Attr) (addr : Nat) (write : Bool) : Bool :=
  if 0x20030000 ≤ addr ∧ addr < 0x20041000 then
    let m := (addr - 0x20030000) / 0x1000
    if m < 16 then a.isPart && decide (a.pid.val = m)
    else (a.isPart && a.w && (s.part a.pid).isSystem) || a.isDebug
  else if 0x20020000 ≤ addr ∧ addr < 0x20030000 then
    if addr < 0x20021000 then s.qAdmits a ((addr - 0x20020000) / 0x40) else a.isForester
  else if 0x20010000 ≤ addr ∧ addr < 0x20020000 then
    decide (a.rqc.val = 0) && decide (a.pid.val = (addr - 0x20010000) / 0x1000)
  else if a.isForester then true
  else if closedBlock addr then false
  else if a.isPart then (s.part a.pid).inWindow addr write
  else if a.isDebug then s.debugScope 2
  else decide (a.rqc.val = 5)

/-- Watermarks of R322 as addresses. -/
def State.wmSram (s : State) : Nat := 0x10000000 + s.rd R.KSU_WM_WM_SRAM * 0x10000
def State.wmDram (s : State) : Nat := 0x800000000 + s.rd R.KSU_WM_WM_DRAM * 0x200000

/-- Whether an address lies below its watermark: a heartwood region. -/
def State.belowMark (s : State) (addr : Nat) : Bool :=
  (0x10000000 ≤ addr ∧ addr < 0x11800000 ∧ addr < s.wmSram) ∨ (0x800000000 ≤ addr ∧ addr < s.wmDram)

/-- System SRAM and LPDDR5X (R21, R285). -/
def isMemory (addr : Nat) : Bool := (0x10000000 ≤ addr ∧ addr < 0x11800000) ∨ (0x800000000 ≤ addr ∧ addr < 0x9C0000000)

/-- The end of addressable system SRAM (R284): the ways of the system cache are taken from its top. -/
def State.sramEnd (s : State) : Nat := 0x11800000 - s.rd R.MEM_SC_CFG_WAYS * 0x80000

/-- Whether n bytes from an address meet system SRAM that the system cache has taken. -/
def State.inScWays (s : State) (addr n : Nat) : Bool := decide (addr < 0x11800000 ∧ s.sramEnd < addr + n ∧ 0x10000000 ≤ addr)

/-- Whether the memory target admits a transaction (R284, R322). -/
def State.memAdmits (s : State) (a : Attr) (addr n : Nat) (write : Bool) : Bool :=
  if s.inScWays addr n then false
  else if a.isForester then true
  else if a.rqc.val = 0 ∨ a.rqc.val = 2 ∨ a.rqc.val = 6 then
    (a.w || !s.belowMark addr) &&
    (s.part a.pid).regions.any fun r =>
      decide (r.base ≤ addr ∧ addr + n ≤ r.base + r.size) && (!write || r.rw) && (!r.hw || a.w)
  else if a.isDebug then s.debugScope (if s.belowMark addr then 3 else 2)
  else false

/-- The gate unit whose registers an address belongs to (R325). -/
def gateUnit (addr : Nat) : Option Nat :=
  if 0x20100000 ≤ addr ∧ addr < 0x20118000 then some ((addr - 0x20100000) / 0x1000)
  else if 0x20210000 ≤ addr ∧ addr < 0x20221000 then some (24 + (addr - 0x20210000) / 0x1000)
  else if 0x20C20000 ≤ addr ∧ addr < 0x20C20050 then some (41 + (addr - 0x20C20000) / 0x10)
  else none

/-- Whether an access meets a gated unit. -/
def State.gated (s : State) (addr : Nat) : Bool :=
  match gateUnit addr with
  | some u => s.isSet (R.KSU_GATEu_GATED u)
  | none => false

/-- Owner of a gate unit's vote: the controller's owner, the network owner, the Forester. -/
def State.gateOwner (s : State) (u : Nat) : Option Nat :=
  if u < 24 then s.canOwner u else if u ≤ 40 then s.netOwner else none

/-- The response of a gated unit: an error, with GATE_ACCESS (R325, R329). -/
def State.gateAccess (s : State) (a : Attr) (addr : Nat) : State :=
  let u := (gateUnit addr).getD 0
  (s.onBus fun _ => { err := true }).raise 497 (.part a.pid)
    (BitVec.ofNat 8 u :: leBytes 5 addr ++ [BitVec.ofNat 8 a.pid])

/-- A command that is an access to one register: denied, refused by a gated unit, or carried out. -/
def State.access (s : State) (a : Attr) (addr : Nat) (write : Bool) (f : State → State) : State :=
  if !s.regAdmits a addr write then s.deny a addr
  else if s.gated addr then s.gateAccess a addr
  else f (s.respondBus 0)

end Sys2Proof.Machine
end

