-- ==== Sys2Proof/Machine/Can.lean ====
section
/-! DEFINITION. CAN controllers and transceivers (06_can.md): reception, objects, FIFO, sources, transmission, errors,
bus-off and the transceivers' states. -/

namespace Sys2Proof.Machine

def State.can (s : State) (n : Nat) : Can := s.cans.getD n {}
def State.modCan (s : State) (n : Nat) (f : Can → Can) : State := s.onCans fun l => updAt l n f

/-- States of a controller (CANn_STAT.STATE), activities (ACT), operating modes and transceiver states. -/
def ctStopped : Nat := 0
def ctIntegrating : Nat := 1
def ctActive : Nat := 2
def ctPassive : Nat := 3
def ctBusOff : Nat := 4
def ctHeld : Nat := 5
def ctRecovering : Nat := 6
def actIdle : Nat := 0
def actReceiving : Nat := 1
def actTransmitting : Nat := 2
def actSyncing : Nat := 3
def omNormal : Nat := 0
def omMonitor : Nat := 1
def omRestricted : Nat := 2
def omLoopback : Nat := 3
def txNormal : Nat := 0
def txListen : Nat := 1
def txStandby : Nat := 2
def txSleep : Nat := 3

/-- Partitions that share controller n. -/
def State.canSharers (s : State) (n : Nat) : List Nat := (List.range 16).filter fun p => (s.part p).sharesCan n

/-- An event of the CAN complex for controller or segment n (R197). -/
def State.canEvent (s : State) (n e : Nat) (rest : List Byte := []) : State :=
  let o : Owner := if e = 193 ∨ e = 194 then .parts ((s.canOwner n).toList ++ s.canSharers n) else ownerOf (s.canOwner n)
  s.raise e o (BitVec.ofNat 8 n :: rest)

/-- Data bytes of a DLC (W1.LEN). -/
def canLen (fdf rtr : Bool) (dlc : Nat) : Nat :=
  if rtr then 0 else if dlc ≤ 8 then dlc else if !fdf then 8 else [12, 16, 20, 24, 32, 48, 64].getD (dlc - 9) 64

/-- Fields of the frame words. -/
def w0Xtd (w : Word) : Bool := w.getLsbD 31
def w0Rtr (w : Word) : Bool := w.getLsbD 30
def w0Fdf (w : Word) : Bool := w.getLsbD 29
def w0Id (w : Word) : Nat := bitsOf w 28 0
def w1Sshot (w : Word) : Bool := w.getLsbD 31
def w1Brs (w : Word) : Bool := w.getLsbD 15
def w1Dlc (w : Word) : Nat := bitsOf w 3 0
def w1Len (w : Word) : Nat := bitsOf w 13 7

/-- LEN of a frame from its two words. -/
def frameLen (w0 w1 : Word) : Nat := canLen (w0Fdf w0) (w0Rtr w0) (w1Dlc w1)

/-- W1 with LEN as DLC gives it, reserved and received bits 0. -/
def txW1 (w0 w1 : Word) : Word := setBits (w1 &&& 0x8000800F) 13 7 (frameLen w0 w1)

/-- A received frame as words. -/
def canMsgOf (f : CanFrame) : CanMsg :=
  let w0 := BitVec.ofNat 32 (b2n f.xtd * 2 ^ 31 + b2n f.rtr * 2 ^ 30 + b2n f.fdf * 2 ^ 29 + f.id % 2 ^ 29)
  let len := canLen f.fdf f.rtr f.dlc
  ⟨w0, BitVec.ofNat 32 (b2n f.brs * 2 ^ 15 + b2n f.esi * 2 ^ 14 + len * 2 ^ 7 + f.dlc), f.time, padTo len f.data⟩

/-- Whether a filter takes a frame (R182). -/
def canMatch (fid fmsk : Word) (m : CanMsg) : Bool :=
  let fmt := bitsOf fmsk 31 30
  fid.getLsbD 31 && (fid.getLsbD 30 == w0Xtd m.w0) && (fid.getLsbD 29 == w0Rtr m.w0) &&
  decide ((w0Id m.w0 ^^^ bitsOf fid 28 0) &&& bitsOf fmsk 28 0 = 0) &&
  (decide (fmt = 0) || (decide (fmt = 1) && !w0Fdf m.w0) || (decide (fmt = 2) && w0Fdf m.w0))

/-! Objects (R182-R184). -/

/-- A frame in the words of an object; words past its last word keep what they held. -/
def State.moFill (s : State) (n m : Nat) (f : CanMsg) : State :=
  let len := w1Len f.w1
  (((s.setRaw (R.MOm_W0 n m) f.w0).setRaw (R.MOm_W1 n m) f.w1).setRaw (R.MOm_TIME n m) (BitVec.ofNat 32 f.time)).setWords
    (R.MOm_D n m 0) (leWords (padTo len f.data))

/-- Index of the last word of the frame in an object (R183). -/
def State.moLast (s : State) (n m : Nat) : Nat := 2 + (w1Len (s.raw (R.MOm_W1 n m)) + 3) / 4

/-- OVR of an object set (R184). -/
def State.moOvr (s : State) (n m : Nat) : State :=
  let s1 := (s.setWordBit (R.CANn_RXOVR n) m true).wr (R.CANn_FLT_RXOVR n) 1
  if (s.can n).ovrRaised.contains m then s1
  else (s1.modCan n fun c => { c with ovrRaised := m :: c.ovrRaised }).canEvent n 196 [BitVec.ofNat 8 m]

/-- A valid frame for an object (R184). -/
def State.moStore (s : State) (n m : Nat) (f : CanMsg) : State :=
  let put (s : State) : State := s.modCan n fun c => { c with shadows := sput c.shadows m f }
  if s.wordBit (R.CANn_RXLOCK n) m then
    if (s.can n).shadows.any fun x => x.1 = m then (put s).moOvr n m else put s
  else
    let s1 := s.moFill n m f
    if s.wordBit (R.CANn_RXNEW n) m then s1.moOvr n m else s1.setWordBit (R.CANn_RXNEW n) m true

/-- A lock released (R184): the shadow's frame moves in and NEW is 1, or NEW becomes 0. -/
def State.moRelease (s : State) (n m : Nat) : State :=
  if !s.wordBit (R.CANn_RXLOCK n) m then s
  else
    let s1 := s.setWordBit (R.CANn_RXLOCK n) m false
    match (s.can n).shadows.find? fun x => x.1 = m with
    | some x => ((s1.moFill n m x.2).modCan n fun c => { c with shadows := sdel c.shadows m }).setWordBit (R.CANn_RXNEW n) m true
    | none => s1.setWordBit (R.CANn_RXNEW n) m false

/-- A read of word w of an object: the value and what the read does (R184). Word 19 is RSVD. -/
def State.moRead (s : State) (n m w : Nat) : Word × State :=
  let v := if w ≥ 19 then 0 else s.raw (R.MOm_W0 n m + 4 * w)
  let last := s.moLast n m
  if w = 0 then (v, s.setWordBit (R.CANn_RXLOCK n) m true)
  else if !s.wordBit (R.CANn_RXLOCK n) m then (v, s)
  else if w < last then (v, s)
  else if w = last then (v, s.moRelease n m)
  else (0, s)

/-- Objects released by a mask of CANn_RXUNLOCK. -/
def State.moUnlock (s : State) (n bits : Nat) : State := s.each (maskIdx 32 bits) fun s m => s.moRelease n m

/-! FIFO (R185). -/

def fifoSize : Nat := 64

/-- FIFO_STAT as the FIFO stands. -/
def State.fifoLevel (s : State) (n : Nat) : State := s.wr (R.CANn_FIFO_STAT_LEVEL n) (s.can n).fifo.length

/-- A frame for the FIFO: held, or lost when it holds 64. -/
def State.fifoStore (s : State) (n : Nat) (f : CanMsg) : State :=
  let tag := (s.can n).fifoTag
  let s1 := s.modCan n fun c => { c with fifoTag := (c.fifoTag + 1) % 65536 }
  if (s.can n).fifo.length ≥ fifoSize then
    let s2 := (s1.bump (R.CANn_CNT_LOST_COUNT n)).wr (R.CANn_FLT_RXLOST n) 1
    if (s.can n).lostRaised then s2 else (s2.modCan n fun c => { c with lostRaised := true }).canEvent n 197
  else (s1.modCan n fun c => { c with fifo := c.fifo ++ [(tag, f)] }).fifoLevel n

/-- Descriptors of a FIFO frame. -/
def fifoDescs (tag gen : Nat) (f : CanMsg) : List (List Byte) :=
  let hdr (op : Nat) := leBytes 2 op ++ leBytes 2 tag ++ leBytes 2 gen ++ leBytes 2 0
  let len := w1Len f.w1
  let d := padTo 84 f.data
  (hdr 1 ++ leBytes 4 f.w0.toNat ++ leBytes 4 f.w1.toNat ++ leBytes 4 f.time ++ d.take 12) ::
    (List.range ((len - 12 + 23) / 24)).map fun k => hdr 2 ++ (d.drop (12 + 24 * k)).take 24

/-- The oldest FIFO frame moved to queue QUEUE when the ring has room for all of its descriptors. -/
def State.fifoDrain (s : State) (n : Nat) : State :=
  let q := s.rd (R.CANn_FIFO_CFG_QUEUE n)
  match (s.can n).fifo with
  | [] => s
  | (tag, f) :: rest =>
    let ds := fifoDescs tag (s.qGen q) f
    if s.isSet (R.QMG_QnCFG_EN q) && s.isSet (R.QMG_QnCFG_DIR q) && decide (ds.length ≤ s.qRoom q) then
      ((s.each ds fun s d => s.qPush q d).modCan n fun c => { c with fifo := rest }).fifoLevel n
    else s

/-- A frame stored in the lowest-numbered object that matches, else in the FIFO (R182). -/
def State.canStore (s : State) (n : Nat) (f : CanMsg) : State :=
  match (List.range 32).find? fun m => canMatch (s.raw (R.MOm_FID n m)) (s.raw (R.MOm_FMSK n m)) f with
  | some m => s.moStore n m f
  | none =>
    let k := (List.range 8).find? fun k => canMatch (s.raw (R.CANn_FFk_ID n k)) (s.raw (R.CANn_FFk_MSK n k)) f
    if !s.isSet (R.CANn_FIFO_CFG_EN n) then s
    else match k with
    | some k => s.fifoStore n { f with w1 := setBits f.w1 23 16 k }
    | none => if s.isSet (R.CANn_FIFO_CFG_ALL n) then s.fifoStore n { f with w1 := setBits f.w1 23 16 0xFF } else s

/-! State, errors and bus-off (R176, R187, R188). -/

def State.canState (s : State) (n : Nat) : Nat := s.rd (R.CANn_STAT_STATE n)

/-- Whether the controller takes part on the bus. -/
def State.canLive (s : State) (n : Nat) : Bool := s.canState n = ctActive || s.canState n = ctPassive

/-- GATED (R176): in NORMAL or RESTRICTED while the transceiver is not in Normal. -/
def State.canGate (s : State) (n : Nat) : State :=
  let om := s.rd (R.CANn_CFG_OPMODE n)
  s.wrB (R.CANn_STAT_GATED n) (decide (s.canState n ≠ ctStopped) && decide (om = omNormal ∨ om = omRestricted) &&
    decide (s.rd (R.TRXj_STAT_STATE n) ≠ txNormal))

/-- Whether error counters may change: not in MONITOR or RESTRICTED, not while gated. -/
def State.canCounts (s : State) (n : Nat) : Bool :=
  !s.isSet (R.CANn_STAT_GATED n) && decide (s.rd (R.CANn_CFG_OPMODE n) ≠ omMonitor ∧ s.rd (R.CANn_CFG_OPMODE n) ≠ omRestricted)

/-- Arbitration field of a frame as a number; the lowest wins (R178). -/
def canKey (w0 : Word) : Nat :=
  let id := w0Id w0
  let base := id / 2 ^ 18 * 2 ^ 21
  if w0Xtd w0 then base + 2 ^ 20 + 2 ^ 19 + id % 2 ^ 18 * 2 + b2n (w0Rtr w0) else base + b2n (w0Rtr w0) * 2 ^ 20

/-- A frame that a request refuses (R177). -/
def State.canMalformed (s : State) (n : Nat) (w0 w1 : Word) : Bool :=
  (w0Fdf w0 && w0Rtr w0) || (w0Fdf w0 && !s.isSet (R.CANn_CFG_FD_EN n)) || (w1Brs w1 && !w0Fdf w0)

/-- A completion of a frame of a queue (R180): always for a REASON, on success when CPL asked for it. -/
def State.canComplete (s : State) (t : CanTx) (reason time : Nat) : State :=
  match t.src with
  | some q =>
    if q < 64 ∧ (reason ≠ 0 ∨ t.cpl) then
      let st := if reason = 0 then stOk else if reason = 5 then stRange else stBusy
      s.qPush (s.rd (R.QMG_QnCFG_CQ q))
        (leBytes 2 0x12 ++ leBytes 2 t.tag ++ leBytes 2 t.gen ++ leBytes 2 st ++ leBytes 4 time ++ leBytes 1 reason)
    else s
  | none => s

/-- A source whose frame has left the buffers: a queue with EN at 0 may stop (R73). -/
def State.srcSettle (s : State) (src : Option Nat) : State :=
  match src with
  | some q => if q < 64 then s.qSettle q else s
  | none => s

/-- CAN_TX_FAIL with CANn_FLT.TXFAIL; buffer 0xFF stands for none. -/
def State.canTxFail (s : State) (n b reason : Nat) : State :=
  (s.wr (R.CANn_FLT_TXFAIL n) 1).canEvent n 198 [BitVec.ofNat 8 b, BitVec.ofNat 8 reason]

/-- The frame in a transmit buffer: its words, and as many data bytes as LEN says. -/
def State.bufMsg (s : State) (n b : Nat) : CanMsg :=
  let w0 := s.raw (R.TXBb_W0 n b)
  let w1 := s.raw (R.TXBb_W1 n b)
  ⟨w0, w1, (s.raw (R.TXBb_TS n b)).toNat, s.bytesAt (R.TXBb_D n b 0) (frameLen w0 w1)⟩

/-- The source of the frame in a buffer; a direct buffer has none. -/
def Can.buf (c : Can) (b : Nat) : Option CanTx := (c.bufs.getD b none)

/-- The bit of buffer b in a three-bit field of CANn_TXC. -/
def txcBit (f : Fld) (b : Nat) : Fld := ⟨f.addr, f.lo + b, f.lo + b⟩

/-- A request of buffer b ends: REASON 0 transmitted, else without transmission (R180, R181). TIME is the start of its last
frame, 0 where none has started; the queue it came from may stop (R73). -/
def State.canEnd (s : State) (n b reason : Nat) : State :=
  let ok := reason = 0
  let s1 := (s.wr (txcBit (R.CANn_TXC_PEND n) b) 0).wr (txcBit (R.CANn_TXC_DONE n) b) (b2n ok)
  let s2 := s1.wr (txcBit (R.CANn_TXC_FAIL n) b) (b2n (!ok))
  let s3 := s2.modCan n fun c =>
    { c with bufs := updAt c.bufs b fun _ => none, aborts := c.aborts.filter (· ≠ b),
             offered := if c.offered = some b then none else c.offered }
  let s4 := match (s.can n).buf b with
    | some t => (s3.canComplete t reason (s.rd (R.TXBb_TS_TIME n b))).srcSettle t.src
    | none => s3
  if ok then s4 else s4.canTxFail n b reason

/-- The transmitter released once TXD is recessive and the cause has cleared (R192). -/
def State.trxUnblock (s : State) (j : Nat) : State :=
  s.when ((s.can j).offered.isNone && !s.isSet (R.TRXj_STAT_THERM j)) fun s => s.wr (R.TRXj_STAT_TXD_BLOCK j) 0

/-- The offered frame is off the bus; the controller is idle. -/
def State.canOff (s : State) (n : Nat) : State :=
  ((s.modCan n fun c => { c with offered := none }).wr (R.CANn_STAT_ACT n) actIdle).trxUnblock n

/-- WARN and the error states as the counters stand (R187). -/
def State.canErrState (s : State) (n : Nat) : State :=
  let tec := s.rd (R.CANn_STAT_TEC n)
  let rec_ := s.rd (R.CANn_STAT_REC n)
  let tr := [BitVec.ofNat 8 tec, BitVec.ofNat 8 rec_]
  let warn := decide (tec ≥ 96 ∨ rec_ ≥ 96)
  let s1 := (s.wrB (R.CANn_STAT_WARN n) warn).when (warn && !s.isSet (R.CANn_STAT_WARN n)) fun s =>
    (s.wr (R.CANn_FLT_WARN n) 1).canEvent n 195 tr
  if tec ≥ 256 then
    let s2 := ((s1.wr (R.CANn_STAT_STATE n) ctBusOff).wr (R.CANn_FLT_BOFF n) 1).canEvent n 193
      [BitVec.ofNat 8 (s.rd (R.CANn_STAT_LEC n))]
    let off := (s.can n).offered
    let s3 := s2.canOff n
    let s4 := s3.each (List.range 3) fun s b =>
      if !s.isSet (txcBit (R.CANn_TXC_PEND n) b) then s
      else if s.isSet (R.CANn_CFG_BOFF_TX n) then s.canEnd n b 3
      else if off = some b ∧ w1Sshot (s.raw (R.TXBb_W1 n b)) then s.canEnd n b 2
      else if off = some b ∧ (s.can n).aborts.contains b then s.canEnd n b 4
      else s
    s4.wr (R.CANn_STAT_STATE n) (if s.isSet (R.CANn_CFG_BOFF_HOLD n) then ctHeld else ctRecovering)
  else if tec ≥ 128 ∨ rec_ ≥ 128 then
    if s.canState n = ctActive then ((s1.wr (R.CANn_STAT_STATE n) ctPassive).wr (R.CANn_FLT_PASSIVE n) 1).canEvent n 192 tr
    else s1
  else if s.canState n = ctPassive then s1.wr (R.CANn_STAT_STATE n) ctActive
  else s1

/-- A reception without error: ISO 11898-1 lowers REC by 1; above 127 it becomes a value from 119 to 127 that the
standard leaves open, a free value. -/
def State.canRxGood (s : State) (n : Nat) : State :=
  let r := s.rd (R.CANn_STAT_REC n)
  if !s.canCounts n ∨ r = 0 then s
  else if r ≤ 127 then (s.wr (R.CANn_STAT_REC n) (r - 1)).canErrState n
  else
    let (v, s1) := s.fresh
    (s1.wr (R.CANn_STAT_REC n) (119 + v.toNat % 9)).canErrState n

/-- A transmission without error lowers TEC by 1. -/
def State.canTxGood (s : State) (n : Nat) : State :=
  let t := s.rd (R.CANn_STAT_TEC n)
  if !s.canCounts n ∨ t = 0 then s else (s.wr (R.CANn_STAT_TEC n) (t - 1)).canErrState n

/-- What a valid frame does in its controller: counted and stored (R182). -/
def State.canTake (s : State) (n : Nat) (f : CanMsg) : State := (s.bump (R.CANn_CNT_RX_COUNT n)).canStore n f

/-- Whether a frame that started at reading t of the time unit goes on in controller n (R176): while it runs, and with RUN at
0 the one that had started before. -/
def State.canGoes (s : State) (n t : Nat) : Bool :=
  s.isSet (R.CANn_CTRL_RUN n) || match (s.can n).stopAt with
    | some x => decide ((x + (2 ^ 32 - t % 2 ^ 32)) % 2 ^ 32 < 2 ^ 31)
    | none => false

/-- Whether a frame from the bus can become valid in controller n: not while it integrates again after a protocol
exception (R174). -/
def State.canHears (s : State) (n : Nat) (f : CanFrame) : Bool :=
  s.canLive n && s.canGoes n f.time && decide (s.rd (R.CANn_STAT_ACT n) ≠ actSyncing) && decide (s.rd (R.CANn_CFG_OPMODE n) ≠ omLoopback) && decide (s.rd (R.TRXj_STAT_STATE n) ≤ txListen) &&
  (!f.fdf || s.isSet (R.CANn_CFG_FD_EN n))

/-- An error detected (R187): the counters and states of ISO 11898-1. -/
def State.canError (s : State) (n lec k : Nat) (tx : Bool) : State :=
  let s1 := (s.wr (R.CANn_STAT_LEC n) lec).bump (R.CANn_CNT_ERR_COUNT n)
  if !s.canCounts n then s1
  else if tx then (s1.wr (R.CANn_STAT_TEC n) (s.rd (R.CANn_STAT_TEC n) + k)).canErrState n
  else (s1.bump (R.CANn_STAT_REC n) k).canErrState n

/-- The start of the offered frame kept in its buffer's TS (R180). -/
def State.sofAt (s : State) (n ts : Nat) : State :=
  match (s.can n).offered with
  | some b => s.wr (R.TXBb_TS_TIME n b) ts
  | none => s

/-- CAN_BUS_ERROR. A recessive res bit is a protocol exception with PXHD = 1 and a form error otherwise (R174). -/
def State.busError (s : State) (n : Nat) (e : CanErr) : State :=
  if !s.canLive n then s
  else match e with
  | .rx lec eight => (s.when (decide (s.rd (R.CANn_STAT_ACT n) = actReceiving)) fun s => s.wr (R.CANn_STAT_ACT n) actIdle).canError n lec
      (if eight then 8 else 1) false
  | .tx lec exempt ts => (s.sofAt n ts).canError n lec (if exempt then 0 else 8) true
  | .pxh =>
    if s.isSet (R.CANn_CFG_PXHD n) then
      (((s.bump (R.CANn_CNT_PXH_COUNT n)).wr (R.CANn_FLT_PXH n) 1).wr (R.CANn_STAT_ACT n) actSyncing).canEvent n 199
    else s.canError n 2 1 false

/-- 11 recessive bits seen (R176): a started controller becomes ERROR_ACTIVE; after a protocol exception it goes on. -/
def State.integrated (s : State) (n : Nat) : State :=
  if !s.isSet (R.CANn_CTRL_RUN n) then s
  else if s.canState n = ctIntegrating then ((s.wr (R.CANn_STAT_STATE n) ctActive).wr (R.CANn_STAT_ACT n) actIdle).canGate n
  else if s.rd (R.CANn_STAT_ACT n) = actSyncing then s.wr (R.CANn_STAT_ACT n) actIdle
  else s

/-- The controller stops (R176): error counters 0, pending requests stay. -/
def State.canHalt (s : State) (n : Nat) : State :=
  let s1 := (s.canOff n).each
    [R.CANn_STAT_STATE n, R.CANn_STAT_TEC n, R.CANn_STAT_REC n, R.CANn_STAT_WARN n, R.CANn_STAT_GATED n] fun s f => s.wr f 0
  s1.modCan n fun c => { c with stopAt := none }

/-- CAN_STOPPED: with RUN at 0 the controller has finished its frame; not while one of its own, or one that beat it, is on
the bus. -/
def State.canStop (s : State) (n : Nat) : State :=
  let act := s.rd (R.CANn_STAT_ACT n)
  if s.isSet (R.CANn_CTRL_RUN n) ∨ s.canState n = ctStopped ∨ act = actReceiving ∨ act = actTransmitting then s else s.canHalt n

/-- What new active values of group 0x0400 + n bring (R176, R188): RUN 0 to 1 integrates, RUN 0 ends a bus-off. -/
def State.canPost (s : State) (n : Nat) (old : View) : State :=
  let was := vw old (R.CANn_CTRL_RUN n) = 1
  let run := s.isSet (R.CANn_CTRL_RUN n)
  if run && !was then
    ((((s.modCan n fun c => { c with stopAt := none }).wr (R.CANn_STAT_STATE n) ctIntegrating).wr (R.CANn_STAT_ACT n) actSyncing).wr (R.CANn_TDCV_VALID n) 0).canGate n
  else if !run && decide (s.canState n ≥ ctBusOff) then s.canHalt n
  else (s.when (!run && was) fun s => s.modCan n fun c => { c with stopAt := some s.lc }).canGate n

/-- A held bus-off released (R188). -/
def State.boffRelease (s : State) (n : Nat) : State :=
  if s.canState n = ctHeld then s.wr (R.CANn_STAT_STATE n) ctRecovering else s

/-- 128 times 11 recessive bits: recovery done (R188). -/
def State.recovered (s : State) (n : Nat) : State :=
  if s.canState n ≠ ctRecovering then s
  else
    let s1 := s.each [R.CANn_STAT_TEC n, R.CANn_STAT_REC n, R.CANn_STAT_WARN n] fun s f => s.wr f 0
    (s1.wr (R.CANn_STAT_STATE n) ctActive).canEvent n 194

/-! Transmission (R172, R177-R181). -/

/-- A direct buffer requested (R177). -/
def State.txRequest (s : State) (n b : Nat) : State :=
  if !nbit (s.rd (R.CANn_CFG_DIRECT n)) b || s.isSet (txcBit (R.CANn_TXC_PEND n) b) then s
  else if s.canMalformed n (s.raw (R.TXBb_W0 n b)) (s.raw (R.TXBb_W1 n b)) then
    ((s.wr (txcBit (R.CANn_TXC_FAIL n) b) 1).wr (txcBit (R.CANn_TXC_DONE n) b) 0).canTxFail n b 5
  else s.wr (txcBit (R.CANn_TXC_PEND n) b) 1

/-- A buffer aborted (R181). -/
def State.txAbort (s : State) (n b : Nat) : State :=
  if !s.isSet (txcBit (R.CANn_TXC_PEND n) b) then s
  else if (s.can n).offered = some b then s.modCan n fun c => { c with aborts := b :: c.aborts.filter (· ≠ b) }
  else s.canEnd n b 4

/-- The element of a list with the least key; the first among equals. -/
def leastBy {α : Type} (key : α → Nat) : List α → Option α
  | [] => none
  | a :: t =>
    match leastBy key t with
    | some b => if key a ≤ key b then some a else some b
    | none => some a

/-- A start-of-frame opportunity (R178), while RUN is 1. -/
def State.sofOffer (s : State) (n : Nat) : State :=
  let om := s.rd (R.CANn_CFG_OPMODE n)
  if !s.canLive n || !s.isSet (R.CANn_CTRL_RUN n) || s.isSet (R.CANn_STAT_GATED n) || decide (om = omMonitor ∨ om = omRestricted) ||
      (s.can n).offered.isSome || decide (s.rd (R.CANn_STAT_ACT n) = actSyncing) ||
      (decide (om = omNormal) && s.isSet (R.TRXj_STAT_TXD_BLOCK n)) then s
  else
    let pend := (List.range 3).filter fun b => s.isSet (txcBit (R.CANn_TXC_PEND n) b)
    let pick := if s.isSet (R.CANn_CFG_TXORD n) then pend.head? else leastBy (fun b => canKey (s.raw (R.TXBb_W0 n b))) pend
    match pick with
    | none => s
    | some b =>
      (((s.modCan n fun c => { c with offered := some b }).wr (R.CANn_STAT_ACT n) actTransmitting).wrB (R.TXBb_W1_ESI n b)
        (decide (s.canState n = ctPassive)))

/-- Transmitter delay compensation measured in a frame (R172). -/
def State.tdcMeasure (s : State) (n b tdcv : Nat) : State :=
  if !s.isSet (R.CANn_CFG_TDC_EN n) || !w0Fdf (s.raw (R.TXBb_W0 n b)) || !w1Brs (s.raw (R.TXBb_W1 n b)) then s
  else
    let v := sat 127 tdcv
    let s1 := if v < s.rd (R.CANn_TDC_TDCF n) then s else (s.wr (R.CANn_TDCV_TDCV n) v).wr (R.CANn_TDCV_VALID n) 1
    if s1.rd (R.CANn_TDCV_TDCV n) + s.rd (R.CANn_TDC_TDCO n) > 127 then
      (s1.wr (R.CANn_FLT_TDC_RANGE n) 1).canEvent n 205 [BitVec.ofNat 8 (s1.rd (R.CANn_TDCV_TDCV n))]
    else s1

/-- A transmission ends (R181). A frame that fails after its res bit has been measured all the same (R172); one that loses
arbitration goes on as the reception of the winner's (R174). -/
def State.txOutcome (s : State) (n : Nat) (out : CanTxOut) : State :=
  match (s.can n).offered with
  | none => s
  | some b =>
    let sshot := w1Sshot (s.raw (R.TXBb_W1 n b))
    let ab := (s.can n).aborts.contains b
    let fail (s : State) (reason : Nat) : State := if sshot then s.canEnd n b reason else if ab then s.canEnd n b 4 else s
    match out with
    | .sent tdcv ts =>
      let f := { s.bufMsg n b with time := ts, w1 := s.raw (R.TXBb_W1 n b) &&& 0x7FFFFFFF }
      let loop := decide (s.rd (R.CANn_CFG_OPMODE n) = omLoopback)
      let s1 := ((s.tdcMeasure n b tdcv).sofAt n ts).bump (R.CANn_CNT_TX_COUNT n)
      let s2 := ((s1.canEnd n b 0).canOff n).canTxGood n
      s2.when loop fun s => s.canTake n f
    | .arbLost ts => ((fail (s.sofAt n ts) 1).canOff n).wr (R.CANn_STAT_ACT n) actReceiving
    | .error tdcv ts =>
      let s1 := match tdcv with | some v => s.tdcMeasure n b v | none => s
      (fail (s1.sofAt n ts) 2).canOff n

/-! The refill unit (R179, R180). -/

/-- A head of a source: its arbitration key, and where it comes from. -/
structure Head where
  src : Option Nat
  w0 : Word

/-- Queues that feed controller n: enabled, DIR 0, ENGINE 0x10 + n, owned as the controller is. -/
def State.feedQueues (s : State) (n : Nat) : List Nat :=
  (List.range 64).filter fun q => s.isSet (R.QMG_QnCFG_EN q) && !s.isSet (R.QMG_QnCFG_DIR q) &&
    decide (s.rd (R.QMG_QnCFG_ENGINE q) = 0x10 + n) && decide (s.queueOwner q = s.canOwner n)

/-- Whether a source has a frame in a buffer. -/
def Can.inBuf (c : Can) (src : Option Nat) : Bool :=
  c.bufs.any fun b => match b with | some t => t.src = src | none => false

/-- The continuation descriptors that follow the head of a queue. -/
def State.contCount (s : State) (q : Nat) : Nat → Nat → Nat
  | 0, _ => 0
  | k + 1, i =>
    match s.qPeek q i with
    | some d => if le d 0 2 = 0x11 then 1 + s.contCount q k (i + 1) else 0
    | none => 0

/-- The head of a queue (R180): the frame and its descriptor count, or what is wrong with it. Malformed heads are
consumed whole with REASON 5 first. -/
def State.queueHead (s : State) (n q : Nat) : Nat → State × Option (CanTx × Nat)
  | 0 => (s, none)
  | k + 1 =>
    let (s1, d) := s.qFront q
    match d with
    | none => (s1, none)
    | some d =>
      let w0 := BitVec.ofNat 32 (le d 8 4)
      let w1 := BitVec.ofNat 32 (le d 12 4)
      let conts := s1.contCount q 4095 1
      let len := frameLen w0 w1
      let data := (d.drop 20).take 12 ++ (List.range conts).flatMap fun i => ((s1.qPeek q (i + 1)).getD []).drop 8
      let t : CanTx := { src := some q, msg := ⟨w0, w1, 0, padTo len data⟩, tag := le d 2 2, gen := le d 4 2,
                         cpl := nbit (le d 16 1) 0 }
      if le d 0 2 ≠ 0x10 ∨ conts ≠ (len - 12 + 23) / 24 ∨ s.canMalformed n w0 w1 then
        (((s1.qTake q (1 + conts)).canComplete t 5 0).canTxFail n 0xFF 5).queueHead n q k
      else (s1, some (t, 1 + conts))

/-- A segment in its sleep-wait: the sources of its controller are held (R207). -/
def State.segHeld (s : State) (n : Nat) : Bool := s.tly.rings.any fun r => r.on && r.seg == n && r.st == 3

/-- The sources of controller n that have a head waiting and no frame in a buffer: Landing, the queues in ascending
order, the Forester's source queue. -/
def State.heads (s : State) (n : Nat) : State × List (CanTx × Nat) :=
  let c := s.can n
  let land := match c.landing with
    | t :: _ => if c.inBuf none || decide (s.now + 2000 < t.notBefore.getD 0) then [] else [(t, 0)]
    | [] => []
  let qs := (s.feedQueues n).filter fun q => !c.inBuf (some q)
  let (s1, hq) := qs.foldl (fun (acc : State × List (CanTx × Nat)) q =>
    let (t, h) := acc.1.queueHead n q 4096
    (t, acc.2 ++ h.toList)) (s, [])
  let own := match c.sends with
    | t :: _ => if c.inBuf (some 64) then [] else [(t, 0)]
    | [] => []
  (s1, land ++ hq ++ own)

/-- Place of a source in the round-robin order: Landing, queues, the Forester. -/
def srcRank (src : Option Nat) : Nat := match src with | none => 0 | some q => q + 1

/-- The head the refill unit takes (R179). -/
def State.chooseHead (s : State) (n : Nat) (hs : List (CanTx × Nat)) : Option (CanTx × Nat) :=
  if s.isSet (R.CANn_CFG_TXORD n) then
    leastBy (fun h => (srcRank h.1.src + 66 - (s.can n).lastServed - 1) % 66) hs
  else leastBy (fun h => canKey h.1.msg.w0) hs

/-- The chosen head leaves its source. -/
def State.takeHead (s : State) (n : Nat) (h : CanTx × Nat) : State :=
  let s1 := match h.1.src with
    | none => s.modCan n fun c => { c with landing := c.landing.tail }
    | some q => if q < 64 then s.qTake q h.2 else s.modCan n fun c => { c with sends := c.sends.tail }
  s1.modCan n fun c => { c with lastServed := srcRank h.1.src }

/-- One empty fed buffer filled from the sources; a Landing frame's request waits for its not-before instant. -/
def State.refill (s : State) (n : Nat) : State :=
  let free := (List.range 3).find? fun b => !nbit (s.rd (R.CANn_CFG_DIRECT n)) b &&
    !s.isSet (txcBit (R.CANn_TXC_PEND n) b) && ((s.can n).buf b).isNone
  match free with
  | none => s
  | some b =>
    let (s1, hs) := if s.segHeld n then (s, []) else s.heads n
    match s1.chooseHead n hs with
    | none => s1
    | some h =>
      let m := h.1.msg
      let s2 := (s1.takeHead n h).modCan n fun c => { c with bufs := updAt c.bufs b fun _ => some h.1 }
      let s3 := (((s2.wr (R.TXBb_TS_TIME n b) 0).setRaw (R.TXBb_W0 n b) m.w0).setRaw (R.TXBb_W1 n b) (txW1 m.w0 m.w1)).setWords (R.TXBb_D n b 0)
        (leWords (padTo 64 m.data))
      s3.wrB (txcBit (R.CANn_TXC_PEND n) b) (decide (h.1.notBefore.getD 0 ≤ s.now))

/-- The not-before instant of a buffered Landing frame: its request asserts. -/
def State.notBefore (s : State) (n b : Nat) : State :=
  match (s.can n).buf b with
  | some t => (s.advance (t.notBefore.getD 0)).wr (txcBit (R.CANn_TXC_PEND n) b) 1
  | none => s

/-! Transceivers (R190-R192). -/

/-- The mask of unused segments in the CAN record: body bytes 0-3. -/
def State.segUnused (s : State) (j : Nat) : Bool :=
  match s.recBody recCan with
  | some b => nbit (le b 0 4) j
  | none => false

def State.trx (s : State) (j : Nat) : Trx := s.trxs.getD j {}
def State.modTrx (s : State) (j : Nat) (f : Trx → Trx) : State := s.onTrxs fun l => updAt l j f

/-- Wake activity within the last second (R190). -/
def State.trxRecent (s : State) (j : Nat) : Bool := match (s.trx j).wakeAt with | some t => decide (s.now < t + 1000000000) | none => false

/-- A transceiver in a state, with its bias and its controller's gating (R190); one that enters NORMAL above its shutdown
threshold is blocked there (R192). -/
def State.trxState (s : State) (j st : Nat) : State :=
  let hot := decide (st = txNormal) && s.isSet (R.TRXj_STAT_THERM j) && !s.isSet (R.TRXj_STAT_TXD_BLOCK j)
  let s1 := (s.wr (R.TRXj_STAT_STATE j) st).wrB (R.TRXj_STAT_BIAS j) (decide (st ≤ txListen) || (decide (st = txStandby) && s.trxRecent j))
  let s2 := if st ≠ txNormal then s1.wr (R.TRXj_STAT_TXD_BLOCK j) 0
    else if hot then ((s1.wr (R.TRXj_FLT_THERMAL j) 1).wr (R.TRXj_STAT_TXD_BLOCK j) 1).canEvent j 201
    else s1
  s2.canGate j

/-- WAKE_EN.TRX mirrors TRXj_CTRL.WAKE_EN (R198, R201). -/
def State.wakeMirror (s : State) (j : Nat) : State := s.wr ⟨R.WAKE_EN, 8 + j, 8 + j⟩ (s.rd (R.TRXj_CTRL_WAKE_EN j))

/-- A write of TRXj_CTRL; a segment marked unused is held in SLEEP. -/
def State.trxWrite (s : State) (j : Nat) (v : Word) : State :=
  if s.segUnused j then s
  else (((s.wr (R.TRXj_CTRL_WAKE_EN j) (bitsOf v 2 2)).wakeMirror j).wr (R.TRXj_CTRL_MODE j) (bitsOf v 1 0)).trxState j (bitsOf v 1 0)

/-- Segments that the CAN record marks unused are held in SLEEP with WAKE_EN 0. -/
def State.trxHoldUnused (s : State) : State :=
  s.each ((List.range 24).filter s.segUnused) fun s j =>
    (((s.wr (R.TRXj_CTRL_WAKE_EN j) 0).wakeMirror j).wr (R.TRXj_CTRL_MODE j) txSleep).trxState j txSleep

/-- A transceiver blocked in NORMAL with a fault (R192). -/
def State.trxBlock (s : State) (j : Nat) (f : Fld) (e : Nat) : State :=
  if s.rd (R.TRXj_STAT_STATE j) ≠ txNormal then s
  else ((s.wr f 1).wr (R.TRXj_STAT_TXD_BLOCK j) 1).canEvent j e

/-- A transceiver over its temperature (R192). -/
def State.trxHot (s : State) (j : Nat) : State :=
  (s.wr (R.TRXj_STAT_THERM j) 1).trxBlock j (R.TRXj_FLT_THERMAL j) 201

/-- A bus that stays dominant (R192). -/
def State.busDom (s : State) (j : Nat) : State := (s.wr (R.TRXj_FLT_BUS_DOM j) 1).canEvent j 204

/-- Wake activity on a segment (R191): none outside STANDBY and SLEEP, or with WAKE_EN at 0. -/
def State.trxWakes (s : State) (j : Nat) : Bool := decide (s.rd (R.TRXj_STAT_STATE j) ≥ txStandby) && s.isSet (R.TRXj_CTRL_WAKE_EN j)

/-- The crown die runs: the Forester has been released (R457). -/
def State.crownUp (s : State) : Bool := decide (6 < s.svr.rel)

/-- The transceiver's own part of wake activity. -/
def State.trxWake (s : State) (j : Nat) : State :=
  let s1 := ((s.modTrx j fun x => { x with wakeAt := some s.now }).wr (R.TRXj_STAT_WAKE j) 1).when (decide (s.rd (R.TRXj_STAT_STATE j) = txStandby)) fun s =>
    s.wr (R.TRXj_STAT_BIAS j) 1
  s1.when s.crownUp fun s => s.canEvent j 202

/-! Fence and crown reset (R189). -/

/-- The CAN complex at a reset of partition p. -/
def State.canFence (s : State) (p : Nat) : State :=
  s.each ((List.range 24).filter fun n => s.canOwner n = some p) fun s n =>
    let s1 := s.moUnlock n 0xFFFFFFFF
    let s2 := s1.each (List.range 3) fun s b =>
      if nbit (s.rd (R.CANn_CFG_DIRECT n)) b && decide ((s.can n).offered ≠ some b) then s.txAbort n b else s
    let k := (s2.can n).fifo.length
    ((s2.modCan n fun c => { c with fifo := [] }).fifoLevel n).bump (R.CANn_CNT_LOST_COUNT n) k

/-- The per-frame marks of a controller cleared at a boundary. -/
def State.canFrameMarks (s : State) : State :=
  s.onCans fun l => l.map fun c => { c with ovrRaised := [], lostRaised := false }

def execCanFifoDrain (n : Fin 24) (s : State) : Out := s.finish (s.fifoDrain n)
def execCanMoRead (a : Attr) (n : Fin 24) (o : Fin 32) (w : Fin 20) (s : State) : Out :=
  s.finish (s.access a (R.MOm_W0 n o + 4 * w) false fun s => let r := s.moRead n o w; r.2.respondBus r.1)
def execCanRxUnlock (a : Attr) (n : Fin 24) (bits : Nat) (s : State) : Out :=
  s.finish (s.access a (R.CANn_RXUNLOCK n) true fun s => s.moUnlock n bits)
def execCanTxRequest (a : Attr) (n : Fin 24) (bits : Nat) (s : State) : Out :=
  s.finish (s.access a (R.CANn_TXC n) true fun s => s.each (maskIdx 3 bits) fun s b => s.txRequest n b)
def execCanTxAbort (a : Attr) (n : Fin 24) (bits : Nat) (s : State) : Out :=
  s.finish (s.access a (R.CANn_TXC n) true fun s => s.each (maskIdx 3 bits) fun s b => s.txAbort n b)
def execCanSofOpportunity (n : Fin 24) (s : State) : Out := s.finish (s.sofOffer n)
def execCanBufferRefill (n : Fin 24) (s : State) : Out := s.finish (s.refill n)
def execCanBusError (n : Fin 24) (err : CanErr) (s : State) : Out := s.finish (s.busError n err)
def execCanIntegrated (n : Fin 24) (s : State) : Out := s.finish (s.integrated n)
def execCanRecoveryDone (n : Fin 24) (s : State) : Out := s.finish (s.recovered n)
def execCanBoffRelWrite (a : Attr) (n : Fin 24) (s : State) : Out :=
  s.finish (s.access a (R.CANn_CTRL n) true fun s => s.boffRelease n)
def execTxdDominantTimeout (j : Fin 24) (s : State) : Out := s.finish (s.trxBlock j (R.TRXj_FLT_TXD_DOM j) 200)
def execTrxThermalShutdown (j : Fin 24) (s : State) : Out := s.finish (s.trxHot j)
def execTrxThermalClear (j : Fin 24) (s : State) : Out := s.finish ((s.wr (R.TRXj_STAT_THERM j) 0).trxUnblock j)
def execBusDominantTimeout (j : Fin 24) (s : State) : Out := s.finish (s.busDom j)
def execWakeBiasTimeout (j : Fin 24) (s : State) : Out :=
  let t := s.modTrx j fun x => { x with wakeAt := none }
  s.finish (if s.rd (R.TRXj_STAT_STATE j) = txStandby then t.wr (R.TRXj_STAT_BIAS j) 0 else t)
def execNotBeforeInstant (n : Fin 24) (b : Fin 3) (s : State) : Out := s.finish (s.notBefore n b)

end Sys2Proof.Machine
end

