-- ==== Sys2Proof/Machine/Tally.lean ====
section
/-! DEFINITION. The Tally ring, vetoes and stay-awake requests (R202-R210, R213-R215) and the commands 0x0440-0x0444.
The sleep commit and the wake record stand in Machine/Sleep.lean. -/

namespace Sys2Proof.Machine

/-- Bytes of the TALLY record in force, or its defaults (R213). -/
def tallyDefaults : List Byte :=
  leBytes 4 60 ++ [5, 0, 0, 0] ++ List.replicate 16 0 ++ (List.range 16).flatMap (fun _ => leBytes 4 3600) ++
  leBytes 4 0xFFFFFFFF ++ leBytes 2 0x5555 ++ [0x3F, 0]
def State.tally (s : State) : List Byte := (s.recBody recTally).getD tallyDefaults
/-- A field of the TALLY record at byte i, n bytes long: outside its range lo to hi it reads as its default, for the spec
says what no such value does (R213). DESIGN CHOICE. -/
def State.tallyField (s : State) (i n lo hi : Nat) : Nat :=
  let v := le s.tally i n
  if lo ≤ v ∧ v ≤ hi then v else le tallyDefaults i n
def State.idleTime (s : State) : Nat := s.tallyField 0 4 1 600
def State.maxAwake (s : State) (p : Nat) : Nat := s.tallyField (24 + 4 * p) 4 0 86400

def State.modTly (s : State) (f : Tally → Tally) : State := s.onTly f
def State.ring (s : State) (i : Nat) : Ring := s.tly.rings.getD i {}
def State.modRing (s : State) (i : Nat) (f : Ring → Ring) : State := s.onTly fun t => { t with rings := updAt t.rings i f }

/-- Ring states and FORMING stages. -/
def rsForming : Nat := 0
def rsReady : Nat := 1
def rsAck : Nat := 2
def rsWait : Nat := 3
def rsDisabled : Nat := 4
def fgListen : Nat := 0
def fgHeard : Nat := 1
def fgWait : Nat := 2
def fgJoin : Nat := 3
def fgFirst : Nat := 4
def fgLeft : Nat := 5

/-- A Tally or wake event (R215): byte 16 the segment, or 0xFF. -/
def State.tlyEvent (s : State) (e seg : Nat) (rest : List Byte := []) : State := s.raise e .pub (BitVec.ofNat 8 seg :: rest)

/-- Present addresses. -/
def members (mask : Nat) : List Nat := maskIdx 64 mask
/-- The master: the lowest present address (R204). -/
def masterOf (mask : Nat) : Nat := (members mask).head?.getD 0
/-- The next higher present address, wrapping to the master. -/
def nextOf (mask a : Nat) : Nat := ((members mask).find? fun x => a < x).getD (masterOf mask)
def withBit (mask a : Nat) : Nat := mask ||| 2 ^ a
def noBit (mask a : Nat) : Nat := if nbit mask a then mask - 2 ^ a else mask

/-! Vetoes (R208). -/

/-- Outputs on: a channel, a safety output, a UIO output, a sensor supply. -/
def State.outputsOn (s : State) : Bool :=
  ((List.range 64).any fun n => s.isSet (R.CHn_STAT_OUT n)) ||
  ((List.range 4).any fun d => s.isSet (R.SO_SWA_STAT_OUT d) || s.isSet (R.SO_SWB_STAT_OUT d)) ||
  ((List.range 96).any fun p => s.isSet (R.UIOp_STAT_OUT p)) ||
  ((List.range 8).any fun u => s.isSet (R.SSs_CFG_ON u))

/-- A LONG command with one of these opcodes is not finished. -/
def State.longBusy (s : State) (ops : List Nat) : Bool := s.longs.any fun l => ops.contains l.opcode

/-- WAKE-INk at its active level with HOLD = 1 (R201, R208). -/
def State.wakeHeld (s : State) (k : Nat) : Bool :=
  let c := (s.raw R.WAKE_IN_CFG).toNat
  nbit c (4 * k + 2) && (s.tly.wakeIn.getD k false != nbit c (4 * k + 3))

/-- The module's own vetoes that are active, in ascending order. -/
def State.ownVetoes (s : State) : List Nat :=
  let m := s.rd R.SUP_MODE_MODE
  (if s.outputsOn then [1] else []) ++
  (if (List.range 4).any s.wakeHeld then [2] else []) ++
  (if s.tly.awake then [] else [3]) ++
  (if m = 5 ∨ m = 6 ∨ m = 8 then [] else [4]) ++
  (if s.longBusy [0x0131, 0x0810] then [5] else []) ++
  (if s.longBusy [0x0A02, 0x0A04] then [6] else []) ++
  (if s.inc.ring.isEmpty then [] else [7]) ++
  (if s.longBusy [0x0904, 0x0905] then [8] else []) ++
  (if s.tly.rings.any (·.bad) then [9] else [])

/-- The lowest active veto code; 0 when the module is ready. -/
def State.veto (s : State) : Nat :=
  match s.ownVetoes with
  | v :: _ => v
  | [] => (sortNat (s.tly.stays.map (·.reason))).head?.getD 0

/-! Ring messages (R203). -/

/-- Fields of a ring message. -/
structure RingMsg where
  node : Nat
  next : Nat
  flags : Nat
  round : Nat
  phase : Nat
  veto : Nat
  ok : Bool

def RingMsg.ready (m : RingMsg) : Bool := nbit m.flags 0
def RingMsg.ack (m : RingMsg) : Bool := nbit m.flags 1
def RingMsg.start (m : RingMsg) : Bool := nbit m.flags 2
def RingMsg.join (m : RingMsg) : Bool := nbit m.flags 3
def RingMsg.abort (m : RingMsg) : Bool := nbit m.flags 4

/-- Whether a frame lies in the ring's identifiers. -/
def isRingFrame (f : CanFrame) : Bool :=
  !f.xtd && !f.rtr && !f.fdf && decide (0x500 ≤ f.id / 2 ^ 18 ∧ f.id / 2 ^ 18 ≤ 0x53F)

/-- A ring frame read. -/
def ringMsgOf (f : CanFrame) : RingMsg :=
  let b := padTo 8 f.data
  let next := le b 0 1
  let fl := le b 1 1
  { node := f.id / 2 ^ 18 - 0x500, next := next, flags := fl, round := le b 2 1, phase := le b 3 1, veto := le b 4 2,
    ok := decide (f.dlc.val = 8) && decide (le b 7 1 = 0) && decide (next ≤ 63 ∨ next = 0xFF) &&
      decide (b2n (nbit fl 2) + b2n (nbit fl 3) + b2n (nbit fl 4) ≤ 1) }

/-- A ring message put into the Forester's source queue of the segment's controller (R202). -/
def State.ringPut (s : State) (i next flags round phase veto : Nat) : State :=
  let r := s.ring i
  let data := leBytes 1 next ++ leBytes 1 flags ++ leBytes 1 round ++ leBytes 1 phase ++ leBytes 2 veto ++
    leBytes 1 (members (withBit r.present r.addr)).length ++ [0]
  let m : CanMsg := ⟨BitVec.ofNat 32 ((0x500 + r.addr) * 2 ^ 18), BitVec.ofNat 32 (8 * 128 + 8), 0, data⟩
  s.modCan r.seg fun c => { c with sends := c.sends ++ [{ src := some 64, msg := m }] }

/-- The module's message in a round (R204, R207). -/
def State.ringTurn (s : State) (i : Nat) (start : Bool) (next round phase : Nat) : State :=
  let v := s.veto
  let fl := b2n (v = 0) + 2 * b2n (v = 0 && decide (phase = 1)) + 4 * b2n start
  s.ringPut i next fl round phase v

/-- An agreement or a sleep-wait ends without sleep (R207); the round that runs brings neither. -/
def State.ringAbort (s : State) (i reason node veto : Nat) : State :=
  let r := s.ring i
  let s1 := s.modRing i fun r =>
    { r with st := if r.st = rsDisabled then rsDisabled else rsReady, nextPhase := 0, allReady := false, allAck := false, waitFrom := none }
  if r.st = rsAck ∨ r.st = rsWait then
    s1.tlyEvent 213 r.seg ([BitVec.ofNat 8 reason, BitVec.ofNat 8 node] ++ leBytes 2 veto)
  else s1

/-- An ABORT message sent by the module. -/
def State.ringSendAbort (s : State) (i : Nat) : State := s.ringPut i 0xFF 16 (s.ring i).round 0 s.veto

/-- The pending view and WAKE_PEND at the start of a sleep-wait (R210). -/
def State.beginWait (s : State) : State :=
  let p := s.rd R.WAKE_PEND_PEND
  (s.modTly fun t => { t with view := t.view ||| p }).wr R.WAKE_PEND_PEND 0

/-- A round is complete (R204, R206, R207). -/
def State.ringComplete (s : State) (i : Nat) : State :=
  let r := s.ring i
  let s1 := s.modRing i fun r => { r with active := false, lastNode := none, lastReady := r.ready }
  if r.st = rsForming then
    if r.stage = fgHeard then
      (s1.ringPut i 0xFF 8 r.round 0 s.veto).modRing i fun r =>
        { r with st := rsReady, joined := withBit r.joined r.addr, nextPhase := 0 }
    else s1
  else if r.phase = 0 then
    if r.allReady then (s1.modRing i fun r => { r with nextPhase := 1 }).tlyEvent 211 r.seg [BitVec.ofNat 8 r.round]
    else s1.modRing i fun r => { r with nextPhase := 0 }
  else if r.allAck ∧ r.st = rsAck then
    ((s1.modRing i fun r => { r with st := rsWait, waitFrom := some s.now, nextPhase := 0 }).beginWait).tlyEvent 212 r.seg
      [BitVec.ofNat 8 r.round]
  else s1.ringAbort i (if r.nay.1 = r.addr then 2 else 0) r.nay.1 r.nay.2

/-- A lost node (R205). -/
def State.ringLost (s : State) (i node : Nat) : State :=
  (s.modRing i fun r => { r with present := noBit r.present node }).tlyEvent 209 (s.ring i).seg [BitVec.ofNat 8 node]

/-- A message of a round that has become valid on the segment, the module's own included. -/
def State.ringRound (s : State) (i : Nat) (m : RingMsg) : State :=
  let r := s.ring i
  let repeated := r.active && decide (r.lastNode = some m.node) && decide (m.round = r.round)
  let s1 := if m.start && !repeated then s.modRing i fun r =>
      { r with present := r.present ||| r.joined, joined := 0, ready := 0, allReady := true, allAck := true, nay := (255, 0),
               active := true, round := m.round, phase := m.phase,
               st := if r.st = rsForming then rsForming else if m.phase = 0 then rsReady else rsAck }
    else if repeated && decide (m.next ≠ r.lastNext) then s.ringLost i r.lastNext
    else s
  let yes := m.ready
  let ack := m.ready && m.ack
  let s2 := s1.modRing i fun r =>
    { r with present := withBit r.present m.node, ready := if yes then withBit r.ready m.node else noBit r.ready m.node,
             allReady := r.allReady && yes, allAck := r.allAck && ack,
             nay := if !ack && decide (r.nay.1 = 255) then (m.node, m.veto) else r.nay,
             lastNode := some m.node, lastNext := m.next }
  let r2 := s2.ring i
  if m.next = masterOf r2.present then s2.ringComplete i
  else if m.next = r2.addr ∧ m.node ≠ r2.addr ∧ (r2.st = rsReady ∨ r2.st = rsAck) then
    s2.ringTurn i false (nextOf r2.present r2.addr) r2.round r2.phase
  else s2

/-- A JOIN or formation message ends any agreement in progress, and the next round has PHASE 0 (R206). -/
def State.ringDisturb (s : State) (i node : Nat) : State :=
  if (s.ring i).st = rsAck ∨ (s.ring i).st = rsWait then s.ringAbort i 0 node 0
  else s.modRing i fun r => { r with nextPhase := 0, allReady := false }

/-- A ring frame heard from another node (R203-R207). -/
def State.ringHear (s : State) (i : Nat) (f : CanFrame) : State :=
  let r := s.ring i
  let m := ringMsgOf f
  if !r.on || !isRingFrame f || (decide (r.st = rsForming) && decide (r.stage = fgLeft)) then s
  else if !m.ok then
    (s.modRing i fun r => { r with protoErrs := r.protoErrs + 1 }).tlyEvent 217 r.seg [BitVec.ofNat 8 m.node, 0]
  else if m.node = r.addr then
    (s.modRing i fun r => { r with st := rsForming, stage := fgLeft, present := 0, joined := 0, active := false, waitFrom := none }).tlyEvent
      217 r.seg [BitVec.ofNat 8 m.node, 1]
  else
    let s0 := (s.when (decide (r.st = rsWait) && !m.abort) fun s => s.ringAbort i 0 m.node 0).modRing i fun r => { r with heard := true }
    if m.join then
      let s1 := (s0.ringDisturb i m.node).modRing i fun r =>
        if r.active then { r with joined := withBit r.joined m.node } else { r with present := withBit r.present m.node }
      s1.tlyEvent 210 r.seg [BitVec.ofNat 8 m.node]
    else if m.abort then s0.ringAbort i 1 m.node m.veto
    else if m.start ∧ m.next = 0xFF then
      (s0.ringDisturb i m.node).modRing i fun r =>
        { r with st := rsForming, stage := fgJoin, active := false, present := withBit r.present m.node }
    else if m.next = 0xFF then s0
    else s0.ringRound i m

/-- A valid frame on a ring segment: during the sleep-wait it aborts sleep (R207); a ring frame goes by the reserved Landing
route to the Forester (R202). -/
def State.segFrame (s : State) (n : Nat) (f : CanFrame) : State :=
  s.each ((List.range 4).filter fun i => (s.ring i).on && decide ((s.ring i).seg = n)) fun s i =>
    let m := ringMsgOf f
    let s1 := if (s.ring i).st ≠ rsWait then s
      else if isRingFrame f && m.ok && m.abort then s.ringAbort i 1 m.node m.veto
      else s.ringAbort i 0 (if isRingFrame f then m.node else 0xFF) 0
    s1.when (isRingFrame f) fun s => s.modTly fun t => { t with inbox := updAt t.inbox i fun l => l ++ [f] }

/-- RING_MESSAGE_RECEIVED: the Forester takes frame f where it is the oldest of a ring's reserved route (R202, R203). -/
def State.ringTake (s : State) (i : Nat) (f : CanFrame) : State :=
  match s.tly.inbox.getD i [] with
  | [] => s
  | first :: rest => if first ≠ f then s else (s.modTly fun t => { t with inbox := updAt t.inbox i fun _ => rest }).ringHear i f

/-- The module's own ring message has become valid on its segment. -/
def State.ringSent (s : State) (n : Nat) (f : CanMsg) : State :=
  let fr : CanFrame := { id := w0Id f.w0, dlc := 8, data := f.data }
  let m := ringMsgOf fr
  s.each ((List.range 4).filter fun i => (s.ring i).on && decide ((s.ring i).seg = n) && isRingFrame fr &&
      decide (m.node = (s.ring i).addr)) fun s i =>
    if m.next = 0xFF then s else s.ringRound i m

/-- The master starts a round (R204). -/
def State.ringStart (s : State) (i : Nat) : State :=
  let r := s.ring i
  let all := withBit (r.present ||| r.joined) r.addr
  if !r.on || r.active || !(decide (r.st = rsReady ∨ r.st = rsAck)) || decide (masterOf all ≠ r.addr) then s
  else
    let s1 := s.modRing i fun r => { r with active := true, lastNode := none, present := all, joined := 0 }
    s1.ringTurn i true (nextOf all r.addr) ((r.round + 1) % 256) r.nextPhase

/-- A node that the module named has not answered within 5 ms (R205). -/
def State.ringNodeTimeout (s : State) (i : Nat) : State :=
  let r := s.ring i
  if !r.on || !r.active || decide (r.lastNode ≠ some r.addr) then s
  else
    let s1 := s.ringLost i r.lastNext
    let nx := nextOf (s1.ring i).present r.addr
    (s1.modRing i fun r => { r with lastNext := nx }).ringTurn i (decide (masterOf r.present = r.addr)) nx r.round r.phase

/-- No START for 250 ms (R205): the present set cleared, the ring formed again. -/
def State.ringStartTimeout (s : State) (i : Nat) : State :=
  let r := s.ring i
  if !r.on || decide (r.st = rsWait) || (decide (r.st = rsForming) && decide (r.stage ≠ fgHeard)) then s
  else (s.ringAbort i 0 0xFF 0).modRing i fun r =>
    { r with st := rsForming, stage := fgListen, heard := false, present := 0, joined := 0, active := false }

/-- A change of FORMING stage. -/
def State.ringStage (s : State) (i stage : Nat) : State := s.modRing i fun r => { r with stage := stage }

/-- The end of the 250 ms listen (R206). -/
def State.ringListenEnd (s : State) (i : Nat) : State :=
  let r := s.ring i
  if !r.on || decide (r.st ≠ rsForming) || decide (r.stage ≠ fgListen) then s
  else s.ringStage i (if r.heard then fgHeard else fgWait)

/-- The address-dependent wait ends: the formation message, or the JOIN that answers one (R206). -/
def State.ringJoinTimer (s : State) (i : Nat) : State :=
  let r := s.ring i
  if !r.on || decide (r.st ≠ rsForming) then s
  else if r.stage = fgWait then
    let s1 := s.modRing i fun r => { r with present := 2 ^ r.addr, stage := fgFirst, round := 255, nextPhase := 0 }
    s1.ringPut i 0xFF 4 0 0 s.veto
  else if r.stage = fgJoin then
    let s1 := s.modRing i fun r => { r with present := withBit r.present r.addr, stage := fgFirst, round := 255, nextPhase := 0 }
    s1.ringPut i 0xFF 8 0 0 s.veto
  else s

/-- 100 ms after the formation message (R206): the lowest present node starts round 0. -/
def State.ringFormation (s : State) (i : Nat) : State :=
  let r := s.ring i
  if !r.on || decide (r.st ≠ rsForming) || decide (r.stage ≠ fgFirst) then s
  else
    let s1 := (s.modRing i fun r => { r with st := rsReady }).tlyEvent 208 r.seg
      [BitVec.ofNat 8 (masterOf r.present), BitVec.ofNat 8 (members r.present).length]
    s1.ringStart i

/-- 10 s after the module left on its own address (R203). -/
def State.ringRejoin (s : State) (i : Nat) : State :=
  let r := s.ring i
  if r.on ∧ r.st = rsForming ∧ r.stage = fgLeft then s.modRing i fun r => { r with stage := fgListen, heard := false } else s

/-! Vetoes at work, stay-awake requests. -/

/-- The Forester returns every transceiver to its configured mode (R210). -/
def State.trxRestore (s : State) : State :=
  match s.tly.ready with
  | none => s
  | some l => (s.each l.zipIdx fun s x => s.trxWrite x.2 x.1).modTly fun t => { t with ready := none }

/-- A sleep-wait of the module alone, or the commit that follows it, is under way (R207, R210). -/
def State.aloneWaits (s : State) : Bool := s.tly.localWait.isSome || (s.tly.ready.isSome && !s.tly.rings.any (·.on))

/-- A local veto while sleep is being agreed (R207): an ABORT message on each such segment; the local sleep-wait ends, and
the transceivers return to their modes. Without a veto the time begins that IDLE_TIME counts. -/
def State.vetoCheck (s0 : State) : State :=
  let v := s0.veto
  if v = 0 then (if s0.tly.quietFrom.isSome then s0 else s0.modTly fun t => { t with quietFrom := some s0.now })
  else
    let s := s0.trxRestore.modTly fun t => { t with quietFrom := none }
    let s1 := s.each ((List.range 4).filter fun i => (s.ring i).on && decide ((s.ring i).st = rsAck ∨ (s.ring i).st = rsWait)) fun s i =>
      (s.ringAbort i 2 (s.ring i).addr v).ringSendAbort i
    if s0.aloneWaits then (s1.modTly fun t => { t with localWait := none }).tlyEvent 213 0xFF ([2, 0xFF] ++ leBytes 2 v) else s1

/-- IDLE_TIME without a veto in a module with no ring segment: the local sleep-wait (R207). -/
def State.idleExpiry (s : State) : State :=
  if s.tly.rings.any (·.on) || decide (s.veto ≠ 0) || s.aloneWaits || s.tly.commitAt.isSome then s
  else match s.tly.quietFrom with
  | none => s
  | some t =>
    let s1 := s.advance (t + s.idleTime * 1000000000)
    ((s1.modTly fun t => { t with localWait := some s1.now }).beginWait).tlyEvent 212 0xFF [0]

/-- A Forester internal record (R436, R438). -/
def State.incInternal (s : State) (code cls : Nat) (data0 : List Byte) : State :=
  let e : IncEntry := { seq := 0, source := 528, cls := cls, code := code, frame := s.frame, time := s.lc, data0 := padTo 16 data0 }
  let (t, m) := s.incEnter e
  t.raises m

/-- The expiry of a stay-awake request (R209): the veto ends, a LOG record and the event. -/
def State.stayExpiry (s : State) (p reason : Nat) : State :=
  match s.tly.stays.find? fun x => x.pid = p ∧ x.reason = reason with
  | none => s
  | some x =>
    let s1 := (s.advance x.expiry).modTly fun t => { t with stays := t.stays.filter fun y => !(y.pid = p ∧ y.reason = reason) }
    let s2 := s1.incInternal 2 clsLog (leBytes 2 p ++ leBytes 2 reason ++ leBytes 4 x.dur ++ leBytes 4 x.renewals)
    s2.raise 215 (.part p) (0xFF :: leBytes 1 p ++ leBytes 2 reason)

/-- All requests of a partition released at its reset (R209). -/
def State.staysDrop (s : State) (p : Nat) : State := s.modTly fun t => { t with stays := t.stays.filter fun x => x.pid ≠ p }

/-- The TALLY record taken up: the wake domain's images (R213), and the ring segments (R202), of which an entry that fails a
condition is disabled. -/
def State.tallySetup (s0 : State) : State :=
  let b := s0.tally
  let n := s0.tallyField 5 1 0 4
  let s := (s0.setRaw R.WAKE_IN_CFG (BitVec.ofNat 32 (le b 92 2))).wr R.WAKE_EN_EN (s0.tallyField 94 1 0 0x3F)
  let seg (i : Nat) := le b (8 + 4 * i) 1
  s.each (List.range 4) fun s i =>
    if n ≤ i then s.modRing i fun _ => {}
    else
      let nbt := (s.recWord recCan 8 (R.CANn_NBT (seg i))).getD (regReset (R.CANn_NBT (seg i)))
      let clocks := (bitsOf nbt 7 0 + 1) * (1 + (bitsOf nbt 15 8 + 1) + (bitsOf nbt 22 16 + 1))
      let good := decide (seg i < 24) && decide (le b (9 + 4 * i) 1 < 64) && (s.canOwner (seg i)).isNone && decide (clocks ≤ 320) &&
        (List.range n).all fun k => k = i || decide (seg k ≠ seg i)
      let s1 := s.modRing i fun _ =>
        { on := good, bad := !good, seg := seg i, addr := le b (9 + 4 * i) 1, st := if good then rsForming else rsDisabled }
      if good then s1 else s1.tlyEvent 216 (seg i) [BitVec.ofNat 8 i]

/-! Commands 0x0440-0x0444 (R214). -/

/-- TLY_STAY (0x0440). -/
def opTlyStay : OpSpec where
  opcode := 0x0440
  classes := [clRt, clNormal]
  bits := fun _ i => if i < 2 ∨ (4 ≤ i ∧ i < 8) then 0xFF else 0
  requester := fun _ c => if c.caller.isNone then some 0xFFFE else none
  grant := fun s c => if s.maxAwake (c.caller.getD 0) = 0 then some 0x8000 else none
  need := fun _ => 8
  body := fun c s =>
    let reason := c.arg 0 2
    let dur := c.arg 4 4
    let mine := s.tly.stays.filter fun x => x.pid = (c.caller.getD 0)
    let held := mine.find? fun x => x.reason = reason
    if reason < 0x100 then Reply.range s 0
    else if dur > s.maxAwake (c.caller.getD 0) then Reply.range s 4
    else if dur = 0 ∧ held.isNone then Reply.range s 0
    else if held.isNone ∧ mine.length ≥ 8 then Reply.err s stBusy 8
    else
      let rest := s.tly.stays.filter fun x => !(x.pid = (c.caller.getD 0) ∧ x.reason = reason)
      let x : Stay := { pid := (c.caller.getD 0), reason := reason, dur := dur, expiry := s.now + dur * 1000000000,
                        renewals := match held with | some h => h.renewals + 1 | none => 0 }
      let s1 := s.modTly fun t => { t with stays := if dur = 0 then rest else rest ++ [x] }
      Reply.ok s1.vetoCheck

/-- Remaining sleep-wait in ms. -/
def State.waitLeft (s : State) (w : Option Nat) : Nat :=
  match w with
  | some t => (1500000000 - (s.now - t) + 999999) / 1000000
  | none => 0

/-- TLY_GET (0x0441). -/
def opTlyGet : OpSpec where
  opcode := 0x0441
  classes := [clRt, clNormal]
  bits := allBits 1
  need := fun _ => 1
  body := fun c s =>
    let seg := c.arg 0 1
    let idx := (List.range 4).find? fun i => ((s.ring i).on || (s.ring i).bad) && decide ((s.ring i).seg = seg)
    if seg = 0xFF then
      let st := if s.tly.localWait.isSome then rsWait else if s.tly.rings.any (·.on) then rsReady else rsDisabled
      Reply.ok s (leBytes 1 st ++ List.replicate 19 0 ++ leBytes 2 s.veto ++ [0, 0] ++ leBytes 4 (s.waitLeft s.tly.localWait))
    else match idx with
    | none => Reply.range s 0
    | some i =>
      let r := s.ring i
      Reply.ok s (leBytes 1 r.st ++ leBytes 1 r.addr ++ leBytes 1 (masterOf r.present) ++ leBytes 1 r.round ++ leBytes 8 r.present ++
        leBytes 8 r.lastReady ++ leBytes 2 s.veto ++ [0, 0] ++ leBytes 4 (s.waitLeft r.waitFrom))

/-- TLY_VETO_LIST (0x0442). -/
def opTlyVetoList : OpSpec where
  opcode := 0x0442
  classes := [clNormal]
  bits := allBits 0
  need := fun _ => 0
  body := fun _ s =>
    let own := s.ownVetoes.map fun v => [0xFF, 0] ++ leBytes 2 v ++ leBytes 4 0xFFFFFFFF
    let st := s.tly.stays.map fun x => leBytes 1 x.pid ++ [0] ++ leBytes 2 x.reason ++ leBytes 4 ((x.expiry - s.now) / 1000000000)
    let l := (own ++ st).take 125
    Reply.ok s (leBytes 1 l.length ++ [0, 0, 0] ++ l.flatten)

/-- Wake sources a caller may clear: those its WAKE names; a CAN source needs the controller owned or shared. -/
def State.mayClearWake (s : State) (c : Ctx) (k : Nat) : Bool :=
  match c.caller with
  | none => true
  | some p =>
    (s.part p).has offWake k && (decide (k < 8) || decide (s.canOwner (k - 8) = some p) || (s.part p).sharesCan (k - 8))

/-- WAKE_GET (0x0443, R200). -/
def opWakeGet : OpSpec where
  opcode := 0x0443
  classes := [clRt, clNormal]
  bits := allBits 4
  grant := fun s c => if (maskIdx 32 (c.arg 0 4)).all (s.mayClearWake c) then none else some 0x8000
  need := fun _ => 4
  body := fun c s =>
    let pend := s.rd R.WAKE_PEND_PEND ||| s.tly.view
    let keep (v : Nat) : Nat := ((maskIdx 32 v).filter fun k => !nbit (c.arg 0 4) k).foldl (fun a k => a + 2 ^ k) 0
    let s1 := (s.modTly fun t => { t with view := keep t.view }).wr R.WAKE_PEND_PEND (keep (s.rd R.WAKE_PEND_PEND))
    Reply.ok s1 (s.bytesAt R.WAKE_SRC 12 ++ leBytes 4 pend ++ s.bytesAt R.WAKE_CNT 4)

/-- The earliest alarm of all partitions programmed (R214). -/
def State.alarmProgram (s : State) : State :=
  let l := sortNat (s.tly.alarms.filterMap id)
  s.wr R.WAKE_RTC_ALM_SEC (l.head?.getD 0)

/-- WAKE_ALARM (0x0444). -/
def opWakeAlarm : OpSpec where
  opcode := 0x0444
  classes := [clNormal]
  bits := allBits 4
  requester := fun _ c => if c.caller.isNone then some 0xFFFE else none
  need := fun _ => 4
  body := fun c s =>
    let t := c.arg 0 4
    if t ≠ 0 ∧ t ≤ s.rtc then Reply.range s 0
    else
      let v := if t = 0 then none else some t
      Reply.ok (State.alarmProgram (s.modTly fun y => { y with alarms := updAt y.alarms (c.caller.getD 0) fun _ => v }))

def execRingMessageReceived (g : Fin 8) (f : CanFrame) (s : State) : Out := s.finish (s.ringTake g f)
def execRingRoundStart (g : Fin 8) (s : State) : Out := s.finish (s.ringStart g)
def execRingNodeTimeout (g : Fin 8) (s : State) : Out := s.finish (s.ringNodeTimeout g)
def execRingStartTimeout (g : Fin 8) (s : State) : Out := s.finish (s.ringStartTimeout g)
def execRingListenEnd (g : Fin 8) (s : State) : Out := s.finish (s.ringListenEnd g)
def execRingJoinTimer (g : Fin 8) (s : State) : Out := s.finish (s.ringJoinTimer g)
def execRingFormationTimer (g : Fin 8) (s : State) : Out := s.finish (s.ringFormation g)
def execRingRejoinTimer (g : Fin 8) (s : State) : Out := s.finish (s.ringRejoin g)
def execIdleTimeExpiry (_g : Fin 8) (s : State) : Out := s.finish s.idleExpiry
def execStayExpiry (p : Fin 16) (reason : Nat) (s : State) : Out := s.finish (s.stayExpiry p reason)
def execMinAwakeExpiry (s : State) : Out := s.finish (s.modTly fun t => { t with awake := true })
def execTlyStay (m : Fin 17) (fate : Fate) (s : State) : Out := s.finish (s.runRow opTlyStay m fate)
def execTlyGet (m : Fin 17) (fate : Fate) (s : State) : Out := s.finish (s.runRow opTlyGet m fate)
def execTlyVetoList (m : Fin 17) (fate : Fate) (s : State) : Out := s.finish (s.runRow opTlyVetoList m fate)
def execWakeGet (m : Fin 17) (fate : Fate) (s : State) : Out := s.finish (s.runRow opWakeGet m fate)
def execWakeAlarm (m : Fin 17) (fate : Fate) (s : State) : Out := s.finish (s.runRow opWakeAlarm m fate)

end Sys2Proof.Machine
end

