-- ==== Sys2Proof/Machine/TimeUnit.lean ====
section
/-! DEFINITION. The time unit: gPTP domains, the followed source, phase offset, alignment (R31-R37, R231-R236, R242). -/

namespace Sys2Proof.Machine

def State.dom (s : State) (x : Nat) : Dom := s.doms.getD x {}
def State.modDom (s : State) (x : Nat) (f : Dom → Dom) : State := s.onDoms fun l => updAt l x f

/-- One frame in ns (R13), and a turn of 40. -/
def frameNs : Nat := 250000

/-- A time offset folded into −125,000 to +124,999 ns (R37). -/
def foldPhase (v : Int) : Int := (v + 125000) % 250000 - 125000

/-- Domain time at a local clock reading (R233). -/
def State.domTime (s : State) (x lc : Nat) : Int :=
  let d := s.dom x
  (lc : Int) + d.ofs + ((lc : Int) - ((d.sync.getD 0 : Nat) : Int)) * d.rate / 1000000000

/-- Domain time at an instant, as the time unit tracks it from the last Sync on at the domain's rate. -/
def State.domAt (s : State) (x t : Nat) : Int :=
  let d := s.dom x
  let dt : Int := (t : Int) - d.at_
  d.base + dt + dt * d.nom / 1000000000

/-- A domain's offset from the local clock now. -/
def State.domOfs (s : State) (x : Nat) : Int := s.domAt x s.now - s.lc

/-- TMU_STEER (R231, R235): the local clock runs on at this rate. -/
def State.steer (s : State) (rate : Int) : State :=
  (s.onClk fun c => c.steer s.now rate).wr R.TMU_STEER_STEER (unsigned 32 rate)

def State.domValid (s : State) (x : Nat) : Bool := s.isSet (R.TMU_DOMx_STAT_VALID x)
def State.domQual (s : State) (x : Nat) : Bool := s.isSet (R.TMU_DOMx_STAT_QUAL x)
def State.domNumber (s : State) (x : Nat) : Nat := if x = 0 then s.rd R.TMU_CFG_DOMA else s.rd R.TMU_CFG_DOMB

/-- ms since the last accepted Sync, saturating. -/
def State.domAge (s : State) (x : Nat) : Nat :=
  match (s.dom x).sync with
  | some t => sat 0xFFFFFFFF ((s.lc - t) / 1000000)
  | none => 0xFFFFFFFF

/-- The source FRM_CFG allows: AUTO. -/
def State.srcAuto (s : State) : Bool := decide (s.rd R.FRM_CFG_SRC = 0)

/-- ALIGNED lost (R34). -/
def State.alignLost (s : State) : State :=
  let s1 := s.onFrm fun f => { f with alignRun := 0 }
  s1.when (s.isSet R.FRM_STAT_ALIGNED) fun s => (s.wr R.FRM_STAT_ALIGNED 0).raise 481 .pub

/-- FRM_OFS and the turn offset against the followed domain (R31, R33, R235); 0 while the local TCXO is the source. -/
def State.phase (s : State) : State :=
  let f := s.rd R.TMU_STAT_FOLLOW
  if f = 0 then s.wr R.FRM_OFS_OFS 0
  else
    let o := s.domOfs (f - 1)
    let ph := foldPhase o
    let tofs := ((o - ph) / 250000) % 40
    let s1 := s.wr R.FRM_OFS_OFS (unsigned 32 ph)
    let s2 := if 100 < ph.natAbs then s1.alignLost else if 50 < ph.natAbs then s1.onFrm fun g => { g with alignRun := 0 } else s1
    if ph.natAbs < 100 ∧ tofs.toNat ≠ s.rd R.TMU_STAT_TOFS then s2.onFrm fun g => { g with slotFix := some tofs.toNat } else s2

/-- The followed source changes (R234). -/
def State.setFollow (s : State) (f lost : Nat) : State :=
  if f = s.rd R.TMU_STAT_FOLLOW then s
  else
    let was := s.rd R.TMU_STAT_FOLLOW
    let s1 := ((s.wr R.TMU_STAT_FOLLOW f).wr R.FRM_STAT_SRC_ACT f).wrB R.TMU_STAT_HOLDOVER (decide (f = 0))
    let s2 := (s1.when (decide (was ≠ 0)) fun s => s.wr R.FRM_ERR_DOMAIN_LOST 1).phase
    let s3 := (s2.raise 480 .pub).alignLost
    s3.when (decide (f = 0)) fun s => s.raise 173 .pub (BitVec.ofNat 8 lost :: leBytes 4 (s.rd R.TMU_STEER_STEER))

/-- The table of R234; `gm` is a domain whose grandmaster has just changed. -/
def State.follow (s : State) (gm : Option Nat) : State :=
  if !s.srcAuto then s
  else
    let f := s.rd R.TMU_STAT_FOLLOW
    let va := s.domValid 0
    let vb := s.domValid 1
    if f = 0 then (if s.domQual 0 then s.setFollow 1 0 else if s.domQual 1 then s.setFollow 2 0 else s)
    else if f = 1 then
      if !va then s.setFollow (if vb then 2 else 0) 0
      else if gm = some 0 ∧ vb then s.setFollow 2 0
      else s
    else if (s.dom 0).ret && va then s.setFollow 1 1
    else if !vb then s.setFollow (if va then 1 else 0) 1
    else s

/-- FRM_CFG.SRC written: LOCAL lets go of a followed domain, with no holdover; AUTO takes a source again (R31, R234). -/
def State.srcWritten (s : State) : State :=
  if s.srcAuto then s.follow none
  else if s.rd R.TMU_STAT_FOLLOW = 0 then s.wr R.TMU_STAT_HOLDOVER 0
  else
    let s1 := ((s.wr R.TMU_STAT_FOLLOW 0).wr R.FRM_STAT_SRC_ACT 0).wr R.TMU_STAT_HOLDOVER 0
    (s1.phase.raise 480 .pub).alignLost

/-- TMU_AB (R236). -/
def State.abUpdate (s : State) : State :=
  let both := s.domValid 0 && s.domValid 1
  let s1 := s.wrB R.TMU_AB_STAT_AB_VALID both
  if !both then s1
  else
    let lc := s.lc
    let s2 := s1.wr64 R.TMU_AB_OFS_LO R.TMU_AB_OFS_HI (unsigned 64 (s.domTime 1 lc - s.domTime 0 lc))
    s2.wr R.TMU_AB_RATE_RATE (unsigned 32 ((s.dom 1).rate - (s.dom 0).rate))

/-- A domain becomes invalid (R233, R234). -/
def State.domLost (s : State) (x : Nat) : State :=
  if !s.domValid x then s
  else
    let s1 := (s.wr (R.TMU_DOMx_STAT_VALID x) 0).wr (R.TMU_DOMx_STAT_QUAL x) 0
    let s2 := (s1.modDom x fun d => { d with ret := false }).abUpdate
    let s3 := s2.raise 170 .pub ([BitVec.ofNat 8 x, BitVec.ofNat 8 (s.domNumber x)] ++ leBytes 4 (s.domAge x))
    s3.follow none

/-- The step of R32, before the first boundary: the local clock takes the domain's time once. -/
def State.timeStep (s : State) (x : Nat) : State :=
  if s.frm.first || s.isSet R.TMU_STAT_STEPPED || !s.srcAuto || !s.domValid x || (decide (x = 1) && s.domValid 0) then s
  else
    let o := s.domOfs x
    let s1 := (s.onClk fun c => { c with ofs := c.ofs + o * 1000000000 }).wr R.TMU_STAT_STEPPED 1
    let s2 := s1.each [0, 1] fun s k => s.modDom k fun d => { d with ofs := d.ofs - o, sync := d.sync.map fun t => ((t : Int) + o).toNat }
    s2.raise 172 .pub (BitVec.ofNat 8 x :: leBytes 8 (unsigned 64 o))

/-- The run of sync intervals of R34. -/
def State.alignCount (s : State) (x : Nat) : State :=
  if s.rd R.TMU_STAT_FOLLOW ≠ x + 1 then s
  else
    let o := (signed 32 (s.rd R.FRM_OFS_OFS)).natAbs
    if o ≤ 50 then
      let run := s.frm.alignRun + 1
      let s1 := s.onFrm fun f => { f with alignRun := run }
      s1.when (decide (8 ≤ run) && !s.isSet R.FRM_STAT_ALIGNED) fun s => (s.wr R.FRM_STAT_ALIGNED 1).raise 482 .pub
    else if 100 < o then s.alignLost
    else s.onFrm fun f => { f with alignRun := 0 }

/-- SYNC_ACCEPTED (R233): the rate against the TCXO nominal is the rate against the local clock with the steer in force. -/
def State.syncAccepted (s : State) (x : Nat) (i : SyncInfo) : State :=
  if !s.isSet R.TMU_CTRL_TRACK then s
  else
    let d := s.dom x
    let gm := d.sync.isSome && decide (d.gmid ≠ i.gmid)
    let total := i.rate + s.clk.rate
    let s1 := s.modDom x fun d =>
      { d with sync := some s.lc, ofs := i.ofs, rate := i.rate, gmid := i.gmid, ret := if gm then false else d.ret
               at_ := s.now, base := s.lc + i.ofs, nom := total }
    let s2 := (s1.wr (R.TMU_DOMx_STAT_ROLE x) i.role).wr (R.TMU_DOMx_STAT_STEPS x) i.steps
    let s3 := s2.when gm fun s => ((s.wr (R.TMU_DOMx_STAT_GMCHG x) 1).wr (R.TMU_DOMx_STAT_QUAL x) 0).raise 171 .pub
      (BitVec.ofNat 8 x :: leBytes 8 i.gmid)
    if i.role.val = 0 ∨ 200000 < total.natAbs then s3.domLost x
    else
      let s4 := s3.when (!s.domValid x) fun s =>
        (s.wr (R.TMU_DOMx_STAT_VALID x) 1).raise 169 .pub [BitVec.ofNat 8 x, BitVec.ofNat 8 (s.domNumber x)]
      let s5 := ((s4.timeStep x).abUpdate).follow (if gm then some x else none)
      s5.phase.alignCount x

/-- A domain qualified, or return-qualified (R234). -/
def State.domQualified (s : State) (x : Nat) (ret : Bool) : State :=
  if !s.domValid x then s
  else
    let s1 := s.wr (R.TMU_DOMx_STAT_QUAL x) 1
    (s1.when ret fun s => s.modDom x fun d => { d with ret := true }).follow none

/-- The slew of one frame (R31): how much the phase error shrinks, in ns. -/
def State.slew (s : State) : Int := clampInt (-125) 125 (signed 32 (s.rd R.FRM_OFS_OFS))

/-- The steer of the frame that a boundary opens (R31, R235): the followed domain's rate against the TCXO nominal, and the
slew, 4,000 ppb for each ns of it; in holdover and without a source TMU_STEER stays. FRM_STAT.SLEWING as the frame's length
differs from 250 µs. -/
def State.slewFrame (s0 : State) : State :=
  let s := s0.phase
  let f := s.rd R.TMU_STAT_FOLLOW
  if f = 0 then s.wr R.FRM_STAT_SLEWING 0
  else (s.steer ((s.dom (f - 1)).nom + 4000 * s.slew)).wrB R.FRM_STAT_SLEWING (decide (s.slew ≠ 0))

/-- The turn position that the local clock and a turn offset give (R25, R235). -/
def State.slotAt (s : State) (tofs : Nat) : Nat := ((s.lc - s.rd R.FRM_PHASE_PHASE + 125000) / 250000 + tofs) % 40

/-- The position of a boundary in its turn: a turn begins where it is 0, and where a correction does not move it on, so
that no turn has more than 40 frames (R25, R33). -/
def State.takeSlot (s : State) (p : Nat) : State :=
  let was := s.rd R.FRM_STAT_SLOT
  (s.wr R.FRM_STAT_SLOT p).onFrm fun f => { f with newTurn := decide (p = 0 ∨ p ≤ was) }

/-- FRM_STAT.SLOT at a boundary (R25, R33). -/
def State.slotStep (s : State) : State :=
  match s.frm.slotFix with
  | none => s.takeSlot ((s.rd R.FRM_STAT_SLOT + 1) % 40)
  | some t =>
    let s1 := ((s.takeSlot (s.slotAt t)).wr R.TMU_STAT_TOFS t).wr R.FRM_ERR_SLOT_CORR 1
    (s1.onFrm fun f => { f with slotFix := none }).raise 483 .pub

/-- A read of TMU_LC_NS (R232): the seconds registers are latched. -/
def State.lcLatch (s : State) : State :=
  (s.wr64 R.TMU_LC_S_LO R.TMU_LC_S_HI (s.lc / 1000000000)).respondBus (BitVec.ofNat 32 (s.lc % 1000000000))

/-- The other registers of a domain's page latched (R242). -/
def State.domLatch (s : State) (x : Nat) : State :=
  let d := s.dom x
  let s1 := (s.wr64 (R.TMU_DOMx_GMID_LO x) (R.TMU_DOMx_GMID_HI x) d.gmid).wr64 (R.TMU_DOMx_OFS_LO x) (R.TMU_DOMx_OFS_HI x) (unsigned 64 d.ofs)
  let s2 := (s1.wr (R.TMU_DOMx_RATE_RATE x) (unsigned 32 d.rate)).wr64 (R.TMU_DOMx_UPD_LO x) (R.TMU_DOMx_UPD_HI x) (d.sync.getD 0)
  s2.wr (R.TMU_DOMx_AGE_AGE x) (s.domAge x)

def execDomainTimeout (x : Fin 2) (s : State) : Out := s.finish (s.domLost x)
def execDomainQualified (x : Fin 2) (s : State) : Out := s.finish (s.domQualified x false)
def execDomainReturnQualified (x : Fin 2) (s : State) : Out := s.finish (s.domQualified x true)
def execLcReadLatch (a : Attr) (s : State) : Out := s.finish (s.access a R.TMU_LC_NS false State.lcLatch)
def execDomStatReadLatch (a : Attr) (x : Fin 2) (s : State) : Out :=
  s.finish (s.access a (R.TMU_DOMx_STAT x) false fun s => (s.domLatch x).respondBus (s.raw (R.TMU_DOMx_STAT x)))

end Sys2Proof.Machine
end

