-- ==== Sys2Proof/Machine/Eth.lean ====
section
/-! DEFINITION. The Ethernet switch (R216-R230, R237-R241): forwarding, buffers, host ports, gate schedules, stream
filtering, timestamps. -/

namespace Sys2Proof.Machine

def State.modEth (s : State) (f : Eth → Eth) : State := s.onEth f
def State.port (s : State) (p : Nat) : EthPort := s.eth.ports.getD p {}
def State.modPort (s : State) (p : Nat) (f : EthPort → EthPort) : State := s.onEth fun e => { e with ports := updAt e.ports p f }

/-- An event of the switch (R247): public for links, else the network owner's. -/
def State.ethEvent (s : State) (e p : Nat) (rest : List Byte := []) : State :=
  s.raise e (if e = 160 ∨ e = 161 then .pub else ownerOf s.netOwner) (BitVec.ofNat 8 p :: rest)

/-! Gate lists (R226-R228). -/

/-- The list that a port's registers hold: the admin list. -/
def State.adminList (s : State) (p : Nat) : GateList :=
  { en := s.isSet (R.ESW_Pp_GCL_CFG_EN p), k := s.rd (R.ESW_Pp_GCL_CFG_K p),
    entries := (List.range (s.rd (R.ESW_Pp_GCL_CFG_LEN p))).map fun e =>
      (s.rd (R.ESW_Pp_GCLe_G_GATES p e), s.rd (R.ESW_Pp_GCLe_T_T p e)) }

/-- The entry of a list in force at a time into its cycle. -/
def entryAt : List (Nat × Nat) → Nat → Nat → Nat
  | [], _, i => i - 1
  | (_, t) :: rest, at_, i => if at_ < t then i else entryAt rest (at_ - t) (i + 1)

/-- Frame time since a list's cycle began (R226): it runs by the local clock, so it scales with a slewed frame. -/
def State.cycleTime (s : State) (g : GateList) : Nat := s.rd R.FRM_STAT_SLOT % max 1 g.k * frameNs + s.inFrame

/-- Whether a stream gate is open now (R229): bit 0 of the entry in force. -/
def State.streamOpen (s : State) (g : GateList) : Bool :=
  !g.en || nbit (g.entries.getD (entryAt g.entries (s.cycleTime g) 0) (0xFF, 0)).1 0

/-- Gates of a port that are open: those of the entry in force, GCL_STAT.ENTRY (R226, R228). -/
def State.gatesOpen (s : State) (p : Nat) : Nat :=
  let g := (s.port p).oper
  if !g.en then 0xFF else (g.entries.getD (s.rd (R.ESW_Pp_GCL_STAT_ENTRY p)) (0xFF, 0)).1

/-- A list is operational as soon as a cycle of its K starts (R228). -/
def State.cycleStarts (s : State) (g : GateList) : Bool := decide (s.rd R.FRM_STAT_SLOT % max 1 g.k = 0)

/-- A port's list at a boundary: the change-over, or the next cycle. -/
def State.gclBoundary (s : State) (p : Nat) : State :=
  let adm := s.adminList p
  if !s.isSet (R.ESW_Pp_GCL_STAT_OPER p) && s.cycleStarts adm then
    (((s.modPort p fun x => { x with oper := adm }).wr (R.ESW_Pp_GCL_STAT_OPER p) 1).wr (R.ESW_Pp_GCL_STAT_ENTRY p) 0).ethEvent 164 p [0, BitVec.ofNat 8 p]
  else s.when (s.cycleStarts (s.port p).oper) fun s => s.wr (R.ESW_Pp_GCL_STAT_ENTRY p) 0

/-- Stream gates at a boundary (R229). -/
def State.qciBoundary (s : State) : State :=
  s.each s.eth.gates fun s x =>
    match x.2.admin with
    | some g =>
      if s.cycleStarts g then
        (s.modEth fun e => { e with gates := sput e.gates x.1 { oper := g, admin := none } }).ethEvent 164 0 [1, BitVec.ofNat 8 x.1]
      else s
    | none => s

/-- The entry after the one in force; the last one lasts to the next cycle start. -/
def State.gateNext (s : State) (p : Nat) : State :=
  let g := (s.port p).oper
  let e := s.rd (R.ESW_Pp_GCL_STAT_ENTRY p)
  if g.en ∧ e + 1 < g.entries.length then s.wr (R.ESW_Pp_GCL_STAT_ENTRY p) (e + 1) else s

/-- New active values of group 0x0520 + p: the committed list is the admin list. -/
def State.gclPost (s : State) (p : Nat) : State :=
  s.wrB (R.ESW_Pp_GCL_STAT_OPER p) (decide (s.adminList p = (s.port p).oper))

/-- Line rate of a port in Mbit/s (R216, R223). -/
def State.portRate (s : State) (p : Nat) : Nat :=
  if p ≤ 1 then [10000, 5000, 2500].getD (s.rd (R.ESW_Pp_CFG_SPEED p)) 10000
  else if p ≤ 9 ∨ p = 16 then 1000 else if p ≤ 13 then 100 else if p ≤ 15 then 10 else 5000

/-- The end of a run of entries that open a TC, from a time on. -/
def openEnd (tc : Nat) : List (Nat × Nat) → Nat → Nat
  | [], t => t
  | (g, d) :: rest, t => if nbit g tc then openEnd tc rest (t + d) else t

/-- Open time left to a TC at a time into the cycle while entry e is in force, the next cycle's entries among it. -/
def openLeft (g : GateList) (tc e at_ : Nat) : Nat :=
  openEnd tc (g.entries.drop e ++ g.entries) ((g.entries.take e).foldl (fun a x => a + x.2) 0) - at_

/-- Whether a list ever closes the gate of a TC. -/
def closes (g : GateList) (tc : Nat) : Bool := g.en && g.entries.any fun e => !nbit e.1 tc

/-- Longest open interval of a TC in a list that closes it: runs of open entries, over the cycle twice. -/
def longestOpen (g : GateList) (tc : Nat) : Nat :=
  ((g.entries ++ g.entries).foldl (fun (acc : Nat × Nat) e =>
    let run := if nbit e.1 tc then acc.1 + e.2 else 0
    (run, max acc.2 run)) (0, 0)).2

/-- Time that a frame takes at a port, with preamble and inter-packet gap (R227). -/
def State.wireTime (s : State) (p : Nat) (f : EthFrame) : Nat := (f.len + 20) * 8000 / s.portRate p

/-- A frame that no open interval of its TC can hold (R227). -/
def State.tooLong (s : State) (p : Nat) (q : EthQd) : Bool :=
  let g := (s.port p).oper
  closes g q.tc && decide (longestOpen g q.tc < s.wireTime p q.frame)

/-- Whether a frame that starts now leaves before its gate closes (R227). -/
def State.fitsNow (s : State) (p : Nat) (q : EthQd) : Bool :=
  let g := (s.port p).oper
  nbit (s.gatesOpen p) q.tc &&
    (!closes g q.tc || decide (s.wireTime p q.frame ≤ openLeft g q.tc (s.rd (R.ESW_Pp_GCL_STAT_ENTRY p)) (s.cycleTime g)))

/-! Buffers (R221). -/

/-- Cells of a frame. -/
def cellsOf (f : EthFrame) : Nat := (f.len + 255) / 256

/-- Frames that a port holds in the buffer: the one on the wire and those queued. -/
def EthPort.held (x : EthPort) : List EthQd := x.current.toList ++ x.queue

/-- Cells a TC of a port uses, and those beyond its reserve. -/
def State.tcCells (s : State) (p tc : Nat) : Nat :=
  ((s.port p).held.filter fun q => q.tc = tc).foldl (fun a q => a + cellsOf q.frame) 0
def State.tcPool (s : State) (p tc : Nat) : Nat := s.tcCells p tc - 16

/-- Free cells of the shared pool. -/
def State.poolFree (s : State) : Nat :=
  13696 - (List.range 21).foldl (fun a p => a + (List.range 8).foldl (fun b tc => b + s.tcPool p tc) 0) 0

/-- Whether n more cells fit: the reserve first, then the pool while the TC's use is below twice the free pool. -/
def cellsFit : Nat → Nat → Nat → Nat → Bool
  | 0, _, _, _ => true
  | n + 1, used, pool, free =>
    if used < 16 then cellsFit n (used + 1) pool free
    else if 0 < free ∧ pool < 2 * free then cellsFit n (used + 1) (pool + 1) (free - 1)
    else false

/-- The frame that a port may start: that of the highest TC whose gate is open, in arrival order (R220); where it does not
leave before its gate closes, that of the next TC (R227). -/
def State.txNext (s : State) (p : Nat) : Option Nat :=
  let q := (s.port p).queue
  (List.range 8).reverse.findSome? fun tc =>
    (q.findIdx? fun x => x.tc = tc).bind fun i => if (q[i]?).any fun x => s.fitsNow p x then some i else none

/-- A running port that sends nothing starts its next frame, which is then on the wire to its end (R220: no preemption). -/
def State.txStart (s : State) (p : Nat) : State :=
  if 16 < p ∨ (s.port p).current.isSome ∨ !s.isSet (R.ESW_Pp_CFG_EN p) ∨ !s.isSet (R.ESW_Pp_STAT_LINK p) then s
  else match s.txNext p with
    | none => s
    | some i => s.modPort p fun x => { x with current := x.queue[i]?, queue := x.queue.eraseIdx i }

/-- A frame counted as dropped on an egress port. -/
def State.dropAt (s : State) (p : Nat) : State := s.bump (R.ESW_Pp_DROP_COUNT p)

/-- A frame queued at an egress port, or dropped whole (R221, R227). A stopped port keeps what is queued. DESIGN CHOICE. -/
def State.enqueue (s : State) (p : Nat) (q : EthQd) : State :=
  let old := (s.port p).queue
  let long := match old.find? fun x => x.tc = q.tc with | some x => s.tooLong p x | none => false
  let s1 := if long then (s.modPort p fun x => { x with queue := match old.findIdx? (fun y => y.tc = q.tc) with
      | some i => old.eraseIdx i
      | none => old }).dropAt p else s
  if cellsFit (cellsOf q.frame) (s1.tcCells p q.tc) (s1.tcPool p q.tc) s1.poolFree then
    (s1.modPort p fun x => { x with queue := x.queue ++ [q] }).txStart p
  else
    let s2 := s1.dropAt p
    if (s2.port p).dropRaised then s2
    else (s2.modPort p fun x => { x with dropRaised := true }).ethEvent 163 p [BitVec.ofNat 8 q.tc]

/-! Host ports (R223-R225). -/

/-- Attributes of a host port's memory accesses: RQC 2 and the queue owner's PID, W = 0 (R224, R321); the Forester's
for its own queue pair. -/
def State.qpAttr (s : State) (k : Nat) : Attr :=
  match s.qpOwner k with
  | some p => ⟨false, Fin.ofNat 16 p, 2⟩
  | none => ⟨true, 0, 1⟩

/-- A number's bytes, most significant first (network order). -/
def beBytes (n v : Nat) : List Byte := (leBytes n v).reverse
def beVal (b : List Byte) : Nat := le b.reverse 0 b.length

/-- A frame as bytes, without FCS. -/
def ethBytes (f : EthFrame) : List Byte :=
  let h := beBytes 6 f.dmac ++ beBytes 6 f.smac ++
    (if f.tagged then beBytes 2 0x8100 ++ beBytes 2 (f.pcp * 0x2000 + f.vid) else []) ++ beBytes 2 f.etype
  padTo (f.len - 4) (h ++ f.body)

/-- The frame that bytes spell. -/
def ethParse (b : List Byte) : EthFrame :=
  let tagged := decide (beVal ((b.drop 12).take 2) = 0x8100)
  let tci := beVal ((b.drop 14).take 2)
  let o := if tagged then 16 else 12
  { dmac := beVal (b.take 6), smac := beVal ((b.drop 6).take 6), tagged := tagged, vid := Fin.ofNat 4096 (if tagged then tci else 0),
    pcp := Fin.ofNat 8 (if tagged then tci / 0x2000 else 0), etype := Fin.ofNat 65536 (beVal ((b.drop o).take 2)),
    len := b.length + 4, body := b.drop (o + 2) }

/-- The frame of a queue pair that its host port delivers next: highest TC whose gate is open, in arrival order (R220). A
frame for another queue pair does not hold it up. DESIGN CHOICE: the spec orders the frames of a TC, not the queue pairs. -/
def State.hostNext (s : State) (k : Nat) : Option Nat :=
  let hp := 17 + k / 8
  if !s.isSet (R.ESW_Pp_CFG_EN hp) then none
  else (List.range 8).reverse.findSome? fun tc =>
    if nbit (s.gatesOpen hp) tc then (s.port hp).queue.findIdx? fun q => q.qp = k && q.tc = tc else none

/-- Whether a received frame of a queue pair finds a buffer and ring room (R225). -/
def State.rxReady (s : State) (k : Nat) : Bool :=
  let rx := s.rd (R.ESW_QPk_CFG_RXQ k)
  decide (s.eth.posted.getD k [] ≠ [] ∧ s.qRoom rx ≠ 0) && s.isSet (R.QMG_QnCFG_EN rx)

/-- The receive descriptor of a frame and its buffer address (R225), OP 0x0021. -/
def State.rxEntry (s : State) (k addr len : Nat) (q : EthQd) : List Byte :=
  leBytes 2 0x21 ++ leBytes 2 0 ++ leBytes 2 (s.qGen (s.rd (R.ESW_QPk_CFG_RXQ k))) ++ leBytes 2 0 ++ leBytes 5 addr ++ [0] ++
    leBytes 2 len ++ leBytes 1 q.ingress ++ leBytes 1 (b2n q.frame.tagged) ++ [0, 0] ++ leBytes 8 q.frame.ts

/-- One waiting frame of a queue pair moved to a posted buffer and its receive ring, when both have room (R225). -/
def State.hostDeliver (s : State) (k : Nat) : Option State :=
  let hp := 17 + k / 8
  match s.hostNext k, s.eth.posted.getD k [] with
  | some i, addr :: rest =>
    if !s.rxReady k then none
    else
      match (s.port hp).queue[i]? with
      | none => none
      | some q =>
        let b := ethBytes q.frame
        let s1 := (s.modPort hp fun x => { x with queue := x.queue.eraseIdx i }).modEth fun e =>
          { e with posted := updAt e.posted k fun _ => rest }
        let s2 := if s.memAdmits (s.qpAttr k) addr b.length true then s1.memPut addr b else s1.deny (s.qpAttr k) addr
        some ((s2.bump (R.ESW_Pp_TX_COUNT hp)).qPush (s.rd (R.ESW_QPk_CFG_RXQ k)) (s.rxEntry k addr b.length q))
  | _, _ => none

/-- Waiting frames of a queue pair delivered while they can be. -/
def State.hostDrain (s : State) (k : Nat) : Nat → State
  | 0 => s
  | n + 1 =>
    match s.hostDeliver k with
    | some t => t.hostDrain k n
    | none => s

/-- As many frames as the buffer can hold. -/
def drainMax : Nat := 16384

/-- The queue pairs of a host port deliver what they can. -/
def State.portDrain (s : State) (hp : Nat) : State :=
  s.each ((List.range 8).map fun i => 8 * (hp - 17) + i) fun s k => s.hostDrain k drainMax

/-- HP3 runs: Landing's waiting frames enter the switch, highest TC first, before any of a queue pair (R223, R260). -/
def State.hp3Go (s : State) : State :=
  let q := s.eth.hp3Tx
  if q.isEmpty ∨ !s.isSet (R.ESW_Pp_CFG_EN 20) then s
  else (s.modEth fun e => { e with hp3Tx := [] }).each ((List.range 8).reverse.flatMap fun tc => q.filter fun x => x.2.tc = tc)
    fun s x => (s.bump (R.ESW_Pp_RX_COUNT 20)).enqueue x.1 x.2

/-- A port goes on where its gates, its link or its enable changed. -/
def State.portGo (s : State) (p : Nat) : State :=
  if 17 ≤ p then (s.when (decide (p = 20)) State.hp3Go).portDrain p else s.txStart p

/-- CONS of a receive ring makes room: its queue pairs go on (R225). -/
def State.ringRoom (s : State) (n : Nat) : State :=
  s.each ((List.range 32).filter fun k => s.isSet (R.ESW_QPk_CFG_EN k) && decide (s.rd (R.ESW_QPk_CFG_RXQ k) = n)) fun s k => s.hostDrain k drainMax

/-- EtherType of an R-TAG (IEEE 802.1CB). -/
def rtagType : Nat := 0xF1C1

/-- Whether a frame is a Landing container (R259), with or without an R-TAG. -/
def State.isContainer (s : State) (f : EthFrame) : Bool :=
  decide ((if f.etype.val = rtagType then beVal ((f.body.drop 4).take 2) else f.etype.val) = s.rd R.LGW_ETH_ETYPE)

/-- A frame for a queue pair: delivered, or waiting with ETH_RXQ_STALL. A container at HP3 is Landing's (R259), which takes it
at once and so before every queue-pair frame of its TC (R223); any other frame for QP31, Landing's own, goes nowhere. -/
def State.toHost (s : State) (k : Nat) (q : EthQd) : State :=
  let hp := 17 + k / 8
  if 24 ≤ k ∧ (s.isContainer q.frame ∨ k = 31) then s
  else
    let s1 := (s.enqueue hp { q with qp := k }).hostDrain k drainMax
    if (s1.port hp).queue.any (fun x => x.qp = k) && !s1.rxReady k && !s1.eth.stallRaised then
      (s1.modEth fun e => { e with stallRaised := true }).ethEvent 167 hp [BitVec.ofNat 8 k]
    else s1

/-- The queue pair with a unicast address. -/
def State.qpOfMac (s : State) (mac : Nat) : Option Nat :=
  (List.range 32).find? fun k => s.isSet (R.ESW_QPk_CFG_EN k) &&
    decide (beVal (leBytes 2 (s.rd (R.ESW_QPk_MAC_HI_MAC k)) ++ leBytes 4 (s.rd (R.ESW_QPk_MAC_LO_MAC k))) = mac)

/-! Forwarding (R219, R223, R229). -/

def ptpType : Nat := 0x88F7
def isMulticast (mac : Nat) : Bool := mac / 2 ^ 40 % 2 = 1

def State.vlan (s : State) (vid : Nat) : Option Vlan := s.eth.vlans.find? fun v => v.vid = vid

/-- A source address learned. -/
def State.learn (s : State) (p vid : Nat) (f : EthFrame) : State :=
  match s.eth.fdb.find? fun e => e.mac = f.smac ∧ e.vid = vid with
  | some e =>
    if e.fixed then s
    else s.modEth fun x => { x with fdb := x.fdb.map fun y => if y.mac = f.smac ∧ y.vid = vid then { y with ports := 2 ^ p } else y }
  | none =>
    if isMulticast f.smac ∨ s.eth.fdb.length ≥ 16384 then s
    else s.modEth fun x => { x with fdb := x.fdb ++ [⟨f.smac, vid, 2 ^ p, false⟩] }

/-- The stream filter that a frame meets. -/
def State.qciFind (s : State) (vid : Nat) (f : EthFrame) : Option (Nat × QciFilter) :=
  s.eth.filters.find? fun x => x.2.vid = vid && x.2.mac == (if x.2.bySrc then f.smac else f.dmac)

/-- A meter's verdict (R229), colour-blind: false for red. -/
def meterPass (m : QciMeter) (now len : Nat) : Bool × QciMeter :=
  let dt := now - m.at_
  let c := min (m.cbs * 8000000) (m.ctok + m.cir * dt)
  let e := min (m.ebs * 8000000) (m.etok + m.eir * dt)
  let need := len * 8000000
  if need ≤ c then (true, { m with ctok := c - need, etok := e, at_ := now })
  else if need ≤ e then (true, { m with ctok := c, etok := e - need, at_ := now })
  else (false, { m with ctok := c, etok := e, at_ := now })

/-- Bytes of a tag, and of a frame's service data unit: without addresses, tag, EtherType and FCS. -/
def tagLen : Nat := 4
def sduOf (f : EthFrame) : Nat := f.len - (18 + if f.tagged then tagLen else 0)

/-- Filter, gate and meter of a frame (R229): whether it passes. -/
def State.qciPass (s : State) (p vid : Nat) (f : EthFrame) : State × Bool :=
  match s.qciFind vid f with
  | none => (s, true)
  | some (i, x) =>
    if x.blocked then (s, false)
    else if x.maxSdu < sduOf f then
      if x.blockOver then
        ((s.modEth fun e => { e with filters := sput e.filters i { x with blocked := true } }).ethEvent 165 p [BitVec.ofNat 8 i], false)
      else (s, false)
    else
      let open_ := match s.eth.gates.find? fun g => g.1 = x.gate with
        | some g => s.streamOpen g.2.oper
        | none => true
      if !open_ then (s, false)
      else match s.eth.meters.find? fun m => m.1 = x.meter with
        | some m =>
          let (ok, m') := meterPass m.2 s.now f.len
          (s.modEth fun e => { e with meters := sput e.meters m.1 m' }, ok)
        | none => (s, true)

/-- A frame as a port of a VLAN sends it: without a tag on an untagged member, else with one. -/
def retag (v : Vlan) (e pcp : Nat) (f : EthFrame) : EthFrame :=
  let tag := !nbit v.untagged e
  { f with tagged := tag, vid := Fin.ofNat 4096 v.vid, pcp := Fin.ofNat 8 pcp
           len := f.len + (if tag && !f.tagged then tagLen else 0) - (if !tag && f.tagged then tagLen else 0) }

/-- A destination that an IEEE 802.1Q bridge does not forward: the reserved addresses 01-80-C2-00-00-00 to 0F. -/
def isReservedMac (mac : Nat) : Bool := decide (mac / 16 = 0x0180C200000)

/-- Ports that the database gives a destination (R219): a static entry for any address, a learned one for a unicast address,
never beyond the VLAN's members; otherwise all members. -/
def State.fdbPorts (s : State) (v : Vlan) (mac : Nat) : Nat :=
  match s.eth.fdb.find? fun e => e.mac = mac ∧ e.vid = v.vid with
  | some e => e.ports &&& v.members
  | none => v.members

/-- Host queue pairs that are members of a VLAN: QP31 by the container table (R259), the others by the VLAN table. -/
def State.qpMember (s : State) (v : Vlan) (k : Nat) : Bool :=
  if k = 31 then (List.range 256).any fun c => s.isSet (R.LGW_CTNc_0_EN c) && decide (s.rd (R.LGW_CTNc_0_VID c) = v.vid) else nbit v.qps k

/-- A frame forwarded by the database (R219, R223): egress ports, then queue pairs. A unicast frame for a queue pair needs its
host port among the VLAN's members, as every egress port of a VLAN does. DEDUCED. EtherType 0x88F7 reaches QP0 alone. -/
def State.forward (s : State) (p vid pcp : Nat) (f : EthFrame) (base : EthQd) : State :=
  let v := (s.vlan vid).getD ⟨vid, 0, 0, 0⟩
  let as (e : Nat) : EthQd := { base with frame := retag v e pcp f }
  let up (e : Nat) : Bool := decide (e ≠ p) && s.isSet (R.ESW_Pp_CFG_EN e)
  let host (k : Nat) : Bool := up (17 + k / 8) && s.isSet (R.ESW_QPk_CFG_EN k) && (decide (k = 0) || decide (f.etype.val ≠ ptpType))
  let out (s : State) (mask : Nat) : State := s.each ((maskIdx 17 mask).filter up) fun s e => s.enqueue e (as e)
  let hosts (s : State) (mask : Nat) : State :=
    s.each ((List.range 32).filter fun k => host k && s.qpMember v k && nbit mask (17 + k / 8)) fun s k => s.toHost k (as (17 + k / 8))
  let ports := s.fdbPorts v f.dmac
  if isReservedMac f.dmac then s
  else if isMulticast f.dmac then hosts (out s ports) ports
  else match s.qpOfMac f.dmac with
    | some k => if host k && nbit v.members (17 + k / 8) then s.toHost k (as (17 + k / 8)) else s
    | none => out s ports

/-- Sequence recovery of a received stream (R388): false for a duplicate within a history of 32 numbers. -/
def State.recoverSeq (s : State) (mac vid seq : Nat) : State × Bool :=
  match s.lgw.streams.find? fun x => x.1 = mac ∧ x.2.1 = vid with
  | none => (s.onLgw fun l => { l with streams := l.streams ++ [(mac, vid, [seq])] }, true)
  | some (_, _, h) =>
    if seq ∈ h then (s, false)
    else (s.onLgw fun l => { l with streams := l.streams.map fun x =>
      if x.1 = mac ∧ x.2.1 = vid then (mac, vid, ((seq :: h).take 32)) else x }, true)

/-- A frame that enters the switch on a port, with its VLAN and PCP (R219, R229, R388): accepted, filtered, its source
learned, and forwarded. Sequence recovery acts on what external ports receive. -/
def State.ingress (s : State) (p vid pcp : Nat) (f : EthFrame) (base : EthQd) : State :=
  let member := match s.vlan vid with | some v => nbit v.members p | none => false
  if (f.tagged && !member) || (!f.tagged && s.isSet (R.ESW_Pp_CFG_ACC_TAGGED p)) then s.dropAt p
  else
    let (s1, pass) := s.qciPass p vid f
    if !pass then s1.bump (R.ESW_Pp_QCIDROP_COUNT p)
    else
      let (s2, new) := if p ≤ 16 ∧ f.etype.val = rtagType ∧ s.isSet R.PAIR_CFG_TWIN then
        s1.recoverSeq f.dmac vid (beVal ((f.body.drop 2).take 2)) else (s1, true)
      if new then (s2.learn p vid f).forward p vid pcp f base else s2

/-! Timestamps (R238): the port's reading at the message timestamp point. The point lies the frame's time before its last bit;
a reading outside the error bound of its kind of port, against the local clock, is taken as the bound. -/

/-- Error bound of a timestamp in ns, by port. -/
def tsBound (p : Nat) : Nat := if p ≤ 9 ∨ p = 16 then 4 else if p ≤ 13 then 8 else 100

/-- A value held between two others. -/
def between (lo hi v : Nat) : Nat := max lo (min hi v)

/-- A frame's timestamp on a port: the reading, which the command gives at most `late` ns after the last bit, compensated for
ESW_Pp_ASYM (Config.asymShift; the reading is already without the PHY's latency). -/
def State.stamp (s : State) (p : Nat) (f : EthFrame) (rx : Bool) (late ts : Nat) : Nat :=
  let point := s.lc - f.len * 8000 / s.portRate p
  let asym := signed 32 (s.rd (R.ESW_Pp_ASYM_ASYM p))
  let t := between (point - late - tsBound p) (point + tsBound p) ts
  if asym = 0 then t else ((t : Int) + Config.asymShift rx asym).toNat

/-- A frame received on a port (R219, R221, R237, R238): one in error or beyond 64 to 2,000 bytes is dropped; a gPTP message on
a port that runs gPTP is for QP0. -/
def State.ethReceive (s : State) (p : Nat) (f0 : EthFrame) : State :=
  if !s.isSet (R.ESW_Pp_CFG_EN p) || !s.isSet (R.ESW_Pp_STAT_LINK p) then s
  else
    let s0 := s.bump (R.ESW_Pp_RX_COUNT p)
    if f0.bad ∨ f0.len < 64 ∨ 2000 < f0.len then s0.bump (R.ESW_Pp_RXERR_COUNT p)
    else
      let f := { f0 with ts := s.stamp p f0 true 0 f0.ts }
      let vid := if f.tagged then f.vid.val else s.rd (R.ESW_Pp_CFG_PVID p)
      let pcp := if f.tagged then f.pcp.val else s.rd (R.ESW_Pp_CFG_DEFPCP p)
      let base : EthQd := { frame := f, tc := pcp, ingress := p }
      if f.etype.val = ptpType ∧ s.isSet (R.ESW_Pp_CFG_PTP_EN p) then
        (if s.isSet (R.ESW_QPk_CFG_EN 0) && s.isSet (R.ESW_Pp_CFG_EN 17) then s0.toHost 0 base else s0)
      else s0.ingress p vid pcp f base

/-! Transmission (R220, R224, R227, R239). -/

/-- TSQ registers as the queue stands (R239). -/
def State.tsqShow (s : State) (p : Nat) : State :=
  let q := (s.port p).tsq
  let h := q.head?.getD (0, 0, 0)
  (((s.wr (R.ESW_Pp_TSQ_STAT_COUNT p) q.length).wr (R.ESW_Pp_TSQ_ID_SEQID p) h.1).wr (R.ESW_Pp_TSQ_S_SEC p) h.2.1).wr (R.ESW_Pp_TSQ_NS_NS p) h.2.2

/-- A timestamp for a port's queue (R239). -/
def State.tsqPush (s : State) (p id ts : Nat) : State :=
  if (s.port p).tsq.length ≥ 4 then (s.wr (R.ESW_Pp_TSQ_STAT_OVF p) 1).ethEvent 162 p (leBytes 2 id)
  else (s.modPort p fun x => { x with tsq := x.tsq ++ [(id, ts / 1000000000 % 2 ^ 32, ts % 1000000000)] }).tsqShow p

def State.tsqDrop (s : State) (p : Nat) : State := (s.modPort p fun x => { x with tsq := x.tsq.tail }).tsqShow p

/-- A completion of a host transmission (R224). -/
def State.hostCpl (s : State) (q tag gen st ts : Nat) : State :=
  s.qPush (s.rd (R.QMG_QnCFG_CQ q)) (leBytes 2 0x23 ++ leBytes 2 tag ++ leBytes 2 gen ++ leBytes 2 st ++ leBytes 8 ts)

/-- The frame on the wire of a port, and its timestamp. -/
def State.sending (s : State) (p : Nat) : Option EthQd := (s.port p).current

/-- Delay of a timestamp queue entry after the frame's last bit, at most (R239). -/
def tsqLate : Nat := 1000

/-- ETH_TX_DONE: a transmission has ended; the port starts its next frame. -/
def State.txDone (s : State) (p ts : Nat) : State :=
  match s.sending p with
  | none => s
  | some q =>
    let t := s.stamp p q.frame false tsqLate ts
    let s1 := (s.modPort p fun x => { x with current := none }).bump (R.ESW_Pp_TX_COUNT p)
    let s2 := match q.tsId with | some id => s1.tsqPush p id t | none => s1
    let s3 := match q.cpl with
      | some (k, tag, gen) => (s2.hostCpl k tag gen stOk t).qSettle k
      | none => s2
    s3.txStart p

/-- HOST_TX_DESCRIPTOR: the head of a queue pair's transmit queue (R224). A frame for the database enters the switch at its host
port as any frame does; one with a directed egress port passes it by. DESIGN CHOICE. -/
def State.hostTx (s : State) (k : Nat) : State :=
  if !s.isSet (R.ESW_QPk_CFG_EN k) || !s.isSet (R.ESW_Pp_CFG_EN (17 + k / 8)) then s
  else
    let q := s.rd (R.ESW_QPk_CFG_TXQ k)
    let (s0, d) := s.qFront q
    match d with
    | none => s0
    | some d =>
      let s1 := s0.qTake q 1
      let addr := le d 8 5
      let len := le d 14 2
      let egr := nbits (le d 16 1) 4 0
      let fl := le d 17 1
      let tag := le d 2 2
      let gen := le d 4 2
      let owner := decide (k = 0) || (s.netOwner.isSome && s.qpOwner k == s.netOwner)
      let ts := nbit fl 3
      let hp := 17 + k / 8
      if le d 0 2 ≠ 0x20 ∨ len < 60 ∨ 1996 < len ∨ (16 < egr ∧ egr ≠ 0x1F) ∨ (ts ∧ owner ∧ egr = 0x1F) then
        s1.hostCpl q tag gen stRange 0
      else if !s.memAdmits (s.qpAttr k) addr len false then (s1.deny (s.qpAttr k) addr).hostCpl q tag gen stNotGranted 0
      else if !(s.poisonIn addr len).isEmpty then (s1.poisonReads (s.qpAttr k) addr len).hostCpl q tag gen stNotGranted 0
      else
        let f := ethParse (s.memRead addr len)
        let pcp := if f.tagged then f.pcp.val else nbits fl 2 0
        let s2 := (s1.bump (R.ESW_Pp_RX_COUNT hp)).when (ts && !owner) fun s => s.bump (R.ESW_QPk_TSIGN_COUNT k)
        let base : EthQd := { frame := f, tc := pcp, ingress := hp, tsId := if ts ∧ owner then some (le d 18 2) else none,
                              cpl := if nbit fl 4 then some (q, tag, gen) else none }
        if egr = 0x1F then
          let s3 := s2.ingress hp (if f.tagged then f.vid.val else s.rd (R.ESW_Pp_CFG_PVID hp)) pcp f { base with cpl := none }
          s3.when (nbit fl 4) fun s => s.hostCpl q tag gen stOk s.lc
        else s2.enqueue egr base

/-- HOST_RX_BUFFER_POST: a receive buffer posted (R225). -/
def State.rxPost (s : State) (k : Nat) : State :=
  if !s.isSet (R.ESW_QPk_CFG_EN k) then s
  else
    let q := s.rd (R.ESW_QPk_CFG_BUFQ k)
    let (s0, d) := s.qFront q
    match d with
    | none => s0
    | some d =>
      let s1 := s0.qTake q 1
      if le d 0 2 ≠ 0x22 then s1
      else (s1.modEth fun e => { e with posted := updAt e.posted k (· ++ [le d 8 5]) }).hostDrain k drainMax

/-- Buffers of a partition's queue pairs forgotten at its reset (R225). -/
def State.ethFence (s : State) (p : Nat) : State :=
  s.each ((List.range 32).filter fun k => s.qpOwner k = some p) fun s k =>
    s.modEth fun e => { e with posted := updAt e.posted k fun _ => [] }

/-- FDB_AGEING: a learned entry ages out (R219). -/
def State.fdbAge (s : State) (mac vid : Nat) : State :=
  s.modEth fun e => { e with fdb := e.fdb.filter fun x => x.fixed || !(x.mac = mac ∧ x.vid = vid) }

/-- A port that carries gPTP (R237): a running one with PTP_EN, but no MP and no host port. -/
def State.gptpPort (s : State) (p : Nat) : Bool :=
  s.isSet (R.ESW_Pp_CFG_EN p) && s.isSet (R.ESW_Pp_CFG_PTP_EN p) && s.isSet (R.ESW_Pp_STAT_LINK p) && decide (p < 14 ∨ p = 16)

/-- Domains whose port in SLAVE state is gone (R233). -/
def State.slaveGone (s : State) (p : Nat) : State :=
  s.each ((List.range 2).filter fun x => decide (s.rd (R.TMU_DOMx_STAT_ROLE x) = 1 ∧ (s.dom x).port = p)) fun s x =>
    (s.wr (R.TMU_DOMx_STAT_ROLE x) 0).domLost x

/-- PORT_LINK_CHANGE (R217). -/
def State.linkChange (s : State) (p : Nat) (up : Bool) (sqi : Nat) : State :=
  if !s.isSet (R.ESW_Pp_CFG_EN p) then s
  else
    let was := s.isSet (R.ESW_Pp_STAT_LINK p)
    let q := if up ∧ p ≠ 14 ∧ p ≠ 15 then sqi else 0
    let s1 := ((s.wrB (R.ESW_Pp_STAT_LINK p) up).wr (R.ESW_Pp_STAT_PHYST p) (if up then 2 else 1)).wr (R.ESW_Pp_STAT_SQI p) q
    if up && !was then (s1.ethEvent 160 p [BitVec.ofNat 8 q]).txStart p
    else if !up && was then (s1.ethEvent 161 p).slaveGone p
    else s1

/-- New active values of group 0x0500 + p (R241, R246): a port starts training, or stops and takes the class S values that
waited; a host port, which trains nothing, goes on. -/
def State.portPost (s : State) (p : Nat) (old : Nat → Word) : State :=
  let was := bitsOf (old (R.ESW_Pp_CFG p)) 31 31 = 1
  let en := s.isSet (R.ESW_Pp_CFG_EN p)
  if en && !was then (if p ≤ 16 then s.wr (R.ESW_Pp_STAT_PHYST p) 1 else s.portGo p)
  else if !en && was then
    let s1 := (if s.isSet (R.ESW_Pp_STAT_LINK p) then ((s.wr (R.ESW_Pp_STAT_LINK p) 0).ethEvent 161 p).slaveGone p else s)
    let s2 := (s1.wr (R.ESW_Pp_STAT_PHYST p) 0).wr (R.ESW_Pp_STAT_SQI p) 0
    let s3 := match (s.port p).waitS with
      | some (role, speed, id, cnt) =>
        (((s2.wr (R.ESW_Pp_CFG_ROLE p) role).wr (R.ESW_Pp_CFG_SPEED p) speed).wr (R.ESW_Pp_PLCA_ID p) id).wr (R.ESW_Pp_PLCA_CNT p) cnt
      | none => s2
    s3.modPort p fun x => { x with waitS := none }
  else s.when (was && !s.isSet (R.ESW_Pp_CFG_PTP_EN p)) fun s => s.slaveGone p

/-! gPTP (R237). -/

/-- One gPTP message of the Forester queued on ports; its body is a free value (Config.ptpBody). -/
def State.ptpFrame (s : State) (kind dom : Nat) (ports : List Nat) : State :=
  let seq := s.eth.ptpSeq
  let f : EthFrame := { dmac := 0x0180C200000E, etype := 0x88F7, len := 64, body := (Config.ptpBody kind dom seq).take 46 }
  (s.modEth fun e => { e with ptpSeq := (seq + 1) % 65536 }).each ports fun s p =>
    s.enqueue p { frame := f, tc := 0, ingress := 17, tsId := some seq }

/-- Ports on which the module is master in a domain: those that carry gPTP, its slave port aside. -/
def State.masterPorts (s : State) (x : Nat) : List Nat :=
  (List.range 17).filter fun p => s.gptpPort p && !(decide (s.rd (R.TMU_DOMx_STAT_ROLE x) = 1 ∧ (s.dom x).port = p))

/-- PTP_INTERVAL_EXPIRY (R237): Pdelay on every port that carries gPTP; for each domain Sync where the module is its
grandmaster, and Announce on the master ports where it takes part in the domain. -/
def State.ptpSend (s : State) (kind : PtpKind) : State :=
  match kind with
  | .pdelay => s.ptpFrame 2 0 ((List.range 17).filter fun p => s.gptpPort p)
  | .sync => s.each ((List.range 2).filter fun x => s.rd (R.TMU_DOMx_STAT_ROLE x) = 2) fun s x => s.ptpFrame 0 (s.domNumber x) (s.masterPorts x)
  | .announce => s.each ((List.range 2).filter fun x => s.rd (R.TMU_DOMx_STAT_ROLE x) ≠ 0) fun s x =>
      s.ptpFrame 1 (s.domNumber x) (s.masterPorts x)

/-- Whether a Sync of a domain can be accepted (R237): on a port that carries gPTP, and where the domain uses external port
configuration, on its configured slave port; the module's own as grandmaster only with a priority1 below 255. -/
def State.syncAdmits (s : State) (x : Nat) (i : SyncInfo) : Bool :=
  let c := s.ptpCfg x
  match i.role.val with
  | 0 => true
  | 1 => s.gptpPort i.port && (!c.ext || decide (c.slave = i.port.val))
  | _ => decide (c.prio < 255)

/-- SYNC_ACCEPTED: the time unit takes it, and the module, a time-aware bridge, forwards it on the domain's master ports. -/
def State.syncIn (s : State) (x : Nat) (i : SyncInfo) : State :=
  if !s.syncAdmits x i then s
  else
    let s1 := (s.modDom x fun d => { d with port := i.port }).syncAccepted x i
    s1.when (decide (i.role.val = 1)) fun s => s.ptpFrame 0 (s.domNumber x) (s.masterPorts x)

/-- A port at a boundary: the mark of ETH_DROP ends, and the run of boundaries with SQI below 3 on a link that is up goes on
or ends (R247). Ports 14, 15 and the host ports measure no SQI. -/
def State.portBoundary (s : State) (p : Nat) : State :=
  let low := s.isSet (R.ESW_Pp_STAT_LINK p) && decide (s.rd (R.ESW_Pp_STAT_SQI p) < 3 ∧ (p < 14 ∨ p = 16))
  (s.modPort p fun x => { x with dropRaised := false, sqiRun := if low then x.sqiRun + 1 else 0, sqiTold := low && x.sqiTold }).gclBoundary p

/-- The marks and lists of the switch at a boundary; what a gate now lets out goes on. -/
def State.ethBoundary (s : State) : State :=
  let s1 := s.modEth fun e => { e with stallRaised := false }
  ((s1.each (List.range 21) fun s p => s.portBoundary p).qciBoundary).each (List.range 21) fun s p => s.portGo p

/-- SQI_LOW_COUNT (R247): SQI, as PORT_LINK_CHANGE last gave it, has been below 3 at 8 boundaries in a row, told once a run. -/
def State.sqiLow (s : State) (p : Nat) (sqi : Nat) : State :=
  let s1 := s.when (s.isSet (R.ESW_Pp_STAT_LINK p) && decide (p < 14 ∨ p = 16)) fun s => s.wr (R.ESW_Pp_STAT_SQI p) sqi
  if (s.port p).sqiRun < 8 ∨ (s.port p).sqiTold ∨ 3 ≤ sqi then s1
  else (s1.modPort p fun x => { x with sqiTold := true }).ethEvent 166 p [BitVec.ofNat 8 sqi]

/-- QUEUE_CONS_WRITE: the consumer's advance, and what waited for the room. -/
def State.consGo (s : State) (a : Attr) (n v : Nat) : State := (s.consWrite a n v).ringRoom n

def execEthFrameReceived (p : Fin 21) (f : EthFrame) (s : State) : Out := s.finish (s.ethReceive p f)
def execEthTxDone (p : Fin 21) (ts : Nat) (s : State) : Out := s.finish (s.txDone p ts)
def execGateEntryChange (p : Fin 21) (s : State) : Out := s.finish ((s.gateNext p).portGo p)
def execPortLinkChange (p : Fin 17) (up : Bool) (sqi : Fin 8) (s : State) : Out := s.finish (s.linkChange p up sqi)
def execHostTxDescriptor (k : Fin 32) (s : State) : Out := s.finish (s.hostTx k)
def execHostRxBufferPost (k : Fin 32) (s : State) : Out := s.finish (s.rxPost k)
def execTsqPop (a : Attr) (p : Fin 21) (s : State) : Out :=
  s.finish (s.access a (R.ESW_Pp_TSQ_POP p) true fun s => s.tsqDrop p)
def execFdbAgeing (mac : Nat) (vid : Nat) (s : State) : Out := s.finish (s.fdbAge mac vid)
def execSqiLowCount (p : Fin 17) (sqi : Fin 8) (s : State) : Out :=
  s.finish (s.sqiLow p sqi)
def execSyncAccepted (x : Fin 2) (info : SyncInfo) (s : State) : Out := s.finish (s.syncIn x info)
def execQueueConsWrite (a : Attr) (q : Fin 64) (v : Nat) (s : State) : Out := s.finish (s.consGo a q v)
def execPtpIntervalExpiry (kind : PtpKind) (s : State) : Out := s.finish (s.ptpSend kind)

end Sys2Proof.Machine
end

