-- ==== Sys2Proof/Machine/EthCmd.lean ====
section
/-! DEFINITION. The rules of the commit groups of block 0x05 (R243), the staged tables, and the commands 0x05xx (R245, R246). -/

namespace Sys2Proof.Machine

/-- A port mask names only ports 0 to 20 (R243). -/
def maskOk (m : Nat) : Bool := decide (m < 2 ^ 21)
def vidOk (v : Nat) : Bool := decide (1 ≤ v ∧ v ≤ 4094)

/-- The rules of a gate list of group 0x0520 + p (R243): the number of the first that fails. -/
def gclRules (g : GateList) (maxLen : Nat) : Option Nat :=
  firstFail
    [(1, [1, 2, 4, 5, 8, 10, 20, 40].contains g.k && decide (1 ≤ g.entries.length ∧ g.entries.length ≤ maxLen)),
     (2, (g.entries.all fun e => decide (200 ≤ e.2)) && decide (g.entries.foldl (fun a e => a + e.2) 0 = g.k * 250000))]

/-- The gate list that a view of the registers holds for a port. -/
def viewList (v : View) (p : Nat) : GateList :=
  { en := vw v (R.ESW_Pp_GCL_CFG_EN p) = 1, k := vw v (R.ESW_Pp_GCL_CFG_K p),
    entries := (List.range (vw v (R.ESW_Pp_GCL_CFG_LEN p))).map fun e =>
      (vw v (R.ESW_Pp_GCLe_G_GATES p e), vw v (R.ESW_Pp_GCLe_T_T p e)) }

/-- The gate list of a payload from an offset: EN, K, LEN, then 8-byte entries (R245). -/
def payloadList (b : List Byte) (off ent : Nat) : GateList :=
  { en := nbit (le b off 1) 0, k := le b (off + 1) 1,
    entries := (List.range (le b (off + 2) 1)).map fun e => (le b (ent + 8 * e) 1, le b (ent + 4 + 8 * e) 4) }

/-- The rules of group 0x0500 + p (R243). -/
def portRules (v : View) (p : Nat) : Option Nat :=
  let id := vw v (R.ESW_Pp_PLCA_ID p)
  let cnt := vw v (R.ESW_Pp_PLCA_CNT p)
  let asym := signed 32 (vw v (R.ESW_Pp_ASYM_ASYM p))
  let mp := p = 14 ∨ p = 15
  firstFail
    [(1, (decide (p ≤ 1) || decide (vw v (R.ESW_Pp_CFG_SPEED p) = 0)) && decide (vw v (R.ESW_Pp_CFG_ROLE p) ≤ 1)),
     (2, !mp || ((decide (id = 0xFF) || decide (id < cnt ∧ cnt ≤ 8)) && decide (vw v (R.ESW_Pp_CFG_PTP_EN p) = 0))),
     (3, vidOk (vw v (R.ESW_Pp_CFG_PVID p)) && decide (-1000 ≤ asym ∧ asym ≤ 1000))]

/-- A filter of an ETH_QCI_SET payload. -/
def qciFilterOf (b : List Byte) : QciFilter :=
  { mac := beVal ((b.drop 4).take 6), vid := le b 10 2, bySrc := nbit (le b 12 1) 0, blockOver := nbit (le b 12 1) 1,
    gate := le b 13 1, meter := le b 14 1, maxSdu := le b 16 2 }

/-- One staged table entry (opcode and payload) written into the tables (R246). A meter's buckets begin full. -/
def Eth.stageIn (e : Eth) (now : Nat) (x : Nat × List Byte) : Eth :=
  let b := x.2
  if x.1 = 0x0520 then
    let mac := beVal (b.take 6)
    let vid := le b 6 2
    let rest := e.fdb.filter fun d => !(d.mac == mac && d.vid == vid && (d.fixed || !nbit (le b 11 1) 0))
    { e with fdb := if nbit (le b 11 1) 0 then rest else rest ++ [⟨mac, vid, le b 8 3, true⟩] }
  else if x.1 = 0x0521 then
    let rest := e.vlans.filter fun d => d.vid ≠ le b 0 2
    { e with vlans := if nbit (le b 12 1) 0 then rest else rest ++ [⟨le b 0 2, le b 2 3, le b 5 3, le b 8 4⟩] }
  else
    let i := le b 1 1
    match le b 0 1 with
    | 0 => { e with filters := sput e.filters i (qciFilterOf b) }
    | 1 => { e with gates := sput e.gates i { sget (fun _ => ({} : QciGate)) e.gates i with admin := some (payloadList b 4 7) } }
    | 2 => { e with meters := sput e.meters i ⟨le b 4 4, le b 8 4, le b 12 4, le b 16 4, le b 12 4 * 8000000, le b 16 4 * 8000000, now⟩ }
    | _ => { e with filters := e.filters.map fun f => if f.1 = i then (i, { f.2 with blocked := false }) else f }

/-- Staged entries applied in order. -/
def State.applyTab (s : State) (tab : List (Nat × List Byte)) : State :=
  s.modEth fun e => tab.foldl (fun e x => e.stageIn s.now x) e

/-- What one staged entry must meet under rules 1 and 2 of group 0x0560 (R243). The gates are 64 and the meters 128 (R229). -/
def tabEntryRules (x : Nat × List Byte) : Option Nat :=
  let b := x.2
  if x.1 = 0x0520 then firstFail [(1, vidOk (le b 6 2) && maskOk (le b 8 3))]
  else if x.1 = 0x0521 then firstFail [(1, vidOk (le b 0 2) && maskOk (le b 2 3) && maskOk (le b 5 3))]
  else match le b 0 1 with
    | 0 => firstFail [(1, vidOk (le b 10 2)), (2, (decide (le b 13 1 < 64) || decide (le b 13 1 = 0xFF)) && (decide (le b 14 1 < 128) || decide (le b 14 1 = 0xFF)))]
    | 1 => (gclRules (payloadList b 4 7) 32).map fun _ => 2
    | _ => none

/-- The rules of group 0x0560 over staged entries: the least that fails. -/
def State.tabRules (s : State) (tab : List (Nat × List Byte)) : Option Nat :=
  let fails := tab.filterMap tabEntryRules
  if fails.contains 1 then some 1
  else if fails.contains 2 then some 2
  else if 4096 < (((s.applyTab tab).eth.fdb).filter fun d => d.fixed).length then some 3
  else none

/-- The first rule of a group of block 0x05 that fails over a view and staged entries (R243). -/
def State.ethRule (s : State) (v : View) (tab : List (Nat × List Byte)) (g : Nat) : Option Nat :=
  if 0x0500 ≤ g ∧ g < 0x0515 then portRules v (g - 0x0500)
  else if 0x0520 ≤ g ∧ g < 0x0535 then gclRules (viewList v (g - 0x0520)) 64
  else if g = 0x0560 then s.tabRules tab
  else none

/-- Commands that only the network owner may send (R245, R246). -/
def netOnly (s : State) (c : Ctx) : Option Nat := if c.owns s.netOwner then none else some 0xFFFE

/-- The staging of one table entry and its COMMIT. -/
def State.tabBasic (s : State) (c : Ctx) (n : Nat) (offs : Nat → Nat) : Reply :=
  let e := (c.opcode, padTo n c.payload)
  match s.tabRules [e] with
  | some r => Reply.range s (offs r)
  | none =>
    match s.stagedConflict [0x0560] with
    | some g => Reply.err s stConflict g
    | none => Reply.ok ((s.onStagedTab (· ++ [e])).acceptCommit c.mbx [0x0560])

/-- ETH_PORT_CFG (0x0501, R246): class S values are written at once on a stopped port, wait for the stop with EN = 0, and are
a CONFLICT with EN = 1 on a running one; PLCA, which is of the same class, is treated alike. -/
def opEthPortCfg : OpSpec where
  opcode := 0x0501
  classes := [clNormal]
  bits := fun _ i => if i = 2 then 0x03 else if i = 3 ∨ i ≥ 12 then 0 else 0xFF
  requester := netOnly
  need := fun _ => 12
  body := fun c s =>
    let p := c.arg 0 1
    let b := c.arg 1 1
    if p > 20 then Reply.range s 0
    else if p ≤ 1 ∧ c.arg 2 1 = 3 then Reply.range s 2
    else
      let en := nbits b 0 0
      let mp : Bool := p = 14 ∨ p = 15
      let sv : List (Fld × Nat) := [(R.ESW_Pp_CFG_ROLE p, nbits b 7 6), (R.ESW_Pp_CFG_SPEED p, c.arg 2 1)] ++
        (if mp then [(R.ESW_Pp_PLCA_ID p, c.arg 6 1), (R.ESW_Pp_PLCA_CNT p, c.arg 7 1)] else [])
      let fv : List (Fld × Nat) := [(R.ESW_Pp_CFG_EN p, en), (R.ESW_Pp_CFG_PTP_EN p, nbits b 1 1), (R.ESW_Pp_CFG_ACC_TAGGED p, nbits b 2 2),
        (R.ESW_Pp_CFG_DEFPCP p, nbits b 5 3), (R.ESW_Pp_CFG_PVID p, c.arg 4 2), (R.ESW_Pp_ASYM_ASYM p, c.arg 8 4)]
      match portRules (s.viewWith (sv ++ fv)) p with
      | some r => Reply.range s ([0, 2, 6, 4].getD r 0)
      | none =>
        if c.arg 4 2 > 4095 then Reply.range s 4
        else if s.isSet (R.ESW_Pp_CFG_EN p) && en = 1 && sv.any fun x => s.rd x.1 ≠ x.2 then Reply.err s stConflict (0x0500 + p)
        else if s.isSet (R.ESW_Pp_CFG_EN p) && en = 0 then
          (s.modPort p fun x => { x with waitS := some (nbits b 7 6, c.arg 2 1,
            if mp then c.arg 6 1 else s.rd (R.ESW_Pp_PLCA_ID p), if mp then c.arg 7 1 else s.rd (R.ESW_Pp_PLCA_CNT p)) }).basic c fv [0x0500 + p]
        else
          let s1 := if s.isSet (R.ESW_Pp_CFG_EN p) then s else sv.foldl (fun (s : State) x => s.wr x.1 x.2) s
          s1.basic c fv [0x0500 + p]

/-- ETH_PORT_GET (0x0502). -/
def opEthPortGet : OpSpec where
  opcode := 0x0502
  classes := [clRt, clNormal]
  bits := allBits 1
  need := fun _ => 1
  body := fun c s =>
    let p := c.arg 0 1
    if p > 20 then Reply.range s 0
    else Reply.ok s (([R.ESW_Pp_STAT p, R.ESW_Pp_RX p, R.ESW_Pp_TX p, R.ESW_Pp_DROP p, R.ESW_Pp_RXERR p, R.ESW_Pp_QCIDROP p,
      R.ESW_Pp_TSQ_STAT p]).flatMap fun a => leBytes 4 (s.raw a).toNat)

/-- Meaningful bits of a list payload: EN, K, LEN at an offset, entries from another. -/
def listBits (off ent : Nat) (p : List Byte) (i : Nat) : Nat :=
  if i = off then 1 else if i = off + 1 ∨ i = off + 2 then 0xFF
  else if ent ≤ i ∧ i < ent + 8 * le p (off + 2) 1 ∧ ¬ (1 ≤ (i - ent) % 8 ∧ (i - ent) % 8 ≤ 3) then 0xFF
  else 0

/-- ETH_GCL_SET (0x0510). -/
def opEthGclSet : OpSpec where
  opcode := 0x0510
  classes := [clNormal]
  bits := fun b i => if i = 0 then 0xFF else listBits 1 4 b i
  requester := netOnly
  need := fun p => 4 + 8 * min 64 (le p 3 1)
  body := fun c s =>
    let p := c.arg 0 1
    let g := payloadList c.payload 1 4
    if p > 20 then Reply.range s 0
    else match gclRules g 64 with
    | some r => Reply.range s (if r = 1 then 2 else 8)
    | none =>
      let vals : List (Fld × Nat) := [(R.ESW_Pp_GCL_CFG_EN p, b2n g.en), (R.ESW_Pp_GCL_CFG_K p, g.k), (R.ESW_Pp_GCL_CFG_LEN p, g.entries.length)] ++
        g.entries.zipIdx.flatMap fun x => [(R.ESW_Pp_GCLe_G_GATES p x.2, x.1.1), (R.ESW_Pp_GCLe_T_T p x.2, x.1.2)]
      s.basic c vals [0x0520 + p]

/-- A list in the form of the ETH_GCL_SET payload. -/
def listBytes (p : Nat) (g : GateList) : List Byte :=
  leBytes 1 p ++ leBytes 1 (b2n g.en) ++ leBytes 1 g.k ++ leBytes 1 g.entries.length ++
    g.entries.flatMap fun e => leBytes 1 e.1 ++ [0, 0, 0] ++ leBytes 4 e.2

/-- ETH_GCL_GET (0x0511). -/
def opEthGclGet : OpSpec where
  opcode := 0x0511
  classes := [clNormal]
  bits := allBits 2
  need := fun _ => 2
  body := fun c s =>
    let p := c.arg 0 1
    if p > 20 then Reply.range s 0
    else if c.arg 1 1 > 1 then Reply.range s 1
    else Reply.ok s (listBytes p (if c.arg 1 1 = 0 then s.adminList p else (s.port p).oper))

/-- ETH_FDB_SET (0x0520). -/
def opEthFdbSet : OpSpec where
  opcode := 0x0520
  classes := [clNormal]
  bits := fun _ i => if i < 11 then 0xFF else if i = 11 then 1 else 0
  requester := netOnly
  need := fun _ => 12
  body := fun c s => s.tabBasic c 12 fun r => if r = 1 then 6 else 0

/-- ETH_VLAN_SET (0x0521). -/
def opEthVlanSet : OpSpec where
  opcode := 0x0521
  classes := [clNormal]
  bits := fun _ i => if i < 12 then 0xFF else if i = 12 then 1 else 0
  requester := netOnly
  need := fun _ => 13
  body := fun c s => s.tabBasic c 13 fun _ => 0

/-- ETH_QCI_SET (0x0530). A gate's list stands after the four common bytes: EN, K, LEN in bytes 4 to 6, entries from byte 7.
DEDUCED. -/
def opEthQciSet : OpSpec where
  opcode := 0x0530
  classes := [clNormal]
  bits := fun b i =>
    if i = 0 then 0xFF
    else match le b 0 1 with
    | 0 => if i = 1 ∨ (4 ≤ i ∧ i < 12) ∨ i = 13 ∨ i = 14 ∨ i = 16 ∨ i = 17 then 0xFF else if i = 12 then 3 else 0
    | 1 => if i = 1 then 0xFF else listBits 4 7 b i
    | 2 => if i = 1 ∨ (4 ≤ i ∧ i < 20) then 0xFF else 0
    | _ => if i = 1 then 0xFF else 0
  requester := netOnly
  need := fun b => match le b 0 1 with
    | 0 => 18
    | 1 => 7 + 8 * min 32 (le b 6 1)
    | 2 => 20
    | _ => 2
  body := fun c s =>
    if c.arg 0 1 > 3 then Reply.range s 0
    else if (c.arg 0 1 = 1 ∧ c.arg 1 1 > 63) ∨ (c.arg 0 1 = 2 ∧ c.arg 1 1 > 127) then Reply.range s 1
    else s.tabBasic c (7 + 8 * 32) fun r => if c.arg 0 1 = 0 then (if r = 1 then 10 else 13) else if c.arg 0 1 = 1 then 5 else 0

/-- ETH_QP_GET (0x0540). -/
def opEthQpGet : OpSpec where
  opcode := 0x0540
  classes := [clRt, clNormal]
  bits := allBits 1
  need := fun _ => 1
  body := fun c s =>
    let k := c.arg 0 1
    if k > 31 then Reply.range s 0
    else Reply.ok s (([R.ESW_QPk_CFG k, R.ESW_QPk_MAC_LO k, R.ESW_QPk_MAC_HI k, R.ESW_QPk_TSIGN k]).flatMap fun a => leBytes 4 (s.raw a).toNat)

/-- ETH_TS_READ (0x0541, R246): pops what it returns and clears OVF. -/
def opEthTsRead : OpSpec where
  opcode := 0x0541
  classes := [clRt]
  bits := allBits 1
  requester := netOnly
  need := fun _ => 1
  body := fun c s =>
    let p := c.arg 0 1
    if p > 16 then Reply.range s 0
    else
      let q := (s.port p).tsq
      let ovf := s.rd (R.ESW_Pp_TSQ_STAT_OVF p)
      let s1 := ((s.modPort p fun x => { x with tsq := [] }).tsqShow p).wr (R.ESW_Pp_TSQ_STAT_OVF p) 0
      Reply.ok s1 (leBytes 1 q.length ++ leBytes 1 ovf ++ [0, 0] ++
        q.flatMap fun e => leBytes 2 e.1 ++ [0, 0] ++ leBytes 4 e.2.1 ++ leBytes 4 e.2.2)

/-- Domain time as TIME_GET returns it: 0 while the domain is invalid (R246). -/
def State.domNow (s : State) (x : Nat) : Nat := if s.domValid x then unsigned 64 (s.domTime x s.lc) else 0

/-- TIME_GET (0x0550). -/
def opTimeGet : OpSpec where
  opcode := 0x0550
  classes := [clRt, clNormal]
  bits := allBits 0
  need := fun _ => 0
  body := fun _ s =>
    let flags := s.rd R.FRM_STAT_ALIGNED + 2 * b2n (s.domValid 0) + 4 * b2n (s.domValid 1) + 8 * s.rd R.TMU_STAT_STEPPED + 16 * s.rd R.TMU_STAT_HOLDOVER
    Reply.ok s (leBytes 8 s.lc ++ leBytes 1 (s.rd R.TMU_STAT_FOLLOW) ++ leBytes 1 flags ++ leBytes 1 (s.rd R.FRM_STAT_SLOT) ++
      leBytes 1 (s.rd R.TMU_STAT_TOFS) ++ leBytes 8 (s.domNow 0) ++ leBytes 8 (s.domNow 1) ++ leBytes 4 s.frame ++ leBytes 4 (s.rd R.FRM_OFS_OFS))

/-- TIME_DOM_GET (0x0551): the page from one latch; for A–B, TMU_AB's registers and zeros to the page's length. -/
def opTimeDomGet : OpSpec where
  opcode := 0x0551
  classes := [clRt, clNormal]
  bits := allBits 1
  need := fun _ => 1
  body := fun c s =>
    let x := c.arg 0 1
    if x > 2 then Reply.range s 0
    else if x = 2 then
      Reply.ok s (padTo 36 (([R.TMU_AB_OFS_LO, R.TMU_AB_OFS_HI, R.TMU_AB_RATE, R.TMU_AB_STAT]).flatMap fun a => leBytes 4 (s.raw a).toNat))
    else
      let t := s.domLatch x
      Reply.ok t ((List.range 9).flatMap fun i => leBytes 4 (t.raw (R.TMU_DOMx_STAT x + 4 * i)).toNat)

def execEthPortCfg (m : Fin 17) (fate : Fate) (s : State) : Out := s.finish (s.runRow opEthPortCfg m fate)
def execEthPortGet (m : Fin 17) (fate : Fate) (s : State) : Out := s.finish (s.runRow opEthPortGet m fate)
def execEthGclSet (m : Fin 17) (fate : Fate) (s : State) : Out := s.finish (s.runRow opEthGclSet m fate)
def execEthGclGet (m : Fin 17) (fate : Fate) (s : State) : Out := s.finish (s.runRow opEthGclGet m fate)
def execEthFdbSet (m : Fin 17) (fate : Fate) (s : State) : Out := s.finish (s.runRow opEthFdbSet m fate)
def execEthVlanSet (m : Fin 17) (fate : Fate) (s : State) : Out := s.finish (s.runRow opEthVlanSet m fate)
def execEthQciSet (m : Fin 17) (fate : Fate) (s : State) : Out := s.finish (s.runRow opEthQciSet m fate)
def execEthQpGet (m : Fin 17) (fate : Fate) (s : State) : Out := s.finish (s.runRow opEthQpGet m fate)
def execEthTsRead (m : Fin 17) (fate : Fate) (s : State) : Out := s.finish (s.runRow opEthTsRead m fate)
def execTimeGet (m : Fin 17) (fate : Fate) (s : State) : Out := s.finish (s.runRow opTimeGet m fate)
def execTimeDomGet (m : Fin 17) (fate : Fate) (s : State) : Out := s.finish (s.runRow opTimeDomGet m fate)

end Sys2Proof.Machine
end

