-- ==== Sys2Proof/Machine/Landing.lean ====
section
/-! DEFINITION. The Landing gateway (R248-R263, R388): routes, scaling, value slots, emissions, containers. -/

namespace Sys2Proof.Machine

def State.modLgw (s : State) (f : Lgw → Lgw) : State := s.onLgw f

/-- Addresses of route entries (R248). -/
def routeBase : Nat := R.LGW_ROUTE 0 0
def isRouteWord0 (a : Nat) : Bool := decide (routeBase ≤ a ∧ a < routeBase + 16384 * 32) && decide ((a - routeBase) % 32 = 0)

def isRouteAddr (a : Nat) : Bool := decide (routeBase ≤ a ∧ a < routeBase + 16384 * 32)

/-- Route indices whose first word a list of register words names. -/
def routesIn (l : List (Nat × Word)) : List Nat :=
  l.filterMap fun e => if isRouteWord0 e.1 then some ((e.1 - routeBase) / 32) else none

/-- The bytes of a route entry in a view of the registers. -/
def routeBytes (v : Nat → Word) (r : Nat) : List Byte := (List.range 8).flatMap fun k => leBytes 4 (v (R.LGW_ROUTE r k)).toNat

/-- Kinds of a route (R250). -/
def kSignal : Nat := 1
def kFrame : Nat := 2
def kEmit : Nat := 3
def kCont : Nat := 4

/-- A route entry read (R250). -/
structure Route where
  kind : Nat
  en : Bool
  notify : Bool
  keepId : Bool
  src : Nat
  ssign : Bool
  sbe : Bool
  dsign : Bool
  unit : Nat
  qual : Nat
  key : Word
  mask : Word
  spos : Nat
  slen : Nat
  dpos : Nat
  dlen : Nat
  mul : Int
  sh : Nat
  add : Int
  timeout : Nat
  emitter : Nat
  subst : Nat
  dest : Nat
  fdf : Bool
  brs : Bool
  len : Nat
  period : Nat
  phase : Nat
  offset : Nat

def routeOf (b : List Byte) : Route where
  kind := le b 0 1 % 8
  en := nbit (le b 0 1) 3
  notify := nbit (le b 0 1) 4
  keepId := nbit (le b 0 1) 5
  src := le b 1 1 % 8
  ssign := nbit (le b 1 1) 3
  sbe := nbit (le b 1 1) 4
  dsign := nbit (le b 1 1) 5
  unit := le b 2 1
  qual := le b 3 1
  key := BitVec.ofNat 32 (le b 4 4)
  mask := BitVec.ofNat 32 (le b 8 4)
  spos := nbits (le b 12 2) 8 0
  slen := nbits (le b 12 2) 13 9 + 1
  dpos := nbits (le b 14 2) 8 0
  dlen := nbits (le b 14 2) 13 9 + 1
  mul := signed 16 (le b 16 2)
  sh := nbits (le b 18 1) 4 0
  add := signed 32 (le b 20 4)
  timeout := le b 24 2
  emitter := le b 26 1
  subst := le b 28 4
  dest := le b 1 1 % 2
  fdf := nbit (le b 1 1) 1
  brs := nbit (le b 1 1) 2
  len := le b 3 1
  period := nbits (le b 8 4) 11 0
  phase := nbits (le b 8 4) 27 16
  offset := nbits (le b 12 2) 11 0

def routeIn (v : Nat → Word) (r : Nat) : Route := routeOf (routeBytes v r)
def State.route (s : State) (r : Nat) : Route := routeIn s.raw r

/-- Enabled routes among candidates, in ascending order. -/
def liveIn (v : Nat → Word) (cand : List Nat) : List Nat := cand.filter fun r => (v (R.LGW_ROUTE r 0)).getLsbD 3

/-- Enabled routes of the machine. -/
def State.live (s : State) : List Nat := liveIn s.raw (routesIn s.regs)

/-- Enabled routes that a condition picks. -/
def State.liveWhere (s : State) (p : Route → Bool) : List Nat := s.live.filter fun r => p (s.route r)

/-- The emitter that a route feeds, as a route index (R250). -/
def feeds (r : Nat) (x : Route) : Option Nat := if x.emitter = 0xFF then none else some (r / 256 * 256 + x.emitter)

/-- Routes among candidates that feed an emitter. -/
def feedersIn (v : Nat → Word) (cand : List Nat) (e : Nat) : List Nat :=
  cand.filter fun r => r / 256 = e / 256 && (let x := routeIn v r
    decide (x.kind = kSignal ∨ x.kind = kFrame) && feeds r x == some e)

def State.feeders (s : State) (e : Nat) : List Nat := feedersIn s.raw s.live e

def State.rt (s : State) (r : Nat) : LgwRt := sget (fun _ => {}) s.lgw.rts r
def State.modRt (s : State) (r : Nat) (f : LgwRt → LgwRt) : State :=
  s.modLgw fun l => { l with rts := sput l.rts r (f (sget (fun _ => {}) l.rts r)) }

/-! Slots (R254). -/

def slotFlag (r bit : Nat) : Fld := ⟨R.LGW_SLOT r 3, bit, bit⟩
def slotValid (r : Nat) : Fld := slotFlag r 16
def slotStale (r : Nat) : Fld := slotFlag r 17
def slotSat (r : Nat) : Fld := slotFlag r 18
def slotLate (r : Nat) : Fld := slotFlag r 20
def slotDrop (r : Nat) : Fld := slotFlag r 21
def slotCount (r : Nat) : Fld := ⟨R.LGW_SLOT r 3, 15, 0⟩

/-- A Landing event of a route (R278): the block owner's. -/
def State.lgwEvent (s : State) (r e : Nat) (rest : List Byte := []) : State :=
  let o := s.blkOwner (r / 256)
  s.raise e (if o = some forester then .sys else ownerOf o) (leBytes 2 r ++ rest)

/-- The SYSTEM partitions receive what no partition owns. A misfit counted, with LGW_MISFIT once per frame and route. -/
def State.misfit (s : State) (r len : Nat) : State :=
  let s1 := s.bump R.LGW_CNT_MISFIT_COUNT
  if r ∈ s.lgw.misRaised then s1
  else (s1.modLgw fun l => { l with misRaised := r :: l.misRaised }).lgwEvent r 228 [BitVec.ofNat 8 len]

/-! Fields (R252, R257). -/

/-- Bit numbers of a field, least significant first: upward from the least significant bit, or downward from the most
significant bit within the byte and on at bit 7 of the next byte. -/
def fieldBits (sbe : Bool) (pos len : Nat) : List Nat :=
  if sbe then ((List.range len).map fun i =>
    let k := (7 - pos % 8) + i
    (pos / 8 + k / 8) * 8 + (7 - k % 8)).reverse
  else (List.range len).map (pos + ·)

/-- The value of the bits of a byte string at bit numbers, least significant first. -/
def bitsValue (data : List Byte) : List Nat → Nat
  | [] => 0
  | i :: t => b2n (bitAt data i) + 2 * bitsValue data t

/-- A bit of a byte string written. -/
def setBit (data : List Byte) (i : Nat) (b : Bool) : List Byte :=
  updAt data (i / 8) fun x => if b then x ||| BitVec.ofNat 8 (2 ^ (i % 8)) else x &&& ~~~ (BitVec.ofNat 8 (2 ^ (i % 8)))

/-- A value written at bit numbers, least significant first. -/
def putBits (data : List Byte) (v : Nat) (bits : List Nat) : List Byte :=
  (bits.zipIdx).foldl (fun d x => setBit d x.1 (nbit v x.2)) data

/-- The result of a SIGNAL route (R253): the unclamped value, the stored value, SAT. -/
def scale (x : Route) (raw : Nat) : Int × Int × Bool :=
  let f : Int := if x.ssign then signed x.slen raw else raw
  let y := f * x.mul / (2 ^ x.sh : Nat) + x.add
  let lo : Int := if x.dsign then -(2 ^ (x.dlen - 1) : Nat) else 0
  let hi : Int := if x.dsign then (2 ^ (x.dlen - 1) : Nat) - 1 else (2 ^ x.dlen : Nat) - 1
  (y, clampInt lo hi y, decide (y < lo ∨ hi < y))

/-! Updates (R253-R255). -/

/-- The notify descriptor of an update (R255), written with RQC 2 and the block owner's PID into a queue of ENGINE 0x30,
DIR 1 and the block owner. -/
def State.notify (s : State) (r : Nat) : State :=
  let q := s.rd (R.LGW_BLKb_NQ (r / 256))
  let own := s.blkOwner (r / 256)
  if s.rd (R.QMG_QnCFG_ENGINE q) = 0x30 ∧ s.isSet (R.QMG_QnCFG_DIR q) ∧ s.queueOwner q = own.filter (· < 16) then
    let d := leBytes 2 0x30 ++ leBytes 2 0 ++ leBytes 2 (s.qGen q) ++ leBytes 2 0 ++ leBytes 2 r ++ [0, 0] ++
      (List.range 3).flatMap fun k => leBytes 4 (s.raw (R.LGW_SLOT r k)).toNat
    s.qPush q d
  else s

/-- What every update of a slot does after VALUE and RAW are set. -/
def State.slotUpdated (s : State) (r : Nat) (x : Route) : State :=
  let was := s.isSet (slotStale r)
  let s1 := ((((s.setRaw (R.LGW_SLOT r 2) (s.raw R.FRM_NUM_LO)).count (slotCount r)).wr (slotValid r) 1).wr (slotStale r) 0).modRt r
    fun t => { t with upd := s.frame64 }
  let s2 := s1.when was fun s => s.lgwEvent r 225 (leBytes 4 (s.raw (R.LGW_SLOT r 0)).toNat)
  let s3 := match feeds r x with
    | some e => s2.modLgw fun l => { l with due := e :: l.due.filter (· ≠ e) }
    | none => s2
  s3.when x.notify fun s => s.notify r

/-- A SIGNAL route executes (R252, R253). -/
def State.signalExec (s : State) (r : Nat) (x : Route) (data : List Byte) : State :=
  let bits := fieldBits x.sbe x.spos x.slen
  if bits.any fun i => 8 * data.length ≤ i then s.misfit r data.length
  else
    let raw := bitsValue data bits
    let (y, v, sat) := scale x raw
    let was := s.isSet (slotSat r)
    let s1 := ((s.setRaw (R.LGW_SLOT r 0) (BitVec.ofInt 32 v)).setRaw (R.LGW_SLOT r 1)
      (BitVec.ofInt 32 (if x.ssign then signed x.slen raw else raw))).wrB (slotSat r) sat
    let s2 := s1.slotUpdated r x
    if sat && !was then s2.lgwEvent r 226 (leBytes 8 (unsigned 64 y)) else s2

/-- A FRAME route executes: the last frame kept (R254, R257). -/
def State.frameExec (s : State) (r : Nat) (x : Route) (w0 : Word) (data : List Byte) : State :=
  let s1 := ((s.setRaw (R.LGW_SLOT r 0) (BitVec.ofNat 32 (le data 0 4))).setRaw (R.LGW_SLOT r 1) w0).modRt r
    fun t => { t with frame := some (w0, data) }
  s1.slotUpdated r x

/-! Emissions (R256-R258). -/

/-- Whether an EMIT route is due in the current frame (R256). -/
def State.emitDue (s : State) (r : Nat) (x : Route) : Bool :=
  let slot := s.rd R.FRM_STAT_SLOT
  if x.period = 0 then s.lgw.due.contains r
  else if x.period ≤ 40 then decide (slot % x.period = x.phase)
  else decide (slot = x.phase) && decide ((s.lgw.turns - (s.rt r).turn) % (x.period / 40) = 0)

/-- The content of an emission (R257): W0, data, whether a stale route is packed; none where nothing is sent. -/
inductive Content where
  | none
  | misfit (route len : Nat)
  | some (w0 : Word) (data : List Byte) (stale : Bool)

/-- The image of an EMIT route (R250). -/
def imageOf (v : Nat → Word) (r : Nat) : List Byte :=
  (routeBytes v r).drop 16 ++ (routeBytes v (r + 1)).drop 1 ++ ((routeBytes v (r + 2)).drop 1).take 17

/-- The content of an emitter at its build instant. The silence of R385 keeps an emitter from building until its routes
have been updated. -/
def State.compose (s : State) (r : Nat) (x : Route) : Content :=
  let fs := s.feeders r
  match fs.find? fun f => (s.route f).kind = kFrame with
  | .some f =>
    match (s.rt f).frame with
    | .none => .none
    | .some (w0, data) =>
      if s.isSet (slotStale f) || !s.isSet (slotValid f) then .none
      else if data.length > x.len ∨ (x.dest = 0 ∧ !x.fdf ∧ data.length > 8) then .misfit f data.length
      else .some (if (s.route f).keepId then w0 else x.key) data false
  | .none =>
    if s.lgw.silent && fs.any fun f => !s.isSet (slotValid f) && !s.isSet (slotStale f) then .none
    else
      let data := fs.foldl (fun d f =>
        let y := s.route f
        putBits d (s.raw (R.LGW_SLOT f 0)).toNat (fieldBits y.sbe y.dpos y.dlen)) ((imageOf s.raw r).take x.len)
      .some x.key data (fs.any fun f => s.isSet (slotStale f))

/-- The least DLC whose length holds n bytes. -/
def dlcFor (n : Nat) : Nat := ((List.range 16).find? fun d => n ≤ canLen true false d).getD 15

/-- An emission counted in the emitter's slot (R254). -/
def State.emitted (s : State) (r : Nat) : State :=
  (s.setRaw (R.LGW_SLOT r 0) (s.raw (R.LGW_SLOT r 0) + 1)).setRaw (R.LGW_SLOT r 2) (s.raw R.FRM_NUM_LO)
def State.emitLost (s : State) (r : Nat) : State := s.setRaw (R.LGW_SLOT r 1) (s.raw (R.LGW_SLOT r 1) + 1)

/-- A frame put into the Landing feed of a controller (R258). -/
def State.feedPut (s : State) (r n : Nat) (t : CanTx) : State :=
  let q := (s.can n).landing
  match q.findIdx? fun y => y.tag = r with
  | some i => (((s.modCan n fun c => { c with landing := updAt c.landing i fun _ => t }).wr (slotLate r) 1).emitLost r).emitted r
  | none =>
    if q.length ≥ 32 then ((s.wr (slotDrop r) 1).emitLost r).lgwEvent r 227 [BitVec.ofNat 8 n]
    else (s.modCan n fun c => { c with landing := c.landing ++ [t] }).emitted r

/-- Whether Landing may emit on CAN: in twin-send mode only the lease holder does (R388). -/
def State.mayEmit (s : State) : Bool := !s.isSet R.PAIR_CFG_TWIN || s.isSet R.PAIR_STAT_LEASE_OUT

/-- The build of a CAN emission (R257, R258). -/
def State.buildExec (s : State) (r : Nat) (x : Route) (nb : Nat) : State :=
  let s0 := s.modLgw fun l => { l with due := l.due.filter (· ≠ r) }
  if s.segHeld x.unit then s0.emitLost r
  else if !s.mayEmit then s0
  else match s.compose r x with
  | .none => s0
  | .misfit f len => s0.misfit f len
  | .some w0 data _ =>
    let dlc := dlcFor data.length
    let w := setBits (setBits w0 30 30 0) 29 29 (b2n x.fdf)
    let t : CanTx := { src := none, msg := ⟨w, BitVec.ofNat 32 (b2n x.brs * 2 ^ 15 + canLen x.fdf false dlc * 2 ^ 7 + dlc), 0,
                         padTo (canLen x.fdf false dlc) data⟩, tag := r, notBefore := some nb }
    s0.feedPut r x.unit t

/-! Containers sent (R259, R260). -/

/-- The destination address of a container. -/
def State.ctnMac (s : State) (c : Nat) : Nat :=
  beVal (leBytes 2 (s.rd (R.LGW_CTNc_C_DMAC c)) ++ leBytes 4 (s.rd (R.LGW_CTNc_8_DMAC c)))

/-- The MAC of a queue pair. -/
def State.qpMac (s : State) (k : Nat) : Nat :=
  beVal (leBytes 2 (s.rd (R.ESW_QPk_MAC_HI_MAC k)) ++ leBytes 4 (s.rd (R.ESW_QPk_MAC_LO_MAC k)))

/-- One PDU (R259). -/
def pduBytes (id : Word) (data : List Byte) (stale : Bool) : List Byte :=
  leBytes 4 id.toNat ++ leBytes 1 data.length ++ leBytes 1 (b2n stale) ++ [0, 0] ++ padTo ((data.length + 3) / 4 * 4) data

/-- Frame time in whole frames at the last boundary, from the followed source (R13, R388). -/
def State.frameIndex (s : State) : Nat :=
  let f := s.rd R.TMU_STAT_FOLLOW
  let t : Int := if f = 0 then s.frameLc else s.domAt (f - 1) s.frm.last
  (roundDiv (t - s.rd R.FRM_PHASE_PHASE) 250000).toNat

/-- A Landing frame for egress port p at HP3 (R223, R260): it enters the switch, or waits in HP3's transmit queue while HP3 is
stopped. The gates that hold it back are those of its egress port. DEDUCED. The spec gives that queue no depth. -/
def State.hp3Send (s : State) (p : Nat) (q : EthQd) : State :=
  if s.isSet (R.ESW_Pp_CFG_EN 20) then (s.bump (R.ESW_Pp_RX_COUNT 20)).enqueue p q
  else s.modEth fun e => { e with hp3Tx := e.hp3Tx ++ [(p, q)] }

/-- A container sent with its PDUs (R259, R388); none without a PDU. -/
def State.ctnSend (s : State) (c : Nat) (pdus : List (List Byte)) : State :=
  if pdus.isEmpty then s
  else
    let twin := s.isSet R.PAIR_CFG_TWIN
    let seq := sget (fun _ => 0) s.lgw.seqs c
    let body := [1] ++ leBytes 1 (s.rd R.SUP_STRAP_ZONE) ++ leBytes 1 c ++ leBytes 1 pdus.length ++ leBytes 2 seq ++ [0, 0] ++ pdus.flatMap id
    let etype := s.rd R.LGW_ETH_ETYPE
    let pcp := s.rd (R.LGW_CTNc_0_PCP c)
    let bdy := if twin then [0, 0] ++ beBytes 2 (s.frameIndex / max 1 (s.rd (R.LGW_CTNc_4_K c)) % 65536) ++ beBytes 2 etype ++ body else body
    let f : EthFrame := { dmac := s.ctnMac c, smac := s.qpMac 31, tagged := true, vid := Fin.ofNat 4096 (s.rd (R.LGW_CTNc_0_VID c)),
                          pcp := Fin.ofNat 8 pcp, etype := Fin.ofNat 65536 (if twin then rtagType else etype),
                          len := max 64 (18 + bdy.length + 4), body := bdy }
    (s.modLgw fun l => { l with seqs := sput l.seqs c ((seq + 1) % 65536) }).hp3Send (s.rd (R.LGW_CTNc_0_PORT c)) { frame := f, tc := pcp, ingress := 20 }

/-- The build of a PDU of container c (R260): it joins the PDUs that the container holds so far. -/
def State.pduExec (s : State) (r : Nat) (x : Route) (c : Nat) : State :=
  let s1 := s.modLgw fun l => { l with due := l.due.filter (· ≠ r) }
  match s.compose r x with
  | .none => s1
  | .misfit f len => s1.misfit f len
  | .some w0 data stale => (s1.emitted r).modLgw fun l => { l with pdus := sput l.pdus c (sget (fun _ => []) l.pdus c ++ [pduBytes w0 data stale]) }

/-- A container whose PDUs are built leaves. -/
def State.ctnClose (s : State) (c : Nat) : State :=
  (s.modLgw fun l => { l with pdus := l.pdus.filter fun x => x.1 ≠ c }).ctnSend c (sget (fun _ => []) s.lgw.pdus c)

/-! Executions (R261). -/

/-- One execution carried out. -/
def State.lgwRun (s : State) (i : LgwItem) : State :=
  let x := s.route i.route
  if !x.en then (match i.ctn with | some (c, true) => s.ctnClose c | _ => s)
  else if i.build then
    match i.ctn with
    | some (c, last) => (s.pduExec i.route x c).when last fun s => s.ctnClose c
    | none => s.buildExec i.route x i.nb
  else if x.kind = kFrame then s.frameExec i.route x i.w0 i.data
  else s.signalExec i.route x i.data

/-- Executions in one frame, and places of the pending list (R261). -/
def lgwFrame : Nat := 4096
def lgwList : Nat := 8192

/-- The count of the frame raised by one, with its largest value. -/
def State.lgwCount (s : State) : State :=
  let n := s.lgw.execs + 1
  (s.modLgw fun l => { l with execs := n }).wr R.LGW_CNT_PEAK_COUNT (max (s.rd R.LGW_CNT_PEAK_COUNT) n)

/-- An execution that arrives: carried out, kept in the pending list, or dropped. -/
def State.lgwTake (s : State) (i : LgwItem) : State :=
  if s.lgw.execs < lgwFrame then (s.lgwRun i).lgwCount
  else if s.lgw.wait.length < lgwList then (s.modLgw fun l => { l with wait := l.wait ++ [i] }).lgwCount
  else s.bump R.LGW_CNT_DROP_COUNT

/-- LANDING_CARRY: executions still pending are counted, and carried (R30). -/
def State.lgwCarry (s : State) : State :=
  let n := s.lgw.wait.length
  if n = 0 then s else (s.bump R.FRM_CNT_LGW_COUNT n).raise 485 .sys

/-- Arrivals of a source: every enabled route that matches executes, in ascending index (R251). -/
def State.lgwArrive (s : State) (p : Route → Bool) (w0 : Word) (data : List Byte) : State :=
  if !s.isSet R.LGW_CTRL_RUN then s
  else s.each (s.liveWhere fun x => decide (x.kind = kSignal ∨ x.kind = kFrame) && p x) fun s r =>
    s.lgwTake { route := r, w0 := w0, data := data }

/-- A valid CAN frame on controller n. -/
def State.lgwCan (s : State) (n : Nat) (m : CanMsg) : State :=
  s.lgwArrive (fun x => decide (x.src = 0 ∧ x.unit = n) &&
    decide ((m.w0 ^^^ x.key) &&& x.mask &&& 0x1FFFFFFF = 0) && (m.w0.getLsbD 31 == x.key.getLsbD 31)) m.w0 m.data

/-- Whether a far die has latched at this boundary: it heard the marker, and on a bole die the microsequencer runs. -/
def State.dieLatched (s : State) (g : Nat) : Bool := s.linkOk g && (decide (g < 2) || s.isSet (R.BOLE_STAT_SEQ_RUN (g - 2)))

/-- The die of a UIO or MEAS source. -/
def Route.die (x : Route) : Nat := if x.src = 2 then x.unit / 48 else 2 + x.unit / 16

/-- UIO and MEAS arrivals of a boundary, in ascending route index (R251, R261): of the dies that have latched. -/
def State.lgwLatch (s : State) : State :=
  s.each (s.liveWhere fun x => decide (x.kind = kSignal) && decide (x.src = 2 ∨ x.src = 3) && s.dieLatched x.die) fun s r =>
    let x := s.route r
    if x.src = 2 then
      if s.isSet (R.UIOp_VAL_VALID x.unit) then s.lgwTake { route := r, data := leBytes 4 (s.raw (R.UIOp_VAL x.unit)).toNat } else s
    else s.lgwTake { route := r, data := leBytes 4 (s.raw (R.CHn_MEAS_I x.unit + 4 * x.qual)).toNat }

/-- Turns are counted as one begins, before EN of a route applies at its boundary (R256). -/
def State.lgwTurn (s : State) : State := s.when s.frm.newTurn fun s => s.modLgw fun l => { l with turns := l.turns + 1 }

/-- Landing at a frame boundary: the count begins again, carried executions come first, then what the boundary latched. -/
def State.lgwBoundary (s : State) : State :=
  let w := s.lgw.wait
  let s1 := s.modLgw fun l => { l with execs := 0, wait := [], badRaised := false, misRaised := [], twinRaised := false }
  if s.isSet R.LGW_CTRL_RUN then (s1.each w fun s i => s.lgwTake i).lgwLatch else s1

/-- ROUTE_STALE_TIMEOUT (R255). -/
def State.routeStale (s : State) (r : Nat) : State :=
  let x := s.route r
  if s.isSet R.LGW_CTRL_RUN && x.en && decide (x.kind = kSignal ∨ x.kind = kFrame) && decide (x.timeout ≠ 0) &&
      decide ((s.rt r).upd + x.timeout ≤ s.frame64) && !s.isSet (slotStale r) then
    let s1 := s.wr (slotStale r) 1
    (s1.when (decide (x.kind = kSignal)) fun s => s.setRaw (R.LGW_SLOT r 0) (BitVec.ofNat 32 x.subst)).lgwEvent r 224 (leBytes 4 x.subst)
  else s

/-- EMIT_BUILD: the build instant of a due emitter on CAN (R257). -/
def State.emitBuild (s : State) (r : Nat) : State :=
  let x := s.route r
  if s.isSet R.LGW_CTRL_RUN && x.en && decide (x.kind = kEmit ∧ x.dest = 0) && s.emitDue r x &&
      decide ((s.rt r).built ≠ some s.frame64) then
    let nb := s.frameAt (x.offset * 100)
    ((s.advance (nb - 2000)).modRt r fun t => { t with built := some s.frame64 }).lgwTake { route := r, build := true, nb := nb }
  else s

/-! Containers (R259, R260). -/

/-- CONTAINER_BUILD (R260, R261, R388): each EMIT route due in container c is an execution of its own; the container leaves when
the last of them is done. An unaligned module without the lease sends none in twin-send mode. -/
def State.ctnBuild (s : State) (c : Nat) : State :=
  let k := s.rd (R.LGW_CTNc_4_K c)
  if !(s.isSet R.LGW_CTRL_RUN && s.isSet (R.LGW_CTNc_0_EN c) && decide (s.rd R.FRM_STAT_SLOT % max 1 k = 0) &&
      decide (sget (fun _ => 0) s.lgw.ctnAt c ≠ s.frame64 + 1)) then s
  else
    let s0 := (s.advance (s.frameAt (s.rd (R.LGW_CTNc_4_OFFSET c) * 100) - 2000)).modLgw fun l => { l with ctnAt := sput l.ctnAt c (s.frame64 + 1) }
    if s.isSet R.PAIR_CFG_TWIN && !s.isSet R.FRM_STAT_ALIGNED && !s.isSet R.PAIR_STAT_LEASE_OUT then
      if s.lgw.twinRaised then s0 else (s0.modLgw fun l => { l with twinRaised := true }).raise 428 .pub
    else
      let due := (s0.liveWhere fun x => decide (x.kind = kEmit ∧ x.dest = 1 ∧ x.unit = c)).filter fun r => s0.emitDue r (s0.route r)
      -- what the frame's count and the pending list take; the rest is dropped
      let room := (lgwFrame - s0.lgw.execs) + (lgwList - s0.lgw.wait.length)
      let n := min due.length room
      s0.each due.zipIdx fun s x => s.lgwTake { route := x.1, build := true, ctn := some (c, decide (x.2 + 1 = n)) }

/-- The PDUs of a container's bytes: none where one runs past the end. -/
def parsePdus : Nat → List Byte → Option (List (Word × List Byte))
  | 0, _ => some []
  | n + 1, b =>
    let len := le b 4 1
    let whole := 8 + (len + 3) / 4 * 4
    if b.length < whole ∨ len > 64 then none
    else (parsePdus n (b.drop whole)).map fun rest => (BitVec.ofNat 32 (le b 0 4), (b.drop 8).take len) :: rest

/-- CONTAINER_RECEIVED: a frame with EtherType ETYPE that the switch has brought to HP3 (R259), its R-TAG taken off first. -/
def State.ctnReceive (s : State) (p : Nat) (f : EthFrame) : State :=
  let tagged := decide (f.etype.val = rtagType)
  let body := if tagged then f.body.drop 6 else f.body
  let etype := if tagged then beVal ((f.body.drop 4).take 2) else f.etype.val
  if etype ≠ s.rd R.LGW_ETH_ETYPE ∨ !s.isSet R.LGW_CTRL_RUN then s
  else
    match (if le body 0 1 = 1 ∧ 8 ≤ body.length then parsePdus (le body 3 1) (body.drop 8) else none) with
    | none =>
      let s2 := s.bump R.LGW_CNT_BADCTN_COUNT
      if s.lgw.badRaised then s2
      else (s2.modLgw fun l => { l with badRaised := true }).raise 229 .pub ([0xFF, 0xFF] ++ leBytes 1 p)
    | some pdus =>
      s.each pdus fun s u =>
        s.lgwArrive (fun x => decide (x.src = 1 ∧ (x.unit = 0xFF ∨ x.unit = p)) && decide ((u.1 ^^^ x.key) &&& x.mask = 0)) u.1 u.2

/-! Commits (R249, R255). -/

/-- Whether a change of a route resets its slot (R249): KIND, SRC, UNIT, QUAL, KEY, MASK or an extraction field, as far as its
KIND has them (R250): an EMIT route has of these UNIT and KEY, a CONT entry none. -/
def slotResets (a b : Route) : Bool :=
  a.kind ≠ b.kind ||
  (decide (b.kind = kSignal ∨ b.kind = kFrame ∨ b.kind = kEmit) && (a.unit ≠ b.unit || a.key ≠ b.key)) ||
  (decide (b.kind = kSignal ∨ b.kind = kFrame) && (a.src ≠ b.src || a.mask ≠ b.mask)) ||
  (decide (b.kind = kSignal) &&
    (a.qual ≠ b.qual || a.spos ≠ b.spos || a.slen ≠ b.slen || a.sbe != b.sbe || a.ssign != b.ssign))

/-- A slot reset: VALID, STALE and COUNT 0, VALUE SUBST. -/
def State.slotReset (s : State) (r : Nat) (x : Route) : State :=
  (((s.wr (slotValid r) 0).wr (slotStale r) 0).wr (slotCount r) 0).setRaw (R.LGW_SLOT r 0)
    (if x.kind = kSignal then BitVec.ofNat 32 x.subst else 0)

/-- New active values of group 0x0600 + b, against the registers before. -/
def State.lgwPost (s : State) (old : Nat → Word) (b : Nat) : State :=
  s.each ((List.range 256).map (256 * b + ·)) fun s r =>
    if (List.range 8).all fun k => old (R.LGW_ROUTE r k) = s.raw (R.LGW_ROUTE r k) then s
    else
      let a := routeIn old r
      let x := s.route r
      let s1 := s.when (slotResets a x) fun s => (s.slotReset r x).modRt r fun t => { t with frame := none }
      s1.when (x.en && !a.en) fun s => s.modRt r fun t => { t with upd := s.frame64, turn := s.lgw.turns }

/-- Whether CAN_FRAME_VALID takes place: a frame becomes valid in controller n, is presented to Landing and stored. -/
def State.canFrameValid (s : State) (n : Nat) (f : CanFrame) : State :=
  if !s.canHears n f then s
  else
    let m := canMsgOf f
    (((s.canRxGood n).wr (R.CANn_STAT_ACT n) actIdle).canTake n m |>.segFrame n f).lgwCan n m

/-- CAN_TX_COMPLETE: the transmission ends; a ring message sent takes its place in its round (R204), and in LOOPBACK the
frame is presented to Landing (R182). -/
def State.canTxEnds (s : State) (n : Nat) (out : CanTxOut) : State :=
  match (s.can n).offered with
  | none => s
  | some b =>
    let m := s.bufMsg n b
    let s1 := s.txOutcome n out
    match out with
    | .sent _ _ => (s1.ringSent n m).when (decide (s.rd (R.CANn_CFG_OPMODE n) = omLoopback)) fun s => s.lgwCan n m
    | _ => s1

def execLandingCarry (s : State) : Out := s.finish s.lgwCarry
def execRouteStaleTimeout (r : Fin 16384) (s : State) : Out := s.finish (s.routeStale r)
def execEmitBuild (r : Fin 16384) (s : State) : Out := s.finish (s.emitBuild r)
def execContainerBuild (c : Fin 256) (s : State) : Out := s.finish (s.ctnBuild c)
def execContainerReceived (p : Fin 17) (f : EthFrame) (s : State) : Out := s.finish (s.ctnReceive p f)
def execCanFrameValid (n : Fin 24) (f : CanFrame) (s : State) : Out := s.finish (s.canFrameValid n f)
def execCanTxComplete (n : Fin 24) (out : CanTxOut) (s : State) : Out := s.finish (s.canTxEnds n out)

end Sys2Proof.Machine
end

