-- ==== Sys2Proof/Machine/Rules.lean ====
section
/-! DEFINITION. The consistency rules of every commit group: CAN (R175, R186), Landing (R264), and the dispatch of R65
over all blocks. -/

namespace Sys2Proof.Machine

/-- Whether a view gives a route a CAN destination on controller n. -/
def emitsTo (v : View) (cand : List Nat) (n : Nat) : List Nat :=
  (liveIn v cand).filter fun r => (let x := routeIn v r; decide (x.kind = kEmit ∧ x.dest = 0 ∧ x.unit = n))

/-- The rules of group 0x0400 + n (R175). -/
def State.canRules (s : State) (v : View) (cand : List Nat) (n : Nat) : Option Nat :=
  let f (x : Fld) := vw v x
  let nbrp := f (R.CANn_NBT_NBRP n) + 1
  let nt1 := f (R.CANn_NBT_NTSEG1 n) + 1
  let nt2 := f (R.CANn_NBT_NTSEG2 n) + 1
  let nsjw := f (R.CANn_NBT_NSJW n) + 1
  let nq := 1 + nt1 + nt2
  let dbrp := f (R.CANn_DBT_DBRP n) + 1
  let dt1 := f (R.CANn_DBT_DTSEG1 n) + 1
  let dt2 := f (R.CANn_DBT_DTSEG2 n) + 1
  let dsjw := f (R.CANn_DBT_DSJW n) + 1
  let dq := 1 + dt1 + dt2
  let fd := f (R.CANn_CFG_FD_EN n) = 1
  let tdc := f (R.CANn_CFG_TDC_EN n) = 1
  let same := [R.CANn_NBT n, R.CANn_DBT n, R.CANn_TDC n].all (fun a => v a = s.raw a) &&
    [R.CANn_CFG_FD_EN n, R.CANn_CFG_TRIPLE n, R.CANn_CFG_OPMODE n].all fun x => vw v x = s.rd x
  firstFail
    [(1, decide (10000 * (nbrp * nq) ≤ 80000000 ∧ 80000000 ≤ 1000000 * (nbrp * nq) ∧ 8 ≤ nq ∧ nsjw ≤ nt1 ∧ nsjw ≤ nt2)),
     (2, !fd || decide (dbrp * dq ≤ nbrp * nq ∧ 80000000 ≤ 5000000 * (dbrp * dq) ∧ 5 ≤ dq ∧ dsjw ≤ dt1 ∧ dsjw ≤ dt2)),
     (3, decide (f (R.CANn_CFG_TRIPLE n) = 0) || decide (80000000 ≤ 250000 * (nbrp * nq) ∧ 3 ≤ nt1)),
     (4, (!tdc || (fd && decide (dbrp ≤ 2 ∧ 1 ≤ f (R.CANn_TDC_TDCO n)))) && (!(fd && decide (1000000 * (dbrp * dq) < 80000000)) || tdc)),
     (5, !s.isSet (R.CANn_CTRL_RUN n) || same),
     (6, decide (f (R.CANn_CFG_DIRECT n) ≠ 7) ||
       (((List.range 64).all fun q => !s.isSet (R.QMG_QnCFG_EN q) || decide (s.rd (R.QMG_QnCFG_ENGINE q) ≠ 0x10 + n)) &&
        (emitsTo v cand n).isEmpty))]

/-- The rules of group 0x0420 + n (R186). -/
def State.canFiltRules (s : State) (v : View) (n : Nat) : Option Nat :=
  let fs := ((List.range 32).map fun m => (v (R.MOm_FID n m), v (R.MOm_FMSK n m))) ++
    (List.range 8).map fun k => (v (R.CANn_FFk_ID n k), v (R.CANn_FFk_MSK n k))
  let q := vw v (R.CANn_FIFO_CFG_QUEUE n)
  firstFail
    [(1, fs.all fun x => !(x.1.getLsbD 31) || x.1.getLsbD 30 || decide (bitsOf x.1 17 0 = 0 ∧ bitsOf x.2 17 0 = 0)),
     (2, fs.all fun x => decide (bitsOf x.2 31 30 ≠ 3) && (decide (bitsOf x.2 31 30 ≠ 2) || !(x.1.getLsbD 29))),
     (3, decide (vw v (R.CANn_FIFO_CFG_EN n) = 0) ||
       (s.isSet (R.QMG_QnCFG_DIR q) && decide (s.rd (R.QMG_QnCFG_ENGINE q) = 0x10 + n) && decide (s.queueOwner q = s.canOwner n)))]

/-! Landing (R264). -/

/-- Whether MANIFEST grants a partition an identifier for sending on a shared controller (R196, R309). -/
def Part.maySend (p : Part) (n : Nat) (w0 : Word) : Bool :=
  p.created && (List.range 7).any fun i =>
    let a := p.canShare i
    let b := p.canShare (i + 1)
    a.ctrl == n && a.send && decide ((w0.toNat ^^^ a.id) &&& (b.id &&& 0x1FFFFFFF) = 0) && (w0.getLsbD 31 == nbit a.id 31)

/-- The block owner's rights: the Forester has all. -/
def State.blkMay (s : State) (b : Nat) (p : Nat → Bool) : Bool :=
  match s.blkOwner b with
  | some o => o = forester || p o
  | none => false

/-- LEN is a length of the DLC table (R177). -/
def dlcLen (fdf : Bool) (n : Nat) : Bool := decide (n ≤ 8) || (fdf && [12, 16, 20, 24, 32, 48, 64].contains n)

/-- Bytes of a container that its EMIT routes fill (rule 8). -/
def ctnLoad (v : View) (cand : List Nat) (c : Nat) : Nat :=
  (liveIn v cand).foldl (fun a r =>
    let x := routeIn v r
    if x.kind = kEmit ∧ x.dest = 1 ∧ x.unit = c then a + 8 + (x.len + 3) / 4 * 4 else a) 8

/-- Rule 1: kinds, and the place of CONT entries. -/
def lgwRule1 (v : View) (r : Nat) (x : Route) : Bool :=
  let isEmit (q : Nat) : Bool := decide (q / 256 = r / 256) && (let y := routeIn v q; decide (y.kind = kEmit) && (y.en == x.en))
  let cont (q : Nat) : Bool := (let y := routeIn v q; decide (y.kind = kCont) && (y.en == x.en))
  if x.kind = kCont then isEmit (r - 1) || isEmit (r - 2)
  else if x.kind = kEmit then decide (r % 256 ≤ 253) && cont (r + 1) && cont (r + 2) && decide (((routeBytes v (r + 2)).drop 18).all (· = 0))
  else decide (x.kind ≤ 4)

/-- Rule 2: the source field, and TIMEOUT. -/
def lgwRule2 (x : Route) : Bool :=
  decide (x.kind ≠ kSignal) ||
  ((fieldBits x.sbe x.spos x.slen).all (fun i => decide (i < if x.src ≤ 1 then 512 else 32)) && decide (x.timeout ≤ 4000))

/-- Rule 3: the block owner's right to the source. -/
def State.lgwRule3 (s : State) (b : Nat) (x : Route) : Bool :=
  if x.kind = kSignal ∨ x.kind = kFrame then
    match x.src with
    | 0 => decide (x.unit ≤ 23) && s.blkMay b fun o => decide (s.canOwner x.unit = some o) || (s.part o).sharesCan x.unit
    | 1 => decide (x.unit ≤ 16 ∨ x.unit = 0xFF)
    | 2 => decide (x.kind = kSignal ∧ x.unit ≤ 95) && s.blkMay b fun o => decide (s.uioOwner x.unit = some o) || (s.part o).has offUioRead x.unit
    | 3 => decide (x.kind = kSignal ∧ x.unit ≤ 63 ∧ x.qual ≤ 5) && s.blkMay b fun o => decide (s.chOwner x.unit = some o) || (s.part o).has offChRead x.unit
    | _ => false
  else true

/-- Rule 4: emitters and what feeds them. -/
def lgwRule4 (v : View) (live : List Nat) (r : Nat) (x : Route) : Bool :=
  if x.kind = kSignal ∨ x.kind = kFrame then
    match feeds r x with
    | some e => decide ((routeIn v e).kind = kEmit)
    | none => true
  else if x.kind = kEmit then
    let fs := feedersIn v live r
    let fr := fs.filter fun q => (routeIn v q).kind = kFrame
    fr.isEmpty || decide (fr.length = 1 ∧ fs.length = 1)
  else true

/-- Whether no number stands twice in a list. -/
def noDup : List Nat → Bool
  | [] => true
  | a :: t => !t.contains a && noDup t

/-- Rule 5: packed fields of an emitter. -/
def lgwRule5 (v : View) (live : List Nat) (r : Nat) (x : Route) : Bool :=
  if x.kind = kEmit then
    let bits := (feedersIn v live r).flatMap fun q => (let y := routeIn v q
      if y.kind = kSignal then fieldBits y.sbe y.dpos y.dlen else [])
    bits.all (fun i => decide (i < 8 * x.len)) && noDup bits
  else true

/-- Rule 6: a CAN emitter. -/
def State.lgwRule6 (s : State) (v : View) (b : Nat) (x : Route) : Bool :=
  if x.kind = kEmit ∧ x.dest = 0 then
    decide (x.unit ≤ 23) && (s.blkMay b fun o => decide (s.canOwner x.unit = some o) || (s.part o).maySend x.unit x.key) &&
    (!x.fdf || decide (vw v (R.CANn_CFG_FD_EN x.unit) = 1)) && (!x.brs || x.fdf) && dlcLen x.fdf x.len &&
    decide (600 ≤ x.offset ∧ x.offset ≤ 2299)
  else true

/-- Rule 7: PERIOD and PHASE. -/
def lgwRule7 (x : Route) : Bool :=
  decide (x.kind ≠ kEmit) || decide (x.period = 0) ||
  ([1, 2, 4, 5, 8, 10, 20, 40].contains x.period && decide (x.phase < x.period)) ||
  (decide (40 < x.period ∧ x.period ≤ 4000 ∧ x.period % 40 = 0) && decide (x.phase < 40))

/-- Rule 8: an ETH emitter and its container. -/
def State.lgwRule8 (s : State) (v : View) (live : List Nat) (b : Nat) (x : Route) : Bool :=
  if x.kind = kEmit ∧ x.dest = 1 then
    let k := max 1 (vw v (R.LGW_CTNc_4_K x.unit))
    decide (vw v (R.LGW_CTNc_0_EN x.unit) = 1) && (s.blkMay b fun o => nbit (vw v (R.LGW_CTNc_C_ALLOW x.unit)) o) &&
    decide (x.period % k = 0 ∧ x.phase % k = 0) && decide (ctnLoad v live x.unit ≤ 1496)
  else true

/-- The rules of group 0x0600 + b for each enabled route (R264): the least that fails. -/
def State.blkRules (s : State) (v : View) (cand : List Nat) (b : Nat) : Option Nat :=
  let live := liveIn v cand
  let rs := (live.filter fun r => r / 256 = b).map fun r => (r, routeIn v r)
  firstFail
    [(1, rs.all fun x => lgwRule1 v x.1 x.2), (2, rs.all fun x => lgwRule2 x.2), (3, rs.all fun x => s.lgwRule3 b x.2),
     (4, rs.all fun x => lgwRule4 v live x.1 x.2), (5, rs.all fun x => lgwRule5 v live x.1 x.2), (6, rs.all fun x => s.lgwRule6 v b x.2),
     (7, rs.all fun x => lgwRule7 x.2), (8, rs.all fun x => s.lgwRule8 v live b x.2)]

/-- The rule of group 0x0640 (R264). -/
def ctnRules (v : View) : Option Nat :=
  firstFail [(1, (List.range 256).all fun c => [1, 2, 4, 5, 8, 10, 20, 40].contains (vw v (R.LGW_CTNc_4_K c)) &&
    decide (600 ≤ vw v (R.LGW_CTNc_4_OFFSET c) ∧ vw v (R.LGW_CTNc_4_OFFSET c) ≤ 2299))]

/-! All groups (R65). -/

/-- Routes that a snapshot over the active words can enable. -/
def State.candidates (s : State) (snap : List (Nat × Word)) : List Nat := sortNat ((routesIn s.regs ++ routesIn snap).eraseDups)

/-- The first rule of a group that fails over a view, with route candidates and staged table entries. -/
def State.groupRule (s : State) (v : View) (cand : List Nat) (tab : List (Nat × List Byte)) (g : Nat) : Option Nat :=
  if 0x0400 ≤ g ∧ g < 0x0418 then s.canRules v cand (g - 0x0400)
  else if 0x0420 ≤ g ∧ g < 0x0438 then s.canFiltRules v (g - 0x0420)
  else if 0x0600 ≤ g ∧ g < 0x0640 then s.blkRules v cand (g - 0x0600)
  else if g = 0x0640 then ctnRules v
  else if 0x0500 ≤ g ∧ g < 0x0600 then s.ethRule v tab g
  else s.fieldRule v g

/-- Blocks that hold an enabled EMIT route that a condition picks. -/
def blocksWith (v : View) (cand : List Nat) (p : Route → Bool) : List Nat :=
  (((liveIn v cand).filter fun r => (let x := routeIn v r; decide (x.kind = kEmit) && p x)).map (· / 256)).eraseDups

/-- Groups whose rules name a field of group g, beside those of R87 and R163: rules 6 and 8 of R264 and rule 6 of R175. -/
def groupRelated (v : View) (cand : List Nat) (g : Nat) : List Nat :=
  if 0x0400 ≤ g ∧ g < 0x0418 then (blocksWith v cand fun x => decide (x.dest = 0 ∧ x.unit = g - 0x0400)).map (0x0600 + ·)
  else if g = 0x0640 then (blocksWith v cand fun x => decide (x.dest = 1)).map (0x0600 + ·)
  else if 0x0600 ≤ g ∧ g < 0x0640 then
    let mine := ((liveIn v cand).filter fun r => r / 256 = g - 0x0600).map (routeIn v)
    let ctns := (mine.filter fun x => x.kind = kEmit ∧ x.dest = 1).map (·.unit)
    ((mine.filter fun x => x.kind = kEmit ∧ x.dest = 0 ∧ x.unit ≤ 23).map fun x => 0x0400 + x.unit) ++
    (blocksWith v cand fun x => decide (x.dest = 1) && ctns.contains x.unit).map (0x0600 + ·)
  else fieldRelated v g

/-- The first failure in ascending group order over the named groups and those related: group and rule (R65). -/
def State.ruleCheck (s : State) (v : View) (cand : List Nat) (tab : List (Nat × List Byte)) (gs : List Nat) : Option (Nat × Nat) :=
  (sortNat (gs ++ gs.flatMap (groupRelated v cand)).eraseDups).findSome? fun g => (s.groupRule v cand tab g).map fun r => (g, r)

/-- The rules that a basic command's values touch, then staging and COMMIT (R60, R109). -/
def State.checkedBasic (s : State) (c : Ctx) (vals : List (Fld × Nat)) (gs : List Nat) (offs : Nat → Nat → Nat) : Reply :=
  let v := s.viewWith vals
  let words := vals.map fun x => (x.1.addr, (0 : Word))
  match s.ruleCheck v (s.candidates words) [] gs with
  | some f => Reply.range s (offs f.1 f.2)
  | none => s.basic c vals gs

end Sys2Proof.Machine
end

