-- ==== Sys2Proof/Machine/CanCmd.lean ====
section
/-! DEFINITION. The CAN commands 0x0401 to 0x0411 (R195, R196) and the Landing commands 0x06xx (R277). -/

namespace Sys2Proof.Machine

/-- NOT_GRANTED on a controller that the caller does not own (R195). -/
def canOwns (s : State) (c : Ctx) : Option Nat := ownGrant 24 0 State.canOwner s c

/-- NOT_GRANTED on a controller that the caller neither owns nor shares (R195). -/
def canUses (s : State) (c : Ctx) : Option Nat :=
  let n := c.arg 0 1
  let shares := match c.caller with
    | some p => (s.canOwner n).isNone && (s.part p).sharesCan n
    | none => false
  if n < 24 ∧ !c.owns (s.canOwner n) ∧ !shares then some 0x8000 else none

/-- A word's fields as values to stage. -/
def fullWord (a : Nat) (w mask : Nat) : Fld × Nat := (⟨a, 31, 0⟩, w &&& mask)

/-- Where the failing rule first names a field of CAN_CONFIG. -/
def canCfgOffs (g r : Nat) : Nat := if 0x0400 ≤ g ∧ g < 0x0418 then [0, 4, 1, 1, 1, 4, 2].getD r 0 else 1

/-- CAN_CONFIG (0x0401). -/
def opCanConfig : OpSpec where
  opcode := 0x0401
  classes := [clNormal]
  bits := fun _ i => if i = 2 then 0x1F else if i = 3 ∨ i ≥ 16 then 0 else 0xFF
  grant := fun s c =>
    match canOwns s c with
    | some d => some d
    | none => if nbit (c.arg 1 1) 6 && !c.expert then some 32 else none
  need := fun _ => 16
  body := fun c s =>
    let n := c.arg 0 1
    let b := c.arg 1 1
    if n > 23 then Reply.range s 0
    else
      s.checkedBasic c
        [(R.CANn_CTRL_RUN n, nbits b 0 0), (R.CANn_CFG_FD_EN n, nbits b 1 1), (R.CANn_CFG_TDC_EN n, nbits b 2 2),
         (R.CANn_CFG_PXHD n, nbits b 3 3), (R.CANn_CFG_TRIPLE n, nbits b 4 4), (R.CANn_CFG_TXORD n, nbits b 5 5),
         (R.CANn_CFG_BOFF_HOLD n, nbits b 6 6), (R.CANn_CFG_BOFF_TX n, nbits b 7 7),
         (R.CANn_CFG_OPMODE n, nbits (c.arg 2 1) 1 0), (R.CANn_CFG_DIRECT n, nbits (c.arg 2 1) 4 2),
         (R.CANn_NBT_NSJW n, bitsOf (BitVec.ofNat 32 (c.arg 4 4)) (R.CANn_NBT_NSJW n).hi (R.CANn_NBT_NSJW n).lo),
         (R.CANn_NBT_NTSEG2 n, bitsOf (BitVec.ofNat 32 (c.arg 4 4)) (R.CANn_NBT_NTSEG2 n).hi (R.CANn_NBT_NTSEG2 n).lo),
         (R.CANn_NBT_NTSEG1 n, bitsOf (BitVec.ofNat 32 (c.arg 4 4)) (R.CANn_NBT_NTSEG1 n).hi (R.CANn_NBT_NTSEG1 n).lo),
         (R.CANn_NBT_NBRP n, bitsOf (BitVec.ofNat 32 (c.arg 4 4)) (R.CANn_NBT_NBRP n).hi (R.CANn_NBT_NBRP n).lo),
         (R.CANn_DBT_DSJW n, bitsOf (BitVec.ofNat 32 (c.arg 8 4)) (R.CANn_DBT_DSJW n).hi (R.CANn_DBT_DSJW n).lo),
         (R.CANn_DBT_DTSEG2 n, bitsOf (BitVec.ofNat 32 (c.arg 8 4)) (R.CANn_DBT_DTSEG2 n).hi (R.CANn_DBT_DTSEG2 n).lo),
         (R.CANn_DBT_DTSEG1 n, bitsOf (BitVec.ofNat 32 (c.arg 8 4)) (R.CANn_DBT_DTSEG1 n).hi (R.CANn_DBT_DTSEG1 n).lo),
         (R.CANn_DBT_DBRP n, bitsOf (BitVec.ofNat 32 (c.arg 8 4)) (R.CANn_DBT_DBRP n).hi (R.CANn_DBT_DBRP n).lo),
         (R.CANn_TDC_TDCO n, bitsOf (BitVec.ofNat 32 (c.arg 12 4)) (R.CANn_TDC_TDCO n).hi (R.CANn_TDC_TDCO n).lo),
         (R.CANn_TDC_TDCF n, bitsOf (BitVec.ofNat 32 (c.arg 12 4)) (R.CANn_TDC_TDCF n).hi (R.CANn_TDC_TDCF n).lo)]
        [0x0400 + n] canCfgOffs

/-- CAN_RUN (0x0402). -/
def opCanRun : OpSpec where
  opcode := 0x0402
  classes := [clRt, clNormal]
  bits := allBits 2
  grant := canOwns
  need := fun _ => 2
  body := fun c s =>
    let n := c.arg 0 1
    if n > 23 then Reply.range s 0
    else if c.arg 1 1 > 1 then Reply.range s 1
    else s.checkedBasic c [(R.CANn_CTRL_RUN n, c.arg 1 1)] [0x0400 + n] fun _ _ => 1

/-- CAN_FILTER (0x0403). -/
def opCanFilter : OpSpec where
  opcode := 0x0403
  classes := [clNormal]
  bits := fun _ i => if i = 2 ∨ i = 3 ∨ i ≥ 12 then 0 else 0xFF
  grant := canOwns
  need := fun _ => 12
  body := fun c s =>
    let n := c.arg 0 1
    let k := c.arg 1 1
    if n > 23 then Reply.range s 0
    else if k > 39 then Reply.range s 1
    else
      let a := if k < 32 then (R.MOm_FID n k, R.MOm_FMSK n k) else (R.CANn_FFk_ID n (k - 32), R.CANn_FFk_MSK n (k - 32))
      s.checkedBasic c [fullWord a.1 (c.arg 4 4) 0xFFFFFFFF, fullWord a.2 (c.arg 8 4) 0xDFFFFFFF] [0x0420 + n]
        fun _ r => if r = 2 then 8 else 4

/-- CAN_FIFO (0x0404). -/
def opCanFifo : OpSpec where
  opcode := 0x0404
  classes := [clNormal]
  bits := fun _ i => if i = 1 then 0x03 else if i ≥ 3 then 0 else 0xFF
  grant := canOwns
  need := fun _ => 3
  body := fun c s =>
    let n := c.arg 0 1
    if n > 23 then Reply.range s 0
    else if c.arg 2 1 > 63 then Reply.range s 2
    else s.checkedBasic c [(R.CANn_FIFO_CFG_EN n, nbits (c.arg 1 1) 0 0), (R.CANn_FIFO_CFG_ALL n, nbits (c.arg 1 1) 1 1),
      (R.CANn_FIFO_CFG_QUEUE n, c.arg 2 1)] [0x0420 + n] fun _ _ => 1

/-- Places of the Forester's source queue of a controller; the spec gives no number. DESIGN CHOICE. -/
def sendQueueSize : Nat := 32

/-- CAN_SEND (0x0405). -/
def opCanSend : OpSpec where
  opcode := 0x0405
  classes := [clRt, clNormal]
  bits := fun _ i => if i = 0 ∨ (4 ≤ i ∧ i < 76) then 0xFF else 0
  grant := fun s c =>
    match canUses s c with
    | some d => some d
    | none =>
      let n := c.arg 0 1
      let may := match c.caller with
        | some p => c.owns (s.canOwner n) || (s.part p).maySend n (BitVec.ofNat 32 (c.arg 4 4))
        | none => false
      if n < 24 ∧ !may then some 0x8004 else none
  need := fun p => 12 + frameLen (BitVec.ofNat 32 (le p 4 4)) (BitVec.ofNat 32 (le p 8 4))
  body := fun c s =>
    let n := c.arg 0 1
    let w0 := BitVec.ofNat 32 (c.arg 4 4)
    let w1 := BitVec.ofNat 32 (c.arg 8 4)
    if n > 23 then Reply.range s 0
    else if s.canMalformed n w0 w1 then Reply.range s 4
    else if (s.can n).sends.length ≥ sendQueueSize then Reply.err s stBusy 0
    else
      let t : CanTx := { src := some 64, msg := ⟨w0, txW1 w0 w1, 0, padTo (frameLen w0 w1) (c.payload.drop 12)⟩ }
      Reply.ok (s.modCan n fun x => { x with sends := x.sends ++ [t] })

/-- Objects that a sharing partition may read (R309). -/
def Part.readsObject (p : Part) (n m : Nat) : Bool :=
  p.created && (List.range 8).any fun i => (p.canShare i).ctrl == n && nbit (p.canShare i).mo m

/-- CAN_READ (0x0406): from W0 to the last word under one lock. -/
def opCanRead : OpSpec where
  opcode := 0x0406
  classes := [clRt, clNormal]
  bits := fun _ i => if i = 2 then 1 else if i < 2 then 0xFF else 0
  grant := fun s c =>
    match canUses s c with
    | some d => some d
    | none =>
      let n := c.arg 0 1
      let may := match c.caller with
        | some p => c.owns (s.canOwner n) || (s.part p).readsObject n (c.arg 1 1)
        | none => false
      if n < 24 ∧ c.arg 1 1 < 32 ∧ !may then some 0x8001 else none
  need := fun _ => 3
  body := fun c s =>
    let n := c.arg 0 1
    let m := c.arg 1 1
    if n > 23 then Reply.range s 0
    else if m > 31 then Reply.range s 1
    else
      let last := s.moLast n m
      let flags := b2n (s.wordBit (R.CANn_RXNEW n) m) + 2 * b2n (s.wordBit (R.CANn_RXOVR n) m)
      let words := (List.range 19).map fun w => if w ≤ last then s.raw (R.MOm_W0 n m + 4 * w) else 0
      let s1 := (s.moRead n m 0).2
      let s2 := (s1.moRead n m last).2
      let s3 := s2.when (nbit (c.arg 2 1) 0) fun s => s.setWordBit (R.CANn_RXOVR n) m false
      Reply.ok s3 (leBytes 4 flags ++ words.flatMap fun w => leBytes 4 w.toNat)

/-- CAN_STATUS (0x0407). -/
def opCanStatus : OpSpec where
  opcode := 0x0407
  classes := [clRt, clNormal]
  bits := allBits 1
  grant := canUses
  need := fun _ => 1
  body := fun c s =>
    let n := c.arg 0 1
    if n > 23 then Reply.range s 0
    else Reply.ok s (([R.CANn_STAT n, R.CANn_FLT n, R.CANn_CNT_TX n, R.CANn_CNT_RX n, R.CANn_CNT_ERR n, R.CANn_CNT_PXH n,
      R.CANn_CNT_LOST n, R.CANn_TDCV n]).flatMap fun a => leBytes 4 (s.raw a).toNat)

/-- CAN_BOFF_RELEASE (0x0408): at the expert level only, and only from BOFF_HELD. -/
def opCanBoffRelease : OpSpec where
  opcode := 0x0408
  classes := [clRt, clNormal]
  bits := allBits 1
  requester := fun _ c => if c.expert then none else some 32
  grant := canOwns
  need := fun _ => 1
  body := fun c s =>
    let n := c.arg 0 1
    if n > 23 then Reply.range s 0
    else if s.canState n ≠ ctHeld then Reply.err s stConflict 0
    else Reply.ok (s.boffRelease n)

/-- CAN_TRX_SET (0x0410): CONFLICT for SLEEP on a segment that the TALLY record names, its entry disabled or not. -/
def opCanTrxSet : OpSpec where
  opcode := 0x0410
  classes := [clNormal]
  bits := fun _ i => if i = 0 then 0xFF else if i = 1 then 0x07 else 0
  grant := canOwns
  need := fun _ => 2
  body := fun c s =>
    let j := c.arg 0 1
    if j > 23 then Reply.range s 0
    else if nbits (c.arg 1 1) 1 0 = txSleep && s.tly.rings.any (fun r => (r.on || r.bad) && r.seg == j) then Reply.err s stConflict 0
    else Reply.ok (s.trxWrite j (BitVec.ofNat 32 (c.arg 1 1)))

/-- CAN_TRX_GET (0x0411). -/
def opCanTrxGet : OpSpec where
  opcode := 0x0411
  classes := [clRt, clNormal]
  bits := allBits 1
  grant := canUses
  need := fun _ => 1
  body := fun c s =>
    let j := c.arg 0 1
    if j > 23 then Reply.range s 0
    else Reply.ok s (leBytes 4 (s.raw (R.TRXj_STAT j)).toNat ++ leBytes 4 (s.raw (R.TRXj_FLT j)).toNat)

/-! Landing (R277). -/

/-- NOT_GRANTED for routes outside the caller's blocks. -/
def State.routeGrant (s : State) (c : Ctx) (first n : Nat) : Option Nat :=
  if first + n ≤ 16384 ∧ !(List.range n).all fun i => c.owns (s.blkOwner ((first + i) / 256)) then some 0x8000 else none

/-- Values that write whole route entries. -/
def routeVals (r : Nat) (b : List Byte) : List (Fld × Nat) := (List.range 8).map fun k => (⟨R.LGW_ROUTE r k, 31, 0⟩, le b (4 * k) 4)

/-- Blocks of a list of routes, as commit groups. -/
def blocksOf (rs : List Nat) : List Nat := (rs.map fun r => 0x0600 + r / 256).eraseDups

/-- Where a rule first names a field of the first entry of LGW_ROUTE_SET: KIND, SPOS, UNIT, EMITTER, DPOS, UNIT, PERIOD, UNIT. -/
def routeOffs (g r : Nat) : Nat := if 0x0600 ≤ g then 4 + [0, 0, 12, 2, 26, 14, 2, 8, 2].getD r 0 else 6

/-- LGW_ROUTE_SET (0x0601). -/
def opLgwRouteSet : OpSpec where
  opcode := 0x0601
  classes := [clNormal]
  bits := fun p i => if i < 3 then 0xFF else if 4 ≤ i ∧ i < 4 + 32 * le p 2 1 then 0xFF else 0
  grant := fun s c => s.routeGrant c (c.arg 0 2) (min 31 (c.arg 2 1))
  need := fun p => 4 + 32 * min 31 (le p 2 1)
  body := fun c s =>
    let r := c.arg 0 2
    let n := c.arg 2 1
    if r + n > 16384 then Reply.range s 0
    else if n < 1 ∨ n > 31 then Reply.range s 2
    else
      let vals := (List.range n).flatMap fun i => routeVals (r + i) ((c.payload.drop (4 + 32 * i)).take 32)
      s.checkedBasic c vals (blocksOf ((List.range n).map (r + ·))) routeOffs

/-- LGW_IMAGE_SET (0x0602): the image bytes in their places (R250), other bytes as a read returns them. -/
def opLgwImageSet : OpSpec where
  opcode := 0x0602
  classes := [clNormal]
  bits := fun _ i => if i = 2 ∨ i = 3 ∨ i ≥ 68 then 0 else 0xFF
  grant := fun s c => s.routeGrant c (c.arg 0 2) 1
  need := fun _ => 68
  body := fun c s =>
    let r := c.arg 0 2
    if r ≥ 16382 ∨ (s.route r).kind ≠ kEmit then Reply.range s 0
    else
      let im := (c.payload.drop 4).take 64
      let e0 := (routeBytes s.view r).take 16 ++ im.take 16
      let e1 := (routeBytes s.view (r + 1)).take 1 ++ (im.drop 16).take 31
      let e2 := (routeBytes s.view (r + 2)).take 1 ++ im.drop 47 ++ (routeBytes s.view (r + 2)).drop 18
      s.checkedBasic c (routeVals r e0 ++ routeVals (r + 1) e1 ++ routeVals (r + 2) e2) (blocksOf [r]) fun _ _ => 0

/-- LGW_ENABLE (0x0603): an EMIT route takes its CONT entries with it. -/
def opLgwEnable : OpSpec where
  opcode := 0x0603
  classes := [clRt, clNormal]
  bits := fun _ i => if i = 0 ∨ (4 ≤ i ∧ i < 68) then 0xFF else 0
  grant := fun s c => if c.arg 0 1 < 64 ∧ !c.owns (s.blkOwner (c.arg 0 1)) then some 0x8000 else none
  need := fun _ => 68
  body := fun c s =>
    let b := c.arg 0 1
    if b > 63 then Reply.range s 0
    else
      let picked := (List.range 256).filter fun i => bitAt (c.payload.drop 4) i
      let one (i : Nat) : List (Fld × Nat) :=
        let r := 256 * b + i
        let v := b2n (bitAt (c.payload.drop 36) i)
        let en (q : Nat) : Fld × Nat := (⟨R.LGW_ROUTE q 0, 3, 3⟩, v)
        if (s.route r).kind = kEmit then [en r, en (r + 1), en (r + 2)] else [en r]
      if picked.isEmpty then Reply.ok s
      else s.checkedBasic c (picked.flatMap one) [0x0600 + b] fun _ _ => 36

/-- LGW_READ (0x0604). -/
def opLgwRead : OpSpec where
  opcode := 0x0604
  classes := [clRt, clNormal]
  bits := allBits 3
  grant := fun s c => s.routeGrant c (c.arg 0 2) (min 62 (c.arg 2 1))
  need := fun _ => 3
  body := fun c s =>
    let r := c.arg 0 2
    let n := c.arg 2 1
    if r + n > 16384 then Reply.range s 0
    else if n < 1 ∨ n > 62 then Reply.range s 2
    else Reply.ok s (s.bytesAt (R.LGW_SLOT r 0) (16 * n))

/-- LGW_STATUS (0x0605). -/
def opLgwStatus : OpSpec where
  opcode := 0x0605
  classes := [clRt, clNormal]
  bits := allBits 0
  need := fun _ => 0
  body := fun _ s => Reply.ok s (padTo 32 (([R.LGW_CNT_PEAK, R.LGW_CNT_DROP, R.LGW_CNT_MISFIT, R.LGW_CNT_BADCTN, R.FRM_CNT_LGW]).flatMap
    fun a => leBytes 4 (s.raw a).toNat))

/-- GWB_STATUS (0x0610). -/
def opGwbStatus : OpSpec where
  opcode := 0x0610
  classes := [clNormal]
  bits := allBits 1
  need := fun _ => 1
  body := fun c s => if c.arg 0 1 > 5 then Reply.range s 0 else Reply.ok s (s.bytesAt (R.GWB_Lg_STAT (c.arg 0 1)) 32)

def execCanConfig (m : Fin 17) (fate : Fate) (s : State) : Out := s.finish (s.runRow opCanConfig m fate)
def execCanRun (m : Fin 17) (fate : Fate) (s : State) : Out := s.finish (s.runRow opCanRun m fate)
def execCanFilter (m : Fin 17) (fate : Fate) (s : State) : Out := s.finish (s.runRow opCanFilter m fate)
def execCanFifo (m : Fin 17) (fate : Fate) (s : State) : Out := s.finish (s.runRow opCanFifo m fate)
def execCanSend (m : Fin 17) (fate : Fate) (s : State) : Out := s.finish (s.runRow opCanSend m fate)
def execCanRead (m : Fin 17) (fate : Fate) (s : State) : Out := s.finish (s.runRow opCanRead m fate)
def execCanStatus (m : Fin 17) (fate : Fate) (s : State) : Out := s.finish (s.runRow opCanStatus m fate)
def execCanBoffRelease (m : Fin 17) (fate : Fate) (s : State) : Out := s.finish (s.runRow opCanBoffRelease m fate)
def execCanTrxSet (m : Fin 17) (fate : Fate) (s : State) : Out := s.finish (s.runRow opCanTrxSet m fate)
def execCanTrxGet (m : Fin 17) (fate : Fate) (s : State) : Out := s.finish (s.runRow opCanTrxGet m fate)
def execLgwRouteSet (m : Fin 17) (fate : Fate) (s : State) : Out := s.finish (s.runRow opLgwRouteSet m fate)
def execLgwImageSet (m : Fin 17) (fate : Fate) (s : State) : Out := s.finish (s.runRow opLgwImageSet m fate)
def execLgwEnable (m : Fin 17) (fate : Fate) (s : State) : Out := s.finish (s.runRow opLgwEnable m fate)
def execLgwRead (m : Fin 17) (fate : Fate) (s : State) : Out := s.finish (s.runRow opLgwRead m fate)
def execLgwStatus (m : Fin 17) (fate : Fate) (s : State) : Out := s.finish (s.runRow opLgwStatus m fate)
def execGwbStatus (m : Fin 17) (fate : Fate) (s : State) : Out := s.finish (s.runRow opGwbStatus m fate)

end Sys2Proof.Machine
end

