-- ==== Sys2Proof/Machine/Records.lean ====
section
/-! DEFINITION. Configuration records (R76-R78, R507): the format and validity of a copy, selection, the write
procedure, repair. -/

namespace Sys2Proof.Machine

/-- Largest body (R76). -/
def recMax : Nat := 1048576

/-- A valid copy of record t for a firmware version (R77): CRC, TYPE, LENGTH, FORMAT. -/
def copyValid (fw t : Nat) (c : List Byte) : Bool :=
  let n := le c 4 4
  decide (36 ≤ c.length) && decide (le c 0 2 = t + 1) &&
  (decide (le c 2 2 = 1) || (decide (1 < le c 2 2) && Config.readsFormat fw (t + 1) (le c 2 2))) && decide (n ≤ recMax) &&
  decide (c.length = 36 + n) && decide (le c (32 + n) 4 = crc32c (c.take (32 + n)))

/-- The bytes of a record (R76): header, body, CRC-32C over bytes 0 to 31 + LENGTH. -/
def recBytes (t fmt seq written : Nat) (body : List Byte) : List Byte :=
  let h := leBytes 2 (t + 1) ++ leBytes 2 fmt ++ leBytes 4 body.length ++ leBytes 4 seq ++ leBytes 4 written ++
    List.replicate 16 0 ++ body
  h ++ leBytes 4 (crc32c h)

def State.record (s : State) (t : Nat) : Record := s.records.getD t {}
def State.modRecord (s : State) (t : Nat) (f : Record → Record) : State := s.onRecords fun l => updAt l t f

/-- SEQ of a copy (R76). -/
def copySeq (c : List Byte) : Nat := le c 8 4

/-- The choice of R77: the copy used, and the events with their payloads. -/
def selectCopy (fw t : Nat) (r : Record) : Option Nat × More :=
  let ty := leBytes 2 (t + 1)
  match copyValid fw t r.c0, copyValid fw t r.c1 with
  | true, false => (some 0, [(35, .sys, ty ++ [1])])
  | false, true => (some 1, [(35, .sys, ty ++ [0])])
  | false, false => (none, [(37, .sys, ty)])
  | true, true =>
    if copySeq r.c0 ≠ copySeq r.c1 then (some (if copySeq r.c0 < copySeq r.c1 then 1 else 0), [])
    else if r.c0 = r.c1 then (some 0, [])
    else if t = recSafety then (none, [(34, .sys, ty ++ [1])])
    else (some 0, [(34, .sys, ty ++ [0])])

/-- RECORD_SELECT of one record (R77). -/
def State.recordSelect (s : State) (t : Nat) : State :=
  let (u, evs) := selectCopy s.fwVersion t (s.record t)
  (s.modRecord t fun r => { r with used := u }).raises evs

/-- The SEQ of the next write (R76): none where it would be 0xFFFF_FFFF. -/
def nextSeq (fw t : Nat) (r : Record) : Option Nat :=
  let v := (if copyValid fw t r.c0 then [copySeq r.c0] else []) ++ (if copyValid fw t r.c1 then [copySeq r.c1] else [])
  let n := if v.isEmpty then 1 else v.foldl max 0 + 1
  if n = 0xFFFFFFFF then none else some n

/-- The target copy of a write (R76). -/
def writeTarget (fw t : Nat) (r : Record) : Nat :=
  match copyValid fw t r.c0, copyValid fw t r.c1 with
  | false, false => 0
  | false, true => 0
  | true, false => 1
  | true, true => if copySeq r.c0 < copySeq r.c1 then 0 else 1

def Record.setCopy (r : Record) (c : Nat) (b : List Byte) : Record := if c = 0 then { r with c0 := b } else { r with c1 := b }

/-- A record as R76 writes it: its final status and detail, the new SEQ, the record after it, and the event. Afterwards the
copy in use is the one that R77 selects. Where the new SEQ would be 0xFFFF_FFFF no payload field is at fault, and DETAIL is
0. A write that fails before its commit has erased the target, which R69 allows, and CFG_COPY_BAD names it. DESIGN CHOICE
both. -/
def writeCopies (fw t now : Nat) (r : Record) (body : List Byte) (out : LongOut) : Nat × Nat × Nat × Record × More :=
  match nextSeq fw t r with
  | none => (stRange, 0, 0, r, [])
  | some n =>
    let fmt := match (selectCopy fw t r).1 with | some c => le (r.copy c) 2 2 | none => 1
    let sel (x : Record) : Record := { x with used := (selectCopy fw t x).1 }
    let b := recBytes t fmt n now body
    let c := writeTarget fw t r
    match out with
    | .ok => (stOk, 0, n, { (r.setCopy c b).setCopy (1 - c) b with used := some c }, [])
    | .otherBad =>
      (stOk, 0, n, { (r.setCopy c b).setCopy (1 - c) [] with used := some c }, [(35, .sys, leBytes 2 (t + 1) ++ leBytes 1 (1 - c))])
    | .internal code => (stInternal, code, 0, sel (r.setCopy c []), [(35, .sys, leBytes 2 (t + 1) ++ leBytes 1 c)])

/-- A record write (R76, R69): its final status and detail, the new SEQ, and the state after it. During a trial a record
with migration copies in use is written to them only (R430). -/
def State.recordWrite (s : State) (t : Nat) (body : List Byte) (out : LongOut) : Nat × Nat × Nat × State :=
  let (st, d, n, r, evs) := writeCopies s.fwVersion t s.rtc (s.inUse t) body out
  let s1 := if (s.upd.migr.getD t {}).used.isSome then s.onUpd fun u => { u with migr := updAt u.migr t fun _ => r }
    else s.modRecord t fun _ => r
  (st, d, n, s1.raises evs)

/-- CFG_COPY_REPAIR (R78): the invalid copy rewritten from the valid one; a split is not repaired. -/
def State.copyRepair (s : State) (t : Nat) : State :=
  let r := s.record t
  match copyValid s.fwVersion t r.c0, copyValid s.fwVersion t r.c1 with
  | true, false => (s.modRecord t fun r => { r with c1 := r.c0 }).raise 36 .sys (leBytes 2 (t + 1) ++ [1])
  | false, true => (s.modRecord t fun r => { r with c0 := r.c1 }).raise 36 .sys (leBytes 2 (t + 1) ++ [0])
  | _, _ => s

/-- Bytes of the Forester's service buffer (R507). -/
def svcBufSize : Nat := 1052672

/-- Whether a source range is within what the caller may name (R507): one of its RW system SRAM regions, or the
service buffer. -/
def State.sourceOk (s : State) (c : Ctx) (addr n : Nat) : Bool :=
  match c.caller with
  | some p => (s.part p).inRwSram addr n
  | none => decide (addr + n ≤ svcBufSize)

/-- The source bytes of a LONG command as they stand when they are read (R507). -/
def State.sourceBytes (s : State) (l : LongCmd) (addr n : Nat) : List Byte :=
  if l.mbx = forester ∧ l.attr.rqc.val = 3 then (List.range n).map fun i => sget (fun _ => 0) s.svcBuf (addr + i)
  else s.memRead addr n

end Sys2Proof.Machine
end

