-- ==== Sys2Proof/Machine/Modes.lean ====
section
/-! DEFINITION. Operating modes and Degraded causes (R465, R467 of 17_supervisor.md). -/

namespace Sys2Proof.Machine

/-- Mode codes (R465). -/
def mdDormant : Nat := 0
def mdSleep : Nat := 1
def mdListen : Nat := 2
def mdStartup : Nat := 3
def mdCommission : Nat := 4
def mdLead : Nat := 5
def mdReserve : Nat := 6
def mdTakeover : Nat := 7
def mdDegraded : Nat := 8
def mdSafeHold : Nat := 9
def mdUpdate : Nat := 10
def mdService : Nat := 11

def State.mode (s : State) : Nat := s.rd R.SUP_MODE_MODE
def State.modSvr (s : State) (f : Sup → Sup) : State := s.onSvr f

/-- A change of mode with its event (R465, R470). -/
def State.setMode (s : State) (m : Nat) : State :=
  if s.mode = m then s
  else (s.wr R.SUP_MODE_MODE m).raise 0 .pub ([BitVec.ofNat 8 m, BitVec.ofNat 8 s.mode] ++ leBytes 2 (s.rd R.SUP_MODE_DEGR))

/-- Two valid copies with equal SEQ that differ (R77). -/
def splitCopies (fw t : Nat) (r : Record) : Bool :=
  copyValid fw t r.c0 && copyValid fw t r.c1 && decide (copySeq r.c0 = copySeq r.c1) && decide (r.c0 ≠ r.c1)

/-- A valid copy of OPTIONS (R459): its CRC, and every field in range. -/
def optsValid (b : List Byte) : Bool :=
  decide (b.length = 64) && decide (le b 60 4 = crc32c (b.take 60)) && decide (le b 4 1 = 1) && decide (le b 5 1 ≤ 16) &&
  decide (1 ≤ le b 7 1 ∧ le b 7 1 ≤ 7) && decide (le b 8 1 ≤ le b 5 1) && decide (le b 9 1 ≤ 1) &&
  decide (le b 10 2 ≤ 384 - 8 * le b 5 1) && decide (le b 12 2 ≤ 3584) && (b.drop 14).take 46 == List.replicate 46 0

def optsSplit (r : Record) : Bool :=
  optsValid r.c0 && optsValid r.c1 && decide (le r.c0 0 4 = le r.c1 0 4) && decide (r.c0 ≠ r.c1)

/-- Cause CFG (R467): a non-SAFETY record or OPTIONS split, or a non-SAFETY record missing, as the copies in flash stand. -/
def State.cfgBad (s : State) : Bool :=
  optsSplit s.svr.opts || (List.range 11).any fun t =>
    t ≠ recSafety && (splitCopies s.fwVersion t (s.record t) || (!copyValid s.fwVersion t (s.record t).c0 && !copyValid s.fwVersion t (s.record t).c1))

/-- The Degraded causes that hold (R467), bit by bit. -/
def State.causes (s : State) : List Bool :=
  [(List.range 8).any fun k => decide (s.rd (R.LSC_Pk_STAT_STATE k) = 4),
   (List.range 16).any fun p =>
    (s.part p).created && nbit (s.part p).flags 4 && decide (s.partState p = stStopped) && !(s.part p).stopCmd,
   (List.range 6).any fun g => !s.isSet (R.GWB_Lg_STAT_UP g),
   s.isSet R.SUP_CLK_FALLBACK,
   match s.svr.localFrom with | some t => decide (t + 10000000000 ≤ s.now) | none => false,
   s.cfgBad,
   s.svr.lossA || s.svr.lossB || s.svr.ext,
   s.svr.hot,
   decide (s.rd R.SUP_STRAP_CLKM = 3)]

/-- SUP_MODE.DEGR as the causes stand, and the change between Lead and Degraded (R466), once the Forester runs. -/
def State.degr (s : State) : State :=
  if s.svr.rel ≤ 6 then s else
  let v := s.causes.foldr (fun b acc => b2n b + 2 * acc) 0
  let s1 := s.wr R.SUP_MODE_DEGR v
  if s1.mode = mdLead ∧ v ≠ 0 then s1.setMode mdDegraded
  else if s1.mode = mdDegraded ∧ v = 0 then s1.setMode mdLead
  else s1

end Sys2Proof.Machine
end

