-- ==== Sys2Proof/Machine/Gwebry.lean ====
section
/-! DEFINITION. The Gwebry links (R265-R275): training, locks, delayed completions, prefetch lines, errors. The transfer of
a request is in Machine/Fabric.lean. -/

namespace Sys2Proof.Machine

def State.gwb (s : State) (g : Nat) : Gwb := s.gwbs.getD g {}
def State.modGwb (s : State) (g : Nat) (f : Gwb → Gwb) : State := s.onGwbs fun l => updAt l g f

/-- Error types of GWB_Lg_ERR_INFO (R275). -/
def geDecerr : Nat := 0
def geSlverr : Nat := 1
def geTimeout : Nat := 2
def geLock : Nat := 3
def geLink : Nat := 4

/-- The link that carries an access (R21, R271): the far window's, and link 1 for the island's accesses to other dies. -/
def farLink (a : Attr) (addr : Nat) : Option Nat :=
  let w := (addr - 0x20600000) / 0x100000
  let far := decide (0x20600000 ≤ addr ∧ addr < 0x20C00000)
  if a.rqc.val = 5 then (if far ∧ w = 1 then none else some 1)
  else if far then some w else none

/-- An event of a link (R278): bytes 16-17 hold the link; GWB_LINK_DOWN and GWB_LINK_UP are public, GWB_TIMEOUT and
GWB_FAR_ERR go to the partition of PID when RQC is 0 or 2, the others to the Forester. -/
def State.gwbEvent (s : State) (g e : Nat) (who : Option Attr) (rest : List Byte := []) : State :=
  let o : Owner := if e = 246 ∨ e = 247 then .pub
    else match who with
    | some a => if (e = 243 ∨ e = 244) ∧ a.isPart then .part a.pid else .sys
    | none => .sys
  s.raise e o (leBytes 2 g ++ rest)

/-- An error response to the requester. -/
def State.busErr (s : State) (t : RespType) : State := s.onBus fun _ => { err := true, type := t }

/-- The response that an error type of R275 gives. -/
def respOf (t : Nat) : RespType := [RespType.decerr, .slverr, .timeout, .lock].getD t .link

/-! Requests on a link (R266-R268). -/

/-- Whether a request goes from the far die to the crown: the island's (R271). -/
def GwbTx.toCrown (t : GwbTx) : Bool := decide (t.attr.rqc.val = 5)

/-- Tags of the non-posted requests of one direction in flight (R267), in order: each needs one of 8 credits of its class and
one of 32 completion slots, and stays behind an earlier posted write of its requester. -/
def inFlight (crown : Bool) : List GwbTx → Nat → Nat → Nat → List Attr → List Nat
  | [], _, _, _, _ => []
  | t :: rest, reads, writes, slots, posted =>
    if t.toCrown != crown || t.held.isSome then inFlight crown rest reads writes slots posted
    else if t.posted then inFlight crown rest reads writes slots (t.attr :: posted)
    else if posted.contains t.attr || decide (32 ≤ slots) then inFlight crown rest reads writes slots posted
    else if t.val.isNone then
      if reads < 8 then t.tag :: inFlight crown rest (reads + 1) writes (slots + 1) posted else inFlight crown rest reads writes slots posted
    else if writes < 8 then t.tag :: inFlight crown rest reads (writes + 1) (slots + 1) posted
    else inFlight crown rest reads writes slots posted

/-- The tags in flight on a link in one direction; a completion that is held keeps its slot. -/
def Gwb.flying (x : Gwb) (crown : Bool) : List Nat :=
  inFlight crown x.txs 0 0 (x.txs.filter fun t => t.toCrown == crown && t.held.isSome).length []

/-- Requests towards the far die in the issue buffer: neither in flight nor completed. -/
def Gwb.buffered (x : Gwb) : Nat := (x.txs.filter fun t => !t.toCrown && t.held.isNone && !(x.flying false).contains t.tag).length

/-- A request enters the link under the next tag. -/
def Gwb.put (x : Gwb) (t : GwbTx) : Gwb := { x with txs := x.txs ++ [{ t with tag := x.nextTag }], nextTag := x.nextTag + 1 }

/-- Places of the issue buffer (R268). -/
def issuePlaces : Nat := 32

/-- Repeated requests that find a place again, in their order. -/
def Gwb.refill (x : Gwb) : Gwb :=
  x.again.foldl (fun y t => if y.again.isEmpty && decide (y.buffered < issuePlaces) then y.put t else { y with again := y.again ++ [t] }) { x with again := [] }

/-- A request that comes to an end on its link. -/
def State.txDrop (s : State) (g tag : Nat) : State :=
  s.modGwb g fun x => Gwb.refill { x with txs := x.txs.filter fun y => y.tag ≠ tag }

/-- The requester of a request waits for it, or no longer does. -/
def State.txWaits (s : State) (g tag : Nat) (v : Bool) : State :=
  s.modGwb g fun x => { x with txs := x.txs.map fun y => if y.tag = tag then { y with waits := v } else y }

/-- An error of a transaction that is no longer open: logged (R275). Class 0 PW, 1 NPR, 2 NPW. -/
def State.farErr (s : State) (g : Nat) (a : Attr) (addr type cls : Nat) : State :=
  let s1 := if s.isSet (R.GWB_Lg_ERR_INFO_VALID g) then s.wr (R.GWB_Lg_ERR_INFO_MORE g) 1
    else
      let s0 := (((s.wr (R.GWB_Lg_ERR_ADDR_ADDR g) addr).wr (R.GWB_Lg_ERR_INFO_VALID g) 1).wr (R.GWB_Lg_ERR_INFO_TYPE g) type).wr (R.GWB_Lg_ERR_INFO_RQC g) a.rqc
      ((s0.wr (R.GWB_Lg_ERR_INFO_W g) (b2n a.w)).wr (R.GWB_Lg_ERR_INFO_PID g) a.pid).wr (R.GWB_Lg_ERR_INFO_CLASS g) cls
  s1.gwbEvent g 243 (some a) (leBytes 4 (s1.raw (R.GWB_Lg_ERR_ADDR g)).toNat ++ leBytes 4 (s1.raw (R.GWB_Lg_ERR_INFO g)).toNat)

/-- A link goes up or down: its page, and LINK_OK of its far die. -/
def State.linkUp (s : State) (g : Nat) (v : Bool) : State :=
  (s.wrB (R.GWB_Lg_STAT_UP g) v).wrB (if g < 2 then R.LIMB_STAT_LINK_OK g else R.BOLE_STAT_LINK_OK (g - 2)) v

/-! Prefetch (R272, R273). -/

/-- The read-sensitive words of a line that were never read: counted and reported. -/
def State.lineLost (s : State) (g : Nat) (l : GwbLine) : State :=
  s.each ((l.sens.zipIdx).filter fun x => x.1) fun s x =>
    let a := l.addr + 4 * x.2
    ((s.bump (R.GWB_Lg_CNT2_SIDE g)).wr (R.GWB_Lg_SIDE_ADDR_ADDR g) a).gwbEvent g 240 none (leBytes 4 a)

/-- Held lines that meet a condition are discarded. -/
def State.lineDrop (s : State) (g : Nat) (p : GwbLine → Bool) : State :=
  let gone := (s.gwb g).lines.filter p
  (s.modGwb g fun x => { x with lines := x.lines.filter fun l => !p l }).each gone fun s l => s.lineLost g l

/-- Range descriptors of a link that hold an address: PREFETCH or NPW set in one whose lines take it in (R272). -/
def State.inRange (s : State) (g addr : Nat) (f : Nat → Nat → Fld) : Bool :=
  let line := addr % 0x100000 / 64
  (List.range 8).any fun r => s.isSet (f g r) && decide (s.rd (R.GWB_Lg_PFr_BASE_LINE g r) ≤ line ∧ line ≤ s.rd (R.GWB_Lg_PFr_LIM_LINE g r))

/-! Delayed completions (R269-R271). -/

/-- NONPOSTED_TIMEOUT: an error response of type TIMEOUT; a later completion is a delayed one. -/
def State.txTimeout (s : State) (g tag : Nat) : State :=
  match (s.gwb g).txs.find? fun t => t.tag = tag ∧ t.waits ∧ ((s.gwb g).flying t.toCrown).contains tag with
  | none => s
  | some t =>
    (((s.txWaits g tag false).bump (R.GWB_Lg_CNT1_TIMEOUT g)).busErr .timeout).gwbEvent g 244 (some t.attr)
      (leBytes 4 t.addr ++ [BitVec.ofNat 8 t.attr.rqc, BitVec.ofNat 8 t.attr.pid])

/-- ISLAND_RETRY_TIMEOUT: the island bus receives RETRY (R271). -/
def State.islandRetry (s : State) (tag : Nat) : State :=
  match (s.gwb 1).txs.find? fun t => t.tag = tag ∧ t.waits ∧ t.held = none ∧ t.attr.rqc.val = 5 with
  | none => s
  | some _ => ((s.txWaits 1 tag false).bump (R.GWB_Lg_CNT1_RETRY 1)).busErr .retry

/-- Whether reading a register changes state: RC fields, and a registers whose chapter gives its read a side effect
(R273): TMU_LC_NS, TMU_DOMx_STAT, FRM_NUM_LO, the objects of a CAN controller. -/
def readSensitive (addr : Nat) : Bool :=
  (match lookupReg addr with
   | some (r, _) => decide (r.mask (fun f => f.acc == .rc) ≠ 0)
   | none => false) ||
  decide (addr = R.TMU_LC_NS ∨ addr = R.TMU_DOMx_STAT 0 ∨ addr = R.TMU_DOMx_STAT 1 ∨ addr = R.FRM_NUM_LO) ||
  decide (0x20100000 ≤ addr ∧ addr < 0x20118000 ∧ R.MOm_W0 0 0 ≤ addr - (addr - 0x20100000) / 0x1000 * 0x1000 ∧
    addr - (addr - 0x20100000) / 0x1000 * 0x1000 < R.MOm_FID 0 0)

/-- DELAYED_COMPLETION_EXPIRY: a delayed completion not collected is discarded; an error in it is logged (R275). -/
def State.delayedDrop (s : State) (g tag : Nat) : State :=
  match (s.gwb g).txs.find? fun t => t.tag = tag ∧ !t.waits ∧ t.held.isSome with
  | none => s
  | some t =>
    let s0 := (s.txDrop g tag).bump (R.GWB_Lg_CNT0_DISCARD g)
    let s1 := match t.held with
      | some (_, some type) => s0.farErr g t.attr t.addr type (if t.val.isSome then 2 else 1)
      | _ => s0
    let s2 := if (s.gwb g).discRaised then s1
      else (s1.modGwb g fun x => { x with discRaised := true }).gwbEvent g 241 none (leBytes 4 t.addr ++ [BitVec.ofNat 8 t.attr.rqc])
    if t.val.isNone && readSensitive t.addr && (t.held.any fun x => x.2.isNone) then
      ((s2.bump (R.GWB_Lg_CNT2_SIDE g)).wr (R.GWB_Lg_SIDE_ADDR_ADDR g) t.addr).gwbEvent g 240 none (leBytes 4 t.addr)
    else s2

/-! Locks (R274). -/

/-- Who may lock a link: the Forester, or an application core in heartwood. -/
def mayLock (a : Attr) : Bool := a.isForester || (decide (a.rqc.val = 0) && a.w)

/-- A lock ends. -/
def State.unlock (s : State) (g : Nat) : State :=
  ((s.wr (R.GWB_Lg_LOCK_REQ g) 0).wr (R.GWB_Lg_LOCK_GRANT g) 0).modGwb g fun x => { x with locker := none }

/-- GWB_LOCK_REQUEST: REQ = 1. A request while another holds or awaits the lock changes nothing. -/
def State.lockReq (s : State) (a : Attr) (g : Nat) : State :=
  if !mayLock a then s.deny a (R.GWB_Lg_LOCK g)
  else
    let s0 := s.respondBus 0
    match (s.gwb g).locker with
    | some _ => s0
    | none => (s0.wr (R.GWB_Lg_LOCK_REQ g) 1).modGwb g fun x => { x with locker := some a }

/-- GWB_UNLOCK: REQ = 0 by the locking requester. -/
def State.lockEnd (s : State) (a : Attr) (g : Nat) : State :=
  if !mayLock a then s.deny a (R.GWB_Lg_LOCK g)
  else if (s.gwb g).locker = some a then (s.respondBus 0).unlock g else s.respondBus 0

/-- LOCK_GRANT: the far die's port is idle, with nothing in flight to it; held lines are discarded (R272). -/
def State.lockGrant (s : State) (g : Nat) : State :=
  if (s.gwb g).locker.isSome && !s.isSet (R.GWB_Lg_LOCK_GRANT g) && s.linkOk g && ((s.gwb g).flying false).isEmpty then
    (s.wr (R.GWB_Lg_LOCK_GRANT g) 1).lineDrop g fun _ => true
  else s

/-- LOCK_HOLD_EXPIRY: the bridge ends a lock held for 4 us. -/
def State.lockExpire (s : State) (g : Nat) : State :=
  match (s.gwb g).locker with
  | some a =>
    if s.isSet (R.GWB_Lg_LOCK_GRANT g) then
      (((s.unlock g).modGwb g fun x => { x with lockErr := some a }).wr (R.GWB_Lg_LOCK_LOCK_TO g) 1).gwbEvent g 242 none [BitVec.ofNat 8 a.rqc]
    else s
  | none => s

/-! Link training (R265). -/

/-- A link retrains: the lock ends, held lines go (R272, R274). -/
def State.retrain (s : State) (g : Nat) : State :=
  let s1 := ((s.wr (R.GWB_Lg_STAT_TRAINING g) 1).bump (R.GWB_Lg_CNT2_RETRAIN g)).unlock g
  ((s1.modGwb g fun x => { x with replays := 0, fails := 0 }).lineDrop g fun _ => true).gwbEvent g 245 none

/-- LINK_CRC_ERROR of the packet with a sequence number: a replay, or a retrain after 3 failed replays of that packet. -/
def State.crcError (s : State) (g seq : Nat) : State :=
  if !s.linkOk g then s
  else
    let n := if (s.gwb g).replaySeq = seq then (s.gwb g).replays else 0
    if n ≥ 3 then s.retrain g
    else (s.bump (R.GWB_Lg_CNT0_REPLAY g)).modGwb g fun x => { x with replays := n + 1, replaySeq := seq }

/-- Every open transaction of a link that goes down ends with TYPE LINK: those whose requester waits get an error
response, posted writes are logged, a held completion is lost with the link. -/
def State.linkDown (s : State) (g : Nat) : State :=
  let txs := (s.gwb g).txs ++ (s.gwb g).again
  let s1 := ((s.linkUp g false).wr (R.GWB_Lg_STAT_TRAINING g) 0).modGwb g fun x => { x with txs := [], again := [], down := true }
  let s2 := s1.each (txs.filter fun t => t.posted) fun s t => s.farErr g t.attr t.addr geLink 0
  (s2.when (txs.any fun t => t.waits) fun s => s.busErr .link).gwbEvent g 246 none

/-- LINK_TRAINING_RESULT: success brings the link up, with GWB_LINK_UP when it was not; a third failure in succession takes it
down, the first training after a reset too. A link that is down ends each try with its failure (R265: a try every 10 ms). -/
def State.trained (s : State) (g : Nat) (ok : Bool) : State :=
  if !s.isSet (R.GWB_Lg_STAT_TRAINING g) then s
  else if ok then
    let was := s.isSet (R.GWB_Lg_STAT_UP g)
    let s1 := ((s.wr (R.GWB_Lg_STAT_TRAINING g) 0).linkUp g true).modGwb g fun x => { x with fails := 0, replays := 0, down := false }
    if was then s1 else s1.gwbEvent g 247 none
  else
    let n := (s.gwb g).fails + 1
    let s1 := s.modGwb g fun x => { x with fails := n }
    if (s.gwb g).down then s1.wr (R.GWB_Lg_STAT_TRAINING g) 0
    else if n < 3 then s1
    else s1.linkDown g

/-- LINK_TRAINING_RETRY: the bridge tries again every 10 ms. -/
def State.trainRetry (s : State) (g : Nat) : State :=
  if s.isSet (R.GWB_Lg_STAT_UP g) || s.isSet (R.GWB_Lg_STAT_TRAINING g) then s
  else (s.wr (R.GWB_Lg_STAT_TRAINING g) 1).modGwb g fun x => { x with fails := 0 }

/-- A frame marker on a link discards its lines and clears its frame's mark. -/
def State.gwbBoundary (s : State) : State :=
  s.each (List.range 6) fun s g => (s.modGwb g fun x => { x with discRaised := false }).lineDrop g fun _ => true

def execLinkCrcError (p : BadPacket) (s : State) : Out := s.finish (s.crcError p.link p.seq)
def execLaneLockLoss (g : Fin 6) (s : State) : Out := s.finish (if s.linkOk g then s.retrain g else s)
def execLinkTrainingResult (g : Fin 6) (ok : Bool) (s : State) : Out := s.finish (s.trained g ok).degr
def execLinkTrainingRetry (g : Fin 6) (s : State) : Out := s.finish (s.trainRetry g)
def execNonpostedTimeout (g : Fin 6) (tag : Nat) (s : State) : Out := s.finish (s.txTimeout g tag)
def execDelayedCompletionExpiry (g : Fin 6) (tag : Nat) (s : State) : Out := s.finish (s.delayedDrop g tag)
def execIslandRetryTimeout (tag : Nat) (s : State) : Out := s.finish (s.islandRetry tag)
def execPrefetchLineExpiry (g : Fin 6) (line : Nat) (s : State) : Out := s.finish (s.lineDrop g fun l => decide (l.addr = line))
def execGwbLockRequest (a : Attr) (g : Fin 6) (s : State) : Out := s.finish (s.lockReq a g)
def execGwbUnlock (a : Attr) (g : Fin 6) (s : State) : Out := s.finish (s.lockEnd a g)
def execLockGrant (g : Fin 6) (s : State) : Out := s.finish (s.lockGrant g)
def execLockHoldExpiry (g : Fin 6) (s : State) : Out := s.finish (s.lockExpire g)

end Sys2Proof.Machine
end

