-- ==== Sys2Proof/Machine/SysCmd.lean ====
section
/-! DEFINITION. The system group 0x01xx (R68, R57, R506, R507) but for the modes of chapter 17. -/

namespace Sys2Proof.Machine

/-- The kind of an event number (R75 and each chapter's event table). -/
inductive EvKind where
  | pub | group (g : Nat) | owned | sys
  deriving DecidableEq, Repr

/-- The kind of each event (R23, R75, R110, R136, R167, R197, R215, R247, R278, R307, R329, R362, R392, R415, R435,
R450, R470). -/
def evKind (e : Nat) : EvKind :=
  if e ∈ [0, 1, 6] then .pub
  else if e ≤ 31 then .sys
  else if e ∈ [32, 33, 38, 39, 40, 41, 42, 43] then .owned
  else if e ≤ 63 then .sys
  else if e ∈ [64, 65, 68, 69] then .pub
  else if e ∈ [66, 67, 96, 97, 98, 99, 100, 101, 102] then .owned
  else if e ∈ [135, 137, 140] then .pub
  else if e ∈ [130, 131, 132, 133, 134] then .owned
  else if e < 160 then .sys
  else if e ∈ [160, 161, 169, 170, 171, 172, 173] then .pub
  else if e < 206 then .owned
  else if e = 215 then .owned
  else if 208 ≤ e ∧ e < 220 then .pub
  else if e ∈ [229, 246, 247] then .pub
  else if e ∈ [224, 225, 226, 227, 228, 230, 243, 244] then .owned
  else if e < 256 then .sys
  else if e ∈ [294, 295] then .pub
  else if e < 320 then .owned
  else if 331 ≤ e ∧ e ≤ 337 then .pub
  else if e ∈ [357, 358] then .pub
  else if e < 384 then .owned
  else if e < 416 then .group 0x08
  else if e < 448 then .pub
  else if e ∈ [452, 453, 454, 455] then .pub
  else if e ∈ [448, 449, 450, 451, 456, 457, 458] then .owned
  else if e < 480 then .sys
  else if e ∈ [480, 481, 482, 483, 488, 489] then .pub
  else if e ∈ [485, 490] then .sys
  else .owned

/-- Whether partition p owns a resource that an owned event can name (R75), by the block of the event. -/
def State.ownsFor (s : State) (p e : Nat) : Bool :=
  let q := s.part p
  let any (off n : Nat) : Bool := (List.range n).any fun i => q.has off i
  if 320 ≤ e ∧ e < 384 then any offChOwn 64
  else if 256 ≤ e ∧ e < 288 then any offKtOwn 128 || any offKcOwn 32
  else if 288 ≤ e ∧ e < 320 then any offUioOwn 96 || any offSsOwn 8
  else if 192 ≤ e ∧ e < 206 then
    any offCanOwn 24 || ((e = 193 || e = 194) && (List.range 24).any fun n => q.sharesCan n)
  else if 160 ≤ e ∧ e < 192 then s.netOwner = some p
  else if 224 ≤ e ∧ e < 231 then any offLgwBlk 64
  else if e = 38 ∨ e = 39 then any offQueues 64
  else if 128 ≤ e ∧ e < 160 then any offKeys 32
  else true

/-- Whether partition p may subscribe to event e (R75). -/
def State.maySubscribe (s : State) (p e : Nat) : Bool :=
  (s.part p).isSystem ||
  match evKind e with
  | .pub => true
  | .group g => (s.part p).holds (63 + g)
  | .owned => s.ownsFor p e
  | .sys => false

/-- A subscription made, or its priority changed. -/
def Part.subscribe (q : Part) (e prio : Nat) : Part := { q with subs := (q.subs.filter fun x => x.1 ≠ e) ++ [(e, prio)] }

/-- SYS_HELLO (0x0101, R57, R506): GRANTED fixed once in a generation, and the subscriptions of MANIFEST EVT made. -/
def opSysHello : OpSpec where
  opcode := 0x0101
  classes := [clNormal]
  bits := allBits 16
  need := fun _ => 16
  body := fun c s =>
    let req := c.arg 0 16
    let res (r g : Nat) := leBytes 16 offered ++ leBytes 16 r ++ leBytes 16 g
    if c.mbx = forester then
      let held := match c.caller with
        | some p => ((s.part p).granted).getD 0
        | none => offered
      Reply.ok s (res req held)
    else
      let q := s.part c.mbx
      match q.granted with
      | some g => ⟨if req = q.requested then stOk else stConflict, 0, res q.requested g, s⟩
      | none =>
        let g := (offered &&& req &&& q.permitted) ||| 2 ^ 64
        let s1 := (s.modPart c.mbx fun q => { q with granted := some g, requested := req }).wr (R.MBX_STAT_HELLO c.mbx) 1
        let s2 := s1.each (List.range 512) fun s e =>
          if q.has offEvt e && s.maySubscribe c.mbx e && !((s.part c.mbx).subs.any fun x => x.1 = e) then
            s.modPart c.mbx fun q => q.subscribe e 2
          else s
        Reply.ok s2 (res req g)

/-- The ordering code (R1), ASCII. -/
def orderingCode : List Byte := [0x54, 0x5A, 0x4D, 0x36, 0x34, 0x30, 0x2D, 0x46]

/-- SYS_INFO (0x0102, R68). -/
def opSysInfo : OpSpec where
  opcode := 0x0102
  classes := [clRt, clNormal]
  bits := allBits 0
  need := fun _ => 0
  body := fun c s => Reply.ok s (orderingCode ++ leBytes 4 s.fwVersion ++ leBytes 4 (s.rd R.KSU_LCS_STATE) ++
    leBytes 1 (s.rd R.SUP_STRAP_ZONE) ++ leBytes 1 (s.rd R.SUP_MODE_MODE) ++ leBytes 2 (s.gen c.mbx))

/-- Meaningful bits of the payload of SYS_COMMIT and SYS_DISCARD: ALL, N, N group numbers (R68). -/
def groupBits (p : List Byte) (i : Nat) : Nat :=
  if i < 2 then 0xFF else if i < 4 then 0 else if i < 4 + 2 * le p 1 1 then 0xFF else 0

/-- The groups that SYS_COMMIT or SYS_DISCARD names: every group of the caller with staged values, or the list. -/
def State.namedGroups (s : State) (c : Ctx) : List Nat :=
  if c.arg 0 1 = 1 then s.stagedGroups.filter fun g => c.owns (s.groupOwner g)
  else (List.range (c.arg 1 1)).map fun i => c.arg (4 + 2 * i) 2

/-- The first listed group that the caller does not own: its payload offset (step 7). A number that names no group is
a matter of RANGE (R87). -/
def State.groupGrant (s : State) (c : Ctx) : Option Nat :=
  ((List.range (min 32 (c.arg 1 1))).find? fun i =>
    let g := c.arg (4 + 2 * i) 2
    groupExists g && !c.owns (s.groupOwner g)).map fun i => 0x8000 + 4 + 2 * i

/-- The range checks of SYS_COMMIT and SYS_DISCARD (R68, R87). -/
def Ctx.groupRange (c : Ctx) : Option Nat :=
  if c.arg 0 1 > 1 then some 0
  else if c.arg 1 1 > 32 ∨ (c.arg 0 1 = 1 ∧ c.arg 1 1 ≠ 0) then some 1
  else ((List.range (c.arg 1 1)).find? fun i => !groupExists (c.arg (4 + 2 * i) 2)).map fun i => 4 + 2 * i

/-- SYS_COMMIT (0x0110, R64, R67, R68): the COMMIT is accepted; a rejection is reported later (R65). -/
def opSysCommit : OpSpec where
  opcode := 0x0110
  classes := [clRt]
  bits := groupBits
  grant := fun s c => s.groupGrant c
  need := fun p => if le p 0 1 = 1 then 2 else 4 + 2 * min 32 (le p 1 1)
  body := fun c s =>
    match c.groupRange with
    | some d => Reply.range s d
    | none => Reply.ok (s.acceptCommit c.mbx (s.namedGroups c))

/-- SYS_DISCARD (0x0111): staged values of the named groups discarded; CONFLICT while an accepted COMMIT names one. -/
def opSysDiscard : OpSpec where
  opcode := 0x0111
  classes := [clRt]
  bits := groupBits
  grant := fun s c => s.groupGrant c
  need := fun p => if le p 0 1 = 1 then 2 else 4 + 2 * min 32 (le p 1 1)
  body := fun c s =>
    match c.groupRange with
    | some d => Reply.range s d
    | none =>
      let gs := s.namedGroups c
      match gs.find? fun g => s.commits.any fun k => k.groups.contains g with
      | some g => Reply.err s stConflict g
      | none => Reply.ok (s.discard gs)

/-- Step 3 and step 7 of the subscription commands (R75). -/
def evtRequester (_ : State) (c : Ctx) : Option Nat := if c.mbx = forester then some 0xFFFE else none
def evtGrant (s : State) (c : Ctx) : Option Nat :=
  if c.arg 0 2 ≤ 511 ∧ !s.maySubscribe c.mbx (c.arg 0 2) then some 0x8000 else none

/-- SYS_EVT_SUB (0x0120). -/
def opSysEvtSub : OpSpec where
  opcode := 0x0120
  classes := [clNormal]
  bits := allBits 3
  requester := evtRequester
  grant := evtGrant
  need := fun _ => 3
  body := fun c s =>
    if c.arg 0 2 > 511 then Reply.range s 0
    else if c.arg 2 1 > 3 then Reply.range s 2
    else Reply.ok (s.modPart c.mbx fun q => q.subscribe (c.arg 0 2) (c.arg 2 1))

/-- SYS_EVT_UNSUB (0x0121). -/
def opSysEvtUnsub : OpSpec where
  opcode := 0x0121
  classes := [clNormal]
  bits := allBits 2
  requester := evtRequester
  grant := evtGrant
  need := fun _ => 2
  body := fun c s =>
    if c.arg 0 2 > 511 then Reply.range s 0
    else Reply.ok (s.modPart c.mbx fun q => { q with subs := q.subs.filter fun x => x.1 ≠ c.arg 0 2 })

/-- SYS_CFG_READ (0x0130, R507). -/
def opSysCfgRead : OpSpec where
  opcode := 0x0130
  classes := [clNormal]
  bits := fun _ i => if i < 3 ∨ (4 ≤ i ∧ i < 10) then 0xFF else 0
  need := fun _ => 10
  body := fun c s =>
    let t := c.arg 0 2
    let off := c.arg 4 4
    let n := c.arg 8 2
    if t < 1 ∨ t > 11 then Reply.range s 0
    else
      let r := if c.arg 2 1 = 2 then s.inUse (t - 1) else s.record (t - 1)
      if c.arg 2 1 > 2 then Reply.range s 2
      else if c.arg 2 1 = 2 ∧ r.used = none then Reply.range s 2
      else if n < 1 ∨ n > 1008 then Reply.range s 8
      else
        let b := r.copy (if c.arg 2 1 = 2 then r.used.getD 0 else c.arg 2 1)
        let lim := 36 + (if c.arg 2 1 = 2 then le b 4 4 else recMax)
        if off + n > lim then Reply.range s 4
        else Reply.ok s ((List.range n).map fun i => b.getD (off + i) 0xFF)

/-- SYS_CFG_WRITE (0x0131, R69, R507): accepted; the write is done at its completion. -/
def opSysCfgWrite : OpSpec where
  opcode := 0x0131
  classes := [clLong]
  bits := fun _ i => if i < 2 ∨ (4 ≤ i ∧ i < 16) then 0xFF else 0
  need := fun _ => 16
  body := fun c s =>
    if c.arg 0 2 < 1 ∨ c.arg 0 2 > 11 then Reply.range s 0
    else if c.arg 4 4 > recMax then Reply.range s 4
    else if !s.sourceOk c (c.arg 8 8) (c.arg 4 4) then Reply.range s 8
    else if c.arg 0 2 = recSafety + 1 then Reply.err s stSafetyLocked 0
    else Reply.accepted s

/-- SYS_SVC_PUT (0x0132, R507). -/
def opSysSvcPut : OpSpec where
  opcode := 0x0132
  classes := [clNormal]
  bits := allBits 1008
  requester := fun _ c => if c.isService then none else some 0xFFFE
  need := fun _ => 5
  body := fun c s =>
    let n := c.len - 4
    if c.arg 0 4 + n > svcBufSize then Reply.range s 0
    else Reply.ok (s.each (((c.payload.drop 4).take n).zipIdx) fun s x =>
      s.onSvcBuf fun l => sset (fun _ => 0) l (c.arg 0 4 + x.2) x.1)

def execSysHello (m : Fin 17) (fate : Fate) (s : State) : Out := s.finish (s.runRow opSysHello m fate)
def execSysInfo (m : Fin 17) (fate : Fate) (s : State) : Out := s.finish (s.runRow opSysInfo m fate)
def execSysCommit (m : Fin 17) (fate : Fate) (s : State) : Out := s.finish (s.runRow opSysCommit m fate)
def execSysDiscard (m : Fin 17) (fate : Fate) (s : State) : Out := s.finish (s.runRow opSysDiscard m fate)
def execSysEvtSub (m : Fin 17) (fate : Fate) (s : State) : Out := s.finish (s.runRow opSysEvtSub m fate)
def execSysEvtUnsub (m : Fin 17) (fate : Fate) (s : State) : Out := s.finish (s.runRow opSysEvtUnsub m fate)
def execSysCfgRead (m : Fin 17) (fate : Fate) (s : State) : Out := s.finish (s.runRow opSysCfgRead m fate)
def execSysCfgWrite (m : Fin 17) (fate : Fate) (s : State) : Out := s.finish (s.runRow opSysCfgWrite m fate)
def execSysSvcPut (m : Fin 17) (fate : Fate) (s : State) : Out := s.finish (s.runRow opSysSvcPut m fate)
/-- CFG_COPY_REPAIR: never in Sleep or Listen (R78). -/
def execCfgCopyRepair (ty : Fin 11) (s : State) : Out :=
  s.finish (if s.mode = mdSleep ∨ s.mode = mdListen then s else (s.copyRepair ty).degr)

end Sys2Proof.Machine
end

