-- ==== Sys2Proof/Machine/Reset.lean ====
section
/-! DEFINITION. Resets (R454-R458 of 17_supervisor.md): what each reach resets, the assertion and the release of a
source, the hold-off (R460), a fatal stop (R288). -/

namespace Sys2Proof.Machine

/-- Reset source codes (R468). -/
def rsPor : Nat := 0
def rsBor : Nat := 1
def rsPin : Nat := 2
def rsWdg : Nat := 3
def rsSwr : Nat := 4
def rsDbg : Nat := 5
def rsClkf : Nat := 6
def rsLockup : Nat := 7
def rsSleep : Nat := 8

/-- Reach classes of a source (R454). -/
def whole : Nat := 0
def module : Nat := 1
def crown : Nat := 2

/-- The first step of R457 inside a reach. -/
def firstStep (reach : Nat) : Nat := if reach = whole then 1 else if reach = module then 2 else 5

/-- The block whose table lists a register. -/
def blkOf (a : Nat) : Option Blk := (lookupReg a).map fun x => x.1.blk

/-- Registers that a crown reset resets: every register of the crown die but those that the spec keeps (R305, R468). -/
def crownBlk : Blk → Bool
  | .ch | .bole | .limb | .uio | .ss | .ext | .trx | .wake | .fatal | .lscCnt | .sil | .isb | .supwd => false
  | _ => true

/-- Registers that a Module reset resets beside the crown's; the bole dies run on in hold (R456), and transceivers,
pins and supplies take their own reset states. -/
def moduleBlk : Blk → Bool
  | .limb | .uio | .ss | .ext | .fatal | .lscCnt | .sil | .isb => true
  | b => crownBlk b

/-- Registers cleared by block. -/
def State.clearBlks (s : State) (p : Blk → Bool) : State := s.clearRegs fun a => match blkOf a with | some b => p b | none => false

/-- Registers cleared by block, with the words of the mailboxes, which no table lists. -/
def State.clearDie (s : State) (p : Blk → Bool) : State := (s.clearBlks p).clearRegs fun a => decide (0x20030000 ≤ a ∧ a < 0x20041000)

/-- What a partition keeps through a Crown reset: the dates of its charged restarts and a refusal (R296). -/
def Part.kept (p : Part) : Part := { charged := p.charged, spent := p.spent }

/-- What the recorder keeps: the record store, and a freeze that the next start completes (R440, R445). -/
def Recorder.kept (r : Recorder) : Recorder :=
  { alarmArea := r.alarmArea, generalArea := r.generalArea, alarmPos := r.alarmPos, generalPos := r.generalPos, nextSlot := r.nextSlot, slots := r.slots, freeze := r.freeze,
    toWrite := r.toWrite, totals := r.totals }

/-- What the key store keeps: OTP, the directory in the record store, and the level of DBG-EN (R395, R397, R400). -/
def Sec.kept (x : Sec) : Sec :=
  { dbgEn := x.dbgEn, words := x.words, sealed := x.sealed, uid := x.uid, lcSeen := x.lcSeen, dir := x.dir }

/-- Life-cycle code of the OTP words: the leading words programmed; a torn word counts (R404, R405). -/
def lcOf : List Nat → Nat
  | [] => 0
  | w :: t => if w = 0 then 0 else 1 + lcOf t

/-- KSU fields that come from the OTP (R412). -/
def State.otpFields (s : State) : State :=
  (((s.wr R.KSU_LCS_STATE (lcOf s.sec.words)).wrB R.KSU_LCS_SEALED s.sec.sealed).wr R.KSU_UID_LO_UID s.sec.uid).wr
    R.KSU_UID_HI_UID (s.sec.uid / 2 ^ 32)

/-- SEQ of the next entry, from the highest in the record store (R438, R447). -/
def Recorder.storeSeq (r : Recorder) : Nat := (r.alarmArea ++ r.generalArea).foldl (fun a e => max a (e.seq + 1)) 0

/-- What the microsequencer's reset takes from a bole die (R9, R100, R454): every register that the hold latches do not
keep, and Scaler's capture; the states of channels and switches stand as their outputs do. -/
def State.boleSeqReset (s : State) : State :=
  let s1 := s.each (List.range 64) fun s n =>
    let regs := [R.CHn_FLT n, R.CHn_CNT n, R.CHn_MEAS_I n, R.CHn_MEAS_V n, R.CHn_MEAS_T n, R.CHn_MEAS_D n, R.CHn_MEAS_G n,
      R.CHn_MEAS_FRM n, R.CHn_WIRE_TC n, R.CHn_SIG_STAT n, R.CHn_SIG_F0 n, R.CHn_SIG_F1 n, R.CHn_SIG_SKIP n]
    let t := s.each regs fun s a => s.setRaw a (regReset a)
    let t1 := t.each [R.CHn_STAT_CAUSE n, R.CHn_STAT_OL_ON n, R.CHn_STAT_OL_OFF n, R.CHn_STAT_STB n] fun s f => s.wr f 0
    t1.modChan n fun c => { c with capture := none, samples := [], capFrame := 0, captured := false, devRun := (0, 0), devRaised := (false, false)
                                   sigDiv := 0, sigOf := s.rd (R.CHn_SIG_CFG_DIV n), fastRaised := false, deferRaised := false, verdict := .none }
  s1.each (List.range 4) fun s d => s.each [R.BOLE_VSUP d, R.BOLE_GOV_LOAD d] fun s a => s.setRaw a (regReset a)

/-- Fields of the supervisor's page that lie on the crown die (R468: those not marked WD). -/
def State.supReset (s : State) : State :=
  [R.SUP_CLK_SRC, R.SUP_CLK_FALLBACK, R.SUP_OPT_DEFAULTS, R.SUP_OPT_SPLIT, R.SUP_OPT_COPY].foldl
    (fun s f => s.wr f (bitsOf (regReset f.addr) f.hi f.lo)) s

/-- The crown die in reset: engines, queues, mailboxes, partitions and volatile keys go; bole and limb dies enter hold
and the lease lines go inactive (R99, R148, R370); the links and the transceivers stay, whose TXD is recessive now (R454,
R190, R192). An authorization ends (R407). A pair that is FAILED stays so (R298). -/
def State.crownDie (s : State) : State :=
  let s0 := s.when (s.isSet R.KSU_AUTH_SCOPE) fun s => s.raise 140 .pub [2]
  let s1 := (s0.each (List.range 4) fun s d => s.leaseLine d false).each (List.range 6) fun s g => s.farHold g 0
  let s2 := (s1.clearDie crownBlk).supReset
  let fin : State := {
    pending := s2.pending, now := s2.now, freeCtr := s2.freeCtr, regs := s2.regs, clk := s2.clk.steer s2.now 0, events := s2.events
    records := s2.records.map fun r => { r with used := none }
    parts := s2.parts.map Part.kept, inc := s2.inc.kept, chans := s2.chans, boles := s2.boles, dies := s2.dies, sos := s2.sos
    pins := s2.pins, sups := s2.sups, extIn := s2.extIn, sec := s2.sec.kept, svr := s2.svr
    trxs := s2.trxs, tly := { wakeIn := s2.tly.wakeIn, commitAt := s2.tly.commitAt }
    sil := { s2.sil with mirror := List.replicate 11 0, log := [] }, pairU := { relFrom := s2.pairU.relFrom, relLow := s2.pairU.relLow, sigFrom := s2.pairU.sigFrom, sigAt := s2.pairU.sigAt }
    upd := { s2.upd with migr := s2.upd.migr.map fun r => { r with used := none }, landing := none } }
  let links := (List.range 6).map fun g => (g, s.raw (R.GWB_Lg_STAT g))
  let failed := (List.range 8).filter fun k => decide (s.rd (R.LSC_Pk_STAT_STATE k) = 4)
  ((((fin.each failed fun s k => s.wr (R.LSC_Pk_STAT_STATE k) 4).each links fun s x => s.setRaw (R.GWB_Lg_STAT x.1) x.2).each
    (List.range 24) fun s j => s.trxUnblock j).otpFields.wrB R.PAIR_STAT_REL_IN (s.isSet R.PAIR_STAT_REL_IN)).wr
    R.INR_SEQ_SEQ s.inc.storeSeq

/-- What the island keeps without supply: its flash (R331, R357, R432). -/
def Sil.kept (x : Sil) : Sil := { pars := x.pars, pend := x.pend, sel := x.sel, fw := x.fw }

/-- The gate-enable lines and safe wires of the island go low (R332, R335). -/
def State.linesLow (s : State) : State :=
  (s.each (List.range 4) fun s k =>
    (((s.soGateChange k false false).soGateChange k true false).wr ⟨R.SIL_OUT, 4 * k, 4 * k⟩ 0).wr ⟨R.SIL_OUT, 4 * k + 1, 4 * k + 1⟩ 0).wr
    R.SIL_OUT_SWO_ACT 0

/-- Bits of the selector in ISB_STAT survive in the island's flash (R432). -/
def State.selTrial (s : State) : Bool := s.isSet R.ISB_STAT_TRIAL

/-- Without the L1 supply EXT-IN drives nothing (R150). -/
def State.extLow (s : State) : State := s.onExtIn fun l => l.map fun _ => (false, false)

/-- What a reset of Module reach takes beside the transceivers: the crown die,
L0 outside the wake domain, L1 with the island, the links; the microsequencers stop for 1 ms and run on in hold (R456);
UIO outputs and supplies go off; the EXT-IN path continues (R150). -/
def State.diesOff (s : State) : State :=
  let trial := s.selTrial
  let s1 := s.crownDie.linesLow
  let s2 := (s1.clearDie moduleBlk).wrB R.ISB_STAT_TRIAL trial
  let s3 := s2.otpFields
  let s4 : State := { s3 with
    parts := List.replicate 16 {}, pins := List.replicate 96 {}, sups := List.replicate 8 {}
    extIn := s3.extIn.map fun x => (x.1, false), sil := s3.sil.kept
    inc := { s3.inc with totals := List.replicate 208 0 } }
  ((s4.boleSeqReset.each (List.range 4) fun s d => s.seqStop d).each (List.range 6) fun s g => s.linkUp g false).wrB R.PAIR_STAT_REL_IN (s.isSet R.PAIR_STAT_REL_IN)

/-- The transceivers at a reset of their dies: STANDBY, with their wake detectors on (R190). -/
def State.trxReset (s : State) : State :=
  (s.clearBlks (· == .trx)).each (List.range 24) fun s j => (s.trxState j txStandby).wakeMirror j

/-- A reset of Module reach. -/
def State.moduleDies (s : State) : State := s.diesOff.trxReset

/-- Power off but for the wake domain (R211, R464, R466), to which the transceivers' states and wake detectors belong
(R169, R190): SLEEP and WAKE_EN stay as they are. -/
def State.powerOff (s : State) : State := s.diesOff.extLow

/-- Hold latches and bole code RAM cleared (R451, R456): every channel off with ON = 0, its retries full, and the
microsequencer waits for its code. -/
def State.boleClear (s : State) : State :=
  let s1 := s.clearBlks fun b => b == .ch || b == .bole
  let s2 : State := { s1 with chans := List.replicate 64 {}, boles := List.replicate 4 {}, sos := List.replicate 8 {} }
  let s3 := s2.onUpd fun u => { u with ucode := (List.replicate 4 []) ++ u.ucode.drop 4 }
  (s3.each (List.range 64) fun s n => s.wr (R.CHn_STAT_RETRY_LEFT n) (s.rd (R.CHn_TIM_RETRY_MAX n))).each (List.range 4) fun s d =>
    s.wr (R.BOLE_STAT_SEQ_RUN d) 0

/-- A reset of Whole reach: everything but what stands in flash and OTP; time begins again with the wake domain. -/
def State.wholeModule (s : State) : State :=
  let s1 : State := { State.reset with
    pending := s.pending, freeCtr := s.freeCtr, records := s.records.map fun r => { r with used := none }
    inc := { s.inc.kept with totals := List.replicate 208 0 }, sec := s.sec.kept, sil := s.sil.kept
    svr := { rel := s.svr.rel, srcs := s.svr.srcs, opts := s.svr.opts }
    upd := { s.upd with ucode := List.replicate 7 [], migr := s.upd.migr.map (fun r => { r with used := none }), landing := none } }
  ((s1.boleClear.otpFields).wrB R.ISB_STAT_TRIAL s.selTrial).wr R.INR_SEQ_SEQ s.inc.storeSeq

/-- The reset of a reach on every domain it covers. -/
def State.resetReach (s : State) (reach : Nat) : State :=
  if reach = whole then s.wholeModule else if reach = module then s.moduleDies else s.crownDie

/-- Whether the release of R457 is held at its present step by an asserted source. -/
def State.heldStep (s : State) : Bool := s.svr.srcs.any fun x => decide (firstStep x.2 ≤ s.svr.rel)

/-- A load of trim or options under way (R460): step 2 with the regulator on, or step 5, and nothing holds it. -/
def State.loading (s : State) : Bool :=
  ((s.svr.rel = 2 && s.svr.regOn) || s.svr.rel = 5) && !s.heldStep && s.svr.holdEnd.isNone

/-- Interrupted loads within the last second (R460). -/
def State.intrNow (s : State) : List Nat := s.svr.intr.filter fun t => s.now < t + 1000000000

/-- SUP_OPT.INTR as time stands: the interruptions of the last second (R460, R468). -/
def State.intrRefresh (s : State) : State := s.wr R.SUP_OPT_INTR s.intrNow.length

/-- A load interrupted (R460): counted; at the third within 1 s the hold-off begins and the regulator switches off. -/
def State.interrupted (s : State) : State :=
  let l := s.intrNow ++ [s.now]
  if l.length < 3 then (s.modSvr fun v => { v with intr := l }).wr R.SUP_OPT_INTR l.length
  else
    let s1 := ((s.resetReach module).extLow.bump R.SUP_OPT_HOLDS).wr R.SUP_OPT_INTR 0
    let s2 := s1.modSvr fun v =>
      { v with intr := [], holdEnd := some (s.now + 100000000), holdNew := true, rel := min v.rel 2, regOn := false, startOk := false }
    s2.setMode mdListen

/-- SUP_CAUSE and SUP_LAST as a source is asserted (R458, R468). -/
def State.recordSrc (s : State) (code reach : Nat) (fresh : Bool) : State :=
  let s1 := if s.rd R.SUP_CAUSE_SRC = 0 then s.wr R.SUP_CAUSE_FIRST code else s
  let s2 := s1.setWordBit R.SUP_CAUSE code true
  let s3 := s2.wr R.SUP_LAST_REACH (if fresh then reach else min reach (s.rd R.SUP_LAST_REACH))
  if reach ≤ module then s3.wr R.SUP_LAST_COLD 1 else if fresh then s3.wr R.SUP_LAST_COLD 0 else s3

/-- A reset source asserted (R457, R458), with the mode that follows: its reach is in reset, and the release stands at the
first step inside it. -/
def State.assertAs (s : State) (code reach mode : Nat) : State :=
  let cut := s.loading && decide (firstStep reach ≤ s.svr.rel)
  let fresh := decide (s.svr.rel = 9)
  let last := s.raw R.SUP_LAST
  let was := s.mode
  let s1 := ((s.resetReach reach).setRaw R.SUP_LAST last).recordSrc code reach fresh
  let s2 := s1.modSvr fun v =>
    { v with rel := if fresh then firstStep reach else min v.rel (firstStep reach)
             srcs := v.srcs.filter (fun x => x.1 ≠ code) ++ [(code, reach)]
             lastSrc := if fresh then [code] else code :: v.lastSrc
             strapDue := v.strapDue || decide (code ≤ rsPin), periodSet := false, swr := none }
  let s3 := (s2.wr R.SUP_MODE_MODE was).setMode mode
  if cut then s3.interrupted else s3

/-- A reset source asserted: a reset of Module or Whole reach leads to Listen, one of Crown reach to Start-up (R466). -/
def State.assertSrc (s : State) (code reach : Nat) : State :=
  s.assertAs code reach (if reach ≤ module then mdListen else mdStartup)

/-- A reset source released (R458): release goes on, through RESET_RELEASE_STEP, once nothing holds the next step. -/
def State.releaseSrc (s : State) (code : Nat) : State := s.modSvr fun v => { v with srcs := v.srcs.filter fun x => x.1 ≠ code }

/-- A source that is an event (R455): asserted, and released by RESET_SOURCE_RELEASE after its assertion time. -/
def State.isAsserted (s : State) (code : Nat) : Bool := s.svr.srcs.any fun x => x.1 = code

/-- A fatal stop (R288, R299): LSC_FATAL records the cause, the crown die resets with cause WDG. -/
def State.fatalStop (s : State) (bit : Nat) : State := (s.setWordBit R.LSC_FATAL bit true).assertSrc rsWdg crown

end Sys2Proof.Machine
end

