-- ==== Sys2Proof/Machine/KeyStore.lean ====
section
/-! DEFINITION. Key slots, the key directory, crypto jobs and their fences (R326, R396-R403, R409, R410 of
14_keys_security.md, R317). -/

namespace Sys2Proof.Machine

def State.modSec (s : State) (f : Sec → Sec) : State := s.onSec f

/-- The life-cycle code in force (R404). -/
def State.lcs (s : State) : Nat := s.rd R.KSU_LCS_STATE

/-- What a stored blob gives when it is unwrapped in the present state (R396, R398): none for a bad one. -/
def State.opens (s : State) (b : Blob) : Bool := !b.bad && decide (b.lcs = s.lcs) && s.isSet R.KSU_STAT_ROOT_OK

/-- Granted slots that hold a key (R412). -/
def State.slotCount (s : State) : State := s.wr R.KSU_STAT_SLOTS (s.sec.slots.filter Option.isSome).length

/-- A slot filled (R397). -/
def State.fillSlot (s : State) (i : Nat) (b : Blob) : State :=
  let v := 2 ^ 31 + b.cls * 2 ^ 29 + b.ktype * 2 ^ 27 + b.usage % 128 * 2 ^ 20 + b.owner % 16 * 2 ^ 16 + b.kid
  let s1 := (s.modSec fun x => { x with slots := updAt x.slots i fun _ => some b }).setRaw (R.KSU_SLOTs i) (BitVec.ofNat 32 v)
  s1.slotCount.raise 131 (.part b.owner) (leBytes 1 i ++ leBytes 2 b.kid)

/-- The valid commit copy with the higher CSEQ; copy 0 where two of equal CSEQ differ (R400). -/
def KeyEntry.commit (e : KeyEntry) : Option KeyCommit :=
  match e.c0, e.c1 with
  | some a, some b => if a.cseq < b.cseq then some b else some a
  | some a, none => some a
  | none, c => c

def KeyEntry.pos (e : KeyEntry) (p : Nat) : Option Blob := if p = 0 then e.p0 else e.p1
def KeyEntry.setPos (e : KeyEntry) (p : Nat) (b : Option Blob) : KeyEntry := if p = 0 then { e with p0 := b } else { e with p1 := b }

/-- The blob in force (R400). -/
def KeyEntry.inForce (e : KeyEntry) : Option Blob :=
  e.commit.bind fun c => if c.pos ≤ 1 then (e.pos c.pos).bind fun b => if b.seq = c.seq then some b else none else none

def State.keyEntry (s : State) (kid : Nat) : Option KeyEntry := s.sec.dir.find? fun e => e.kid = kid
def State.putEntry (s : State) (e : KeyEntry) : State :=
  s.modSec fun x =>
    { x with dir := if x.dir.any (fun y => y.kid = e.kid) then x.dir.map fun y => if y.kid = e.kid then e else y else x.dir ++ [e] }

/-- A KID exists while its commit record names a position (R400). -/
def State.keyExists (s : State) (kid : Nat) : Bool :=
  match (s.keyEntry kid).bind KeyEntry.commit with
  | some c => decide (c.pos ≤ 1)
  | none => false

/-- The owner of a KID: that of the blob in force (R398). -/
def State.keyOwner (s : State) (kid : Nat) : Option Nat := ((s.keyEntry kid).bind KeyEntry.inForce).map Blob.owner

/-- KIDs that an owner holds. -/
def State.keysOf (s : State) (o : Nat) : Nat := (s.sec.dir.filter fun e => e.inForce.any fun b => b.owner = o).length

/-- KEYPOLICY entry of a partition (R411): flags and most KIDs. -/
def State.keyPolicy (s : State) (p : Nat) : Nat × Nat :=
  match s.recBody recKeypolicy with
  | some b => (le b (4 * p) 1, le b (4 * p + 1) 1)
  | none => (6, 0)

/-- Whether two commit copies are one and the same. -/
def KeyEntry.synced (e : KeyEntry) : Bool := e.c0 == e.c1

/-- KEY_DIRECTORY_SCAN of one KID (R402). -/
def State.scanEntry (s : State) (e : KeyEntry) : State :=
  let s1 := if e.synced then s else s.putEntry { e with c0 := e.commit, c1 := e.commit }
  let now := match e.commit with | some c => c.seq | none => 0
  let own := match e.inForce with | some b => Owner.part b.owner | none => Owner.sys
  let s2 := s1.each [e.p0, e.p1] fun s x =>
    match x with
    | some b => if now < b.seq then s.raise 134 own (leBytes 2 e.kid ++ leBytes 4 b.seq) else s
    | none => s
  match e.inForce, e.commit with
  | some b, some c => if s.opens b || !s.isSet R.KSU_STAT_ROOT_OK then s2 else s2.raise 130 own (leBytes 2 e.kid ++ leBytes 1 c.pos)
  | _, _ => s2

def State.keyScan (s : State) : State := s.each s.sec.dir State.scanEntry

/-! Crypto virtual queues. -/

/-- Queues of a partition that are DIR 0 with an engine, in ascending order. -/
def State.queuesOf (s : State) (p eng dir : Nat) : List Nat :=
  (List.range 64).filter fun q =>
    (s.part p).has offQueues q && decide (s.rd (R.QMG_QnCFG_ENGINE q) = eng) && decide (s.rd (R.QMG_QnCFG_DIR q) = dir)

/-- The hardware queue of a virtual queue (R326): the owner's ENGINE 0x32 queues and its granted virtual queues, both in
ascending order, pair up. DEDUCED. -/
def State.queueOfVq (s : State) (v : Nat) : Option Nat :=
  (s.vqOwner v).bind fun p =>
    let vs := (List.range 32).filter ((s.part p).has offVq)
    ((vs.zip (s.queuesOf p 0x32 0)).find? fun x => x.1 = v).map (·.2)

/-- Whether jobs of a virtual queue run in heartwood (R321). -/
def State.vqHeart (s : State) (v : Nat) : Bool :=
  match s.vqOwner v with
  | some p => (s.part p).has offVqHw v
  | none => false

def State.jobOf (s : State) (v : Nat) : Option Job := s.sec.jobs.find? fun j => j.vq = v
def isMldsa (j : Job) : Bool := decide (le j.desc 0 2 = 0x46)

/-- The virtual queue that an engine takes next (R326): round-robin after the one it served last; engine 4 runs ML-DSA
jobs only (R409). -/
def State.nextVq (s : State) (e : Nat) : Option Nat :=
  let last := s.rd (R.KSU_CEi_STAT_VQ e)
  ((List.range 32).map fun k => (last + 1 + k) % 32).find? fun v =>
    (match s.jobOf v with | some j => !j.dead && isMldsa j == decide (e = 4) | none => false) && !s.sec.serving.contains (some v)

/-- Free engines take their next units; a gated engine takes none (R325). -/
def State.dispatchUnits (s : State) : State :=
  s.each (List.range 5) fun s e =>
    if (s.sec.serving.getD e none).isSome || s.isSet (R.KSU_GATEu_GATED (41 + e)) then s
    else match s.nextVq e with
    | some v =>
      ((s.modSec fun x => { x with serving := updAt x.serving e fun _ => some v }).wr (R.KSU_CEi_STAT_BUSY e) 1).wr (R.KSU_CEi_STAT_VQ e) v
    | none => s

/-- An engine free again. -/
def State.freeEngine (s : State) (e : Nat) : State :=
  (s.modSec fun x => { x with serving := updAt x.serving e fun _ => none }).wr (R.KSU_CEi_STAT_BUSY e) 0

/-- A job ended. -/
def State.dropJob (s : State) (v : Nat) : State := s.modSec fun x => { x with jobs := x.jobs.filter fun j => j.vq ≠ v }

/-- The completion of a job (R410), which is then no longer in progress in its queue (R73). -/
def State.jobCpl (s : State) (q : Nat) (d : List Byte) (st result : Nat) : State :=
  (s.qPush (s.rd (R.QMG_QnCFG_CQ q)) (leBytes 2 0x4F ++ leBytes 2 (le d 2 2) ++ leBytes 2 (le d 4 2) ++ leBytes 2 st ++ leBytes 1 result)).qSettle q

/-- DENY counted at an engine (R412): that of the next free instance that would have run the job. -/
def State.countDeny (s : State) (d : List Byte) : State :=
  s.bump (R.KSU_CEi_CNT_DENY (if le d 0 2 = 0x46 then 4 else 0))

/-- A job names a slot, and an engine has a unit of it in progress. -/
def Job.names (j : Job) (i : Nat) : Bool := decide (le j.desc 8 1 = i)
def State.inUnit (s : State) (j : Job) : Bool := s.sec.serving.contains (some j.vq)

/-- A slot zeroized (R397, R403): the jobs that name it complete with NOT_GRANTED. -/
def State.zeroSlot (s : State) (i why : Nat) : State :=
  match s.sec.slots.getD i none with
  | none => s
  | some b =>
    let s1 := s.modSec fun x => { x with slots := updAt x.slots i fun _ => none, clearing := x.clearing.filter fun c => c.1 ≠ i }
    let s2 := s1.each (s.sec.jobs.filter fun j => j.names i && !s.inUnit j) fun s j => ((s.countDeny j.desc).dropJob j.vq).jobCpl j.queue j.desc stNotGranted 0
    ((s2.setRaw (R.KSU_SLOTs i) 0).slotCount).raise 132 (.part b.owner) (leBytes 1 i ++ leBytes 1 why)

/-- A slot to be zeroized (R403): at once, or at the end of the units of the jobs that use it, which take no other unit. -/
def State.clearSlot (s : State) (i why : Nat) : State :=
  if (s.sec.slots.getD i none).isSome && s.sec.jobs.any (fun j => j.names i && s.inUnit j) then
    s.modSec fun x =>
      { x with clearing := (x.clearing.filter fun c => c.1 ≠ i) ++ [(i, why)]
               jobs := x.jobs.map fun j => if j.names i then { j with dead := true } else j }
  else s.zeroSlot i why

/-- The slots to zeroize that no unit uses any more (R403). -/
def State.settleSlots (s : State) : State :=
  s.each (s.sec.clearing.filter fun c => !s.sec.jobs.any fun j => j.names c.1 && s.inUnit j) fun s c => s.zeroSlot c.1 c.2

/-- The fence of the crypto engines (R317): the job in progress stops and its completion is dropped and counted. -/
def State.cryptoFence (s : State) (p : Nat) : State :=
  let mine := (List.range 32).filter ((s.part p).has offVq)
  let s1 := s.each mine fun s v =>
    match s.jobOf v with
    | some j => ((s.dropJob v).bump (R.QMG_QnDROP_COUNT (s.rd (R.QMG_QnCFG_CQ j.queue)))).qSettle j.queue
    | none => s
  let s2 := s1.each (List.range 5) fun s e =>
    match s.sec.serving.getD e none with
    | some v => if mine.contains v then s.freeEngine e else s
    | none => s
  s2.settleSlots.dispatchUnits

/-- The USAGE bit that an OP needs of its slot (R398, R410). -/
def usageOf (op : Nat) : Option Nat :=
  if op = 0x40 then some 0 else if op = 0x41 then some 1 else if op = 0x43 then some 2 else if op = 0x44 then some 3 else none

/-- The check of a job at its start (R399, R410): a status where it does not run. -/
def State.jobBad (s : State) (v : Nat) (d : List Byte) : Option Nat :=
  let op := le d 0 2
  let slot := le d 8 1
  let alg := le d 9 1
  if op < 0x40 ∨ 0x46 < op ∨ le d 10 2 ≠ 0 ∨ le d 31 1 ≠ 0 ∨ 16777216 < le d 12 4 ∨ (slot ≠ 0xFF ∧ 31 < slot) then some stRange
  else if (op = 0x42 ∧ 4 < alg) ∨ ((op = 0x44 ∨ op = 0x45) ∧ 1 < alg) ∨ (op = 0x44 ∧ le d 12 4 ≠ 32 ∧ le d 12 4 ≠ 48) then some stRange
  else match usageOf op with
  | none => none
  | some u =>
    match s.sec.slots.getD slot none with
    | none => some stNotGranted
    | some b =>
      if s.vqOwner v ≠ some b.owner ∨ !nbit b.usage u ∨ (b.cls = 1 ∧ !s.vqHeart v) ∨ s.sec.clearing.any (·.1 = slot) then some stNotGranted else none

/-- The attributes of a job's accesses (R410). -/
def State.jobAttr (s : State) (v : Nat) : Attr := ⟨s.vqHeart v, Fin.ofNat 16 ((s.vqOwner v).getD 0), 6⟩

/-- Bytes of a digest by ALG, and of a number of the curve (R410). -/
def hashLen (alg : Nat) : Nat := [32, 48, 64, 32, 48].getD alg 0
def curveLen (alg : Nat) : Nat := if alg = 0 then 32 else 48

/-- What a job reads and writes (R410): addresses and lengths, and whether it is a write. -/
def State.jobSpans (s : State) (d : List Byte) : List (Nat × Nat × Bool) :=
  let op := le d 0 2
  let n := le d 12 4
  let src := le d 16 5
  let dst := le d 21 5
  let par := le d 26 5
  let alg := le d 9 1
  let gcm := (par, 21, false) :: (le (s.memRead (par + 16) 5) 0 5, le (s.memRead (par + 12) 4) 0 4, false) :: [(dst, n, true)]
  (src, n, false) ::
    (if op = 0x40 then gcm ++ [(par + 32, 16, true)]
     else if op = 0x41 then gcm ++ [(par + 32, 16, false)]
     else if op = 0x42 then [(dst, hashLen alg, true)]
     else if op = 0x43 then [(dst, 32, true)]
     else if op = 0x44 then [(dst, 2 * curveLen alg, true)]
     else if op = 0x45 then [(par, 4 * curveLen alg, false)]
     else [(par, 5261, false)])

/-- A job's first access that R322 does not admit. -/
def State.jobDenied (s : State) (v : Nat) (d : List Byte) : Option Nat :=
  ((s.jobSpans d).find? fun x => decide (x.2.1 ≠ 0) && !s.memAdmits (s.jobAttr v) x.1 x.2.1 x.2.2).map (·.1)

/-- The poisoned words that a job would read (R287). -/
def State.jobPoison (s : State) (d : List Byte) : List Nat :=
  ((s.jobSpans d).filter fun x => !x.2.2).flatMap fun x => s.poisonIn x.1 x.2.1

/-- CRYPTO_JOB: the next descriptor of a virtual queue, one job at a time (R326, R410). A job whose accesses R322 does not all
admit, or that would read a poisoned word, names memory that it may not use: the access fails under R20 or R287, and the job
completes with RANGE. DESIGN CHOICE. -/
def State.cryptoJob (s : State) (v : Nat) : State :=
  if (s.jobOf v).isSome then s
  else match s.queueOfVq v with
  | none => s
  | some q =>
    let (s0, d) := s.qFront q
    match d with
    | none => s0
    | some d =>
      let s1 := s0.qTake q 1
      match s1.jobBad v d with
      | some st => (if st = stNotGranted then s1.countDeny d else s1).jobCpl q d st 0
      | none =>
        match s1.jobDenied v d, s1.jobPoison d with
        | some addr, _ => (s1.deny (s1.jobAttr v) addr).jobCpl q d stRange 0
        | none, w :: _ => ((s1.onBus fun _ => { err := true }).poisonEvent (s1.jobAttr v) w).jobCpl q d stRange 0
        | none, [] => (s1.modSec fun x => { x with jobs := x.jobs ++ [{ vq := v, queue := q, desc := d }] }).dispatchUnits

/-- Result bytes written where the job's descriptor says, under R322: DST, and for encryption the tag at PARAM + 32. -/
def State.jobWrite (s : State) (j : Job) (result : List Byte) : State :=
  let a := s.jobAttr j.vq
  let put (s : State) (addr : Nat) (bs : List Byte) : State :=
    if bs.isEmpty then s
    else if s.memAdmits a addr bs.length true then s.memPut addr bs else s.deny a addr
  let op := le j.desc 0 2
  let n := if op = 0x40 then le j.desc 12 4 else result.length
  if op = 0x45 ∨ op = 0x46 then s
  else (put s (le j.desc 21 5) (result.take n)) |> fun s => if op = 0x40 then put s (le j.desc 26 5 + 32) (result.drop n) else s

/-- CRYPTO_UNIT_DONE: an engine ends a unit (R326); the job goes on, or completes with RESULT and what it produces. -/
def State.unitDone (s : State) (e : Nat) (out : CryptoOut) : State :=
  match s.sec.serving.getD e none with
  | none => s
  | some v =>
    let s1 := (s.freeEngine e).count (R.KSU_CEi_CNT_UNITS e)
    match s1.jobOf v with
    | none => s1.dispatchUnits
    | some j =>
      let s2 := match out with
        | .more => if j.dead then ((s1.bump (R.KSU_CEi_CNT_DENY e)).dropJob v).jobCpl j.queue j.desc stNotGranted 0 else s1
        | .done result bytes => ((s1.jobWrite j bytes).dropJob v).jobCpl j.queue j.desc stOk result
      (s2.when j.dead State.settleSlots).dispatchUnits

def execCryptoJob (vq : Fin 32) (s : State) : Out := s.finish (s.cryptoJob vq)

end Sys2Proof.Machine
end

