-- ==== Sys2Proof/Machine/Boot.lean ====
section
/-! DEFINITION. The boot record and trials (R418, R427-R430 of 15_field_update.md): what every unit that can fail a
trial needs. -/

namespace Sys2Proof.Machine

/-- TRIAL and KIND codes (R418). -/
def trNone : Nat := 0
def trPending : Nat := 1
def trRunning : Nat := 2
def trFailed : Nat := 3
def tkCrown : Nat := 0
def tkPartition : Nat := 1
def tkIsland : Nat := 2
def tkLanding : Nat := 3

def State.modUpd (s : State) (f : Updater → Updater) : State := s.onUpd f

/-- The choice between two valid copies: the higher SEQ; copy 0 where two of equal SEQ differ (R418). -/
def pickBoot (a b : Option BootRec) : Option BootRec :=
  match a, b with
  | some x, some y => if x.seq < y.seq then some y else some x
  | some x, none => some x
  | none, y => y

/-- The boot record in use: valid copies are those under the key of a life-cycle state (R418). -/
def State.bootUnder (s : State) (lc : Nat) : Option BootRec :=
  let ok (b : Option BootRec) := b.bind fun x => if x.lcs = lc then some x else none
  pickBoot (ok s.upd.b0) (ok s.upd.b1)

def State.bootRec (s : State) : Option BootRec := s.bootUnder s.lcs

/-- The boot record written under R76: both copies, with the next SEQ, under the key of the present state (R418). -/
def State.writeBoot (s : State) (f : BootRec → BootRec) : State :=
  let b := match s.bootRec with
    | some x => { f x with seq := x.seq + 1, lcs := s.lcs }
    | none => { f { seq := 1 } with seq := 1, lcs := s.lcs }
  s.modUpd fun u => { u with b0 := some b, b1 := some b }

def State.boot (s : State) : BootRec := s.bootRec.getD {}

/-- A trial that is pending or running (R427). -/
def State.onTrial (s : State) : Bool := decide (s.boot.trial = trPending ∨ s.boot.trial = trRunning)

/-- A trial of a kind. -/
def State.trialOf (s : State) (kind : Nat) : Bool := s.onTrial && decide (s.boot.kind = kind)

/-- Owner of an update event that is not public (R435): the OWNER of the staged package and SYSTEM partitions. -/
def State.updOwner (s : State) : Owner := if s.upd.owner < 16 ∧ !s.upd.header.isEmpty then .part s.upd.owner else .sys

/-- The common part of a failed trial (R428, R430): TRIAL FAILED, records read from copies 0 and 1 again, UPD_FALLBACK.
Why: 0 reset cause, 1 window, 2 reject, 3 start count, 4 load or rule failure. -/
def State.trialLost (s : State) (why : Nat) : State :=
  let b := s.boot
  let s1 := (s.writeBoot fun b => { b with trial := trFailed }).modUpd fun u => { u with migr := u.migr.map fun r => { r with used := none } }
  s1.raise 454 .pub (leBytes 4 b.comp ++ leBytes 1 why)

/-- The trial runs (R419, R434). -/
def State.trialRuns (s : State) : State := s.writeBoot fun b => { b with trial := trRunning }

/-- A failed ISLAND trial: the next start of the island uses its old bank (R428, R432). -/
def State.islandTrialLost (s : State) : State := if s.trialOf tkIsland then s.trialLost 4 else s

end Sys2Proof.Machine
end

