-- ==== Sys2Proof/Machine/Partitions.lean ====
section
/-! DEFINITION. Partition states, resets, loads, frame work and gates (R312-R325 of 11_partitions_worlds.md, R296, R297,
R45, R46). -/

namespace Sys2Proof.Machine

/-- Reset causes of a partition, as PART_INFO byte 6 codes them (R314, R328). -/
def pcMismatch : Nat := 1
def pcLockup : Nat := 2
def pcWdg : Nat := 3
def pcHeartOvr : Nat := 4
def pcRestart : Nat := 5
def pcStop : Nat := 6

/-- Fields of a MANIFEST entry (R309). -/
def Part.rstMax (p : Part) : Nat := le p.entry 1 1
def Part.rstWin (p : Part) : Nat := le p.entry 2 2
def Part.wstart (p : Part) : Nat := le p.entry 4 2
def Part.budget (p : Part) : Nat := le p.entry 6 2
def Part.wdg (p : Part) : Nat := le p.entry 8 2
def Part.hmax (p : Part) : Nat := le p.entry 10 2
def Part.cores (p : Part) : Nat := le p.entry 12 2
def Part.simg (p : Part) : Nat := le p.entry 16 4
def Part.himg (p : Part) : Nat := le p.entry 20 4
def Part.sentry (p : Part) : Nat := le p.entry 24 5
def Part.hvec (p : Part) : Nat := le p.entry 29 5
def Part.autostart (p : Part) : Bool := nbit p.flags 4

def State.modCpx (s : State) (f : Cpx → Cpx) : State := s.onCpx f
def State.hart (s : State) (h : Nat) : Hart := s.cpx.harts.getD h {}
def State.modHart (s : State) (h : Nat) (f : Hart → Hart) : State := s.onCpx fun c => { c with harts := updAt c.harts h f }

/-- Harts and pairs of a partition; the partitions placed on a pair, and the one on a hart (R279, R309). -/
def State.hartsOf (s : State) (p : Nat) : List Nat := if (s.part p).created then maskIdx 16 (s.part p).cores else []
def State.pairsOf (s : State) (p : Nat) : List Nat := ((s.hartsOf p).map (· / 2)).eraseDups
def State.partsOn (s : State) (k : Nat) : List Nat := (List.range 16).filter fun p => (s.pairsOf p).contains k
def State.partOfHart (s : State) (h : Nat) : Option Nat := (List.range 16).find? fun p => (s.hartsOf p).contains h

def State.isSplit (s : State) (k : Nat) : Bool := s.isSet (R.LSC_Pk_CFG_SPLIT k)

/-- States of a pair (R305). -/
def psOff : Nat := 0
def psTesting : Nat := 1
def psRun : Nat := 2
def psHalted : Nat := 3
def psFailed : Nat := 4
def psSplitRun : Nat := 5
def psDbgHalt : Nat := 6
def State.pairState (s : State) (k : Nat) : Nat := s.rd (R.LSC_Pk_STAT_STATE k)

/-- An event of the partition it names in byte 16 (R329). -/
def State.partEvent (s : State) (e p : Nat) (rest : List Byte := []) : State := s.raise e (.part p) (BitVec.ofNat 8 p :: rest)

/-- A change of partition state (R313). -/
def State.setPart (s : State) (p st cause : Nat) : State :=
  ((s.wr (R.EVR_Pp_FSTAT_STATE p) st).raise 488 .pub (leBytes 1 p ++ leBytes 1 st ++ leBytes 1 cause ++ leBytes 2 (s.gen p))).degr

/-- GEN after one step (R312). -/
def nextGen (g : Nat) : Nat := if g = 0xFFFF then 1 else g + 1

/-- The harts of a partition halted; a pair without a running hart is HALTED (R315). -/
def State.haltPart (s : State) (p : Nat) : State :=
  let s1 := s.each (s.hartsOf p) fun s h => s.modHart h fun x => { x with run := false, callAt := none, held := false }
  s1.each (s.pairsOf p) fun s k =>
    let st := s.pairState k
    let on := (s.hart (2 * k)).run || (s.hart (2 * k + 1)).run
    if (st = psTesting ∨ st = psRun ∨ st = psSplitRun ∨ st = psDbgHalt) ∧ !on then s.wr (R.LSC_Pk_STAT_STATE k) psHalted else s

/-- The mailbox of a restarting partition (R45, R46): all but GEN takes its reset value, GEN steps on. -/
def State.mbxReset (s : State) (p : Nat) : State :=
  let g := s.gen p
  let s1 := s.clearRegs fun a => decide (mbxBase p ≤ a ∧ a < mbxBase p + 0x1000)
  let s2 := (s1.wr (R.MBX_STAT_GEN p) (nextGen g)).modMbx p fun _ => {}
  let s3 := s2.modPart p fun x => { x with granted := none, requested := 0, subs := [] }
  (s3.onLongs fun l => l.map fun x => if x.mbx = p then { x with stale := true } else x).onCommits fun l =>
    l.filter fun c => c.issuer ≠ p || c.instant.isSome

/-- A reset cause of a partition (R314-R316): in RUNNING or LOADING the reset instant, in QUIESCING merged. The fences
are those of R316, in fence order: 0 crypto, 1 host ports, 2 CAN, 3 Kerf, 4 Landing, 5 queue manager. `counts` are the
causes that decide the outcome. -/
def State.partResetAs (s : State) (p cause : Nat) (counts : List Nat) : State :=
  let st := s.partState p
  if st = stRunning ∨ st = stLoading then
    let s1 := (((s.haltPart p).mbxReset p).staysDrop p).onGwbs fun l => l.map fun g =>
      { g with txs := g.txs.map (fun t => if t.attr.isPart && t.attr.pid.val = p then { t with waits := false } else t)
               again := g.again.filter fun t => !(t.attr.isPart && t.attr.pid.val = p) }
    let s2 := (s1.onPairU fun u => { u with fromCkpt := u.fromCkpt.filter fun q => q ≠ p }).modPart p fun x =>
      { x with causes := counts, cause := cause, lastCause := cause, resetAt := s.now, fences := List.range 6, wdgFrom := none
               tickAt := none, loadOk := false, usedMax := 0 }
    ((s2.wr (R.EVR_Pp_FSTAT_TICK_PEND p) 0).wr (R.EVR_Pp_FSTAT_IN_FRAME p) 0).setPart p stQuiescing cause
  else if st = stQuiescing then s.modPart p fun x => { x with causes := x.causes ++ counts }
  else s

/-- Whether a partition's images are under a PARTITION trial (R428). -/
def State.partOnTrial (s : State) (p : Nat) : Bool :=
  s.trialOf tkPartition && (s.part p).created && decide ((s.part p).simg = s.boot.comp ∨ (s.part p).himg = s.boot.comp)

/-- A failed PARTITION trial (R428): its partitions restart with cause RESTART from the active slot. -/
def State.partFallback (s : State) (why : Nat) : State :=
  let ps := (List.range 16).filter s.partOnTrial
  (s.trialLost why).each ps fun s p => (s.modPart p fun x => { x with trialSlot := none }).partResetAs p pcRestart [pcRestart]

/-- A reset cause of a partition; under a PARTITION trial a MISMATCH, LOCKUP, WDG or HEART_OVR fails the trial, and the
restart is not charged (R428). -/
def State.partReset (s : State) (p cause : Nat) : State :=
  if s.partOnTrial p ∧ [pcMismatch, pcLockup, pcWdg, pcHeartOvr].contains cause ∧ (s.partState p = stRunning ∨ s.partState p = stLoading) then
    (s.partResetAs p cause [pcRestart]).partFallback 0
  else s.partResetAs p cause [cause]

/-- Charged restarts dated within RSTWIN before an instant (R296). -/
def Part.chargedIn (p : Part) (t : Nat) : List Nat := p.charged.filter fun d => decide (t ≤ d + p.rstWin * 1000000000)

/-- The queues of a partition set going or stopped and emptied (R310, R316). -/
def State.queuesOn (s : State) (p : Nat) (on : Bool) : State :=
  s.each ((List.range 64).filter ((s.part p).has offQueues)) fun s q =>
    let s1 := s.wrB (R.QMG_QnCFG_EN q) on
    if on then s1.wr (R.QMG_QnSTAT_STOPPED q) 0
    else (((s1.wr (R.QMG_QnSTAT_STOPPED q) 1).wr (R.QMG_QnPROD_IDX q) 0).wr (R.QMG_QnCONS_IDX q) 0).modQ q fun _ => {}

/-- A partition enters LOADING (R313): its queues are set going for the new generation. -/
def State.beginLoad (s : State) (p cause : Nat) : State :=
  ((s.queuesOn p true).modPart p fun x => { x with loadOk := false, stopCmd := false }).setPart p stLoading cause

/-- The end of quiescing (R316, R313, R296): queues emptied, staged values discarded, slots zeroized, the outcome by causes
and budget. -/
def State.quiesced (s : State) (p : Nat) : State :=
  let q := s.part p
  let s1 := (s.queuesOn p false).discard (s.stagedGroups.filter fun g => s.groupOwner g = some p)
  let s2 := s1.each ((List.range 32).filter (q.has offKeys)) fun s i => s.clearSlot i 1
  let s3 := s2.partEvent 491 p (leBytes 4 ((s.now - q.resetAt) / 1000))
  let charged := q.causes.any fun c => c = pcMismatch || c = pcLockup
  let n := (q.chargedIn q.resetAt).length
  if q.causes.contains pcStop then s3.setPart p stStopped q.cause
  else if charged then
    (if n < q.rstMax ∧ !q.spent then
      (s3.modPart p fun x => { x with charged := x.charged ++ [x.resetAt], restarts := x.restarts + 1 }).beginLoad p q.cause
    else
      let s4 := (s3.modPart p fun x => { x with spent := true }).raise 100 (.part p) (leBytes 1 p ++ leBytes 1 n)
      s4.setPart p stStopped q.cause)
  else (s3.modPart p fun x => { x with restarts := x.restarts + 1 }).beginLoad p q.cause

/-- Staged values of a partition in some of its groups, discarded at an engine's fence (R317, R263). -/
def State.stagedFence (s : State) (p : Nat) (f : Nat → Bool) : State :=
  s.discard (s.stagedGroups.filter fun g => f g && decide (s.groupOwner g = some p))

/-- What the fence of an engine does for a partition (R317). -/
def State.fence (s : State) (p e : Nat) : State :=
  if e = 0 then s.cryptoFence p
  else if e = 1 then s.ethFence p
  else if e = 2 then s.canFence p
  else if e = 3 then s.stagedFence p fun g => decide (0x0200 ≤ g ∧ g < 0x0400)
  else if e = 4 then s.stagedFence p fun g => decide (0x0600 ≤ g ∧ g < 0x0640)
  else s

/-- FENCE_ACK: fences are sent one after another; after the last the partition is quiesced (R316, R317). -/
def State.fenceAck (s : State) (p e : Nat) : State :=
  match (s.part p).fences with
  | f :: rest =>
    if f ≠ e ∨ s.partState p ≠ stQuiescing then s
    else
      let s1 := (s.fence p e).modPart p fun x => { x with fences := rest }
      if rest.isEmpty then s1.quiesced p else s1
  | [] => s

/-- The event owner of a pair: the partitions placed on it (R307). -/
def State.pairOwner (s : State) (k : Nat) : Owner := .parts (s.partsOn k)

/-- A hart released at SENTRY, in sapwood (R321). -/
def State.hartStart (s : State) (p h : Nat) : State := s.modHart h fun x => { run := true, pc := (s.part p).sentry, rst := x.rst }

/-- LSC_Pk_CTRL.START (R297, R300, R305): the start-up test, or for a split pair the release of its cores. -/
def State.startPair (s : State) (k : Nat) : State :=
  if s.pairState k = psFailed then s
  else
    let s1 := [R.LSC_Pk_MM_LO k, R.LSC_Pk_MM_HI k].foldl (fun s a => s.setRaw a 0) s
    if s.isSplit k then
      let s2 := s1.each [2 * k, 2 * k + 1] fun s h =>
        match s.partOfHart h with
        | some p => if s.partState p = stLoading then s.hartStart p h else s
        | none => s.modHart h fun x => { x with run := true }
      (s2.wr (R.LSC_Pk_STAT_STATE k) psSplitRun).raise 99 (s.pairOwner k) (leBytes 1 k)
    else (s1.wr (R.LSC_Pk_STAT_STATE k) psTesting).wr (R.LSC_Pk_STAT_LINE k) 0

/-- RUNNING once the images are loaded and every pair runs (R313, R320). -/
def State.checkUp (s : State) (p : Nat) : State :=
  if s.partState p = stLoading ∧ (s.part p).loadOk ∧
      (s.pairsOf p).all (fun k => s.pairState k = psRun || s.pairState k = psSplitRun) then
    (s.modPart p fun x => { x with wdgFrom := if x.wdg = 0 then none else some s.now }).setPart p stRunning 0
  else s

/-- A failed load (R313); under a PARTITION trial it fails the trial (R428). -/
def State.loadFail (s : State) (p comp : Nat) : State :=
  let s1 := s.partEvent 498 p (leBytes 4 comp)
  if s.partOnTrial p then s1.partFallback 4 else s1.setPart p stStopped 0

/-- A component of a slot (R417). -/
def State.comp (s : State) (slot num : Nat) : Option Comp := (s.upd.slots.getD slot {}).comps.find? fun c => c.num = num

/-- An image written into the partition's first RW region of its world. The spec does not say where: the place within the
region is a free value. -/
def State.placeImage (s : State) (p num : Nat) (heart : Bool) : State :=
  let slot := (s.part p).trialSlot.getD s.upd.running
  match s.comp slot num, (s.part p).regions.find? fun r => r.rw && r.hw == heart with
  | some c, some r =>
    let (v, s1) := s.fresh
    if c.data.length ≤ r.size then s1.memWrite (r.base + v.toNat % (r.size - c.data.length + 1)) c.data else s1
  | _, _ => s

/-- The checkpoint area of a partition (R365): base, slot size in bytes. -/
def State.ckptArea (s : State) (p : Nat) : Option (Nat × Nat) :=
  (s.recBody recPairing).bind fun b =>
    let n := le b (16 + 8 * p + 5) 1
    if n = 0 then none else some (le b (16 + 8 * p) 5, n * 4096)

/-- A checkpoint that the partition starts from at a takeover, written into slot 0 (R378, R380); any other start is a cold one. -/
def State.placeCkpt (s0 : State) (p : Nat) : State :=
  let s := s0.onPairU fun u => { u with restored := updAt u.restored p fun _ => none, fromCkpt := u.fromCkpt.filter fun q => q ≠ p }
  match s0.pairU.fromCkpt.contains p, s.pairU.ckptDone, s.ckptArea p with
  | true, some (turn, l), some (base, _) =>
    (match l.find? fun x => x.1 = p with
     | some x => (s.memPut base x.2).onPairU fun u => { u with restored := updAt u.restored p fun _ => some turn }
     | none => s)
  | _, _, _ => s

/-- The component whose digest failed (R318, R329): HIMG is loaded for a HEART partition alone. -/
def State.badImage (s : State) (p : Nat) : LoadOut → Option Nat
  | .ok => none
  | .badSimg => some (s.part p).simg
  | .badHimg => if (s.part p).isHeart then some (s.part p).himg else none

/-- The RW regions of a partition zeroed (R318). -/
def State.zeroRegions (s : State) (p : Nat) : State :=
  s.each ((s.part p).regions.filter (·.rw)) fun s r => (s.memZero r.base r.size).unpoison r.base r.size

/-- PART_LOAD_DONE (R318): RW regions zeroed, images in place and verified, then the pairs start. After a digest that fails
the regions hold zeros: the spec does not say what stands there. DESIGN CHOICE. -/
def State.loadDone (s : State) (p : Nat) (out : LoadOut) : State :=
  if s.partState p ≠ stLoading ∨ (s.part p).loadOk then s
  else match s.badImage p out with
  | some c => (s.zeroRegions p).loadFail p c
  | none =>
    let s1 := s.zeroRegions p
    let s2 := (s1.placeImage p (s.part p).simg false).when (s.part p).isHeart fun s => s.placeImage p (s.part p).himg true
    let s3 := (s2.placeCkpt p).modPart p fun x => { x with loadOk := true }
    if (s.pairsOf p).any fun k => s.pairState k = psFailed then s3.loadFail p 0
    else (s3.each (s.pairsOf p) fun s k => if s.pairState k = psSplitRun then
        s.each [2 * k, 2 * k + 1] fun s h => if s.partOfHart h = some p then s.hartStart p h else s
      else s.startPair k).checkUp p

/-! Frame work and watchdog (R319, R320). -/

/-- A tick taken by the partition's cores; held by a core in heartwood (R319, R324). -/
def State.tick (s : State) (p : Nat) : State :=
  let s1 := s.each (s.hartsOf p) fun s h =>
    s.modHart h fun x => if x.heart then { x with held := true } else { x with ticks := x.ticks + 1 }
  (s1.wr (R.EVR_Pp_FSTAT_IN_FRAME p) 1).modPart p fun x => { x with tickAt := some s.now, overSeen := false }

def State.frameTick (s : State) (p : Nat) : State :=
  if s.partState p ≠ stRunning then s
  else
    let s1 := s.advance (s.frameAt ((s.part p).wstart * 1000))
    if !s1.isSet (R.EVR_Pp_FSTAT_IN_FRAME p) then s1.tick p
    else if !s1.isSet (R.EVR_Pp_FSTAT_TICK_PEND p) then (s1.wr (R.EVR_Pp_FSTAT_TICK_PEND p) 1).modPart p fun x => { x with overSeen := false }
    else ((s1.bump (R.EVR_Pp_OVR_MISSED p)).modPart p fun x => { x with overSeen := false }).partEvent 493 p

/-- Whether a debugger holds a core of a partition (R304). -/
def State.debugHeld (s : State) (p : Nat) : Bool := (s.hartsOf p).any fun h => (s.hart h).dbg

def State.budgetExpiry (s : State) (p : Nat) : State :=
  if s.partState p ≠ stRunning ∨ !s.isSet (R.EVR_Pp_FSTAT_IN_FRAME p) ∨ (s.part p).overSeen then s
  else
    let s1 := s.advance (s.frameAt (((s.part p).wstart + (s.part p).budget) * 1000))
    let s2 := (s1.bump (R.EVR_Pp_OVR_OVERRUN p)).modPart p fun x => { x with overSeen := true }
    if s.debugHeld p then s2 else s2.partEvent 486 p

/-- EVR_Pp_DONE: the frame work ends; a held tick is taken. -/
def State.frameDone (s : State) (p : Nat) : State :=
  match (s.part p).tickAt with
  | none => s
  | some t =>
    let s1 := (s.wr (R.EVR_Pp_FSTAT_IN_FRAME p) 0).modPart p fun x =>
      { x with tickAt := none, doneSeen := true, usedMax := max x.usedMax ((s.now - t) / 1000) }
    if s.isSet (R.EVR_Pp_FSTAT_TICK_PEND p) then (s1.wr (R.EVR_Pp_FSTAT_TICK_PEND p) 0).tick p else s1

/-- USED of each running partition at a turn boundary (R320). -/
def State.usedTurn (s : State) : State :=
  s.each (List.range 16) fun s p =>
    if s.partState p ≠ stRunning then s
    else (s.wr (R.EVR_Pp_FSTAT_USED p) (if (s.part p).doneSeen then sat 0xFFFF (s.part p).usedMax else 0xFFFF)).modPart p fun x =>
      { x with usedMax := 0, doneSeen := false }

def State.partWdg (s : State) (p : Nat) : State :=
  match (s.part p).wdgFrom with
  | some t =>
    if s.partState p = stRunning then
      ((s.advance (t + (s.part p).wdg * 1000000)).partEvent 492 p).partReset p pcWdg
    else s
  | none => s

/-! Clock and power gating (R325). -/

/-- A gate unit is stopped: a controller in STOPPED, a port with EN = 0, an engine without a unit. -/
def State.unitStopped (s : State) (u : Nat) : Bool :=
  if u < 24 then s.canState u = ctStopped
  else if u ≤ 40 then !s.isSet (R.ESW_Pp_CFG_EN (u - 24))
  else (s.sec.serving.getD (u - 41) none).isNone

/-- GATED and HELD as votes and unit stand. -/
def State.gateRefresh (s : State) (u : Nat) : State :=
  let h := s.isSet (R.KSU_GATEu_VOTE_H u)
  let v := s.isSet (R.KSU_GATEu_VOTE_S u)
  let gated := !h && !v && (s.unitStopped u || s.isSet (R.KSU_GATEu_GATED u))
  let held := !v && h
  let s1 := (s.wrB (R.KSU_GATEu_GATED u) gated).wrB (R.KSU_GATEu_HELD u) held
  if held ∧ !s.isSet (R.KSU_GATEu_HELD u) then
    s1.raise 496 (match s.gateOwner u with | some p => .part p | none => .sys) (leBytes 1 u)
  else s1

/-- Both votes of some units ON again, at a reset that reaches them (R325). -/
def State.votesOn (s : State) (us : List Nat) : State := s.each us fun s u => s.setRaw (R.KSU_GATEu u) (regReset (R.KSU_GATEu u))

/-- A vote cast (R325): the world is W of the doorbell write. -/
def State.vote (s : State) (u : Nat) (heart on : Bool) : State :=
  (s.wrB (if heart then R.KSU_GATEu_VOTE_H u else R.KSU_GATEu_VOTE_S u) on).gateRefresh u

def execPartFrameTick (p : Fin 16) (s : State) : Out := s.finish (s.frameTick p)
def execPartBudgetExpiry (p : Fin 16) (s : State) : Out := s.finish (s.budgetExpiry p)
def execEvrDoneWrite (a : Attr) (p : Fin 16) (s : State) : Out :=
  s.finish (s.access a (R.EVR_Pp_DONE p) true fun s => s.frameDone p)
def execEvrWdgKick (a : Attr) (p : Fin 16) (s : State) : Out :=
  s.finish (s.access a (R.EVR_Pp_WDG p) true fun s =>
    s.modPart p fun x => { x with wdgFrom := x.wdgFrom.map fun _ => s.now })
def execPartWdgExpiry (p : Fin 16) (s : State) : Out := s.finish (s.partWdg p)
def execFenceAck (p : Fin 16) (e : Fin 8) (s : State) : Out := s.finish (s.fenceAck p e)
def execPartLoadDone (p : Fin 16) (out : LoadOut) (s : State) : Out := s.finish (s.loadDone p out)
def execCryptoUnitDone (e : Fin 5) (out : CryptoOut) (s : State) : Out := s.finish ((s.unitDone e out).gateRefresh (41 + e))
def execCanStopped (n : Fin 24) (s : State) : Out := s.finish ((s.canStop n).gateRefresh n)

end Sys2Proof.Machine
end

