-- ==== Sys2Proof/Machine/PartCmd.lean ====
section
/-! DEFINITION. The creation of partitions from the MANIFEST record (R309-R312 of 11_partitions_worlds.md) and the 0x07xx
commands (R328). -/

namespace Sys2Proof.Machine

/-- The first index below n that meets a condition, plus a base. -/
def firstBad (base n : Nat) (p : Nat → Bool) : Option Nat := ((List.range n).find? p).map (base + ·)

/-- Byte i of a body is not 0. -/
def byteSet (b : List Byte) (i : Nat) : Bool := le b i 1 ≠ 0

/-- The first entry of CAN_SHARE, by byte offset in the partition entry, that breaks a condition of R309. -/
def shareBad (e : List Byte) : Option Nat :=
  let at_ (i : Nat) := 116 + 12 * i
  let used (i : Nat) := le e (at_ i) 1 ≠ 0xFF
  let send (i : Nat) := nbit (le e (at_ i + 1) 1) 0
  ((List.range 8).find? fun i =>
    used i && (decide (le e (at_ i + 1) 1 > 1) || decide (le e (at_ i + 2) 2 ≠ 0) ||
      (if send i then decide (i = 7) || decide (le e (at_ (i + 1)) 1 ≠ le e (at_ i) 1) || send (i + 1)
       else !(decide (0 < i) && used (i - 1) && send (i - 1)) && decide (le e (at_ i + 8) 4 ≠ 0)))).map at_

/-- The first fault of a partition entry (R309, R311), as an offset in the entry. -/
def entryBad (e : List Byte) : Option Nat :=
  let out (off n lo hi : Nat) : Option Nat := if lo ≤ le e off n ∧ le e off n ≤ hi then none else some off
  let regions := (List.range 8).find? fun i => decide (le e (40 + 8 * i) 1 > 7) || byteSet e (41 + 8 * i) || decide (le e (46 + 8 * i) 2 ≠ 0)
  let wins := (List.range 16).find? fun i =>
    let o := 320 + 8 * i
    decide (le e (o + 5) 1 ≠ 0) && (decide (le e o 5 % 4096 ≠ 0) || decide (le e (o + 6) 1 > 1) || byteSet e (o + 7))
  [out 0 1 0 31, out 1 1 0 15, out 2 2 1 3600, out 4 2 60 229, out 6 2 1 170, out 8 2 0 10000, out 10 2 1 1000, firstBad 14 2 fun i => byteSet e (14 + i),
   (if !nbit (le e 0 1) 3 ∧ le e 20 4 ≠ 0 then some 20 else none), firstBad 34 6 fun i => byteSet e (34 + i),
   regions.map fun i => 40 + 8 * i, shareBad e, firstBad 254 2 fun i => byteSet e (254 + i),
   (if bitAt (e.drop 284) 0 || bitAt (e.drop 284) 31 then some 284 else none), wins.map fun i => 320 + 8 * i].findSome? id

/-- Entry p and queue entry q of a MANIFEST body (R309, R310). -/
def manifestEntry (b : List Byte) (p : Nat) : List Byte := (b.drop (16 + 512 * p)).take 512
def queueEntry (b : List Byte) (q : Nat) : List Byte := (b.drop (8208 + 8 * q)).take 8

/-- The byte offset of the first fault of a MANIFEST body (R311): none for a valid one. -/
def manifestBad (b : List Byte) : Option Nat :=
  if b.length ≠ 8720 then some 0
  else if le b 0 1 ≠ 1 then some 0
  else if le b 1 1 ≠ 16 then some 1
  else match firstBad 2 14 fun i => byteSet b (2 + i) with
  | some o => some o
  | none =>
    let live := (List.range 16).filter fun p => nbit (le (manifestEntry b p) 0 1) 0
    match live.findSome? fun p => (entryBad (manifestEntry b p)).map (16 + 512 * p + ·) with
    | some o => some o
    | none =>
      (List.range 64).findSome? fun q =>
        let e := queueEntry b q
        if !(live.any fun p => bitAt ((manifestEntry b p).drop 104) q) then none
        else if le e 6 1 > 31 then some (8208 + 8 * q + 6)
        else if le e 7 1 > 63 then some (8208 + 8 * q + 7)
        else none

/-- Exclusive masks of an entry: offset and bytes (R308, R309). -/
def exclusive : List (Nat × Nat) :=
  [(104, 8), (112, 4), (212, 8), (228, 12), (252, 1), (253, 1), (256, 16), (272, 4), (276, 8), (284, 4), (288, 4), (296, 4)]

/-- Two ranges of numbers meet. -/
def meets (a n b m : Nat) : Bool := decide (n ≠ 0 ∧ m ≠ 0 ∧ a < b + m ∧ b < a + n)

/-- RW regions of an entry as (kind, first granule, count), and all of them. -/
def rawRegions (e : List Byte) (rwOnly : Bool) : List (Bool × Nat × Nat) :=
  ((List.range 8).filter fun i => decide (le e (44 + 8 * i) 2 ≠ 0) && (!rwOnly || nbit (le e (40 + 8 * i) 1) 2)).map fun i =>
    (nbit (le e (40 + 8 * i) 1) 0, le e (42 + 8 * i) 2, le e (44 + 8 * i) 2)

/-- RW windows of an entry: base and length. -/
def rwWindows (e : List Byte) : List (Nat × Nat) :=
  ((List.range 16).filter fun i => nbit (le e (326 + 8 * i) 1) 0).map fun i => (le e (320 + 8 * i) 5, le e (325 + 8 * i) 1 * 4096)

/-- A resource of an entry is already granted (R311 CONFLICT). -/
def State.entryClash (s : State) (e : List Byte) : Bool :=
  let others := ((List.range 16).map s.part).filter (·.created)
  (others.any fun o => exclusive.any fun x => (le e x.1 x.2 &&& le o.entry x.1 x.2) ≠ 0) ||
  (others.any fun o => (rawRegions e true).any fun a => (rawRegions o.entry true).any fun b => a.1 == b.1 && meets a.2.1 a.2.2 b.2.1 b.2.2) ||
  (others.any fun o => (rwWindows e).any fun a => (rwWindows o.entry).any fun b => meets a.1 a.2 b.1 b.2) ||
  (rawRegions e false).any fun a => !a.1 && decide (a.2.1 < 64)

/-- ENGINE values of R70. -/
def engineOk (v : Nat) : Bool := (0x10 ≤ v ∧ v ≤ 0x27) || [0x30, 0x31, 0x32, 0x33, 0x34, 0x35, 0x36, 0x37, 0x40].contains v

/-- A queue of an entry is invalid, or would be the fifth with ENGINE 0x10 + n for one controller, of either DIR (R311
QUEUES). -/
def State.queuesBad (s : State) (b e : List Byte) : Bool :=
  let mine := (List.range 64).filter (bitAt (e.drop 104))
  let dir (q : Nat) := nbit (le (queueEntry b q) 6 1) 0
  let probe : Part := { created := true, entry := e }
  let bad (q : Nat) : Bool :=
    let x := queueEntry b q
    let size := nbits (le x 6 1) 4 1
    !engineOk (le x 5 1) || decide (size < 3 ∨ 12 < size) || decide (le x 0 5 % 32 ≠ 0) || !probe.inRwSram (le x 0 5) (2 ^ size * 32) ||
    (!dir q && !(mine.contains (le x 7 1) && dir (le x 7 1)))
  let feeds (n : Nat) : Nat :=
    (mine.filter fun q => decide (le (queueEntry b q) 5 1 = 0x10 + n)).length +
    ((List.range 64).filter fun q => (s.holder offQueues q).isSome && decide (s.rd (R.QMG_QnCFG_ENGINE q) = 0x10 + n)).length
  mine.any bad || (List.range 24).any fun n => decide (4 < feeds n)

/-- Blocks that no window may cover (R61). An RW window over a die page or a safety-switch page (R84) is among no rule of R311:
it is created, and its writes are ignored. DESIGN CHOICE. -/
def windowBad (e : List Byte) : Bool :=
  (List.range 16).any fun i =>
    let a := le e (320 + 8 * i) 5
    let n := le e (325 + 8 * i) 1 * 4096
    meets a n 0x20000000 0x10000 || meets a n 0x20020000 0x10000 || meets a n 0x20C00000 0x200000 || meets a n 0x20F00000 0x100000 ||
    meets a n 0x207A0000 0x20000

/-- A core that is not there to be granted, or named against the split of its pair (R311 CORES). -/
def State.coresBad (s : State) (e : List Byte) : Bool :=
  let c := le e 12 2
  let taken (h : Nat) := (s.partOfHart h).isSome
  c = 0 || (maskIdx 16 c).any fun h =>
    !s.isSet (R.LSC_Pk_CFG_PRESENT (h / 2)) || decide (s.pairState (h / 2) = psFailed) || taken h ||
    (decide (h % 2 = 1) && !s.isSplit (h / 2))

/-- A region against its watermark, or heartwood without a heartwood part (R311 WORLD). -/
def State.worldBad (s : State) (e : List Byte) : Bool :=
  let heart := nbit (le e 0 1) 3
  (!heart && decide (le e 292 4 ≠ 0)) || (List.range 8).any fun i =>
    let f := le e (40 + 8 * i) 1
    let first := le e (42 + 8 * i) 2
    let n := le e (44 + 8 * i) 2
    let wm := if nbit f 0 then s.rd R.KSU_WM_WM_DRAM else s.rd R.KSU_WM_WM_SRAM
    n ≠ 0 && (if nbit f 1 then decide (wm < first + n) || !heart else decide (first < wm))

/-- A unit that the module does not have (R2, R311 ABSENT). A controller number above 23 and a granule that lies in no memory
or in the ways of the system cache, for which R309 states no range, are taken as such. DESIGN CHOICE. -/
def State.absentUnit (s : State) (e : List Byte) : Bool :=
  decide (le e 115 1 ≠ 0) || ((List.range 8).any fun i => decide (24 ≤ le e (116 + 12 * i) 1 ∧ le e (116 + 12 * i) 1 ≠ 0xFF)) ||
  (rawRegions e false).any fun a => decide ((if a.1 then 3584 else 384 - 8 * s.rd R.MEM_SC_CFG_WAYS) < a.2.1 + a.2.2)

/-- The cause for which an entry is not created (R311, R329), in table order. -/
def State.createFail (s : State) (b e : List Byte) : Option Nat :=
  if s.absentUnit e then some 1
  else if s.coresBad e then some 2
  else if nbit (le e 0 1) 1 ∧ (maskIdx 16 (le e 12 2)).any fun h => s.isSplit (h / 2) then some 3
  else if nbit (le e 0 1) 2 ∧ !nbit (le e 0 1) 3 then some 4
  else if s.worldBad e then some 5
  else if s.entryClash e then some 6
  else if s.queuesBad b e then some 9
  else if windowBad e then some 7
  else if 230 < le e 4 2 + le e 6 2 then some 8
  else none

/-- A queue configured from its MANIFEST entry (R310). -/
def State.queueSetup (s : State) (p q : Nat) (x : List Byte) : State :=
  let a := le x 0 5
  [(R.QMG_QnBASE_LO_ADDR q, a / 32), (R.QMG_QnBASE_HI_ADDR_HI q, a / 2 ^ 32), (R.QMG_QnCFG_DIR q, le x 6 1 % 2),
   (R.QMG_QnCFG_ENGINE q, le x 5 1), (R.QMG_QnCFG_OWNER q, p), (R.QMG_QnCFG_CQ q, le x 7 1),
   (R.QMG_QnCFG_SIZE q, nbits (le x 6 1) 4 1), (R.QMG_QnCFG_EN q, 1), (R.QMG_QnSTAT_STOPPED q, 0)].foldl (fun s v => s.wr v.1 v.2) s

/-- Queue pairs of a partition (R223): in ascending order per host port, each takes the next two DIR 0 queues of that port
(TXQ, BUFQ) and the next DIR 1 queue (RXQ), with the MAC that the NET record gives. DESIGN CHOICE. -/
def State.qpSetup (s : State) (p : Nat) : State :=
  s.each (List.range 4) fun s h =>
    let ks := (List.range 32).filter fun k => (s.part p).has offQp k && decide (k / 8 = h)
    let tx := s.queuesOf p (0x34 + h) 0
    let rx := s.queuesOf p (0x34 + h) 1
    s.each ks.zipIdx fun s (k, i) =>
      match tx[2 * i]?, tx[2 * i + 1]?, rx[i]? with
      | some t, some b, some r =>
        let s1 := [(R.ESW_QPk_CFG_OWNER k, p), (R.ESW_QPk_CFG_TXQ k, t), (R.ESW_QPk_CFG_BUFQ k, b), (R.ESW_QPk_CFG_RXQ k, r),
          (R.ESW_QPk_CFG_EN k, 1)].foldl (fun s v => s.wr v.1 v.2) s
        (match s.recWord recNet 8 (R.ESW_QPk_MAC_LO k), s.recWord recNet 8 (R.ESW_QPk_MAC_HI k) with
         | some lo, some hi => (s1.setRaw (R.ESW_QPk_MAC_LO k) lo).wr (R.ESW_QPk_MAC_HI_MAC k) hi.toNat
         | _, _ =>
           let (v, s2) := s1.fresh
           (s2.wr (R.ESW_QPk_MAC_LO_MAC k) v.toNat).wr (R.ESW_QPk_MAC_HI_MAC k) (v.toNat / 2 ^ 32))
      | _, _, _ => s

/-- A partition created (R311, R312). -/
def State.createOne (s : State) (b : List Byte) (p : Nat) : State :=
  let e := manifestEntry b p
  if !nbit (le e 0 1) 0 then s
  else match s.createFail b e with
  | some cause => s.raise 489 .pub (leBytes 1 p ++ leBytes 1 cause)
  | none =>
    let s1 := (s.modPart p fun x => { x with created := true, entry := e }).wr (R.MBX_STAT_GEN p) 1
    let s2 := s1.each ((List.range 64).filter (bitAt (e.drop 104))) fun s q => s.queueSetup p q (queueEntry b q)
    let s3 := (s2.qpSetup p).each ((List.range 64).filter (bitAt (e.drop 276))) fun s k =>
      ((s.wr (R.LGW_BLKb_OWNER k) p).wr (R.LGW_BLKb_SYS k) 0).wr (R.LGW_BLKb_EN k) 1
    let s4 := s3.each (s3.pairsOf p) fun s k => (s.wr (R.LSC_Pk_STAT_HOSTED k) 1).wr (R.LSC_Pk_STAT_PID k) p
    s4.setPart p stStopped 0

/-- Roles in which no partition is started (R379). -/
def State.holdsParts (s : State) : Bool := decide (s.rd R.PAIR_STAT_ROLE = 1 ∨ s.rd R.PAIR_STAT_ROLE = 3 ∨ s.rd R.PAIR_STAT_ROLE = 4)

/-- PARTITION_CREATE (R311): whether MANIFEST is valid, and the state after. -/
def State.createParts (s : State) : Bool × State :=
  match s.recBody recManifest with
  | none => (false, s)
  | some b =>
    match manifestBad b with
    | some off => (false, s.raise 490 .sys (leBytes 1 0xFF ++ leBytes 4 off))
    | none =>
      let s1 := s.each (List.range 16) fun s p => s.createOne b p
      (true, s1.each (List.range 16) fun s p =>
        if (s.part p).created && (s.part p).autostart && !(s.part p).spent && !s.holdsParts then s.beginLoad p 0 else s)

/-! Commands (R328). -/

/-- The partition a payload byte names: 0xFF the caller. -/
def Ctx.namedPart (c : Ctx) : Option Nat := if c.arg 0 1 = 0xFF then c.caller else some (c.arg 0 1)

/-- Whether the caller may act on another partition: SYSTEM with W = 1, or the service port bridge. -/
def State.mayAct (s : State) (c : Ctx) : Bool := c.isService || (s.callerSystem c && c.attr.w)

def namesOther (c : Ctx) : Bool := c.arg 0 1 < 16 && c.caller ≠ some (c.arg 0 1)

def actGrant (s : State) (c : Ctx) : Option Nat := if namesOther c && !s.mayAct c then some 0x8000 else none

/-- A command on a named partition: RANGE for none, then its effect. -/
def onPart (c : Ctx) (s : State) (f : Nat → Reply) : Reply :=
  match c.namedPart with
  | some p => if p < 16 then f p else Reply.range s 0
  | none => Reply.range s 0

/-- PART_INFO (0x0701). -/
def opPartInfo : OpSpec where
  opcode := 0x0701
  classes := [clRt, clNormal]
  bits := allBits 1
  grant := fun s c => if namesOther c && !c.isService && !s.callerSystem c then some 0x8000 else none
  need := fun _ => 1
  body := fun c s => onPart c s fun p =>
    let q := s.part p
    Reply.ok s (leBytes 1 (s.partState p) ++ leBytes 1 q.flags ++ leBytes 2 (s.gen p) ++ leBytes 2 q.cores ++
      leBytes 1 q.lastCause ++ leBytes 1 (q.chargedIn s.now).length ++ leBytes 4 q.restarts ++
      leBytes 4 (s.raw (R.EVR_Pp_OVR p)).toNat ++ leBytes 2 (s.rd (R.EVR_Pp_FSTAT_USED p)))

/-- PART_RESTART (0x0702). -/
def opPartRestart : OpSpec where
  opcode := 0x0702
  classes := [clNormal]
  bits := allBits 1
  grant := actGrant
  need := fun _ => 1
  body := fun c s => onPart c s fun p =>
    if s.partState p ≠ stRunning ∧ s.partState p ≠ stLoading then Reply.err s stConflict 0
    else Reply.ok (s.partReset p pcRestart)

/-- PART_STOP (0x0703). -/
def opPartStop : OpSpec where
  opcode := 0x0703
  classes := [clNormal]
  bits := allBits 1
  grant := actGrant
  need := fun _ => 1
  body := fun c s => onPart c s fun p =>
    if s.partState p ≠ stRunning ∧ s.partState p ≠ stLoading then Reply.err s stConflict 0
    else Reply.ok ((s.modPart p fun x => { x with stopCmd := true }).partReset p pcStop)

/-- PART_START (0x0704): the budget history is cleared (R296). After a stop at 135 °C, only once the crown junction is at 115 °C or below (R452). -/
def opPartStart : OpSpec where
  opcode := 0x0704
  classes := [clNormal]
  bits := allBits 1
  grant := actGrant
  need := fun _ => 1
  body := fun c s => onPart c s fun p =>
    if s.partState p ≠ stStopped ∨ s.svr.cut then Reply.err s stConflict 0
    else
      let s1 := s.modPart p fun x => { x with charged := [], spent := false }
      if (s.pairsOf p).any fun k => s.pairState k = psFailed then Reply.ok s1
      else Reply.ok (s1.beginLoad p 0)

/-- Whether the caller holds the votes of a unit (R325). -/
def State.holdsVote (s : State) (c : Ctx) (u : Nat) : Bool :=
  if u < 24 then
    (match s.canOwner u with
     | some p => c.caller = some p
     | none => s.callerSystem c)
  else if u ≤ 40 then c.owns s.netOwner
  else s.callerSystem c && !c.attr.w

/-- PART_GATE (0x0710). -/
def opPartGate : OpSpec where
  opcode := 0x0710
  classes := [clNormal]
  bits := allBits 2
  grant := fun s c => if c.arg 0 1 ≤ 45 && !s.holdsVote c (c.arg 0 1) then some 0x8000 else none
  need := fun _ => 2
  body := fun c s =>
    if 45 < c.arg 0 1 then Reply.range s 0
    else if 1 < c.arg 1 1 then Reply.range s 1
    else Reply.ok (s.vote (c.arg 0 1) c.attr.w (c.arg 1 1 = 1))

/-- PART_GATE_GET (0x0711). -/
def opPartGateGet : OpSpec where
  opcode := 0x0711
  classes := [clRt, clNormal]
  bits := allBits 1
  need := fun _ => 1
  body := fun c s =>
    if 45 < c.arg 0 1 then Reply.range s 0 else Reply.ok s (leBytes 4 (s.raw (R.KSU_GATEu (c.arg 0 1))).toNat)

def execPartInfo (m : Fin 17) (fate : Fate) (s : State) : Out := s.finish (s.runRow opPartInfo m fate)
def execPartRestart (m : Fin 17) (fate : Fate) (s : State) : Out := s.finish (s.runRow opPartRestart m fate)
def execPartStop (m : Fin 17) (fate : Fate) (s : State) : Out := s.finish (s.runRow opPartStop m fate)
def execPartStart (m : Fin 17) (fate : Fate) (s : State) : Out := s.finish (s.runRow opPartStart m fate)
def execPartGate (m : Fin 17) (fate : Fate) (s : State) : Out := s.finish (s.runRow opPartGate m fate)
def execPartGateGet (m : Fin 17) (fate : Fate) (s : State) : Out := s.finish (s.runRow opPartGateGet m fate)

end Sys2Proof.Machine
end

