-- ==== Sys2Proof/Machine/Cores.lean ====
section
/-! DEFINITION. Cores, lockstep pairs, memory errors, debug and world switches (10_application_complex.md, R321 and R324 of
11_partitions_worlds.md). -/

namespace Sys2Proof.Machine

/-! Memory errors (R281, R287, R289). -/

/-- Memory codes of MEM_ERR_INFO.MEM (R305): an address outside system SRAM and LPDDR5X is one of the Forester SRAM. -/
def memOf (addr : Nat) : Nat :=
  if 0x10000000 ≤ addr ∧ addr < 0x11800000 then 0 else if 0x800000000 ≤ addr ∧ addr < 0xA00000000 then 1 else 2

/-- A heartwood region (R287): below its watermark, the recorder ring, or the Forester SRAM. -/
def State.heartRegion (s : State) (addr : Nat) : Bool :=
  s.belowMark addr || decide (memOf addr = 2) || decide (0x10000000 ≤ addr ∧ addr < 0x10400000)

/-- MEM_ERR_ADDR and MEM_ERR_INFO (R305): the first error stays, further ones set MORE. -/
def State.logErr (s : State) (a : Attr) (addr : Nat) (scrub : Bool) : State :=
  if s.isSet R.MEM_ERR_INFO_VALID then s.wr R.MEM_ERR_INFO_MORE 1
  else
    [(R.MEM_ERR_ADDR_LO_ADDR, addr), (R.MEM_ERR_ADDR_HI_ADDR, addr / 2 ^ 32), (R.MEM_ERR_INFO_VALID, 1), (R.MEM_ERR_INFO_MEM, memOf addr),
     (R.MEM_ERR_INFO_SCRUB, b2n scrub), (R.MEM_ERR_INFO_HEART, b2n (s.heartRegion addr)),
     (R.MEM_ERR_INFO_RQC, if scrub then 0 else a.rqc.val), (R.MEM_ERR_INFO_W, if scrub then 0 else b2n a.w),
     (R.MEM_ERR_INFO_PID, if scrub then 0 else a.pid.val)].foldl (fun s v => s.wr v.1 v.2) s

/-- A single-bit error corrected (R287): counted, its event at most once per frame. -/
def State.memCorrected (s : State) (addr : Nat) : State :=
  let d := if memOf addr = 1 then 1 else 0
  let s1 := s.bump (if d = 1 then R.MEM_CE_CNT_DRAM else R.MEM_CE_CNT_SRAM)
  if s.cpx.ceRaised.contains d then s1
  else (s1.modCpx fun c => { c with ceRaised := d :: c.ceRaised }).raise (64 + d) .pub (leBytes 5 addr)

/-- MEM_UE with its payload (R307). -/
def State.memUe (s : State) (addr pid : Nat) (scrub : Bool) : State :=
  s.raise 66 (s.granuleOwner addr)
    (leBytes 5 addr ++ leBytes 1 (memOf addr) ++ leBytes 1 (b2n scrub + 2 * b2n (s.heartRegion addr)) ++ leBytes 1 pid)

/-- An uncorrectable error (R287): a fatal stop in a heartwood region, else the word is poisoned. -/
def State.memUncorrectable (s : State) (a : Attr) (addr : Nat) (scrub : Bool) : State :=
  let s1 := (s.bump (if memOf addr = 1 then R.MEM_UE_CNT_DRAM else R.MEM_UE_CNT_SRAM)).logErr a addr scrub
  if s.heartRegion addr then s1.fatalStop (if memOf addr = 2 then 2 else 1)
  else
    let s2 := s1.modCpx fun c => { c with poison := insNat (wordBase addr) (c.poison.filter fun w => w ≠ wordBase addr) }
    (if scrub then s2 else s2.onBus fun _ => { err := true }).memUe addr (if scrub then 0 else a.pid.val) scrub

/-- Whether the scrubber found it. -/
def scrubFound : MemErr → Bool
  | .single b => b
  | .uncorrectable b => b
  | .poisoned => false

/-- The scrubber runs while the crown die runs, from the end of the initialisation on (R286, R289). -/
def State.scrubs (s : State) : Bool := s.crownUp

/-- MEM_READ_ERROR (R287): a read that the memory admits, or one of the scrubber; a corrected read has its data. -/
def State.memError (s : State) (a : Attr) (addr : Nat) (e : MemErr) : State :=
  if scrubFound e && !s.scrubs then s
  else if !scrubFound e && !s.memAdmits a addr 1 false then s.deny a addr
  else match e with
  | .single scrub =>
    let w := addr / 4 * 4
    (s.memCorrected addr).when (!scrub) fun s => s.respondBus (BitVec.ofNat 32 (le (s.memRead w 4) 0 4))
  | .uncorrectable scrub => s.memUncorrectable a addr scrub
  | .poisoned =>
    if s.isPoisoned addr then
      (s.onBus fun _ => { err := true }).poisonEvent a addr
    else s

/-- SCRUB_PASS_END: LAST in ms for SRAM and in 0.1 s for LPDDR5X (R305, R307). -/
def State.scrubEnd (s : State) (dram : Bool) (ms : Nat) : State :=
  if !s.scrubs then s
  else
  let last := sat 0xFFFF (if dram then ms / 100 else ms)
  let f := if dram then (R.MEM_SCRUB_DRAM_PASSES, R.MEM_SCRUB_DRAM_LAST) else (R.MEM_SCRUB_SRAM_PASSES, R.MEM_SCRUB_SRAM_LAST)
  ((s.count f.1).wr f.2 last).raise 68 .pub (leBytes 1 (b2n dram) ++ leBytes 2 last)

/-! Lockstep (R290-R299). -/

/-- The harts that a request for a half of a pair meets: hart 2k of an unsplit pair. -/
def State.hartAt (s : State) (k : Nat) (half : Bool) : Nat := if s.isSplit k && half then 2 * k + 1 else 2 * k

/-- Both cores of a pair halted (R293, R305). -/
def State.haltPair (s : State) (k : Nat) : State :=
  let s1 := s.each [2 * k, 2 * k + 1] fun s h => s.modHart h fun x => { x with run := false, callAt := none, held := false }
  let st := s.pairState k
  if st = psTesting ∨ st = psRun ∨ st = psSplitRun ∨ st = psDbgHalt then s1.wr (R.LSC_Pk_STAT_STATE k) psHalted else s1

/-- Whether a pair runs in lockstep. -/
def State.inLockstep (s : State) (k : Nat) : Bool := !s.isSplit k && (s.pairState k = psRun || s.pairState k = psDbgHalt)

/-- Whether a pair can mismatch now: it runs, or another pair's mismatch has halted it at this very instant (R294). -/
def State.canMismatch (s : State) (k : Nat) : Bool := s.inLockstep k || s.cpx.sameHalt.contains (k, s.now)

/-- A mismatch (R292-R294): LSC_Pk_MM and MM_T, the pair-fault line, both cores halted, then the other pairs of the
partition, LS_MISMATCH, and the partition's reset. The Forester's own is a fatal stop (R299), whose crown reset clears all of
its page but CNT. -/
def State.mismatch (s0 : State) (k groups : Nat) : State :=
  if k = 8 then (if s0.pairState 8 = psRun then (s0.bump (R.LSC_Pk_CNT_MISMATCH 8)).fatalStop 0 else s0)
  else if !s0.canMismatch k then s0
  else
    let others := (List.range 8).filter fun j => j ≠ k && s0.inLockstep j && (s0.partsOn j).any fun p => (s0.partsOn k).contains p
    let s := s0.modCpx fun c => { c with sameHalt := (c.sameHalt.filter fun x => x.2 = s0.now ∧ x.1 ≠ k) ++ others.map fun j => (j, s0.now) }
    let s1 := (((s.haltPair k).wr64 (R.LSC_Pk_MM_LO k) (R.LSC_Pk_MM_HI k) groups).wr64 (R.LSC_Pk_MM_T_LO k) (R.LSC_Pk_MM_T_HI k) s.lc)
    let s2 := (s1.wr (R.LSC_Pk_STAT_LINE k) 1).bump (R.LSC_Pk_CNT_MISMATCH k)
    let s3 := s2.each (s.partsOn k) State.haltPart
    (s3.raise 96 (s.pairOwner k) (leBytes 1 k ++ leBytes 1 (s.rd (R.LSC_Pk_STAT_PID k)) ++ leBytes 8 groups)).each (s.partsOn k)
      fun s p => s.partReset p pcMismatch

/-- The dual-rail result of a group's comparator (R292): 0b10 where its delay registers have a parity error. -/
def railOf (rails parity g : Nat) : Nat := if nbit parity g then 2 else rails / 4 ^ g % 4

/-- The groups of a pair whose result is not 0b01, as a mask (R291, R299: 64 groups, 16 of the Forester). -/
def unequalGroups (k rails parity : Nat) : Nat :=
  ((List.range (if k = 8 then 16 else 64)).filter fun g => railOf rails parity g ≠ 1).foldl (fun a g => a + 2 ^ g) 0

/-- LOCKSTEP_MISMATCH: the comparators' results, parity errors of the delay registers, and the result of the two-rail tree,
which is 0b01 only where every group's is, and otherwise as a fault of the tree makes it (R292). -/
def State.compareResult (s : State) (k : Nat) (c : Comparison) : State :=
  let bad := unequalGroups k c.rails c.parity
  if bad = 0 ∧ c.tree = 1 then s else s.mismatch k bad

/-- TRAP_LOOP (R295): the pair or the split core halts, LS_LOCKUP, and the partition's reset; the Forester pair's resets the
crown die (R455). -/
def State.trapLoop (s : State) (k : Nat) (half : Bool) : State :=
  let h := s.hartAt k half
  if k = 8 then
    if s.pairState 8 ≠ psRun then s
    else (((s.wr (R.LSC_Pk_STAT_STATE 8) psHalted).bump (R.LSC_Pk_CNT_LOCKUP 8)).raise 98 .sys [8, 0, 0]).assertSrc rsLockup crown
  else if !(s.hart h).run then s
  else
    let s1 := if s.isSplit k then
        let t := s.modHart h fun x => { x with run := false, callAt := none, held := false }
        if (t.hart (2 * k)).run || (t.hart (2 * k + 1)).run then t else t.haltPair k
      else s.haltPair k
    let code := if !s.isSplit k then 0 else if half then 2 else 1
    let ps := match s.partOfHart h with | some p => [p] | none => []
    ((s1.bump (R.LSC_Pk_CNT_LOCKUP k)).raise 98 (s.pairOwner k) (leBytes 1 k ++ leBytes 1 code ++ leBytes 1 (ps.getD 0 (s.rd (R.LSC_Pk_STAT_PID k))))).each ps
      fun s p => s.partReset p pcLockup

/-- START_TEST_DONE (R297-R299): RUN, or FAILED with LSC_Pk_TEST. A failure of the Forester's own test is a fatal stop. -/
def State.testDone (s : State) (k : Nat) (out : TestOut) : State :=
  if s.pairState k ≠ psTesting ∨ (s.hart (2 * k)).rst then s
  else
    let s1 := [(R.LSC_Pk_TEST_DONE k, 1), (R.LSC_Pk_TEST_PASS k, b2n out.pass), (R.LSC_Pk_TEST_ALARM_FAIL k, b2n (!out.pass && out.alarmFail)),
      (R.LSC_Pk_TEST_FAILGRP k, if out.pass then 0 else out.failgrp.val)].foldl (fun s v => s.wr v.1 v.2) s
    if out.pass then
      let s2 := s1.wr (R.LSC_Pk_STAT_STATE k) psRun
      if k = 8 then s2
      else match s.partOfHart (2 * k) with
      | some p => ((s2.when (s.partState p = stLoading) fun s => s.hartStart p (2 * k)).raise 99 (s.pairOwner k) (leBytes 1 k)).checkUp p
      | none => (s2.modHart (2 * k) fun x => { x with run := true }).raise 99 (s.pairOwner k) (leBytes 1 k)
    else if k = 8 then s1.fatalStop 3
    else
      let s2 := (s1.wr (R.LSC_Pk_STAT_STATE k) psFailed).raise 97 (s.pairOwner k)
        (leBytes 1 k ++ leBytes 1 out.failgrp.val ++ leBytes 1 (b2n out.alarmFail))
      (s2.each (s.partsOn k) fun s p => if s.partState p = stLoading then s.loadFail p 0 else s).degr

/-- CACHE_ERROR (R281): a correction or refetch is counted; what a copy cannot correct is group 63 of a lockstep pair; on a
split core a clean line is fetched again and a dirty one is an access fault with MEM_UE. -/
def State.cacheError (s : State) (h : Nat) (kind : CacheErr) (addr : Nat) : State :=
  let corrected := s.bump R.MEM_CE_CACHE_CACHE
  match kind with
  | .corrected => corrected
  | .clean => if s.isSplit (h / 2) then corrected else s.mismatch (h / 2) (2 ^ 63)
  | .dirty =>
    if s.isSplit (h / 2) then
      (s.onBus fun _ => { err := true }).memUe addr ((s.partOfHart h).getD 0) false
    else s.mismatch (h / 2) (2 ^ 63)

/-! Debug (R302-R304). -/

/-- Whether a debug request reaches the cores (R302, R404, R407): CORES for the pair, HEART for a hart in heartwood. -/
def State.debugCore (s : State) (k : Nat) (heart : Bool) : Bool :=
  s.sec.dbgEn && (s.lcs = 1 || s.lcs = 2 ||
    ((s.lcs = 3 || s.lcs = 4) && nbit (s.rd R.KSU_AUTH_SCOPE) 1 && nbit (s.rd R.KSU_AUTH_CORES) k && (!heart || nbit (s.rd R.KSU_AUTH_SCOPE) 3)))

def State.debugAny (s : State) : Bool :=
  s.sec.dbgEn && (s.lcs = 1 || s.lcs = 2 || ((s.lcs = 3 || s.lcs = 4) && nbit (s.rd R.KSU_AUTH_SCOPE) 1))

/-- What the debug module answers (R302). -/
def State.answerDbg (s : State) (a : DbgAns) : State := s.modCpx fun c => { c with dbgAns := a }

/-- The replay FIFO of a pair: an entry leaves when the checker has replayed it, 2 cycles (1 ns) later (R303). -/
def State.replayDrain (s : State) : State :=
  let s1 := s.modCpx fun c => { c with fifo := c.fifo.map fun l => l.filter fun t => s.now < t + 1 }
  s1.each (List.range 8) fun s k => s.wr (R.LSC_Pk_STAT_FIFO k) (s.cpx.fifo.getD k []).length

/-- DEBUG_HALT (R303, R304). -/
def State.debugHalt (s : State) (k : Nat) (half : Bool) : State :=
  let h := s.hartAt k half
  if !s.debugCore k (s.hart h).heart then s.answerDbg .unavailable
  else if (s.hart h).dbg ∨ s.pairState k = psOff ∨ s.pairState k = psFailed then s.answerDbg .done
  else
    let s1 := (s.answerDbg .done).modHart h fun x => { x with dbg := true }
    let goes (x : Nat) := (s1.hart x).run && !(s1.hart x).dbg
    let s2 := if (s.pairState k = psRun ∨ s.pairState k = psSplitRun) ∧ !goes (2 * k) ∧ !goes (2 * k + 1) then
        s1.wr (R.LSC_Pk_STAT_STATE k) psDbgHalt else s1
    let s3 := s2.raise 101 (s.pairOwner k) (leBytes 1 k)
    match s.partOfHart h with
    | some p => if s.partState p = stQuiescing then s3.partEvent 499 p (leBytes 1 h) else s3
    | none => s3

/-- DEBUG_RESUME (R303, R304). -/
def State.debugResume (s : State) (k : Nat) (half : Bool) : State :=
  let h := s.hartAt k half
  if !s.debugCore k (s.hart h).heart then s.answerDbg .unavailable
  else if !(s.hart h).dbg then s.answerDbg .done
  else
    let s1 := (s.answerDbg .done).modHart h fun x => { x with dbg := false }
    let s2 := if s.pairState k = psDbgHalt then s1.wr (R.LSC_Pk_STAT_STATE k) (if s.isSplit k then psSplitRun else psRun) else s1
    s2.raise 102 (s.pairOwner k) (leBytes 1 k)

/-- DEBUG_WRITE (R303): into the replay FIFO of a lockstep pair; a write that finds it full waits. -/
def State.debugWrite (s0 : State) (k : Nat) (half : Bool) (reg val : Nat) : State :=
  let s := s0.replayDrain
  let h := s.hartAt k half
  let wrote := (s.answerDbg .done).modHart h fun x => { x with wrote := sput x.wrote reg val }
  if !s.debugCore k (s.hart h).heart then s.answerDbg .unavailable
  else if s.isSplit k then wrote
  else if 64 ≤ (s.cpx.fifo.getD k []).length then s.answerDbg .busy
  else
    let s1 := wrote.modCpx fun c => { c with fifo := updAt c.fifo k fun l => l ++ [s.now] }
    s1.wr (R.LSC_Pk_STAT_FIFO k) (s1.cpx.fifo.getD k []).length

/-- DEBUG_RESET (R455): the crown die, or one pair or split core, for as long as the debug module holds it. -/
def State.debugReset (s : State) (assert : Bool) : DebugTarget → State
  | .crown =>
    if assert then (if s.debugAny then (s.answerDbg .done).assertSrc rsDbg crown else s.answerDbg .unavailable) else s.releaseSrc rsDbg
  | .pair k half =>
    let h := s.hartAt k half
    if !assert then s.modHart h fun x => { x with rst := false }
    else if !s.debugCore k (s.hart h).heart then s.answerDbg .unavailable
    else
      let s1 := (s.answerDbg .done).modHart h fun _ => { rst := true }
      if (s1.hart (2 * k)).run || (s1.hart (2 * k + 1)).run then s1 else s1.haltPair k

/-! World switches (R321, R324). -/

/-- A core that executes instructions. -/
def Hart.live (x : Hart) : Bool := x.run && !x.dbg && !x.rst

/-- WCALL in a mode of a core, at a pc. -/
def State.wcall (s : State) (h mode pc : Nat) : State :=
  let x := s.hart h
  let p := s.partOfHart h
  if !x.live then s
  else
    let heartPart := match p with | some p => (s.part p).isHeart | none => false
    let why := if x.heart then some 0 else if mode ≠ 1 ∧ mode ≠ 3 then some 1 else if !heartPart then some 2 else none
    match why with
    | some r =>
      (s.modHart h fun x => { x with trap := true }).raise 495 (ownerOf p)
        (leBytes 1 (p.getD 0) ++ leBytes 1 h ++ leBytes 1 r)
    | none =>
      s.modHart h fun x =>
        { x with heart := true, mode := 3, wepc := pc + 4, wcause := mode, pc := (s.part (p.getD 0)).hvec, callAt := some s.now }

/-- WRET: back to sapwood, and a tick held meanwhile is taken. -/
def State.wret (s : State) (h : Nat) : State :=
  let x := s.hart h
  if !x.live then s
  else if x.heart then
    s.modHart h fun x =>
      { x with heart := false, mode := x.wcause, pc := x.wepc, callAt := none, held := false, ticks := x.ticks + b2n x.held }
  else s.modHart h fun x => { x with trap := true }

/-- HEART_CALL_TIMEOUT: HMAX after the WCALL. -/
def State.heartTimeout (s : State) (h : Nat) : State :=
  match (s.hart h).callAt, s.partOfHart h with
  | some t, some p => ((s.advance (t + (s.part p).hmax * 1000)).partEvent 494 p (leBytes 1 h)).partReset p pcHeartOvr
  | _, _ => s

def execLockstepMismatch (k : Fin 9) (c : Comparison) (s : State) : Out := s.finish (s.compareResult k c)
def execTrapLoop (k : Fin 9) (half : Bool) (s : State) : Out := s.finish (s.trapLoop k half)
def execPairStart (a : Attr) (k : Fin 8) (s : State) : Out :=
  s.finish (s.access a (R.LSC_Pk_CTRL k) true fun s => s.startPair k)
def execPairHalt (a : Attr) (k : Fin 8) (s : State) : Out :=
  s.finish (s.access a (R.LSC_Pk_CTRL k) true fun s => s.haltPair k)
def execStartTestDone (k : Fin 9) (out : TestOut) (s : State) : Out := s.finish (s.testDone k out)
def execMemReadError (a : Attr) (addr : Nat) (err : MemErr) (s : State) : Out := s.finish (s.memError a addr err)
def execCacheError (h : Fin 16) (kind : CacheErr) (addr : Nat) (s : State) : Out := s.finish (s.cacheError h kind addr)
def execScrubPassEnd (dram : Bool) (ms : Nat) (s : State) : Out := s.finish (s.scrubEnd dram ms)
def execScrubLate (dram : Bool) (s : State) : Out := s.finish (s.when s.scrubs fun s => s.raise 69 .pub (leBytes 1 (b2n dram)))
def execDebugHalt (k : Fin 8) (half : Bool) (s : State) : Out := s.finish (s.debugHalt k half)
def execDebugResume (k : Fin 8) (half : Bool) (s : State) : Out := s.finish (s.debugResume k half)
def execDebugWrite (k : Fin 8) (half : Bool) (reg val : Nat) (s : State) : Out := s.finish (s.debugWrite k half reg val)
def execDebugReset (assert : Bool) (target : DebugTarget) (s : State) : Out := s.finish (s.debugReset assert target)
def execWcall (h : Fin 16) (mode : Fin 4) (pc : Nat) (s : State) : Out := s.finish (s.wcall h mode pc)
def execWret (h : Fin 16) (s : State) : Out := s.finish (s.wret h)
def execHeartCallTimeout (h : Fin 16) (s : State) : Out := s.finish (s.heartTimeout h)

end Sys2Proof.Machine
end

