-- ==== Sys2Proof/Machine/Island.lean ====
section
/-! DEFINITION. The safety island (12_safety_island.md): its parameters, evaluation, diagnostics, start and registers, the
bank port (R432), and the 0x08 commands. -/

namespace Sys2Proof.Machine

/-- Codes of SIL_STAT.STATE, of SIL_FLT.CODE and of function states (R358). -/
def ilStart : Nat := 0
def ilRun : Nat := 2
def ilLocked : Nat := 3
def ilFault : Nat := 4
def fcDiscrepancy : Nat := 1
def fcTpMissing : Nat := 2
def fcTpForeign : Nat := 3
def fcTpOutput : Nat := 4
def fcSoStuckOn : Nat := 5
def fcSoExtVoltage : Nat := 6
def fcSoTripped : Nat := 7
def fcResetStuck : Nat := 8
def fcMismatch : Nat := 9
def fcStall : Nat := 10
def fcEvalLate : Nat := 11
def fcEcc : Nat := 12
def fcClock : Nat := 13
def fcSupply : Nat := 14
def fcRecord : Nat := 15
def fcStartTest : Nat := 16
def fnDisabled : Nat := 0
def fnDemand : Nat := 1
def fnWaitReset : Nat := 2
def fnRun : Nat := 3
def fnStopping : Nat := 4
def fnFault : Nat := 5
def fnLocked : Nat := 6

def State.modSil (s : State) (f : Sil → Sil) : State := s.onSil f
def State.ilState (s : State) : Nat := s.rd R.SIL_STAT_STATE

/-- State of function f. -/
def fnFld (f : Nat) : Fld := ⟨if f < 8 then R.SIL_FN_LO else R.SIL_FN_HI, 4 * (f % 8) + 3, 4 * (f % 8)⟩
def State.fnState (s : State) (f : Nat) : Nat := s.rd (fnFld f)

/-- Line A or B, output tap and fault bit of SOk in SIL_OUT. -/
def soBit (k b : Nat) : Fld := ⟨R.SIL_OUT, 4 * k + b, 4 * k + b⟩

/-- An event that the Forester raises at its next read (R359). -/
def State.ilEvent (s : State) (e : Nat) (p : List Byte) : State :=
  s.modSil fun x => { x with evs := x.evs ++ [(e, p, s.rd R.SIL_EVAL_COUNT)] }

/-! Parameters (R354-R357). -/

/-- The check value of a record body (R356). -/
def checkValue (zone : Nat) (body : List Byte) : Nat := crc32c (leBytes 4 zone ++ body)

/-- The valid parameter copy with the higher sequence number (R357). -/
def State.ilCopy (s : State) : Option IslPar :=
  match s.sil.pars.getD 0 none, s.sil.pars.getD 1 none with
  | some a, some b => if a.seq < b.seq then some b else some a
  | some a, none => some a
  | none, b => b

/-- The parameters in use. -/
def State.ilBody (s : State) : List Byte := match s.ilCopy with | some p => p.body | none => []

def inMode (b : List Byte) (i : Nat) : Nat := le b (16 + 8 * i) 1
def inTp (b : List Byte) (i : Nat) (chB : Bool) : Nat := nbits (le b (17 + 8 * i) 1) (if chB then 3 else 1) (if chB then 2 else 0)
def inFilt (b : List Byte) (i : Nat) : Nat := le b (18 + 8 * i) 2
def inDisc (b : List Byte) (i : Nat) : Nat := le b (20 + 8 * i) 2
def isContact (b : List Byte) (i : Nat) : Bool := inMode b i = 1 || inMode b i = 2
def tpOn (b : List Byte) (t : Nat) : Bool := nbit (le b 5 1) t
def swiOn (b : List Byte) (w : Nat) : Bool := nbit (le b (80 + 4 * w) 1) 0
def swiCode (b : List Byte) (w : Nat) : Nat := nbits (le b (80 + 4 * w) 1) 2 1
def swoOn (b : List Byte) (k : Nat) : Bool := nbit (le b (96 + 4 * k) 1) 0
def soOn (b : List Byte) (k : Nat) : Bool := nbit (le b (112 + 4 * k) 1) 0
def soTest (b : List Byte) (k : Nat) : Nat := le b (113 + 4 * k) 1
def fnOff (f : Nat) : Nat := 128 + 16 * f
def fnEn (b : List Byte) (f : Nat) : Bool := nbit (le b (fnOff f) 1) 0
def fnBit (b : List Byte) (f i : Nat) : Bool := nbit (le b (fnOff f) 1) i
def fnGroup (b : List Byte) (f : Nat) (second : Bool) : Nat := le b (fnOff f + (if second then 4 else 2)) 2
def fnPair (b : List Byte) (f : Nat) : Nat := le b (fnOff f + 6) 1
def fnOut (b : List Byte) (f : Nat) : Nat := le b (fnOff f + 7) 1
def fnDelay (b : List Byte) (f : Nat) : Nat := le b (fnOff f + 8) 2

/-- The bits of body byte i that rule 1 of R355 lets be nonzero. -/
def safetyBits (b : List Byte) (i : Nat) : Nat :=
  if i = 0 ∨ i = 2 ∨ i = 3 ∨ i = 4 then 0xFF
  else if i = 5 then 0x0F
  else if i < 16 then 0
  else if i < 80 then
    let k := (i - 16) / 8
    let j := (i - 16) % 8
    if j = 0 then 3 else if inMode b k = 0 then 0 else if j = 1 then 0x0F else if j < 6 then 0xFF else 0
  else if i < 96 then
    let j := (i - 80) % 4
    if !swiOn b ((i - 80) / 4) then (if j = 0 then 1 else 0) else if j = 0 then 7 else if j = 1 then 0 else 0xFF
  else if i < 112 then
    let j := (i - 96) % 4
    if j ≠ 0 then 0 else if swoOn b ((i - 96) / 4) then 7 else 1
  else if i < 128 then
    let j := (i - 112) % 4
    if j = 0 then 1 else if j = 1 ∧ soOn b ((i - 112) / 4) then 0xFF else 0
  else
    let j := (i - 128) % 16
    if !fnEn b ((i - 128) / 16) then (if j = 0 then 1 else 0)
    else if j = 0 ∨ j = 3 ∨ j = 5 then 0x0F else if j = 1 ∨ 10 ≤ j then 0 else 0xFF

/-- The first of some offsets whose condition fails. -/
def failAt (l : List (Bool × Nat)) : Option Nat := (l.find? fun x => !x.1).map (·.2)

/-- Inputs that a group names are used, and safe wires enabled (rule 6). -/
def groupUsed (b : List Byte) (g : Nat) : Bool :=
  (maskIdx 8 g).all (fun i => inMode b i ≠ 0) && (maskIdx 4 (g / 256)).all fun w => swiOn b w

/-- The body offset of the first failure of R355: none for a good record. -/
def safetyBad (b : List Byte) : Option Nat :=
  if b.length ≠ 384 then some 0
  else
    let all (n : Nat) (f : Nat → List (Bool × Nat)) : Option Nat := (List.range n).findSome? fun i => failAt (f i)
    let named (bit : Nat) : Bool := (List.range 16).any fun f => fnEn b f && nbit (fnOut b f) bit
    [failAt [(decide (le b 0 1 = 1), 0)],
     ((List.range 384).find? fun i => (le b i 1) &&& (0xFF - safetyBits b i) ≠ 0),
     failAt [(decide (20 ≤ le b 2 2 ∧ le b 2 2 ≤ 90), 2), (decide (10 ≤ le b 4 1 ∧ le b 4 1 ≤ 20), 4)],
     all 8 (fun i =>
      if inMode b i = 0 then []
      else
        [(!isContact b i || (decide (inTp b i false ≠ inTp b i true) && tpOn b (inTp b i false) && tpOn b (inTp b i true)), 17 + 8 * i),
         (decide (5 ≤ inFilt b i ∧ inFilt b i ≤ 200), 18 + 8 * i), (decide (5 ≤ inDisc b i ∧ inDisc b i ≤ 500), 20 + 8 * i),
         (decide (inMode b i ≠ 3 ∨ 15 ≤ inFilt b i), 18 + 8 * i)]),
     all 4 (fun w => [(!swiOn b w || decide (20 ≤ le b (82 + 4 * w) 2 ∧ le b (82 + 4 * w) 2 ≤ 200), 82 + 4 * w)]),
     all 4 (fun k => [(decide (soTest b k ≤ 60), 113 + 4 * k)]),
     all 16 (fun f =>
      if !fnEn b f then []
      else
        let outs := fnOut b f
        [(decide (fnGroup b f false ≠ 0 ∨ fnGroup b f true ≠ 0 ∨ fnPair b f ≠ 0), fnOff f + 2), (groupUsed b (fnGroup b f false), fnOff f + 2),
         (groupUsed b (fnGroup b f true), fnOff f + 4),
         (decide (outs ≠ 0) && (maskIdx 4 outs).all (soOn b) && (maskIdx 4 (outs / 16)).all (swoOn b), fnOff f + 7), (decide (fnDelay b f ≤ 3000), fnOff f + 8)]),
     all 4 (fun k => [(!soOn b k || named k, 112 + 4 * k)]),
     all 4 (fun k => [(!swoOn b k || named (4 + k), 96 + 4 * k)])].findSome? id

/-! Lines and faults. -/

/-- Both lines of SOk driven (R343). -/
def State.soLines (s : State) (k : Nat) (on : Bool) : State :=
  if s.isSet (soBit k 0) = on ∧ s.isSet (soBit k 1) = on then s
  else
    let s1 := (((s.soGateChange k false on).soGateChange k true on).wrB (soBit k 0) on).wrB (soBit k 1) on
    (s1.modSil fun x => { x with onAt := updAt x.onAt k fun _ => if on then some s.now else none }).ilEvent 392 (leBytes 1 k ++ leBytes 1 (b2n on))

/-- Every gate-enable line and every SWO low (R332, R335). -/
def State.ilQuiet (s : State) : State := (s.each (List.range 4) fun s k => s.soLines k false).wr R.SIL_OUT_SWO_ACT 0

/-- SIL_FLT, the count and the event of a fault (R358, R362). -/
def State.ilReport (s : State) (code source : Nat) : State :=
  (((s.wr R.SIL_FLT_CODE code).wr R.SIL_FLT_SOURCE source).bump R.SIL_CNT_FAULTS).ilEvent 386 (leBytes 1 code ++ leBytes 1 source)

/-- A fault with a lasting cause; once reported it stays until its cause clears. -/
def State.ilSet (s : State) (code source : Nat) : State :=
  if s.sil.faults.any fun x => x.code = code && x.source = source then s
  else (s.modSil fun x => { x with faults := x.faults ++ [⟨code, source, true⟩] }).ilReport code source

def State.ilHas (s : State) (code source : Nat) : Bool := s.sil.faults.any fun x => x.code = code && x.source = source

def State.ilClear (s : State) (code source : Nat) : State :=
  if s.ilHas code source then
    (s.modSil fun x => { x with faults := x.faults.filter fun y => !(y.code = code && y.source = source) }).ilEvent 387
      (leBytes 1 code ++ leBytes 1 source)
  else s

/-- A function's state changed (R362). -/
def State.setFn (s : State) (f st : Nat) : State :=
  let old := s.fnState f
  if old = st then s else (s.wr (fnFld f) st).ilEvent 384 (leBytes 1 f ++ leBytes 1 st ++ leBytes 1 old)

/-- Every enabled function LOCKED. -/
def State.lockFns (s : State) : State :=
  s.each (List.range 16) fun s f => if fnEn s.ilBody f then s.setFn f fnLocked else s.setFn f fnDisabled

/-- Safe Hold of the island (R353): lines low, functions LOCKED, SIL_STAT.HOLD. -/
def State.ilHold (s : State) (code : Nat) : State :=
  let s1 := (s.ilQuiet.lockFns).wr R.SIL_STAT_HOLD 1
  if s.isSet R.SIL_STAT_HOLD then s1 else (s1.ilEvent 397 (leBytes 1 code)).ilEvent 389 [2]

/-- The module's change to Safe Hold from the modes of R466. -/
def State.safeHoldMode (s : State) : State :=
  if s.mode = mdLead ∨ s.mode = mdDegraded ∨ s.mode = mdReserve ∨ s.mode = mdTakeover ∨ s.mode = mdCommission then s.setMode mdSafeHold else s

/-- The island in reset (R335, R432): lines low, nothing of its run kept but an SO_STUCK_ON, which the next start's switch test
clears (R344). -/
def State.ilReset (s : State) : State :=
  (s.ilQuiet.wr R.SIL_STAT_STATE ilStart).modSil fun x =>
    { x with onTrial := false, evalAt := none, evalDone := true, release := false, stuck := false, disc := List.replicate 8 none
             extRun := List.replicate 4 0, midRun := List.replicate 4 0, lowRun := List.replicate 4 0, swiGood := List.replicate 4 0
             swiDem := List.replicate 4 true, offEnd := List.replicate 16 none
             faults := x.faults.filter fun y => y.code = fcSoStuckOn }

/-- An island fault (R335): lines low, the island resets, and stays in FAULT at the third within 60 s. It fails a trial of
the island (R428). -/
def State.ilFaults (s : State) (code : Nat) : State :=
  if s.sil.dead then s
  else
    let l := (s.sil.faultAt.filter fun t => s.now < t + 60000000000) ++ [s.now]
    let s1 := ((s.ilReset).ilReport code 0xFF).modSil fun x => { x with faultAt := l, dead := decide (3 ≤ l.length) }
    (if l.length < 3 then s1 else ((s1.wr R.SIL_STAT_STATE ilFault).ilHold code).safeHoldMode).islandTrialLost

/-- Whether the island's processor runs. -/
def State.ilUp (s : State) : Bool := s.ilState = ilRun || s.ilState = ilLocked

/-- An island fault found while the island runs. -/
def State.ilFaultUp (s : State) (code : Nat) : State := if s.ilUp then s.ilFaults code else s

/-! Inputs (R336-R342). -/

/-- The non-demand level of a channel in a mode (R336). -/
def restLevel (mode : Nat) (chB : Bool) : Bool := !(mode = 2 && chB)
def State.chLevel (s : State) (i : Nat) (chB : Bool) : Bool :=
  let x := s.sil.flt.getD i (false, false)
  if chB then x.2 else x.1
/-- Whether a filtered channel shows its non-demand level. -/
def State.atRest (s : State) (b : List Byte) (i : Nat) (chB : Bool) : Bool := s.chLevel i chB == restLevel (inMode b i) chB

def inFld (i b : Nat) : Fld := ⟨R.SIL_IN, 4 * i + b, 4 * i + b⟩

/-- An input is in FAULT: its own fault, or a faulted TP of one of its channels. -/
def State.inFault (s : State) (b : List Byte) (i : Nat) : Bool :=
  s.ilHas fcDiscrepancy i || s.ilHas fcTpMissing i || s.ilHas fcTpForeign i ||
  (isContact b i && (s.ilHas fcTpOutput (inTp b i false) || s.ilHas fcTpOutput (inTp b i true)))

/-- One input at an evaluation (R338). -/
def State.inEval (s : State) (b : List Byte) (i : Nat) : State :=
  if inMode b i = 0 then (s.wr ⟨R.SIL_IN, 4 * i + 3, 4 * i⟩ 0).modSil fun x => { x with disc := updAt x.disc i fun _ => none }
  else
    let ra := s.atRest b i false
    let rb := s.atRest b i true
    let since := if ra = rb then none else some ((s.sil.disc.getD i none).getD s.now)
    let s1 := s.modSil fun x => { x with disc := updAt x.disc i fun _ => since }
    let s2 := match since with
      | some t => if t + inDisc b i * 1000000 ≤ s.now then s1.ilSet fcDiscrepancy i else s1
      | none => if !ra && !rb then s1.ilClear fcDiscrepancy i else s1
    (((s2.wrB (inFld i 0) ra).wrB (inFld i 1) rb).wrB (inFld i 2) (!ra || !rb)).wrB (inFld i 3) (s2.inFault b i)

/-- DISCREPANCY_TIMEOUT: the channels have been discrepant for DISC. -/
def State.discTimeout (s : State) (i : Nat) : State :=
  let b := s.ilBody
  match s.sil.disc.getD i none with
  | some t => if s.ilUp then ((s.advance (t + inDisc b i * 1000000)).ilSet fcDiscrepancy i).wr (inFld i 3) 1 else s
  | none => s

/-- Enabled TPs. -/
def tpCount (b : List Byte) : Nat := (maskIdx 4 (le b 5 1)).length

/-- The check of one channel at a pulse of TPt (R339): none where it says nothing, else a fault code or 0. -/
def State.tpCheck (s : State) (b : List Byte) (t : Nat) (seen : List (Fin 8 × Bool)) (i : Nat) (chB : Bool) : Nat :=
  let saw := seen.any fun x => x.1.val = i && x.2 == chB
  if inTp b i chB = t then (if s.chLevel i chB && !saw then fcTpMissing else 0)
  else if saw then fcTpForeign else 0

/-- TP_PULSE (R339): faults set at once; a fault clears after two correct periods of every TP that concerns it. -/
def State.tpPulse (s : State) (t : Nat) (obs : TpObs) : State :=
  let b := s.ilBody
  if !s.ilUp ∨ !tpOn b t then s
  else
    let good := if obs.stuck then 0 else s.sil.tpGood.getD t 0 + 1
    let s1 := s.modSil fun x => { x with tpGood := updAt x.tpGood t fun _ => good }
    let s2 := if obs.stuck then s1.ilSet fcTpOutput t else if 2 ≤ good then s1.ilClear fcTpOutput t else s1
    s2.each ((List.range 8).filter (isContact b)) fun s i =>
      let codes := [false, true].map (s.tpCheck b t obs.seen i)
      let n := if codes.all (· = 0) then s.sil.siGood.getD i 0 + 1 else 0
      let s1 := (s.modSil fun x => { x with siGood := updAt x.siGood i fun _ => n }).each (codes.filter (· ≠ 0)) fun s c => s.ilSet c i
      if 2 * tpCount b ≤ n then (s1.ilClear fcTpMissing i).ilClear fcTpForeign i else s1

/-- SAFE_RESET_EDGE (R340): a filtered edge; a release follows a press of 0.1 s to 5 s. -/
def State.resetEdge (s : State) (level : Bool) : State :=
  if level then
    if s.sil.high.isSome then s
    else
      let free := match s.sil.low with | some t => decide (t + 100000000 ≤ s.now) | none => true
      let s1 := s.modSil fun x => { x with high := some s.now, stuck := x.stuck && !free }
      if s.sil.stuck && free then s1.ilClear fcResetStuck 0xFF else s1
  else match s.sil.high with
  | none => s
  | some t =>
    let held := s.now - t
    let s1 := s.modSil fun x =>
      { x with high := none, low := some s.now, stuck := x.stuck || decide (5000000000 < held)
               release := !x.stuck && decide (100000000 ≤ held ∧ held ≤ 5000000000) }
    if s.ilUp && decide (5000000000 < held) then s1.ilSet fcResetStuck 0xFF else s1

/-- SAFE_RESET_STUCK. -/
def State.resetStuck (s : State) : State :=
  match s.sil.high with
  | some t => if s.ilUp && !s.ilHas fcResetStuck 0xFF then ((s.advance (t + 5000000000)).modSil fun x => { x with stuck := true }).ilSet fcResetStuck 0xFF else s
  | none => s

/-- SWI_PERIOD (R342): a period of the square wave completes. -/
def State.swiPeriod (s : State) (w period high : Nat) : State :=
  let b := s.ilBody
  if !s.ilUp ∨ !swiOn b w then s
  else
    let want := 300 + 100 * swiCode b w
    if 900 ≤ period ∧ period ≤ 1100 ∧ want ≤ high + 40 ∧ high ≤ want + 40 then
      s.modSil fun x =>
        { x with swiGood := updAt x.swiGood w (· + 1), swiAt := updAt x.swiAt w fun _ => some s.now
                 swiDem := updAt x.swiDem w fun d => d && decide (x.swiGood.getD w 0 + 1 < 4) }
    else s.modSil fun x => { x with swiGood := updAt x.swiGood w fun _ => 0 }

/-- SWI_FILTER_EXPIRY (R342): no valid period for FILT. -/
def State.swiExpiry (s : State) (w : Nat) : State :=
  if !s.ilUp ∨ !swiOn s.ilBody w then s
  else
    let s0 := match s.sil.swiAt.getD w none with | some t => s.advance (t + le s.ilBody (82 + 4 * w) 2 * 100000) | none => s
    s0.modSil fun x => { x with swiGood := updAt x.swiGood w fun _ => 0, swiDem := updAt x.swiDem w fun _ => true }

/-- PAIR_FAULT_LINE (R346): a pair-fault line asserted for more than 2 µs, or released. -/
def State.pairLine (s : State) (k : Nat) (level : Bool) : State :=
  if nbit s.sil.pairs k = level then s
  else
    let s1 := s.modSil fun x => { x with pairs := x.pairs ^^^ 2 ^ k }
    if level && s.ilUp then s1.ilEvent 396 (leBytes 1 k) else s1

/-! Evaluation (R334, R343-R347). -/

/-- The sense taps of SOk (R344): output and midpoint; an output that is not observed follows its lines. -/
def State.tapsOf (s : State) (obs : IslandObs) (k : Nat) : Bool × Bool :=
  match obs.readback.find? fun x => x.1.val = k with
  | some x => x.2
  | none => (s.isSet (soBit k 0), s.isSet (soBit k 0))

/-- The comparison of SOk (R344). -/
def State.soEval (s : State) (obs : IslandObs) (k : Nat) : State :=
  let on := s.isSet (soBit k 0)
  let (out, mid) := s.tapsOf obs k
  let long := match s.sil.onAt.getD k none with | some t => decide (t + 1000000 < s.now) | none => false
  let ext := if !on && out then s.sil.extRun.getD k 0 + 1 else 0
  let stk := if !on && mid && !out then s.sil.midRun.getD k 0 + 1 else 0
  let low := if on && long && !out then s.sil.lowRun.getD k 0 + 1 else 0
  let since := if out then none else some ((s.sil.tapLow.getD k none).getD s.now)
  let s1 := (s.modSil fun x =>
    { x with extRun := updAt x.extRun k fun _ => ext, midRun := updAt x.midRun k fun _ => stk
             lowRun := updAt x.lowRun k fun _ => low, tapLow := updAt x.tapLow k fun _ => since }).wrB (soBit k 2) out
  let s2 := if 2 ≤ ext then s1.ilSet fcSoExtVoltage k
    else match since with | some t => if t + 1000000000 ≤ s.now then s1.ilClear fcSoExtVoltage k else s1 | none => s1
  let s3 := if 2 ≤ stk then s2.ilSet fcSoStuckOn k else s2
  if 2 ≤ low then ((s3.modSil fun x => { x with trips := updAt x.trips k fun _ => true }).ilSet fcSoTripped k).soLines k false else s3

def State.soFault (s : State) (k : Nat) : Bool := s.ilHas fcSoStuckOn k || s.ilHas fcSoExtVoltage k

/-- Whether a group term is out of demand: inputs in bits 0 to 7, safe wires in bits 8 to 11. -/
def State.termOk (s : State) (i : Nat) : Bool := if i < 8 then !s.isSet (inFld i 2) else !s.sil.swiDem.getD (i - 8) true

/-- A group (R346): AND, OR; an empty group is OK. -/
def State.grpOk (s : State) (g : Nat) (isOr : Bool) : Bool :=
  let l := maskIdx 12 g
  l.isEmpty || (if isOr then l.any s.termOk else l.all s.termOk)

/-- A function is OK (R346). -/
def State.fnOk (s : State) (b : List Byte) (f : Nat) : Bool :=
  s.grpOk (fnGroup b f false) (fnBit b f 2) && s.grpOk (fnGroup b f true) (fnBit b f 3) && (fnPair b f &&& s.sil.pairs) = 0

/-- What SAFE_DEMAND names: the first term in demand (R362). -/
def State.fnCause (s : State) (b : List Byte) (f : Nat) : List Byte :=
  match (maskIdx 12 (fnGroup b f false ||| fnGroup b f true)).find? fun i => !s.termOk i with
  | some i => if i < 8 then [0, BitVec.ofNat 8 i] else [1, BitVec.ofNat 8 (i - 8)]
  | none => 2 :: leBytes 1 ((maskIdx 8 (fnPair b f &&& s.sil.pairs)).getD 0 0)

/-- A named input, TP or SO is in FAULT. -/
def State.fnFaulted (s : State) (b : List Byte) (f : Nat) : Bool :=
  (maskIdx 8 (fnGroup b f false ||| fnGroup b f true)).any (s.inFault b) || (maskIdx 4 (fnOut b f)).any s.soFault

/-- One function at an evaluation, and whether a reset release moved it (R347): faults, then demands, then the release. -/
def State.fnEval (s : State) (b : List Byte) (release : Bool) (f : Nat) : State × Bool :=
  let st := s.fnState f
  let ok := s.fnOk b f
  let bad := s.fnFaulted b f
  let clear := if bad then 0 else min 2 (s.sil.clearFor.getD f 0 + 1)
  let s1 := s.modSil fun x => { x with clearFor := updAt x.clearFor f fun _ => clear }
  let leave (dest : Nat) : State :=
    (((s1.setFn f dest).ilEvent 385 (leBytes 1 f ++ s1.fnCause b f)).bump R.SIL_CNT_DEMANDS).modSil fun x => { x with demands := updAt x.demands f (· + 1) }
  if !fnEn b f then (s.setFn f fnDisabled, false)
  else if s.ilState = ilLocked ∨ s.isSet R.SIL_STAT_HOLD then (s1.setFn f fnLocked, false)
  else if st = fnLocked ∨ st = fnDisabled then (s1.setFn f fnDemand, false)
  else if st = fnFault then
    (if release && !bad && decide (2 ≤ clear) then (s1.setFn f fnDemand, true) else (s1, false))
  else if bad then (s1.setFn f fnFault, false)
  else if st = fnDemand then (if ok then s1.setFn f (if fnBit b f 1 then fnWaitReset else fnRun) else s1, false)
  else if st = fnWaitReset then
    (if !ok then (s1.setFn f fnDemand, false) else if release then (s1.setFn f fnRun, true) else (s1, false))
  else if st = fnRun then
    if ok then (s1, false)
    else if fnDelay b f = 0 then (leave fnDemand, false)
    else ((leave fnStopping).modSil fun x => { x with offEnd := updAt x.offEnd f fun _ => some (s.now + fnDelay b f * 10000000) }, false)
  else
    match s.sil.offEnd.getD f none with
    | some t => if t ≤ s.now then ((s1.setFn f fnDemand).modSil fun x => { x with offEnd := updAt x.offEnd f fun _ => none }, false) else (s1, false)
    | none => (s1.setFn f fnDemand, false)

/-- Functions in order, with the mask of those that a release moved. -/
def State.fnsEval (s : State) (b : List Byte) (release : Bool) : State × Nat :=
  (List.range 16).foldl (fun (acc : State × Nat) f =>
    let (t, m) := acc.1.fnEval b release f
    (t, if m then acc.2 + 2 ^ f else acc.2)) (s, 0)

/-- The outputs at the end of an evaluation (R341, R343). -/
def State.outEval (s : State) (b : List Byte) : State :=
  let live := s.ilState = ilRun && !s.isSet R.SIL_STAT_HOLD
  let s1 := s.each (List.range 4) fun s k =>
    let fs := (List.range 16).filter fun f => fnEn b f && nbit (fnOut b f) k
    let on := live && soOn b k && !fs.isEmpty && fs.all (fun f => s.fnState f = fnRun || s.fnState f = fnStopping) &&
      !s.soFault k && !s.sil.trips.getD k false
    (s.soLines k on).wrB (soBit k 3) (s.soFault k || s.sil.trips.getD k false)
  let act := (List.range 4).filter fun k =>
    let fs := (List.range 16).filter fun f => fnEn b f && nbit (fnOut b f) (4 + k)
    live && swoOn b k && !fs.isEmpty && fs.all fun f => s1.fnState f = fnRun
  s1.wr R.SIL_OUT_SWO_ACT (act.foldl (fun m k => m + 2 ^ k) 0)

/-- Safe wire validity as the registers show it, with its events (R342, R362). -/
def State.swiEval (s : State) (b : List Byte) : State :=
  s.each (List.range 4) fun s w =>
    let f : Fld := ⟨R.SIL_OUT, 20 + w, 20 + w⟩
    let v := swiOn b w && decide (s.sil.swiGood.getD w 0 ≠ 0)
    if s.isSet f = v then s else (s.wrB f v).ilEvent (if v then 394 else 393) (leBytes 1 w)

/-- An evaluation that completes. -/
def State.ilEvaluate (s : State) (obs : IslandObs) : State :=
  let b := s.ilBody
  let s0 := s.count R.SIL_EVAL_COUNT
  let s1 := (s0.each (List.range 4) fun s k => s.soEval obs k).each (List.range 8) fun s i => s.inEval b i
  let s2 := s1.swiEval b
  let release := s.sil.release
  let (s3, moved) := s2.fnsEval b release
  let s4 := if release then
      (s3.each (List.range 4) fun s k => s.ilClear fcSoTripped k).modSil fun x => { x with trips := List.replicate 4 false, release := false }
    else s3
  let s5 := (if moved ≠ 0 then s4.ilEvent 388 (leBytes 2 moved) else s4).outEval b
  let tp := (List.range 4).foldl (fun m t => if s5.ilHas fcTpOutput t then m + 2 ^ t else m) 0
  ((s5.wr R.SIL_OUT_TP_FLT tp).wrB R.SIL_OUT_RESET s5.sil.high.isSome).modSil fun x => { x with evalDone := true, lineAt := s.now }

/-- LOCAL_FRAME with its event. -/
def State.ilLocal (s : State) (v : Bool) : State :=
  if s.isSet R.SIL_STAT_LOCAL_FRAME = v then s else (s.wrB R.SIL_STAT_LOCAL_FRAME v).ilEvent 395 (leBytes 1 (b2n v))

/-- An evaluation begins, and ends if nothing stops it (R334). -/
def State.ilBegin (s : State) (obs : IslandObs) (isLocal : Bool) : State :=
  let s1 := (s.ilLocal isLocal).modSil fun x => { x with evalAt := some s.now, evalDone := false }
  if obs.complete then s1.ilEvaluate obs else s1

/-- ISLAND_EVALUATION: at a frame marker, ignored less than 150 µs after the previous start. -/
def State.ilMarker (s : State) (obs : IslandObs) : State :=
  let early := match s.sil.evalAt with | some t => decide (s.now < t + 150000) | none => false
  if !s.ilUp || early then s else s.ilBegin obs false

/-- ISLAND_LOCAL_TIMER: 300 µs after the previous evaluation, then every 250 µs. -/
def State.ilTimer (s : State) (obs : IslandObs) : State :=
  if !s.ilUp then s
  else
    let s1 := match s.sil.evalAt with
      | some t => s.advance (t + (if s.isSet R.SIL_STAT_LOCAL_FRAME then 250000 else 300000))
      | none => s
    s1.ilBegin obs true

/-- EVAL_TIMEOUT: 40 µs after its start an evaluation has not completed. -/
def State.evalTimeout (s : State) : State :=
  match s.sil.evalAt with
  | some t => if s.ilUp && !s.sil.evalDone then (s.advance (t + 40000)).ilFaults fcEvalLate else s
  | none => s

/-- ISLAND_WDG_EXPIRY: not served for 350 µs. -/
def State.ilWdg (s : State) : State :=
  match s.sil.evalAt with
  | some t => if s.ilUp then (s.advance (t + 350000)).ilFaults fcStall else s
  | none => s.ilFaultUp fcStall

/-- OUTPUT_STAGE_TIMEOUT (R333): a line not refreshed for 400 µs goes low. Lines count A0, B0, A1, … -/
def State.stageTimeout (s : State) (line : Nat) : State :=
  let k := line / 2 % 4
  let f := soBit k (line % 2)
  if !s.isSet f then s
  else
    let s1 := ((s.advance (s.sil.lineAt + 400000)).soGateChange k (line % 2 = 1) false).wr f 0
    s1.ilEvent 392 (leBytes 1 k ++ [0])

/-- A switch test passes (R345): with line A alone the midpoint goes high and the output stays low, and without it the midpoint
goes low. -/
def switchPasses (x : SwTest) : Bool := x.mid && !x.out && x.falls

/-- SWITCH_TEST_TIMER (R345): the periodic test of an output that is on. -/
def State.switchTest (s : State) (k : Nat) (x : SwTest) : State :=
  if !s.ilUp ∨ !s.isSet (soBit k 0) ∨ soTest s.ilBody k = 0 ∨ switchPasses x then s
  else ((s.ilSet fcSoStuckOn k).soLines k false).wr (soBit k 3) 1

/-! Presentation, start and mirror (R352, R353, R357, R359). -/

/-- The check value of the record that R77 selected: none where it is missing or breaks R355. -/
def State.ilRecord (s : State) : Option (List Byte × Nat) :=
  (s.recBody recSafety).bind fun b => if (safetyBad b).isNone then some (b, checkValue (s.rd R.SUP_STRAP_ZONE) b) else none

/-- The island enters LOCKED (R362: 0 unconfirmed, 1 new record). -/
def State.ilLock (s : State) (why : Nat) : State :=
  if s.ilState = ilLocked then s.ilQuiet.lockFns
  else ((s.ilQuiet.wr R.SIL_STAT_STATE ilLocked).lockFns).ilEvent 389 (leBytes 1 why)

/-- A presentation of the SAFETY record (R353, R355, R357): Safe Hold for a missing or bad one, LOCKED where its check value
is not that of the active copy. -/
def State.ilPresent (s : State) (why : Nat) : State :=
  if s.sil.dead ∨ s.ilState = ilStart then s
  else match s.ilRecord with
  | none => ((if s.ilHas fcRecord 0xFF then s else s.ilSet fcRecord 0xFF).ilHold fcRecord).safeHoldMode
  | some (body, v) =>
    let s1 := s.ilClear fcRecord 0xFF
    let own := match s.ilCopy with | some p => p.check | none => 0
    let same := s.ilCopy.isSome && decide (own = v)
    let keep := s.isSet R.SIL_STAT_HOLD && decide (s.mode ≠ mdStartup) && (!same || decide (s.mode = mdSafeHold))
    let s2 := ((s1.wrB R.SIL_STAT_HOLD (keep || decide (s.mode = mdService))).wrB R.SIL_STAT_CONFIRMED same).wr R.SIL_CHECK_VALUE own
    let s3 := s2.wr R.SIL_CONF_VALUE own
    if same then ((s3.wr R.SIL_PEND_VALUE 0).modSil fun x => { x with pend := [] }).wr R.SIL_STAT_STATE ilRun
    else ((s3.wr R.SIL_PEND_VALUE v).modSil fun x => { x with pend := body }).ilLock why

/-- ISLAND_START (R352, R432): the bank, the start-up test, RUN from the parameter area. It waits for the Forester's
choice of the SAFETY record only after a reset of L1 (R457). A trial runs once the trial bank is in RUN (R428). -/
def State.ilBoot (s : State) (res : IslandStartRes) : State :=
  if s.ilState ≠ ilStart ∨ s.sil.dead ∨ s.svr.boot = 2 ∨ (s.rd R.SIL_STAT_STARTS = 0 ∧ s.svr.rel < 8) then s
  else
    let trial := s.isSet R.ISB_STAT_TRIAL
    let want := if trial then 1 - s.sil.sel else s.sil.sel
    let bank := if res.trialBad then 1 - want else want
    let s1 := (((s.wr R.ISB_STAT_TRIAL 0).wr R.SIL_STAT_BANK bank).bump R.SIL_STAT_STARTS).modSil fun x =>
      { x with onTrial := trial && !res.trialBad, trips := List.replicate 4 false, release := false, evalAt := none, evalDone := true
               startAt := s.now, lineAt := s.now, demands := List.replicate 16 0, clearFor := List.replicate 16 0, tapLow := List.replicate 4 none }
    let tested := (List.range 4).filter fun k => soOn s.ilBody k
    let stuck := tested.filter fun k => res.switches.any fun x => x.1.val = k && !switchPasses x.2
    if !res.selfTest || !stuck.isEmpty then (s1.each stuck fun s k => s.ilSet fcSoStuckOn k).ilFaults fcStartTest
    else
      let s2 := ((s1.each tested fun s k => s.ilClear fcSoStuckOn k).wr R.SIL_STAT_STATE ilRun).each (List.range 16) fun s f => s.setFn f (if fnEn s.ilBody f then fnDemand else fnDisabled)
      let s3 := s2.ilPresent 0
      let s4 := if s3.trialOf tkIsland then (if s3.ilState = ilRun && s3.sil.onTrial then s3.trialRuns else s3.trialLost 4) else s3
      if s4.ilState = ilRun then s4.ilEvent 391 (leBytes 1 (s4.rd R.SIL_STAT_STARTS) ++ leBytes 1 bank) else s4

/-- A fault of the log: code, source, evaluation count, time of the Forester's read; the last 16, newest first (R359). -/
def Sil.logged (x : Sil) (code source eval time : Nat) : Sil := { x with log := ((code, source, eval, time) :: x.log).take 16 }

/-- ISLAND_MIRROR_READ (R359): the mirror, and the events of block 12. -/
def State.mirrorRead (s : State) : State :=
  if s.svr.rel ≤ 6 ∨ !s.isSet (R.GWB_Lg_STAT_UP 1) then s
  else
    let s1 := s.modSil fun x => { x with mirror := (List.range 11).map fun i => s.raw (R.SIL_STAT + 4 * i), mirrorFrame := s.frame, evs := [] }
    s1.each s.sil.evs fun s (e, p, n) =>
      let s1 := if e = 386 then s.modSil fun x => x.logged (le p 0 1) (le p 1 1) n s.lc else s
      s1.raise e .pub p

/-- L1_SUPPLY_FAULT (R350): a reset of L1. -/
def State.l1Reset (s : State) : State :=
  let s1 := (s.linesLow.clearRegs fun a => decide (0x20700000 ≤ a ∧ a < 0x20800000))
  let s2 : State := { s1 with
    pins := s1.pins.take 48 ++ List.replicate 48 {}, sups := s1.sups.take 4 ++ List.replicate 4 {}
    sil := { s1.sil.kept with evs := s1.sil.evs } }
  (s2.wrB R.ISB_STAT_TRIAL (s.isSet R.ISB_STAT_TRIAL)).ilReport fcSupply 0xFF

/-! The bank port (R432). -/

/-- ISB_CTRL.CONFIRM. -/
def State.isbConfirm (s : State) : State :=
  if s.sil.onTrial then s.modSil fun x => { x with sel := s.rd R.SIL_STAT_BANK, onTrial := false } else s

def isbSize : Nat := 507904

/-- ISB_CTRL.ERASE: an operation under way is not disturbed. -/
def State.isbErase (s : State) : State :=
  if s.sil.op.isSome then s else (s.modSil fun x => { x with op := some none }).wr R.ISB_STAT_BUSY 1

/-- ISB_DATA: programs the word at ADDR. -/
def State.isbProgram (s : State) (v : Word) : State :=
  let a := s.rd R.ISB_ADDR_ADDR / 4 * 4
  if s.sil.op.isSome then s
  else if isbSize ≤ a then s.wr R.ISB_STAT_ERR 1
  else (s.modSil fun x => { x with op := some (some (a, v)) }).wr R.ISB_STAT_BUSY 1

/-- ISB_FLASH_DONE. -/
def State.isbDone (s : State) (ok : Bool) : State :=
  let bank := 1 - s.rd R.SIL_STAT_BANK
  match s.sil.op with
  | none => s
  | some o =>
    let s1 := (s.modSil fun x => { x with op := none }).wr R.ISB_STAT_BUSY 0
    let s2 := match o with | some (a, _) => s1.wr R.ISB_ADDR_ADDR (a + 4) | none => s1
    if !ok then s2.wr R.ISB_STAT_ERR 1
    else s2.modSil fun x =>
      { x with fw := updAt x.fw bank fun l => match o with | some (a, v) => sput l a v | none => [] }

/-! Commands (R360, R361). -/

/-- SAFE_GET (0x0801). -/
def opSafeGet : OpSpec where
  opcode := 0x0801
  classes := [clRt, clNormal]
  bits := allBits 0
  need := fun _ => 0
  body := fun _ s => Reply.ok s (s.sil.mirror.flatMap (fun w => leBytes 4 w.toNat) ++ leBytes 4 s.sil.mirrorFrame)

/-- A word of the mirror. -/
def State.mirrorWord (s : State) (i : Nat) : Nat := (s.sil.mirror.getD i 0).toNat

/-- SAFE_FN_GET (0x0802). -/
def opSafeFnGet : OpSpec where
  opcode := 0x0802
  classes := [clNormal]
  bits := allBits 1
  need := fun _ => 1
  body := fun c s =>
    let f := c.arg 0 1
    if 15 < f then Reply.range s 0
    else
      let b := s.ilBody
      let left := match s.sil.offEnd.getD f none with | some t => (t - s.now + 9999999) / 10000000 | none => 0
      Reply.ok s (leBytes 1 (nbits (s.mirrorWord (4 + f / 8)) (4 * (f % 8) + 3) (4 * (f % 8))) ++ leBytes 1 (le b (fnOff f) 1) ++
        leBytes 6 (le b (fnOff f + 2) 6) ++ leBytes 2 left ++ leBytes 2 0 ++ leBytes 4 (s.sil.demands.getD f 0))

/-- SAFE_FAULT_LOG (0x0803). -/
def opSafeFaultLog : OpSpec where
  opcode := 0x0803
  classes := [clNormal]
  bits := allBits 0
  need := fun _ => 0
  body := fun _ s => Reply.ok s (leBytes 4 s.sil.log.length ++ s.sil.log.flatMap fun (c, o, n, t) =>
    leBytes 1 c ++ leBytes 1 o ++ leBytes 2 0 ++ leBytes 4 n ++ leBytes 8 t)

/-- SAFE_CHECK_GET (0x0812). -/
def opSafeCheckGet : OpSpec where
  opcode := 0x0812
  classes := [clRt, clNormal]
  bits := allBits 0
  need := fun _ => 0
  body := fun _ s => Reply.ok s (leBytes 4 (s.mirrorWord 1) ++ leBytes 4 (s.mirrorWord 2) ++ leBytes 4 (s.mirrorWord 3))

/-- A SAFE_WRITE or SAFE_CONFIRM is outstanding. -/
def State.safeOpen (s : State) : Bool := s.longs.any fun l => l.opcode = 0x0810 || l.opcode = 0x0811

/-- SAFE_WRITE (0x0810). -/
def opSafeWrite : OpSpec where
  opcode := 0x0810
  classes := [clLong]
  bits := allBits 12
  requester := fun _ c => if c.mbx = forester && c.queue.isNone then none else some 0xFFFE
  need := fun _ => 12
  body := fun c s =>
    if c.arg 0 4 ≠ 384 then Reply.range s 0
    else if !s.sourceOk c (c.arg 4 8) 384 then Reply.range s 4
    else if s.mode ≠ mdCommission ∧ s.mode ≠ mdService then Reply.err s stSafetyLocked 0
    else if s.safeOpen then Reply.err s stConflict 0
    else Reply.accepted s

/-- SAFE_WRITE completes (R357, R361): the record is committed and presented. -/
def State.safeWriteDone (s : State) (l : LongCmd) (out : LongOut) : Nat × Nat × List Byte × State :=
  let body := s.sourceBytes l (le l.payload 4 8) 384
  match safetyBad body with
  | some off => (stRange, off, [], s)
  | none =>
    let (st, d, seq, t) := s.recordWrite recSafety body out
    let v := checkValue (s.rd R.SUP_STRAP_ZONE) body
    if st ≠ stOk then (st, d, [], t)
    else
      let t1 := (t.wr R.SIL_PEND_VALUE v).modSil fun x => { x with pend := body }
      (stOk, 0, leBytes 4 seq ++ leBytes 4 v, if t1.ilUp then (t1.ilLock 1).wr R.SIL_STAT_CONFIRMED 0 else t1)

/-- The checks of SAFE_CONFIRM (R361). -/
def State.confirmBad (s : State) (v : Nat) : Option Nat :=
  if s.sil.dead then some stSafetyLocked
  else if s.sil.pend.isEmpty ∨ v ≠ s.rd R.SIL_PEND_VALUE then some stConflict else none

/-- SAFE_CONFIRM (0x0811). -/
def opSafeConfirm : OpSpec where
  opcode := 0x0811
  classes := [clLong]
  bits := allBits 8
  requester := fun _ c => if c.isService then none else some 0xFFFE
  need := fun _ => 8
  body := fun c s =>
    match s.confirmBad (c.arg 0 4) with
    | some st => Reply.err s st 0
    | none => if s.safeOpen then Reply.err s stConflict 0 else Reply.accepted s

/-- SAFE_CONFIRM completes (R357): both banks take the parameters, SIL_CONF is set, the island runs. -/
def State.safeConfirmDone (s : State) (l : LongCmd) (out : LongOut) : Nat × Nat × List Byte × State :=
  let v := le l.payload 0 4
  match s.confirmBad v, out with
  | some st, _ => (st, 0, [], s)
  | none, .internal code => (stInternal, code, [], s)
  | none, o =>
    let n := match s.ilCopy with | some p => p.seq + 1 | none => 1
    let p : IslPar := ⟨n, s.sil.pend, v, le l.payload 4 4⟩
    let s1 := s.modSil fun x => { x with pars := if o = .otherBad then [some p, none] else [some p, some p], pend := [] }
    let s2 := (((s1.wr R.SIL_CONF_VALUE v).wr R.SIL_CHECK_VALUE v).wr R.SIL_PEND_VALUE 0).wr R.SIL_STAT_CONFIRMED 1
    let s3 := s2.wrB R.SIL_STAT_HOLD (decide (s.mode = mdService ∨ s.mode = mdSafeHold))
    let s4 := if s.ilUp then s3.wr R.SIL_STAT_STATE ilRun else s3
    let s5 := (s4.ilEvent 390 (leBytes 4 v)).incInternal 3 clsAlarm (leBytes 4 v ++ leBytes 4 (le l.payload 4 4))
    (stOk, 0, leBytes 4 v, s5)

def execIslandEvaluation (obs : IslandObs) (s : State) : Out := s.finish (s.ilMarker obs)
def execIslandLocalTimer (obs : IslandObs) (s : State) : Out := s.finish (s.ilTimer obs)
def execEvalTimeout (s : State) : Out := s.finish s.evalTimeout
def execIslandWdgExpiry (s : State) : Out := s.finish s.ilWdg
def execOutputStageTimeout (line : Nat) (s : State) : Out := s.finish (s.stageTimeout line)
def execIslandMismatch (s : State) : Out := s.finish (s.ilFaultUp fcMismatch)
def execIslandClockFault (s : State) : Out := s.finish (s.ilFaultUp fcClock)
def execIslandSramError (s : State) : Out := s.finish (s.ilFaultUp fcEcc)
def execL1SupplyFault (s : State) : Out := s.finish s.l1Reset
def execSiFilterExpiry (i : Fin 8) (chB level : Bool) (s : State) : Out :=
  s.finish (s.modSil fun x => { x with flt := updAt x.flt i fun p => if chB then (p.1, level) else (level, p.2) })
def execDiscrepancyTimeout (i : Fin 8) (s : State) : Out := s.finish (s.discTimeout i)
def execTpPulse (t : Fin 4) (obs : TpObs) (s : State) : Out := s.finish (s.tpPulse t obs)
def execSafeResetEdge (level : Bool) (s : State) : Out := s.finish (s.resetEdge level)
def execSafeResetStuck (s : State) : Out := s.finish s.resetStuck
def execSwiPeriod (w : Fin 4) (periodUs highUs : Nat) (s : State) : Out := s.finish (s.swiPeriod w periodUs highUs)
def execSwiFilterExpiry (w : Fin 4) (s : State) : Out := s.finish (s.swiExpiry w)
def execSwitchTestTimer (k : Fin 4) (x : SwTest) (s : State) : Out := s.finish (s.switchTest k x)
def execPairFaultLine (k : Fin 8) (level : Bool) (s : State) : Out := s.finish (s.pairLine k level)
def execIslandStart (res : IslandStartRes) (s : State) : Out := s.finish (s.ilBoot res)
def execIslandMirrorRead (s : State) : Out := s.finish s.mirrorRead
def execIsbFlashDone (ok : Bool) (s : State) : Out := s.finish (s.isbDone ok)
def execSafeGet (m : Fin 17) (fate : Fate) (s : State) : Out := s.finish (s.runRow opSafeGet m fate)
def execSafeFnGet (m : Fin 17) (fate : Fate) (s : State) : Out := s.finish (s.runRow opSafeFnGet m fate)
def execSafeFaultLog (m : Fin 17) (fate : Fate) (s : State) : Out := s.finish (s.runRow opSafeFaultLog m fate)
def execSafeWrite (m : Fin 17) (fate : Fate) (s : State) : Out := s.finish (s.runRow opSafeWrite m fate)
def execSafeConfirm (m : Fin 17) (fate : Fate) (s : State) : Out := s.finish (s.runRow opSafeConfirm m fate)
def execSafeCheckGet (m : Fin 17) (fate : Fate) (s : State) : Out := s.finish (s.runRow opSafeCheckGet m fate)

end Sys2Proof.Machine
end

