-- ==== Sys2Proof/Machine/Pairing.lean ====
section
/-! DEFINITION. Commit instants (R28, R29, R65, R66, R373), and pairing, lease and takeover (13_pairing.md). -/

namespace Sys2Proof.Machine

def State.modPair (s : State) (f : PairU → PairU) : State := s.onPairU f

/-- Roles (R390). -/
def roUnpaired : Nat := 0
def roArbitrate : Nat := 1
def roLead : Nat := 2
def roReserve : Nat := 3
def roTakeover : Nat := 4
def roHanding : Nat := 5
def State.role (s : State) : Nat := s.rd R.PAIR_STAT_ROLE
def State.epoch (s : State) : Nat := s.rd R.PAIR_STAT_EPOCH

/-! PAIRING record (R365, R366). -/

def State.pairing (s : State) : Option (List Byte) := s.recBody recPairing
def pairHoldoff (b : List Byte) : Nat := le b 6 2 * 1000000
def pairSegments (b : List Byte) : Nat := le b 8 4
def State.pairedSegs (s : State) : List Nat := match s.pairing with | some b => maskIdx 24 (pairSegments b) | none => []

/-- RW bytes of a MANIFEST entry, and bytes of an image by component number. -/
def entryRw (e : List Byte) : Nat := ((rawRegions e true).map fun r => r.2.2 * (if r.1 then 2097152 else 65536)).foldl (· + ·) 0
def State.imageLen (s : State) (num : Nat) : Nat := match s.comp s.upd.running num with | some c => c.data.length | none => 0

/-- Rules 1 to 5 of R366; MANIFEST and TALLY are those in force. The result is the body offset of the first failure. -/
def State.pairingBad (s : State) (b : List Byte) : Option Nat :=
  let m := (s.recBody recManifest).getD []
  let ent (p : Nat) := manifestEntry m p
  let live (p : Nat) : Bool := nbit (le (ent p) 0 1) 0
  let base (p : Nat) := le b (16 + 8 * p) 5
  let size (p : Nat) := le b (16 + 8 * p + 5) 1
  let area (p : Nat) : Bool := size p = 0 ||
    ({ created := live p, entry := ent p } : Part).inRwSram (base p) (2 * size p * 4096)
  let ns := (List.range 16).foldl (fun a p => if live p then
    a + entryRw (ent p) / 8 + (s.imageLen (le (ent p) 16 4) + s.imageLen (le (ent p) 20 4)) * 5 + 1000000 else a) 1000000
  let tally (n : Nat) : Bool := (List.range (min 4 (le s.tally 5 1))).any fun i => decide (le s.tally (8 + 4 * i) 1 = n)
  if b.length ≠ 144 ∨ le b 0 1 ≠ 1 then some 0
  else if nbits (le b 1 1) 7 4 ≠ 0 then some 1
  else if le b 2 2 = 0 then some 2
  else if le b 6 2 < 100 ∨ 5000 < le b 6 2 then some 6
  else if le b 11 1 ≠ 0 then some 8
  else if le b 12 4 ≠ 0 then some 12
  else match (List.range 16).find? fun p => decide (le b (16 + 8 * p + 6) 2 ≠ 0 ∨ 64 < size p ∨ base p % 4096 ≠ 0) || !area p with
  | some p => some (16 + 8 * p)
  | none =>
    if 192 < ((List.range 16).map size).foldl (· + ·) 0 then some 16
    else if 190000000 < ns then some 16
    else if (maskIdx 24 (pairSegments b)).any tally then some 8
    else none

/-- Digests of MANIFEST, CHANNEL, CAN, LANDING and PAIRING (R375, R389). -/
def State.pairDigests (s : State) : List Byte :=
  [recManifest, recChannel, recCan, recLanding, recPairing].flatMap fun t => leBytes 4 (crc32c ((s.recBody t).getD []))

/-- The byte FLAGS that a module sends. -/
def State.pairFlags (s : State) : Nat := bitsOf (s.raw R.PAIR_CFG) 3 0

/-- Whether this module acts as HOME (R368). -/
def State.isHome (s : State) : Bool :=
  let known := s.pairU.helloAt.isSome || s.pairU.renewAt.isSome
  let own := s.isSet R.PAIR_CFG_HOME
  if known && nbit s.pairU.peerFlags 1 == own then !s.isSet R.PAIR_CFG_POSITION else own

/-! Frames sent (R389). -/

/-- Frames sent after those that the same command has sent. -/
def State.pairAlso (s : State) (l : List (Nat × List Byte)) : State :=
  s.each l fun s x =>
    s.modPair fun u => { u with sent := u.sent ++ [⟨x.1, u.txSeq.getD x.1 0, x.2⟩], txSeq := updAt u.txSeq x.1 fun n => (n + 1) % 65536 }

/-- What the last command sent is forgotten. -/
def State.pairClear (s : State) : State := s.modPair fun u => { u with sent := [] }

def State.pairSend (s : State) (l : List (Nat × List Byte)) : State := s.pairClear.pairAlso l

/-! The image (R373, R374). -/

/-- Channels marked PAIRED in a view of register words. -/
def pairedIn (v : Nat → Word) (n : Nat) : Bool := decide (vw v (R.CHn_ROLE_PAIRED n) ≠ 0)

/-- A commit group that decides a PAIRED output. -/
def pairedGroup (v : Nat → Word) (g : Nat) : Bool :=
  if 0x0200 ≤ g ∧ g < 0x0240 then pairedIn v (g - 0x0200)
  else if 0x0380 ≤ g ∧ g < 0x03C0 then pairedIn v (g - 0x0380)
  else if 0x0360 ≤ g ∧ g < 0x0380 then
    let ch := vw v (R.KCc_CFG_CH (g - 0x0360))
    decide (vw v (R.KCc_CFG_EN (g - 0x0360)) ≠ 0) && pairedIn v ch
  else false

/-- Registers with class F fields of a channel, timer or controller group. -/
def groupRegs (g : Nat) : List Nat :=
  let base := if g < 0x0300 then R.CHn_CFG (g - 0x0200) else if g < 0x0380 then R.KCc_CFG (g - 0x0360) else R.KTt_CFG (g - 0x0380)
  ((List.range 192).map fun k => base + 4 * k).filter fun a => groupOf a = g

def State.pairedGroups (s : State) : List Nat :=
  ((List.range 64).map (0x0200 + ·) ++ (List.range 32).map (0x0360 + ·) ++ (List.range 64).map (0x0380 + ·)).filter (pairedGroup s.raw)

/-- Register words as a frame body: addresses and words, in pairs. -/
def wordBytes (l : List (Nat × Word)) : List Byte := l.flatMap fun x => leBytes 4 x.1 ++ leBytes 4 x.2.toNat

/-- The IMAGE frames of the lead: index, count, and up to 36 words each. -/
def chunksOf : Nat → List (Nat × Word) → List (List (Nat × Word))
  | 0, _ => []
  | _, [] => []
  | k + 1, l => l.take 36 :: chunksOf k (l.drop 36)

def State.imageFrames (s : State) : List (Nat × List Byte) :=
  let words := s.pairedGroups.flatMap fun g => (groupRegs g).map fun a => (a, s.raw a)
  let cs := chunksOf (words.length / 36 + 1) words
  cs.zipIdx.map fun (l, i) => (5, leBytes 2 i ++ leBytes 2 cs.length ++ wordBytes l)

/-! Commit instants. -/

/-- The accepted COMMIT of a mailbox that waits for its instant: the oldest, with its place. -/
def State.commitWaiting (s : State) (m : Nat) : Option (Commit × Nat) :=
  s.commits.zipIdx.find? fun x => x.1.issuer = m && x.1.instant.isNone

/-- The instant of a COMMIT (R28, R66): earlier snapshots of its groups that wait for a boundary are replaced. A COMMIT
issued in time, or one that waited for a link, whose boundary has passed is late (R29). -/
def State.commitTake (s : State) (m : Nat) : State :=
  match s.commitWaiting m with
  | none => s
  | some (c, i) =>
    let gs := c.groups
    let keep (x : Commit) : Commit :=
      if x.instant.isSome then
        { x with groups := x.groups.filter fun g => !gs.contains g, snap := x.snap.filter fun e => !gs.contains (groupOf e.1)
                 tab := if gs.contains 0x0560 then [] else x.tab }
      else x
    let l := (s.commits.zipIdx.map fun (x, j) => if j = i then { x with instant := some s.now } else keep x).filter fun x => !x.groups.isEmpty
    let s1 := (s.onCommits fun _ => l).each (List.range 17) fun s k => s.refreshPending k
    if (c.timely || c.waitUntil.isSome) && decide (c.due ≤ s.frame64) then (s1.bump R.FRM_CNT_LATE_COUNT).raise 484 (ownerMbx m) else s1

/-- A COMMIT dropped (R29, R65): its staged values go too. -/
def State.commitDrop (s : State) (m i g rule : Nat) (gs : List Nat) : State :=
  ((s.onCommits fun l => l.eraseIdx i).discard gs).rejectCommit m g rule

/-- Whether a COMMIT must wait for the reserve (R373): a HELLO in the last 20 ms, and MIRROR_OK. -/
def State.peerNear (s : State) : Bool := match s.pairU.helloAt with | some t => decide (s.now ≤ t + 20000000) | none => false

def State.mirrored (s : State) (c : Commit) : Bool :=
  s.role = roLead && s.peerNear && c.groups.any fun g => pairedGroup (s.overlay c.snap) g

/-- MIRROR frames of a snapshot, 35 words each, the last with its flag. -/
def State.mirrorFrames (s : State) (c : Commit) : List (Nat × List Byte) :=
  let words := c.snap.filter fun e => pairedGroup (s.overlay c.snap) (groupOf e.1)
  let cs := chunksOf (words.length / 36 + 1) words
  cs.zipIdx.map fun (l, i) => (2, leBytes 2 (b2n (i + 1 = cs.length)) ++ leBytes 2 l.length ++ wordBytes l)

/-- COMMIT_INSTANT: rules are checked, a far die or the reserve may have to be waited for, and the instant is taken. -/
def State.commitInstant (s : State) (m : Nat) : State :=
  match s.commitWaiting m with
  | none => s
  | some (c, i) =>
    if !(c.groups.all fun g => match groupLink g with | some l => s.linkOk l | none => true) then s
    else match s.ruleCheck (s.overlay c.snap) (s.candidates c.snap) c.tab c.groups with
    | some (g, r) => s.commitDrop m i g r c.groups
    | none =>
      if !s.mirrored c then s.commitTake m
      else if s.pairU.mirrorHold then s
      else
        let hold := s.isSet R.PAIR_STAT_MIRROR_OK
        let s1 := (s.pairSend (s.mirrorFrames c)).modPair fun u => { u with mirror := some (m, s.now), mirrorHold := hold }
        if hold then s1 else s1.commitTake m

/-- COMMIT_LINK_TIMEOUT (R29): 1 ms after acceptance a link has not carried the staging. -/
def State.commitTimeout (s : State) (m : Nat) : State :=
  match s.commitWaiting m with
  | none => s
  | some (c, i) =>
    match c.groups.find? fun g => match groupLink g with | some l => !s.linkOk l | none => false with
    | none => s
    | some g => (s.advance (c.waitUntil.getD s.now)).commitDrop m i g 0 c.groups

/-! Lease (R369-R372). -/

/-- The lease lines of the four bole dies. -/
def State.leaseLines (s : State) (v : Bool) : State := s.each (List.range 4) fun s d => s.leaseLine d v

/-- The lease state inactive: lease lines, CHK-LEASE OUT and CHK-RELEASE OUT (R370). -/
def State.leaseDown (s : State) : State :=
  ((s.leaseLines false).wr R.PAIR_STAT_LEASE_OUT 0).modPair fun u => { u with chkLease := false, chkRel := false }

/-- A change of role, with the mode that goes with it (R367, R466). -/
def State.setRole (s : State) (r : Nat) : State :=
  let old := s.role
  if old = r then s
  else
    let s1 := (s.wr R.PAIR_STAT_ROLE r).raise 416 .pub (leBytes 1 r ++ leBytes 1 old ++ leBytes 2 s.epoch)
    if r = roTakeover ∧ s1.mode = mdReserve then s1.setMode mdTakeover
    else if r = roLead ∧ s1.mode = mdTakeover then (s1.setMode mdLead).degr
    else if r = roReserve ∧ (s1.mode = mdLead ∨ s1.mode = mdDegraded) then s1.setMode mdReserve
    else s1

/-- A transceiver's mode set by the Forester. -/
def State.trxMode (s : State) (j m : Nat) : State :=
  if s.segUnused j then s else (s.wr (R.TRXj_CTRL_MODE j) m).trxState j m

/-- Channels of adopted dies, UIO outputs and sensor supplies off (R379, R465); PAIRED channels may be spared. -/
def State.outputsOff (s : State) (spare : Bool) : State :=
  let s1 := s.each (List.range 64) fun s n =>
    if s.isSet (R.BOLE_STAT_HOLD (dieOf n)) || (spare && s.isSet (R.CHn_ROLE_PAIRED n)) then s else s.wr (R.CHn_CMD_ON n) 0
  let s2 := s1.each (List.range 96) fun s p =>
    if s.isOutput p && !s.isSet (R.LIMB_STAT_HOLD (limbOf p)) then (s.wr (R.UIOp_OUT_ON p) 0).pinDrive p else s
  s2.each (List.range 8) fun s u => if s.isSet (R.LIMB_STAT_HOLD (u / 4)) then s else s.supSet u false

/-- RESERVE (R379): LISTEN on paired segments, Landing only in twin-send mode, outputs that are not PAIRED off. -/
def State.enterReserve (s : State) : State :=
  let s1 := (s.setRole roReserve).each s.pairedSegs fun s j => s.trxMode j txListen
  (s1.wrB R.LGW_CTRL_RUN (s.isSet R.PAIR_CFG_TWIN)).outputsOff true

/-- Partitions started in ascending PID (R311, R384); at a takeover those that AUTOSTART names not, too, and all from the
checkpoint (R378, R380). -/
def State.startParts (s : State) (all : Bool) : State :=
  s.each (List.range 16) fun s p =>
    if (s.part p).created && s.partState p = stStopped && (all || (s.part p).autostart) && !(s.part p).spent then
      (s.when all fun s => s.modPair fun u => { u with fromCkpt := p :: u.fromCkpt }).beginLoad p 0
    else s

/-- Every partition stops with cause STOP (R372, R386). -/
def State.stopParts (s : State) : State := s.each (List.range 16) fun s p => s.partReset p pcStop

/-- The lease acquired at the end of ARBITRATE (R367, R368): a new EPOCH, all outputs of the lease state active. -/
def State.acquire (s : State) : State :=
  let s1 := ((s.leaseLines true).wr R.PAIR_STAT_LEASE_OUT 1).wr R.PAIR_STAT_EPOCH (s.epoch + 1)
  let s2 := (s1.modPair fun u => { u with chkLease := true, chkRel := true, waitEnd := none, held := false }).setRole roLead
  let s3 := (s2.each s2.pairedSegs fun s j => s.trxMode j txNormal).wr R.LGW_CTRL_RUN 1
  s3.startParts false

/-- A LEAD yields (R372); the further HOLDOFF stands before an acquisition of its own. -/
def State.yield (s : State) (why : Nat) : State :=
  if s.role ≠ roLead then s
  else
    let b := s.pairing.getD []
    let wait := s.now + pairHoldoff b + 50000000 + (if s.isHome then 0 else pairHoldoff b)
    let s1 := (s.leaseDown.stopParts.raise 421 .pub (leBytes 1 why)).bump R.PAIR_CNT0_YIELDS
    s1.enterReserve.modPair fun u => { u with held := true, waitEnd := some wait, renewAt := some s.now }

/-- PAIRING taken at Start-up (R366, R367). -/
def State.pairSetup (s : State) : State :=
  match s.pairing with
  | none => s.setRole roUnpaired
  | some b =>
    if (s.pairingBad b).isSome ∨ !nbit (le b 1 1) 0 then s.setRole roUnpaired
    else
      let s1 := (s.wr R.PAIR_CFG_PAIR_ID (le b 2 2)).wr ⟨R.PAIR_CFG, 3, 0⟩ (nbits (le b 1 1) 3 0)
      let s2 := s1.setRole roArbitrate
      if s2.isSet R.PAIR_STAT_SIG_OK then s2.enterReserve
      else s2.modPair fun u => { u with waitEnd := some (s.now + 50000000 + (if s1.isHome then 0 else pairHoldoff b)), served := s.now }

/-- ARBITRATE_END (R368): the wait ended with neither a renewal nor CHK-LEASE. -/
def State.arbitrateEnd (s : State) : State :=
  match s.pairU.waitEnd with
  | some t =>
    if (s.role = roArbitrate ∨ (s.role = roReserve ∧ s.pairU.held)) ∧ !s.isSet R.PAIR_STAT_SIG_OK then (s.advance t).acquire else s
  | none => s

/-- PAIR_AGE and PL_OK as time stands (R390). -/
def State.ageRefresh (s : State) : State :=
  let age (t : Option Nat) (unit : Nat) : Nat := match t with | some t => sat 0xFFFF ((s.now - t) / unit) | none => 0xFFFF
  let sig := if s.isSet R.PAIR_STAT_SIG_OK then 0 else age s.pairU.sigAt 10000
  let near (t : Option Nat) : Bool := match t with | some t => decide (s.now ≤ t + 20000000) | none => false
  ((s.wr R.PAIR_AGE_RENEW (age s.pairU.renewAt 100000)).wr R.PAIR_AGE_SIG sig).wrB R.PAIR_STAT_PL_OK
    (near s.pairU.renewAt || near s.pairU.helloAt)

/-- A path found again (R371). -/
def State.pathBack (s : State) (sig : Bool) : State :=
  let was := if sig then s.pairU.lost.2 else s.pairU.lost.1
  if was then
    (s.modPair fun u => { u with lost := if sig then (u.lost.1, false) else (false, u.lost.2) }).raise 418 .pub (leBytes 1 (b2n sig))
  else s

/-- PAIR_AGE_LIMIT (R371): one age passes its limit, 20 ms or 2 ms, while the other has not: both together are the expiry. -/
def State.ageLimit (s0 : State) (sig : Bool) : State :=
  let was := if sig then s0.pairU.lost.2 else s0.pairU.lost.1
  let sigEnd := if s0.isSet R.PAIR_STAT_SIG_OK then none else some ((s0.pairU.sigAt.getD 0) + 2000000)
  let renEnd := (s0.pairU.renewAt.getD 0) + 20000000
  let s := s0.advance (if sig then sigEnd.getD 0 else renEnd)
  let other := if sig then decide (renEnd < s.now) else match sigEnd with | some t => decide (t < s.now) | none => false
  if s0.role ≠ roReserve ∨ was ∨ (sig ∧ sigEnd.isNone) then s0
  else if other then s
  else
    (s.modPair fun u => { u with lost := if sig then (u.lost.1, true) else (true, u.lost.2) }).raise 417 .pub (leBytes 1 (b2n sig))

/-- CHK_LEASE_IN_CHANGE. -/
def State.chkLeaseIn (s : State) (valid : Bool) : State :=
  if s.isSet R.PAIR_STAT_SIG_OK = valid then s
  else
    let s1 := (s.wrB R.PAIR_STAT_SIG_OK valid).modPair fun u =>
      { u with sigFrom := if valid then some s.now else none, sigAt := some s.now, held := u.held && !valid }
    if !valid then s1
    else
      let s2 := s1.pathBack true
      if s2.role = roArbitrate then s2.enterReserve.modPair fun u => { u with waitEnd := none } else s2

/-- CHOKER_YIELD_TIMER (R372): CHK-LEASE valid, or CHK-RELEASE high, for 1 ms at a LEAD; the one that began first. -/
def State.chokerYield (s : State) : State :=
  let lease (t : Nat) : State := if s.role = roLead then (s.advance (t + 1000000)).yield 1 else s
  let release (t : Nat) : State := if s.role = roLead then (s.advance (t + 1000000)).yield 2 else s
  match s.pairU.sigFrom, s.pairU.relFrom with
  | some t, some u => if t ≤ u then lease t else release u
  | some t, none => lease t
  | none, some t => release t
  | none, none => s

/-- CHK_RELEASE_IN_CHANGE (R364): the level reaches the four bole dies, whatever the crown does. -/
def State.chkReleaseIn (s : State) (level : Bool) : State :=
  let s1 := (s.wrB R.PAIR_STAT_REL_IN level).modPair fun u =>
    if level then { u with relFrom := if u.relFrom.isSome then u.relFrom else some s.now } else { u with relFrom := none, relLow := s.now }
  s1.each (List.range 4) fun s d => s.releaseDie d level

/-- LEASE_SELF_EXPIRY (R370): the Forester has not served the unit for 15 ms. -/
def State.selfExpiry (s : State) : State :=
  if s.isSet R.PAIR_STAT_LEASE_OUT then (s.advance (s.pairU.served + 15000000)).leaseDown else s

/-! Sending (R369, R374, R389). -/

/-- RENEW_SEND: in frames with SLOT 0 or 20, while the lease is active and the Forester has served within 5 ms. -/
def State.renewSend (s : State) : State :=
  let slot := s.rd R.FRM_STAT_SLOT
  let t := s.frameAt 235000
  if s.isSet R.PAIR_STAT_LEASE_OUT && s.pairU.chkLease && (slot = 0 || slot = 20) && decide (t ≤ s.pairU.served + 5000000) then
    (s.advance t).pairSend [(1, leBytes 1 s.pairFlags ++ s.pairDigests ++ leBytes 1 (b2n s.tly.commitAt.isSome))]
  else s

/-- HELLO_SEND: every 5 ms in RESERVE. -/
def State.helloSend (s : State) : State :=
  if s.role = roReserve then s.pairSend [(7, leBytes 1 s.pairFlags ++ leBytes 1 (s.rd R.PAIR_STAT_SYNCED) ++ s.pairDigests)] else s

/-- The controllers of one STATE frame: 25 at most, as its body has 308 bytes (R389). -/
def stateChunks : Nat → List Nat → List (List Nat)
  | 0, _ => []
  | k + 1, l => if l.isEmpty then [] else l.take 25 :: stateChunks k (l.drop 25)

/-- STATE_SEND: controllers that name a PAIRED channel; the full IMAGE at the first frame of a turn. Without a controller an
empty STATE is sent. -/
def State.stateSend (s : State) : State :=
  if s.role ≠ roLead ∧ s.role ≠ roHanding then s
  else
    let cs := (List.range 32).filter fun c => pairedGroup s.raw (0x0360 + c)
    let one (c : Nat) : List Byte :=
      leBytes 4 c ++ leBytes 4 (unsigned 32 (roundDiv (s.kc c).iref 16)) ++ leBytes 4 (unsigned 32 (roundDiv ((s.kc c).integ * 2 ^ 30) dutyOne))
    (s.advance (s.frameAt 230000)).pairSend ((4, (cs.take 25).flatMap one) ::
      ((stateChunks 1 (cs.drop 25)).map fun l => (4, l.flatMap one)) ++ if s.frm.newTurn then s.imageFrames else [])

/-! SYNCED (R375). -/

/-- Partitions with a checkpoint area, and the segments of each. -/
def State.ckptParts (s : State) : List (Nat × Nat) :=
  (List.range 16).filterMap fun p => (s.ckptArea p).map fun a => (p, a.2 / 256)

def State.ckptFresh (s : State) : Bool :=
  s.ckptParts.isEmpty || match s.pairU.ckptDone with | some (t, _) => decide (s.pairU.leadFrame ≤ t + 80) | none => false

/-- A HOME module that becomes SYNCED asks for the lease (R386); SYNCED lost withdraws (type 8). -/
def State.setSynced (s : State) (v : Bool) (why : Nat) : State :=
  if s.isSet R.PAIR_STAT_SYNCED = v then s
  else if v then
    let s1 := (s.wr R.PAIR_STAT_SYNCED 1).raise 423 .pub
    if s1.isHome then s1.pairAlso [(8, [0])] else s1
  else
    let s1 := (s.wr R.PAIR_STAT_SYNCED 0).raise 424 .pub (leBytes 1 why)
    if s.pairU.taking then (s1.modPair fun u => { u with taking := false, handT := none }).pairAlso [(8, [2])] else s1

/-- SYNCED as its conditions stand: image, digests, checkpoint. -/
def State.syncCheck (s : State) : State :=
  if s.role ≠ roReserve then s
  else if !s.pairU.haveImage then s.setSynced false 0
  else if !s.pairU.digests then s.setSynced false 1
  else if !s.ckptFresh then s.setSynced false 2
  else s.setSynced true 0

/-! Receiving (R389). -/

/-- A frame of another pair or version, or of an older EPOCH, is discarded and counted. -/
def State.pairGood (s : State) (f : PairFrame) : Bool :=
  f.good && decide (f.pairId = s.rd R.PAIR_CFG_PAIR_ID) && decide (s.epoch ≤ f.epoch) && decide (s.role ≠ roUnpaired)

def State.onPairFrame (s : State) (f : PairFrame) (g : State → State) : State :=
  if s.pairGood f then
    g (s.pairClear.modPair fun u => { u with leadFrame := if s.role = roReserve ∨ s.role = roArbitrate then f.slotT else u.leadFrame })
  else s.bump R.PAIR_CNT1_BADFRM

/-- FLAGS of the partner (R368). -/
def State.peerHome (s : State) (f : PairFrame) : State :=
  let s1 := s.modPair fun u => { u with peerFlags := f.flags }
  let clash := nbit f.flags 1 == s.isSet R.PAIR_CFG_HOME
  let s2 := s1.modPair fun u => { u with mismatch := clash }
  if clash && !s.pairU.mismatch then s2.raise 426 .pub else s2

/-- RENEW_RECEIVED (R371, R372, R375, R387). -/
def State.renewRecv (s : State) (f : PairFrame) : State :=
  let s1 := (s.peerHome f).modPair fun u =>
    { u with renewAt := some s.now, held := false, sleepFlag := bitAt f.body 0, digests := decide (f.digest = le s.pairDigests 0 20) }
  if s.role = roLead then s1.yield 0
  else
    let s2 := (s1.pathBack false).wr R.PAIR_STAT_EPOCH f.epoch
    let s3 := if s.role = roArbitrate then s2.enterReserve.modPair fun u => { u with waitEnd := none } else s2
    s3.ageRefresh.syncCheck

/-- A SEQ expected in its TYPE; the next one is noted. -/
def State.seqNext (s : State) (ty seq : Nat) : Bool × State :=
  let want := s.pairU.rxSeq.getD ty 65536
  (want = 65536 || want = seq, s.modPair fun u => { u with rxSeq := updAt u.rxSeq ty fun _ => (seq + 1) % 65536 })

/-- Words of a body applied to the image. -/
def State.imagePut (s : State) (b : List Byte) : State :=
  s.each (pairsFrom (b.length / 8) b) fun s x => s.modPair fun u => { u with image := sput u.image x.1 x.2 }

/-- MIRROR_RECEIVED (R373, R374): stored in SEQ order, answered with ACK. -/
def State.mirrorRecv (s : State) (f : PairFrame) : State :=
  if s.role ≠ roReserve then s
  else
    let (ok, s1) := s.seqNext 2 f.seq
    let s2 := if ok then (s1.imagePut (f.body.drop 4)).wr R.PAIR_IMG_FRAME f.slotT else s1.modPair fun u => { u with haveImage := false }
    s2.syncCheck.pairAlso [(3, leBytes 2 f.seq)]

/-- IMAGE_RECEIVED (R374): in order from its first frame; the last completes it. -/
def State.imageRecv (s : State) (f : PairFrame) : State :=
  if s.role ≠ roReserve then s
  else
    let (ok, s1) := s.seqNext 5 f.seq
    let i := le f.body 0 2
    let n := le f.body 2 2
    if i = 0 ∨ (ok ∧ i = s.pairU.imgRun) then
      let s2 := (s1.imagePut (f.body.drop 4)).modPair fun u => { u with imgRun := i + 1 }
      if i + 1 = n then
        ((s2.modPair fun u => { u with haveImage := true, imgRun := 0, rxSeq := if s.pairU.haveImage then u.rxSeq else updAt u.rxSeq 2 fun _ => 65536 }).wr
          R.PAIR_IMG_FRAME f.slotT).syncCheck
      else s2
    else s1.modPair fun u => { u with imgRun := 0 }

/-- STATE_RECEIVED (R374): the newest of each controller is kept. -/
def State.stateRecv (s : State) (f : PairFrame) : State :=
  if s.role ≠ roReserve then s
  else
    let l := (List.range (f.body.length / 12)).map fun i =>
      (le f.body (12 * i) 4, signed 32 (le f.body (12 * i + 4) 4), signed 32 (le f.body (12 * i + 8) 4))
    s.modPair fun u => { u with kcs := (u.kcs.filter fun x => !(l.any fun y => y.1 = x.1)) ++ l }

/-- Whether every segment of every partition is there (R377). -/
def State.ckptWhole (s : State) (l : List (Nat × Nat × List Byte)) : Bool :=
  s.ckptParts.all fun (p, n) => (List.range n).all fun i => l.any fun x => x.1 = p && x.2.1 = 256 * i

/-- The end of a takeback's wait for the final checkpoint: the partitions start (R386). -/
def State.finalStart (s : State) : State := (s.modPair fun u => { u with final := none }).startParts true

/-- CKPT_RECEIVED (R376, R377): PID, turn, offset, 256 bytes, CRC-32C; after a takeback the final one still arrives (R386). -/
def State.ckptRecv (s : State) (f : PairFrame) : State :=
  let p := le f.body 0 1
  let turn := le f.body 1 4
  let off := le f.body 5 4
  let data := (f.body.drop 9).take 256
  if (s.role ≠ roReserve ∧ s.pairU.final.isNone) ∨ le f.body 265 4 ≠ crc32c (f.body.take 265) ∨ (f.body.length ≠ 269) then s
  else
    let old := if s.pairU.ckptTurn = turn then s.pairU.ckptParts else []
    let l := old.filter (fun x => !(x.1 = p && x.2.1 = off)) ++ [(p, off, data)]
    let s1 := s.modPair fun u => { u with ckptTurn := turn, ckptParts := l }
    if s1.ckptWhole l then
      let slots := s1.ckptParts.map fun (p, n) =>
        (p, (List.range n).flatMap fun i => match l.find? fun x => x.1 = p && x.2.1 = 256 * i with | some x => x.2.2 | none => [])
      let s2 := (s1.modPair fun u => { u with ckptDone := some (turn, slots), ckptParts := [], ckptGot := true }).wr R.PAIR_CKPT_FRAME turn
      if s.pairU.final = some turn then s2.finalStart else s2.syncCheck
    else s1

/-- HELLO_RECEIVED (R373): at the lead. -/
def State.helloRecv (s : State) (f : PairFrame) : State :=
  let fresh := !s.peerNear
  let s1 := (s.peerHome f).modPair fun u =>
    { u with helloAt := some s.now, peerSynced := bitAt f.body 0, digests := decide (f.digest = le s.pairDigests 0 20) }
  (if fresh && s.role = roLead then s1.wr R.PAIR_STAT_MIRROR_OK 1 else s1).ageRefresh

/-- HELLO_AGE_EXPIRY (R373): 20 ms without a HELLO; the reserve is no longer waited for. -/
def State.helloAge (s : State) : State :=
  match s.pairU.helloAt with
  | some t =>
    let s1 := ((s.advance (t + 20000000)).wr R.PAIR_STAT_MIRROR_OK 0).modPair fun u => { u with peerSynced := false, mirrorHold := false, mirror := none }
    (match s.pairU.mirror with
     | some (m, _) => if s.pairU.mirrorHold then s1.commitTake m else s1
     | none => s1).ageRefresh
  | none => s

/-- ACK_RECEIVED (R373). -/
def State.ackRecv (s : State) (f : PairFrame) : State :=
  match s.pairU.mirror with
  | some (m, _) =>
    if (le f.body 0 2 + 1) % 65536 = s.pairU.txSeq.getD 2 0 then
      let s1 := (s.wr R.PAIR_STAT_MIRROR_OK 1).modPair fun u => { u with mirror := none, mirrorHold := false }
      if s.pairU.mirrorHold then s1.commitTake m else s1
    else s
  | none => s

/-- MIRROR_ACK_TIMEOUT (R373): 12 µs. -/
def State.ackTimeout (s : State) : State :=
  match s.pairU.mirror with
  | some (m, t) =>
    let s1 := (((s.advance (t + 12000)).wr R.PAIR_STAT_MIRROR_OK 0).bump R.PAIR_CNT1_MIRROR_TO).modPair fun u =>
      { u with mirror := none, mirrorHold := false }
    (if s.pairU.mirrorHold then s1.commitTake m else s1).raise 422 .pub
  | none => s

/-! Takeover and takeback (R380-R386). -/

/-- The image staged and committed by the Forester at an instant. -/
def State.imageCommit (s : State) (t : Nat) : State :=
  let img := s.pairU.image
  if img.isEmpty then s
  else s.onCommits fun l => l ++ [{ issuer := forester, groups := sortNat ((img.map fun x => groupOf x.1).eraseDups), snap := img, instant := some t }]

/-- The first frame boundary not before an instant that lies within two frames; without a generator the instant itself. -/
def State.boundaryFrom (s : State) (t : Nat) : Nat :=
  let from_ := if s.frm.first then s.frameLc else s.lc
  let first := from_ + (250000 - (((from_ : Int) - s.rd R.FRM_PHASE_PHASE) % 250000).toNat)
  if !s.isSet R.FRM_STAT_RUN then t
  else ([0, 1, 2].map fun i => s.clk.when (first + 250000 * i)).foldr (fun b later => if t ≤ b then b else later) t

/-- LEASE_EXPIRY (R371, R380): renewal age over 20 ms and signal age over 2 ms together. In Commissioning only the event
is raised (R466). -/
def State.leaseExpiry (s : State) : State :=
  if s.role ≠ roReserve ∨ s.pairU.held ∨ s.isSet R.PAIR_STAT_SIG_OK then s
  else
    let tx := max ((s.pairU.renewAt.getD 0) + 20000000) ((s.pairU.sigAt.getD 0) + 2000000)
    let s1 := s.advance tx
    let s2 := (s1.raise 419 .pub (leBytes 4 (s.rd R.PAIR_CKPT_FRAME)))
    if s.mode = mdCommission then s2
    else
      let s3 := (s2.setRole roTakeover).modPair fun u =>
      { u with tx := some s1.now, tb := s1.boundaryFrom (s1.now + 100000), stage := 0, stuck := false, syncedAt := s.isSet R.PAIR_STAT_SYNCED }
      (s3.imageCommit (s1.now + 90000)).each s3.pairedSegs fun s j => s.trxMode j txNormal

/-- TAKEOVER_LEASE_ENABLE: 10 µs before the switch, unless CHK-RELEASE IN is high; then once it has been low for 10 µs, and the
switch is at the next boundary. The HOME of a takeback, whose instants its commands give, commits its image here with the
instant T − 100 µs. -/
def State.takeEnable (s0 : State) : State :=
  let s := if s0.role = roTakeover then
      s0.advance (if s0.pairU.stuck && !s0.isSet R.PAIR_STAT_REL_IN then s0.pairU.relLow + 10000 else s0.pairU.tb - 10000)
    else s0
  if s0.pairU.stage ≠ 0 ∨ !(s0.role = roTakeover ∨ (s0.role = roReserve ∧ s0.pairU.taking)) then s0
  else if s.isSet R.PAIR_STAT_REL_IN then
    if s.pairU.stuck then s else (s.modPair fun u => { u with stuck := true }).raise 427 .pub
  else if s.role = roReserve ∧ s.pairU.stuck ∧ s.now < s.pairU.relLow + 10000 then s
  else
    let s1 := if s.role = roReserve then s.imageCommit (s.now - 90000) else s
    let s2 := ((s1.leaseLines true).wr R.PAIR_STAT_LEASE_OUT 1).wr R.PAIR_STAT_EPOCH (s.epoch + 1)
    s2.modPair fun u => { u with stage := 1, tb := if s.role = roReserve then 0 else if u.stuck then s.boundaryFrom s.now else u.tb }

/-- The frames by which bridges relearn the queue-pair addresses (R385). -/
def State.relearn (s : State) : State :=
  let et := match s.pairing with | some b => le b 4 2 | none => 0x88B7
  s.each ((List.range 32).filter fun k => s.isSet (R.ESW_QPk_CFG_EN k)) fun s k =>
    s.each [0, 1] fun s p =>
      if s.isSet (R.ESW_Pp_CFG_EN p) then
        s.enqueue p { frame := { dmac := 2 ^ 48 - 1, smac := s.qpMac k, etype := Fin.ofNat 65536 et, len := 64, body := List.replicate 46 0 }, tc := 0, ingress := 20 }
      else s

/-- TAKEOVER_SWITCH: at tb, or at T for a HOME that takes back. -/
def State.takeSwitch (s0 : State) : State :=
  if s0.pairU.stage ≠ 1 then s0
  else
    let s := s0.advance s0.pairU.tb
    let s1 := (s.setRole roTakeover).modPair fun u => { u with stage := 2, tb := s.now, chkLease := true }
    let s2 := s1.each s1.pairU.kcs fun s x =>
      s.modKc x.1 fun k => { k with iref := 16 * x.2.1, integ := x.2.2 * dutyOne / 2 ^ 30, phase := 0 }
    let s3 := s2.each s2.pairedSegs fun s j => s.trxMode j txNormal
    ((s3.wr R.LGW_CTRL_RUN 1).onLgw fun l => { l with silent := !s.isSet R.PAIR_CFG_TWIN }).relearn

/-- TAKEOVER_RELEASE: 90 µs after the switch. The partitions start from the newest complete checkpoint (R380); those of a takeback
wait for the final one (R386). -/
def State.takeRelease (s : State) : State :=
  if s.pairU.stage ≠ 2 then s
  else
    let u := s.pairU
    let us := match u.tx with | some t => (u.tb - t) / 1000 | none => 0
    let s1 := (s.advance (u.tb + 90000)).modPair fun x => { x with stage := 0, chkRel := true, tx := none, taking := false, handT := none }
    let s2 := ((s1.bump R.PAIR_CNT0_TAKEOVERS).setRole roLead).raise 420 .pub
      (leBytes 4 us ++ leBytes 1 (b2n (if u.tx.isSome then u.syncedAt else s.isSet R.PAIR_STAT_SYNCED)))
    let s3 := s2.wr R.PAIR_STAT_SYNCED 0
    if u.taking && !s.ckptParts.isEmpty && decide ((u.ckptDone.map (·.1)) ≠ u.handT) then s3.modPair fun x => { x with final := u.handT }
    else s3.startParts true

/-- Send slots latched for a turn, and the segments to send in it (R376). -/
def State.ckptLatch (s : State) (turn : Nat) : State :=
  let l := (s.ckptParts.filter fun x => (s.pairU.pub.getD x.1 none).isSome).flatMap fun x => (List.range x.2).map fun i => (x.1, 256 * i)
  s.modPair fun u => { u with send := u.pub, sendTurn := turn, ckptOut := l, ckptShare := (l.length + 39) / 40 }

/-- A CKPT frame: PID, turn, offset, 256 bytes of the send slot as they stand, CRC-32C (R376, R389). -/
def State.ckptFrame (s : State) (x : Nat × Nat) : Option (Nat × List Byte) :=
  match s.ckptArea x.1, s.pairU.send.getD x.1 none with
  | some (base, size), some slot =>
    let b := leBytes 1 x.1 ++ leBytes 4 s.pairU.sendTurn ++ leBytes 4 x.2 ++ s.memRead (base + slot * size + x.2) 256
    some (6, b ++ leBytes 4 (crc32c b))
  | _, _ => none

/-- The CKPT frames of one frame: the spec spreads a turn's segments over the turn without saying how; here each of its 40 frames
takes an equal share. DESIGN CHOICE. -/
def State.ckptSend (s : State) : State :=
  let n := s.pairU.ckptShare
  (s.modPair fun u => { u with ckptOut := u.ckptOut.drop n }).pairAlso ((s.pairU.ckptOut.take n).filterMap s.ckptFrame)

/-- The turn boundary of a grant (R386): the first not earlier than 1 ms from now, as a frame number. -/
def State.turnAfter (s : State) : Nat :=
  let k := 40 - s.rd R.FRM_STAT_SLOT
  (s.frame + (if k * 250000 < s.inFrame + 1000000 then k + 40 else k)) % 2 ^ 32

/-- The lead grants (R386). -/
def State.grant (s : State) : State :=
  let t := s.turnAfter
  ((s.setRole roHanding).modPair fun u => { u with handT := some t }).pairSend [(8, 1 :: leBytes 4 t)]

/-- HANDBACK_RECEIVED: 0 request, 1 grant, 2 withdraw, which the stop of HANDBACK_STOP ends. -/
def State.handback (s : State) (f : PairFrame) : State :=
  let k := le f.body 0 1
  if k = 0 then (if s.role = roLead ∧ s.pairU.peerSynced then s.grant else s)
  else if k = 1 then
    (if s.role = roReserve ∧ s.isSet R.PAIR_STAT_SYNCED then
      s.modPair fun u => { u with taking := true, handT := some (le f.body 1 4), stage := 0, stuck := false, tx := none }
     else s)
  else if s.role = roHanding then
    (if some s.pairU.sendTurn = s.pairU.handT then s else (s.setRole roLead).modPair fun u => { u with handT := none })
  else s.modPair fun u => { u with taking := false, handT := none }

/-- HANDBACK_STOP: partitions stop, their published slots are the final checkpoint, the final IMAGE goes out. -/
def State.handStop (s : State) : State :=
  if s.role ≠ roHanding then s
  else (s.stopParts.ckptLatch (s.pairU.handT.getD s.frame)).pairSend s.imageFrames

/-- HANDBACK_RELEASE_LOW. -/
def State.handLow (s : State) : State := if s.role = roHanding then s.modPair fun u => { u with chkRel := false } else s

/-- HANDBACK_LEASE_PASS: the lease passes at T. -/
def State.handPass (s : State) : State :=
  if s.role ≠ roHanding then s
  else s.leaseDown.enterReserve.modPair fun u => { u with handT := none, renewAt := some s.now, sigAt := some s.now, haveImage := false, held := false }

/-- A turn whose segments did not all arrive (R377): dropped, with the first partition that lacks one. -/
def State.ckptLate (s : State) : State :=
  let miss := (s.ckptParts.find? fun (p, n) =>
    (List.range n).any fun i => !(s.pairU.ckptParts.any fun x => x.1 = p && x.2.1 = 256 * i)).map (·.1)
  (s.modPair fun u => { u with ckptParts := [] }).raise 425 .pub (leBytes 1 (miss.getD 0))

/-- The pairing unit at a turn boundary (R376, R377): send slots latched, but not past the final ones of HANDING; a checkpoint that
did not arrive is late, if the lead is heard. The final one that is late leaves the newest complete one to start from. -/
def State.pairTurn (s : State) : State :=
  let s1 := if s.role = roLead ∨ (s.role = roHanding ∧ some s.pairU.sendTurn ≠ s.pairU.handT) then s.ckptLatch s.frame else s
  let heard := match s.pairU.renewAt with | some t => decide (s.now ≤ t + 20000000) | none => false
  let s2 := s1.modPair fun u => { u with ckptGot := false }
  if s.pairU.final.isSome then s2.ckptLate.finalStart
  else if s.role = roReserve && !s.ckptParts.isEmpty && !s.pairU.ckptGot && (heard || !s.pairU.ckptParts.isEmpty) then s2.ckptLate.syncCheck
  else s2.syncCheck

/-! Commands (R391). -/

/-- PAIR_GET (0x0B01). -/
def opPairGet : OpSpec where
  opcode := 0x0B01
  classes := [clRt, clNormal]
  bits := allBits 0
  need := fun _ => 0
  body := fun _ s => let t := s.ageRefresh; Reply.ok t ((List.range 7).flatMap fun i => leBytes 4 (t.raw (R.PAIR_CFG + 4 * i)).toNat)

/-- Whether the caller has a checkpoint area. -/
def State.callerArea (s : State) (c : Ctx) : Bool := match c.caller with | some p => (s.ckptArea p).isSome | none => false
def areaGrant (s : State) (c : Ctx) : Option Nat := if s.callerArea c then none else some 0xFFFE

/-- PAIR_CKPT_PUB (0x0B02). -/
def opPairCkptPub : OpSpec where
  opcode := 0x0B02
  classes := [clRt]
  bits := allBits 1
  grant := areaGrant
  need := fun _ => 1
  body := fun c s =>
    let p := c.caller.getD 0
    if 1 < c.arg 0 1 then Reply.range s 0
    else if s.role = roUnpaired ∨ s.pairU.send.getD p none = some (c.arg 0 1) then Reply.err s stConflict 0
    else Reply.ok (s.modPair fun u => { u with pub := updAt u.pub p fun _ => some (c.arg 0 1) })

/-- PAIR_CKPT_INFO (0x0B03). -/
def opPairCkptInfo : OpSpec where
  opcode := 0x0B03
  classes := [clRt, clNormal]
  bits := allBits 0
  need := fun _ => 0
  body := fun c s =>
    if s.role = roUnpaired then Reply.err s stConflict 0
    else
      let p := c.caller.getD 16
      let r := s.pairU.restored.getD p none
      Reply.ok s ([BitVec.ofNat 8 (b2n r.isSome), BitVec.ofNat 8 ((s.pairU.send.getD p none).getD 0xFF),
        BitVec.ofNat 8 ((s.pairU.pub.getD p none).getD 0xFF), 0] ++ leBytes 4 (r.getD 0))

/-- PAIR_HANDOVER (0x0B04): SYSTEM with W = 1 at the doorbell. -/
def opPairHandover : OpSpec where
  opcode := 0x0B04
  classes := [clNormal]
  bits := allBits 0
  requester := fun s c => if s.callerSystem c && c.attr.w then none else some 0xFFFE
  need := fun _ => 0
  body := fun _ s =>
    if s.role ≠ roLead ∨ !s.pairU.peerSynced then Reply.err s stConflict 0
    else Reply.ok s.grant (leBytes 4 s.turnAfter)

def execCommitInstant (m : Fin 17) (s : State) : Out := s.finish (s.commitInstant m)
def execCommitLinkTimeout (m : Fin 17) (s : State) : Out := s.finish (s.commitTimeout m)
def execRenewSend (s : State) : Out := s.finish s.renewSend
def execHelloSend (s : State) : Out := s.finish s.helloSend
def execStateSend (s : State) : Out := s.finish s.stateSend
def execLeaseSelfExpiry (s : State) : Out := s.finish s.selfExpiry
def execLeaseExpiry (s : State) : Out := s.finish s.leaseExpiry
def execPairAgeLimit (sig : Bool) (s : State) : Out := s.finish (s.ageLimit sig)
def execArbitrateEnd (s : State) : Out := s.finish s.arbitrateEnd
def execChkLeaseInChange (valid : Bool) (s : State) : Out := s.finish (s.chkLeaseIn valid)
def execChokerYieldTimer (s : State) : Out := s.finish s.chokerYield
def execChkReleaseInChange (level : Bool) (s : State) : Out := s.finish (s.chkReleaseIn level)
def execRenewReceived (f : PairFrame) (s : State) : Out := s.finish (s.onPairFrame f fun s => s.renewRecv f)
def execMirrorReceived (f : PairFrame) (s : State) : Out := s.finish (s.onPairFrame f fun s => s.mirrorRecv f)
def execAckReceived (f : PairFrame) (s : State) : Out := s.finish (s.onPairFrame f fun s => s.ackRecv f)
def execMirrorAckTimeout (s : State) : Out := s.finish s.ackTimeout
def execStateReceived (f : PairFrame) (s : State) : Out := s.finish (s.onPairFrame f fun s => s.stateRecv f)
def execImageReceived (f : PairFrame) (s : State) : Out := s.finish (s.onPairFrame f fun s => s.imageRecv f)
def execCkptReceived (f : PairFrame) (s : State) : Out := s.finish (s.onPairFrame f fun s => s.ckptRecv f)
def execHelloReceived (f : PairFrame) (s : State) : Out := s.finish (s.onPairFrame f fun s => s.helloRecv f)
def execHelloAgeExpiry (s : State) : Out := s.finish s.helloAge
def execHandbackReceived (f : PairFrame) (s : State) : Out := s.finish (s.onPairFrame f fun s => s.handback f)
def execTakeoverLeaseEnable (s : State) : Out := s.finish s.takeEnable
def execTakeoverSwitch (s : State) : Out := s.finish s.takeSwitch
def execTakeoverRelease (s : State) : Out := s.finish s.takeRelease
def execHandbackStop (s : State) : Out := s.finish s.handStop
def execHandbackReleaseLow (s : State) : Out := s.finish s.handLow
def execHandbackLeasePass (s : State) : Out := s.finish s.handPass
def execPairGet (m : Fin 17) (fate : Fate) (s : State) : Out := s.finish (s.runRow opPairGet m fate)
def execPairCkptPub (m : Fin 17) (fate : Fate) (s : State) : Out := s.finish (s.runRow opPairCkptPub m fate)
def execPairCkptInfo (m : Fin 17) (fate : Fate) (s : State) : Out := s.finish (s.runRow opPairCkptInfo m fate)
def execPairHandover (m : Fin 17) (fate : Fate) (s : State) : Out := s.finish (s.runRow opPairHandover m fate)

end Sys2Proof.Machine
end

