-- ==== Sys2Proof/Machine/KeyCmd.lean ====
section
/-! DEFINITION. Key commands, authorization, attestation and the life cycle (R394-R415 of 14_keys_security.md). -/

namespace Sys2Proof.Machine

/-- Life-cycle codes (R404). -/
def lcBlank : Nat := 0
def lcTest : Nat := 1
def lcProvisioned : Nat := 2
def lcField : Nat := 3
def lcReturn : Nat := 4
def lcEnd : Nat := 5

/-- The OWNER byte of a key of the Forester (R398). -/
def keyForester : Nat := 0xFF

/-- Internal codes of key commands: 1 a bad blob (R402); the others are the model's. DESIGN CHOICE. -/
def icBadBlob : Nat := 1
def icNoRoot : Nat := 2
def icNoRandom : Nat := 3
def icKeyGone : Nat := 4

/-- n bytes that the DRBG gives (R399): free values. -/
def State.random : Nat → State → List Byte × State
  | 0, s => ([], s)
  | n + 1, s =>
    let (v, s1) := s.fresh
    let (rest, s2) := State.random n s1
    (leBytes 8 v.toNat ++ rest, s2)

/-- The 8 bytes of the UID (R395). -/
def State.uidBytes (s : State) : List Byte := leBytes 8 s.sec.uid

/-- The OWNER byte of a caller's keys (R398): its PID, or the Forester's for the service port bridge. -/
def Ctx.keyOwner (c : Ctx) : Nat := c.caller.getD keyForester

/-- The same of a LONG command. -/
def LongCmd.keyOwner (l : LongCmd) : Nat :=
  if l.mbx < 16 then l.mbx else if l.attr.rqc.val = 3 then keyForester else l.attr.pid.val

/-- An outstanding LONG command with one of these opcodes. -/
def State.longWith (s : State) (ops : List Nat) : Bool := s.longs.any fun l => ops.contains l.opcode

/-- Whether LC_ADVANCE is accepted and not finished (R403). -/
def State.advancing (s : State) : Bool := s.longWith [0x0930]

/-- Whether KEY_STORE or KEY_DELETE of a KID is outstanding (R403). -/
def State.kidBusy (s : State) (kid : Nat) : Bool :=
  s.longs.any fun l => (l.opcode = 0x0904 || l.opcode = 0x0905) && decide (le l.payload 0 2 = kid)

/-- NOT_GRANTED for a slot that is not granted to the caller (R413): the offset of the field. -/
def State.slotGrant (s : State) (c : Ctx) (off : Nat) : Option Nat :=
  let i := c.arg off 1
  if i < 32 ∧ !(match c.caller with | some p => (s.part p).has offKeys i | none => false) then some (0x8000 + off) else none

/-- NOT_GRANTED for a stored KID that the caller does not own (R413). -/
def State.kidGrant (s : State) (c : Ctx) : Option Nat :=
  match s.keyEntry (c.arg 0 2) with
  | some e =>
    let o := (e.inForce <|> (e.commit.bind fun k => if k.pos ≤ 1 then e.pos k.pos else none)).map Blob.owner
    if s.keyExists (c.arg 0 2) ∧ o ≠ some c.keyOwner then some 0x8000 else none
  | none => none

/-- The check of a blob in force (R398, R402): what it holds, or none for a bad one. -/
def State.goodKey (s : State) (kid : Nat) : Option Blob :=
  ((s.keyEntry kid).bind KeyEntry.inForce).bind fun b => if s.opens b then some b else none

/-- Seconds of authorization left (R413). -/
def State.authLeft (s : State) : Nat := match s.sec.authEnd with | some t => (t - s.now) / 1000000000 | none => 0

/-- KEY_INFO (0x0901). -/
def opKeyInfo : OpSpec where
  opcode := 0x0901
  classes := [clRt, clNormal]
  bits := allBits 0
  need := fun _ => 0
  body := fun c s =>
    if s.advancing then Reply.err s stConflict 0
    else Reply.ok s (leBytes 4 (s.raw R.KSU_LCS).toNat ++ leBytes 4 (s.raw R.KSU_STAT).toNat ++ s.uidBytes ++
      leBytes 4 (s.raw R.KSU_AUTH).toNat ++ leBytes 4 s.authLeft ++ leBytes 4 (s.keysOf c.keyOwner))

/-- KEY_LOAD (0x0902, R414): a KID that does not exist is one that the caller does not own. -/
def opKeyLoad : OpSpec where
  opcode := 0x0902
  classes := [clLong]
  bits := allBits 3
  grant := fun s c =>
    if s.keyExists (c.arg 0 2) then (s.kidGrant c <|> s.slotGrant c 2) else some 0x8000
  need := fun _ => 3
  body := fun c s =>
    if 31 < c.arg 2 1 then Reply.range s 2
    else if s.advancing ∨ (s.sec.slots.getD (c.arg 2 1) none).isSome then Reply.err s stConflict 0
    else if !s.isSet R.KSU_STAT_ROOT_OK then Reply.err s stInternal icNoRoot
    else if (s.goodKey (c.arg 0 2)).isNone then Reply.err s stInternal icBadBlob
    else Reply.accepted s

/-- The end of KEY_LOAD (R402, R403): final status, detail, RESULT. A discarded command writes no slot. -/
def State.keyLoadDone (s : State) (l : LongCmd) (out : LongOut) : Nat × Nat × List Byte × State :=
  let kid := le l.payload 0 2
  let slot := le l.payload 2 1
  match out with
  | .internal code => (stInternal, code, [], s)
  | _ =>
    match (s.keyEntry kid).bind KeyEntry.inForce with
    | none => (stInternal, icBadBlob, [], s)
    | some b =>
      if !s.opens b then
        (stInternal, icBadBlob, [], s.raise 130 (.part b.owner)
          (leBytes 2 kid ++ leBytes 1 ((((s.keyEntry kid).bind KeyEntry.commit).map KeyCommit.pos).getD 0)))
      else if l.stale then (stOk, 0, leBytes 4 b.seq, s)
      else if (s.sec.slots.getD slot none).isSome then (stInternal, icKeyGone, [], s)
      else (stOk, 0, leBytes 4 b.seq, s.fillSlot slot b)

/-- KEY_UNLOAD (0x0903). -/
def opKeyUnload : OpSpec where
  opcode := 0x0903
  classes := [clRt, clNormal]
  bits := allBits 1
  grant := fun s c => s.slotGrant c 0
  need := fun _ => 1
  body := fun c s =>
    if 31 < c.arg 0 1 then Reply.range s 0
    else if s.advancing then Reply.err s stConflict 0
    else Reply.ok (s.clearSlot (c.arg 0 1) 0)

/-- Whether KEY_STORE PLAIN stands under R406: FIELD, not SEALED, the service port, a KID from 0x0001 to 0x0003. -/
def State.sealingStore (s : State) (c : Ctx) : Bool :=
  c.isService && decide (s.lcs = lcField) && !s.isSet R.KSU_LCS_SEALED && decide (1 ≤ c.arg 0 2 ∧ c.arg 0 2 ≤ 3)

/-- The permission of KEY_STORE and KEY_DELETE (R411, R414): an offset when it fails. The Forester's keys (DEVICE) are the
service port's; a partition's are those its KEYPOLICY entry permits. -/
def State.storeGrant (s : State) (c : Ctx) (del : Bool) : Option Nat :=
  let kid := c.arg 0 2
  let cls := c.arg 4 1
  match s.kidGrant c with
  | some d => some d
  | none =>
    if c.isService then
      (if !del ∧ c.arg 3 1 = 2 ∧ !s.sealingStore c then some 0x8003 else none)
    else
      let (f, most) := s.keyPolicy c.keyOwner
      if !nbit f 0 then some 0x8000
      else if del then
        (match (s.keyEntry kid).bind KeyEntry.inForce with
         | some b => if (b.cls = 1 ∧ !nbit f 1) ∨ (b.cls = 2 ∧ !nbit f 2) then some 0x8000 else none
         | none => none)
      else if cls = 0 ∨ (cls = 1 ∧ !nbit f 1) ∨ (cls = 2 ∧ !nbit f 2) then some 0x8004
      else if c.arg 3 1 = 2 ∧ !(nbit f 3 && (s.lcs = lcTest || s.lcs = lcProvisioned)) then some 0x8003
      else if c.arg 2 1 = 0 ∧ !s.keyExists kid ∧ most ≤ s.keysOf c.keyOwner then some 0x8000
      else none

/-- Whether a caller may name a KID at all (R399, R414). -/
def Ctx.kidRange (c : Ctx) : Bool :=
  if c.isService then decide (1 ≤ c.arg 0 2 ∧ c.arg 0 2 ≤ 0x00FF) else decide (0x0100 ≤ c.arg 0 2 ∧ c.arg 0 2 ≤ 0x0FFF)

/-- Bytes of key material by KTYPE (R398), and of the source of KEY_STORE (R414). -/
def keyLen (ktype : Nat) : Nat := if ktype = 3 then 48 else 32
def sourceLen (source ktype : Nat) : Nat := if source = 0 then 0 else if source = 1 then 80 else keyLen ktype

/-- KEY_STORE (0x0904, R401, R403, R406, R414). -/
def opKeyStore : OpSpec where
  opcode := 0x0904
  classes := [clLong]
  bits := fun _ i => if i = 7 then 0 else if i = 6 then 0x7F else if i < 13 then 0xFF else 0
  grant := fun s c => s.storeGrant c false
  need := fun _ => 16
  body := fun c s =>
    if !c.kidRange then Reply.range s 0
    else if 1 < c.arg 2 1 then Reply.range s 2
    else if 2 < c.arg 3 1 then Reply.range s 3
    else if 2 < c.arg 4 1 ∨ (c.isService && c.arg 4 1 ≠ 0) then Reply.range s 4
    else if 3 < c.arg 5 1 then Reply.range s 5
    else if c.arg 3 1 ≠ 0 ∧ !s.sourceOk c (c.arg 8 5) (sourceLen (c.arg 3 1) (c.arg 5 1)) then Reply.range s 8
    else if s.advancing ∨ s.kidBusy (c.arg 0 2) then Reply.err s stConflict 0
    else if s.keyExists (c.arg 0 2) ≠ decide (c.arg 2 1 = 1) then Reply.err s stConflict 0
    else if c.arg 2 1 = 0 ∧ 1024 ≤ (s.sec.dir.filter fun e => s.keyExists e.kid).length then Reply.err s stConflict 0
    else if !s.isSet R.KSU_STAT_ROOT_OK then Reply.err s stInternal icNoRoot
    else if !s.isSet R.KSU_STAT_DRBG_OK then Reply.err s stInternal icNoRandom
    else Reply.accepted s

/-- The material of KEY_STORE (R414): generated, opened under the transport key (KID 0x0002), or plain. The Bool tells a
failed tag from a transport key that is not there. -/
def State.material (s : State) (l : LongCmd) : (Option (List Byte) × Bool) × State :=
  let kt := le l.payload 5 1
  let src := le l.payload 3 1
  let bytes := s.sourceBytes l (le l.payload 8 5) (sourceLen src kt)
  if src = 0 then let (b, s1) := State.random 6 s; ((some (padTo 48 (b.take (keyLen kt))), true), s1)
  else if src = 1 then
    match s.goodKey 2 with
    | some t =>
      ((if nbit t.usage 5 then (Config.unwrap t.key (leBytes 2 (le l.payload 0 2) ++ leBytes 1 kt ++ leBytes 2 (le l.payload 6 2)) bytes).map (padTo 48)
        else none, nbit t.usage 5), s)
    | none => ((none, false), s)
  else ((some (padTo 48 bytes), true), s)

/-- A private slot takes a DEVICE key (R397): KID 0x0001 to 0x0004. -/
def State.fillPrivate (s : State) (kid : Nat) : State :=
  if 1 ≤ kid ∧ kid ≤ 4 then s.modSec fun x => { x with privs := updAt x.privs (kid - 1) fun _ => s.goodKey kid } else s

/-- SEALED programmed once KIDs 0x0001 to 0x0003 are stored in FIELD (R406). -/
def State.sealOtp (s : State) : State :=
  if s.lcs = lcField ∧ !s.sec.sealed ∧ s.keyExists 1 ∧ s.keyExists 2 ∧ s.keyExists 3 then
    (s.modSec fun x => { x with sealed := true }).wr R.KSU_LCS_SEALED 1
  else s

/-- The steps of a key update from the blob written to the second commit copy (R401). Before the commit the operation
can fail with the new blob written or not, which is a free value. -/
def State.storeSteps (s : State) (e : KeyEntry) (p cseq : Nat) (b : Blob) (out : LongOut) : Nat × Nat × List Byte × State :=
  match out with
  | .internal code =>
    let (v, s1) := s.fresh
    (stInternal, code, [], if v.toNat % 2 = 1 then s1.putEntry (e.setPos p (some b)) else s1)
  | _ =>
    let k : KeyCommit := ⟨cseq, p, b.seq⟩
    let e1 := e.setPos p (some b)
    let e2 := { e1 with c0 := some k, c1 := if out = .otherBad then none else some k }
    let s1 := ((s.putEntry e2).fillPrivate e.kid).sealOtp
    (stOk, 0, leBytes 4 b.seq, s1.raise 133 (if b.owner < 16 then .part b.owner else .sys) (leBytes 2 e.kid ++ leBytes 4 b.seq))

/-- The end of KEY_STORE (R401, R403): a discarded command completes as well. -/
def State.keyStoreDone (s : State) (l : LongCmd) (out : LongOut) : Nat × Nat × List Byte × State :=
  let kid := le l.payload 0 2
  if !s.isSet R.KSU_STAT_ROOT_OK then (stInternal, icNoRoot, [], s)
  else if !s.isSet R.KSU_STAT_DRBG_OK then (stInternal, icNoRandom, [], s)
  else
    let ((mat, tagged), s1) := s.material l
    match mat with
    | none => if tagged then (stRange, 8, [], s1) else (stInternal, icKeyGone, [], s1)
    | some m =>
      let b : Blob := { cls := le l.payload 4 1, lcs := s.lcs, ktype := le l.payload 5 1, usage := le l.payload 6 2
                        owner := l.keyOwner, kid := kid, seq := 1, key := m }
      if le l.payload 2 1 = 0 then s1.storeSteps { kid := kid } 0 1 b out
      else match s.keyEntry kid with
      | none => (stInternal, icKeyGone, [], s1)
      | some e =>
        match e.commit with
        | none => (stInternal, icKeyGone, [], s1)
        | some k => s1.storeSteps e (if k.pos = 0 then 1 else 0) (k.cseq + 1) { b with seq := k.seq + 1 } out

/-- KEY_DELETE (0x0905). -/
def opKeyDelete : OpSpec where
  opcode := 0x0905
  classes := [clLong]
  bits := allBits 2
  grant := fun s c => s.storeGrant c true
  need := fun _ => 2
  body := fun c s =>
    if !c.kidRange then Reply.range s 0
    else if s.advancing ∨ s.kidBusy (c.arg 0 2) ∨ !s.keyExists (c.arg 0 2) then Reply.err s stConflict 0
    else Reply.accepted s

/-- The end of KEY_DELETE (R401): commit copies with position 0xFF, then both positions erased. -/
def State.keyDeleteDone (s : State) (l : LongCmd) (out : LongOut) : Nat × Nat × List Byte × State :=
  let kid := le l.payload 0 2
  match out, (s.keyEntry kid).bind fun e => e.commit.map fun k => (e, k) with
  | .internal code, _ => (stInternal, code, [], s)
  | _, none => (stInternal, icKeyGone, [], s)
  | _, some (e, k) =>
    let k1 : KeyCommit := ⟨k.cseq + 1, 0xFF, k.seq⟩
    let own := match e.inForce with | some b => if b.owner < 16 then Owner.part b.owner else .sys | none => .sys
    let s1 := s.putEntry { e with p0 := none, p1 := none, c0 := some k1, c1 := if out = .otherBad then none else some k1 }
    (stOk, 0, [], (s1.fillPrivate kid).raise 133 own (leBytes 2 kid ++ leBytes 4 k.seq))

/-- KEY_PUB (0x0906). -/
def opKeyPub : OpSpec where
  opcode := 0x0906
  classes := [clNormal]
  bits := allBits 1
  grant := fun s c => s.slotGrant c 0
  need := fun _ => 1
  body := fun c s =>
    if 31 < c.arg 0 1 then Reply.range s 0
    else match s.sec.slots.getD (c.arg 0 1) none with
    | some b =>
      if b.ktype < 2 then Reply.range s 0
      else if s.advancing then Reply.err s stConflict 0
      else Reply.ok s (padTo (2 * keyLen b.ktype) (Config.ecPublic b.ktype (b.key.take (keyLen b.ktype))))
    | none => Reply.range s 0

/-- The authorization commands come only from the service port bridge (R414). -/
def onlyService (_ : State) (c : Ctx) : Option Nat := if c.isService then none else some 0xFFFE

/-- AUTH_CHAL (0x0910, R407): a fresh challenge, with the request it is for. -/
def opAuthChal : OpSpec where
  opcode := 0x0910
  classes := [clNormal]
  bits := fun _ i => if i = 0 then 0x3F else if i < 4 then 0xFF else 0
  requester := onlyService
  need := fun _ => 4
  body := fun c s =>
    if c.arg 2 2 < 1 ∨ 480 < c.arg 2 2 then Reply.range s 2
    else if s.sec.lockEnd.isSome ∨ s.lcs = lcBlank ∨ s.lcs = lcEnd then Reply.err s stConflict 0
    else if !s.isSet R.KSU_STAT_DRBG_OK then Reply.err s stInternal icNoRandom
    else
      let (ch, s1) := State.random 4 s
      Reply.ok (s1.modSec fun x => { x with chal := some (ch, s.now, padTo 4 c.payload) }) ch

/-- The response that R407 expects. -/
def State.expected (s : State) (ch req : List Byte) : Option (List Byte) :=
  (s.goodKey 3).map fun b => padTo 32 (Config.hmac (b.key.take 32) (ch ++ s.uidBytes ++ req))

/-- An authorization put in force (R407). -/
def State.authGrant (s : State) (req : List Byte) : State :=
  let s1 := (s.wr R.KSU_AUTH_SCOPE (le req 0 1)).wr R.KSU_AUTH_CORES (le req 1 1)
  (s1.modSec fun x => { x with authEnd := some (s.now + le req 2 2 * 60000000000) }).raise 137 .pub req

/-- A wrong response (R407): counted over 60 s; the third locks challenges out for 60 s. -/
def State.authWrong (s : State) : State :=
  let l := (s.sec.fails.filter fun t => s.now ≤ t + 60000000000) ++ [s.now]
  let s1 := (s.modSec fun x => { x with fails := l }).raise 138 .sys (leBytes 1 l.length)
  if l.length < 3 then s1 else (s1.modSec fun x => { x with lockEnd := some (s.now + 60000000000) }).raise 139 .sys

/-- AUTH_RESP (0x0911, R407): one response for each challenge, within 60 s; a wrong response leaves its mark. -/
def opAuthResp : OpSpec where
  opcode := 0x0911
  classes := [clNormal]
  bits := allBits 32
  requester := onlyService
  need := fun _ => 32
  keep := true
  body := fun c s =>
    let s1 := s.modSec fun x => { x with chal := none }
    match s.sec.chal with
    | none => Reply.err s stConflict 0
    | some (ch, t, req) =>
      if t + 60000000000 < s.now then Reply.err s1 stConflict 0
      else if s.expected ch req = some (c.payload.take 32) then Reply.ok (s1.authGrant req)
      else Reply.err s1.authWrong stConflict 0

/-- The end of an authorization (R407): why 0 expiry, 1 AUTH_END, 2 reset, 3 DBG-EN. -/
def State.authStop (s : State) (why : Nat) : State :=
  match s.sec.authEnd with
  | some _ =>
    let s1 := s.modSec fun x => { x with authEnd := none }
    (s1.setRaw R.KSU_AUTH 0).raise 140 .pub (leBytes 1 why)
  | none => s

/-- AUTH_EXPIRY: the end of the duration. -/
def State.authExpiry (s : State) : State :=
  match s.sec.authEnd with
  | some t => (s.advance t).authStop 0
  | none => s

/-- AUTH_LOCKOUT_END: 60 s after the third wrong response. -/
def State.lockoutEnd (s : State) : State :=
  match s.sec.lockEnd with
  | some t => (s.advance t).modSec fun x => { x with lockEnd := none }
  | none => s

/-- AUTH_END (0x0912). -/
def opAuthEnd : OpSpec where
  opcode := 0x0912
  classes := [clRt, clNormal]
  bits := allBits 0
  requester := onlyService
  need := fun _ => 0
  body := fun _ s => Reply.ok (s.authStop 1)

/-- DBG-EN deasserted (R407): the scopes CORES, SYSBUS and HEART end; the authorization goes on with what is left. -/
def State.dbgEnOff (s : State) : State :=
  let sc := s.rd R.KSU_AUTH_SCOPE
  let s1 := s.modSec fun x => { x with dbgEn := false }
  if sc &&& 0xE = 0 then s1
  else if sc &&& 0x31 = 0 then s1.authStop 3
  else ((s1.wr R.KSU_AUTH_SCOPE (sc &&& 0x31)).wr R.KSU_AUTH_CORES 0).raise 140 .pub [3]

/-- A component put into a list in component order. -/
def insComp (c : Comp) : List Comp → List Comp
  | [] => [c]
  | x :: t => if c.num ≤ x.num then c :: x :: t else x :: insComp c t

def sortComps (l : List Comp) : List Comp := l.foldr insComp []

/-- The components of the running slot in component order (R408). -/
def State.activeDigests (s : State) : List Byte := (sortComps (s.upd.slots.getD s.upd.running {}).comps).flatMap Comp.digest

/-- The CRC-32C that the record in use of a type carries (R76, R408); 0 without one. -/
def State.recCrc (s : State) (t : Nat) : Nat :=
  let r := s.inUse t
  match r.used with
  | some c => le (r.copy c) (32 + le (r.copy c) 4 4) 4
  | none => 0

/-- The state block of ATTEST (R408). -/
def State.stateBlock (s : State) : List Byte :=
  s.uidBytes ++ leBytes 1 s.lcs ++ leBytes 1 s.mode ++ leBytes 1 (s.rd R.SUP_STRAP_ZONE) ++ leBytes 1 s.upd.running ++
  leBytes 4 s.fwVersion ++ padTo 32 (Config.sha256 s.activeDigests) ++ leBytes 4 (s.recCrc recManifest) ++
  leBytes 4 (s.rd R.SIL_CONF_VALUE) ++ leBytes 4 (s.recCrc recPairing) ++ leBytes 4 s.boot.rollback ++ leBytes 8 s.lc ++
  leBytes 4 (s.rd R.SUP_STARTS_COUNT) ++
  leBytes 1 (b2n s.sec.authEnd.isSome + 2 * s.rd R.KSU_LCS_SEALED + 4 * s.rd R.KSU_STAT_ROOT_OK) ++
  leBytes 1 ((List.range 8).foldl (fun acc k => acc + s.rd (R.LSC_Pk_CFG_SPLIT k) * 2 ^ k) 0) ++ List.replicate 18 0

/-- ATTEST (0x0920, R394, R408). -/
def opAttest : OpSpec where
  opcode := 0x0920
  classes := [clNormal]
  bits := allBits 1008
  need := fun _ => 16
  body := fun c s =>
    if 32 < c.len then Reply.range s 0xFFFF
    else if (s.lcs ≠ lcField ∧ s.lcs ≠ lcReturn) ∨ !s.keyExists 1 then Reply.err s stConflict 0
    else match s.goodKey 1 with
    | none => Reply.err s stInternal (if s.isSet R.KSU_STAT_ROOT_OK then icBadBlob else icNoRoot)
    | some k =>
      let dsd := padTo 32 (Config.sha256 s.stateBlock)
      Reply.ok s (s.stateBlock ++ dsd ++ padTo 32 (Config.hmac (k.key.take 32) (c.payload.take c.len ++ dsd)))

/-- The next states of a life-cycle state (R404). -/
def lcNext (from_ dest : Nat) : Bool := decide (from_ < lcEnd) && (decide (dest = from_ + 1) || decide (dest = lcEnd))

/-- The authority for a transition (R414). -/
def State.lcAuthority (s : State) (c : Ctx) (dest : Nat) : Bool :=
  let sc := s.rd R.KSU_AUTH_SCOPE
  if dest = lcEnd then
    (c.isService && (decide (s.lcs ≠ lcField ∧ s.lcs ≠ lcReturn) || nbit sc 5)) || (s.callerSystem c && c.attr.w)
  else if dest = lcReturn then c.isService && nbit sc 4
  else c.isService

/-- LC_ADVANCE (0x0930). -/
def opLcAdvance : OpSpec where
  opcode := 0x0930
  classes := [clLong]
  bits := allBits 1
  grant := fun s c => if lcNext s.lcs (c.arg 0 1) ∧ !s.lcAuthority c (c.arg 0 1) then some 0x8000 else none
  need := fun _ => 1
  body := fun c s =>
    if !lcNext s.lcs (c.arg 0 1) then Reply.range s 0
    else if s.longWith [0x0902, 0x0904, 0x0905, 0x0930] then Reply.err s stConflict 0
    else Reply.accepted s

/-- The end of LC_ADVANCE (R405): partitions stopped, slots zeroized, the words up to the target programmed, the last one left
torn when the write was interrupted, and a reset of Module reach. One that ends with INTERNAL has programmed no word.
DESIGN CHOICE. -/
def State.lcAdvanceDone (s : State) (l : LongCmd) (out : LongOut) : Nat × Nat × List Byte × State :=
  let dest := le l.payload 0 1
  let s0 := (s.stopParts.each (List.range 32) fun s i => s.zeroSlot i 2).modSec fun x => { x with privs := List.replicate 4 none }
  match out with
  | .internal code => (stInternal, code, [], s0)
  | _ =>
    let s1 := s0.modSec fun x =>
      { x with words := x.words.zipIdx.map fun w => if w.2 < dest then (if w.2 + 1 = dest && out = .otherBad then 2 else 1) else w.1 }
    (stOk, 0, [], s1.assertSrc rsSwr module)

/-- A DRBG health test fails (R399). -/
def State.drbgFail (s : State) : State := (s.wr R.KSU_STAT_DRBG_OK 0).raise 129 .sys

def execKeyInfo (m : Fin 17) (fate : Fate) (s : State) : Out := s.finish (s.runRow opKeyInfo m fate)
def execKeyLoad (m : Fin 17) (fate : Fate) (s : State) : Out := s.finish (s.runRow opKeyLoad m fate)
def execKeyUnload (m : Fin 17) (fate : Fate) (s : State) : Out := s.finish (s.runRow opKeyUnload m fate)
def execKeyStore (m : Fin 17) (fate : Fate) (s : State) : Out := s.finish (s.runRow opKeyStore m fate)
def execKeyDelete (m : Fin 17) (fate : Fate) (s : State) : Out := s.finish (s.runRow opKeyDelete m fate)
def execKeyPub (m : Fin 17) (fate : Fate) (s : State) : Out := s.finish (s.runRow opKeyPub m fate)
def execAuthChal (m : Fin 17) (fate : Fate) (s : State) : Out := s.finish (s.runRow opAuthChal m fate)
def execAuthResp (m : Fin 17) (fate : Fate) (s : State) : Out := s.finish (s.runRow opAuthResp m fate)
def execAuthEnd (m : Fin 17) (fate : Fate) (s : State) : Out := s.finish (s.runRow opAuthEnd m fate)
def execAttest (m : Fin 17) (fate : Fate) (s : State) : Out := s.finish (s.runRow opAttest m fate)
def execLcAdvance (m : Fin 17) (fate : Fate) (s : State) : Out := s.finish (s.runRow opLcAdvance m fate)
def execDrbgHealthFail (s : State) : Out := s.finish s.drbgFail
def execDrbgReseed (s : State) : Out := s.finish (s.wr R.KSU_STAT_DRBG_OK 1)
def execAuthExpiry (s : State) : Out := s.finish s.authExpiry
def execAuthLockoutEnd (s : State) : Out := s.finish s.lockoutEnd
def execDbgEnDeassert (s : State) : Out := s.finish s.dbgEnOff

end Sys2Proof.Machine
end

