-- ==== Sys2Proof/Machine/UpdateCmd.lean ====
section
/-! DEFINITION. Field update (R416-R434 of 15_field_update.md): the header, staging, activation, trials, migration. -/

namespace Sys2Proof.Machine

/-! The staged package (R420, R421, R424). -/

def billetSize : Nat := 65536
def hId (h : List Byte) : Nat := le h 28 4
def hTotal (h : List Byte) : Nat := le h 32 4
def hCount (h : List Byte) : Nat := le h 6 1
def hNum (h : List Byte) (i : Nat) : Nat := le h (64 + 64 * i) 4
def hVer (h : List Byte) (i : Nat) : Nat := le h (68 + 64 * i) 4
def hLen (h : List Byte) (i : Nat) : Nat := le h (72 + 64 * i) 4
def hFirst (h : List Byte) (i : Nat) : Nat := le h (76 + 64 * i) 4
def hDigest (h : List Byte) (i : Nat) : List Byte := (h.drop (80 + 64 * i)).take 32
def hBillets (h : List Byte) (i : Nat) : Nat := (hLen h i + 65535) / billetSize
def hIndex (h : List Byte) (c : Nat) : Option Nat := (List.range (hCount h)).find? fun i => hNum h i = c

/-- Settings entry j: TYPE, MODE, FORMAT. -/
def hSetting (h : List Byte) (j : Nat) : Nat × Nat × Nat := (le h (448 + 4 * j) 1, le h (449 + 4 * j) 1, le h (450 + 4 * j) 2)

/-- The ranges of component i, in ascending range index (R426). -/
def hRanges (h : List Byte) (i : Nat) : List (Nat × Nat × Nat) :=
  ((List.range 4).filter fun k => le h (512 + 16 * k) 1 = i).map fun k =>
    (le h (516 + 16 * k) 4, le h (520 + 16 * k) 4, le h (524 + 16 * k) 4)

/-- The first offset at which bytes that must be 0 are not. -/
def nonZero (h : List Byte) (off n : Nat) : Option Nat := ((List.range n).find? fun i => le h (off + i) 1 ≠ 0).map (off + ·)

/-- The fields of a header, in the order of R422 step 3; R423. -/
def fieldBad (h : List Byte) : Option Nat :=
  let n := hCount h
  let comps := List.range n
  let fails (c : Bool) (o : Nat) : Option Nat := if c then some o else none
  let ends (i : Nat) := hFirst h i + hBillets h i
  fails (h.take 4 != [0x54, 0x5A, 0x55, 0x50]) 0 <|> fails (le h 4 1 ≠ 1) 4 <|> fails (n < 1 || 6 < n) 6 <|>
  fails (hTotal h < 1 || 4096 < hTotal h) 32 <|> fails (hId h = 0) 28 <|> fails (le h 36 4 < 60 || 3600 < le h 36 4) 36 <|>
  (comps.find? fun i => hLen h i = 0 || hFirst h i = 0 || decide (hTotal h < ends i) ||
    (List.range i).any fun j => decide (hFirst h i < ends j ∧ hFirst h j < ends i)).map (fun i => 76 + 64 * i) <|>
  nonZero h 7 1 <|> nonZero h 40 24 <|> comps.findSome? (fun i => nonZero h (112 + 64 * i) 16) <|>
  ((List.range 16).find? fun j =>
    let (t, m, _) := hSetting h j
    t ≠ 0 && (decide (11 < t ∨ 2 < m) || (t = recSafety + 1 && m ≠ 0))).map (fun j => 448 + 4 * j) <|>
  (List.range 4).findSome? (fun k => nonZero h (513 + 16 * k) 3) <|> nonZero h 3981 115

/-- The checks of UPD_BEGIN (R422): status and detail of the first failure. Before PROVISIONED the OTP holds no UKD_EC and UKD_PQ
(R395), so no key block meets them. DEDUCED. -/
def State.headerBad (s : State) (h : List Byte) : Option (Nat × Nat) :=
  if s.lcs < lcProvisioned || !Config.updateKeysOk s.sec.uid then some (stInternal, 1)
  else if !Config.ecdsaOk h then some (stRange, 576)
  else if !Config.mldsaOk h then some (stRange, 672)
  else match fieldBad h with
  | some o => some (stRange, o)
  | none =>
    if (h.drop 8).take 8 ≠ orderingCode then some (stRange, 8)
    else if le h 16 8 ≠ 0 ∧ le h 16 8 ≠ s.sec.uid then some (stRange, 16)
    else if !nbit (le h 5 1) s.lcs then some (stRange, 5)
    else if le h 24 4 < s.boot.rollback then some (stConflict, 1)
    else none

/-- The bitmap in use (R424): the valid copy with the higher SEQ. -/
def State.bitmap (s : State) : Option BitCopy :=
  match s.upd.m0, s.upd.m1 with
  | some a, some b => if a.seq < b.seq then some b else some a
  | some a, none => some a
  | none, b => b

def State.bits (s : State) : Nat := match s.bitmap with | some b => b.bits | none => 0

/-- Billets held. -/
def State.held (s : State) : Nat := (maskIdx 4096 s.bits).length

/-- The bitmap written: copy 0, then copy 1, whose check can fail. -/
def State.setBits (s : State) (bits : Nat) (second : Bool) : State :=
  let q := match s.bitmap with | some b => b.seq + 1 | none => 1
  let b : BitCopy := ⟨hId s.upd.header, q, bits⟩
  s.modUpd fun u => { u with m0 := some b, m1 := if second then some b else none }

/-- The OWNER byte of a caller: its PID, 0xFF for the service port. -/
def LongCmd.callerByte (l : LongCmd) : Nat := l.keyOwner

/-- The requester that R433 asks for. -/
def updRequester (s : State) (c : Ctx) : Option Nat :=
  if s.upd.header.isEmpty ∨ s.upd.owner = c.keyOwner ∨ s.callerSystem c then none else some 0xFFFE

/-- UPD_BEGIN (0x0A01). -/
def opUpdBegin : OpSpec where
  opcode := 0x0A01
  classes := [clLong]
  bits := allBits 5
  requester := updRequester
  need := fun _ => 5
  body := fun c s => if !s.sourceOk c (c.arg 0 5) 4096 then Reply.range s 0 else Reply.accepted s

/-- The end of UPD_BEGIN (R422, R425). -/
def State.updBeginDone (s : State) (l : LongCmd) (out : LongOut) : Nat × Nat × List Byte × State :=
  let h := s.sourceBytes l (le l.payload 0 5) 4096
  let own : Owner := if s.upd.header.isEmpty then (if l.callerByte < 16 then .part l.callerByte else .sys) else s.updOwner
  match out with
  | .internal code => (stInternal, code, [], s)
  | _ =>
    match s.headerBad h with
    | some (st, d) => (st, d, [], s.raise 449 own (leBytes 2 st ++ leBytes 2 d))
    | none =>
      let s1 := s.raise 448 own (leBytes 4 (hId h))
      let res (t : State) := leBytes 4 (hId h) ++ leBytes 4 (hTotal h) ++ leBytes 4 t.held
      if s.upd.header = h then (stOk, 0, res s1, s1)
      else if !s.upd.header.isEmpty then (stConflict, 2, [], s1)
      else
        let s2 := s1.modUpd fun u => { u with header := h, owner := l.callerByte, billets := [(0, h)], ready := [], m0 := none, m1 := none }
        let s3 := s2.setBits 1 (out ≠ .otherBad)
        (stOk, 0, res s3, s3)

/-- The length of billet b (R420): 65,536 bytes, or what is left of its component. -/
def billetLen (h : List Byte) (b : Nat) : Nat :=
  match (List.range (hCount h)).find? fun i => hFirst h i + hBillets h i = b + 1 with
  | some i => hLen h i - (hBillets h i - 1) * billetSize
  | none => billetSize

/-- UPD_BILLET (0x0A02). -/
def opUpdBillet : OpSpec where
  opcode := 0x0A02
  classes := [clLong]
  bits := fun _ i => if i < 17 ∨ (20 ≤ i ∧ i < 24) then 0xFF else 0
  requester := updRequester
  need := fun _ => 24
  body := fun c s =>
    let h := s.upd.header
    if h.isEmpty then Reply.err s stConflict 0
    else if c.arg 0 4 = hId h ∧ (c.arg 4 4 < 1 ∨ hTotal h ≤ c.arg 4 4) then Reply.range s 4
    else if c.arg 0 4 = hId h ∧ c.arg 8 4 ≠ billetLen h (c.arg 4 4) then Reply.range s 8
    else if !s.sourceOk c (c.arg 12 5) (c.arg 8 4) then Reply.range s 12
    else if c.arg 0 4 ≠ hId h then Reply.err s stConflict 0
    else Reply.accepted s

/-- The staged bytes of component i. -/
def State.stagedData (s : State) (i : Nat) : List Byte :=
  let h := s.upd.header
  ((List.range (hBillets h i)).flatMap fun k => sget (fun _ => []) s.upd.billets (hFirst h i + k)).take (hLen h i)

/-- The digest check of a component that holds every billet (R424). -/
def State.componentCheck (s : State) (i : Nat) : State :=
  let h := s.upd.header
  let bs := (List.range (hBillets h i)).map (hFirst h i + ·)
  if !(bs.all fun b => nbit s.bits b) then s
  else if padTo 32 (Config.sha256 (s.stagedData i)) = hDigest h i then
    (s.modUpd fun u => { u with ready := (u.ready.filter (· ≠ hNum h i)) ++ [hNum h i] }).raise 450 s.updOwner (leBytes 4 (hNum h i))
  else
    let left := bs.foldl (fun a b => if nbit a b then a - 2 ^ b else a) s.bits
    ((s.setBits left true).modUpd fun u => { u with ready := u.ready.filter (· ≠ hNum h i) }).raise 451 s.updOwner (leBytes 4 (hNum h i))

/-- The end of UPD_BILLET (R424). -/
def State.updBilletDone (s : State) (l : LongCmd) (out : LongOut) : Nat × Nat × List Byte × State :=
  let b := le l.payload 4 4
  let data := s.sourceBytes l (le l.payload 12 5) (le l.payload 8 4)
  match out with
  | .internal code => (stInternal, code, [], s)
  | _ =>
    if s.upd.header.isEmpty ∨ le l.payload 0 4 ≠ hId s.upd.header then (stInternal, 2, [], s)
    else if crc32c data ≠ le l.payload 20 4 then (stRange, 20, [], s)
    else
      let s1 := s.modUpd fun u => { u with billets := sput u.billets b data }
      let s2 := s1.setBits (s1.bits ||| 2 ^ b) (out ≠ .otherBad)
      let h := s.upd.header
      let s3 := match (List.range (hCount h)).find? fun i => decide (hFirst h i ≤ b ∧ b < hFirst h i + hBillets h i) with
        | some i => s2.componentCheck i
        | none => s2
      (stOk, 0, leBytes 4 s3.held, s3)

/-- UPD_STATUS (0x0A03). -/
def opUpdStatus : OpSpec where
  opcode := 0x0A03
  classes := [clNormal]
  bits := allBits 0
  need := fun _ => 0
  body := fun _ s =>
    let b := s.boot
    let h := s.upd.header
    let left := if s.onTrial then b.tstart + b.window - s.rtc else 0
    Reply.ok s (leBytes 4 (if h.isEmpty then 0 else hId h) ++ leBytes 1 b.trial ++ leBytes 1 b.kind ++ leBytes 1 b.active ++ [0] ++
      leBytes 4 s.held ++ leBytes 4 (hTotal h) ++ leBytes 4 b.comp ++ leBytes 4 left ++ leBytes 4 b.rollback ++
      List.replicate 4 0 ++ leBytes 512 s.bits)

/-! Consistency and activation (R426, R427). -/

/-- KIND of a component (R416); none for a number that names no component. -/
def kindOf (c : Nat) : Option Nat :=
  if c = 1 ∨ c = 3 ∨ c = 4 ∨ c = 5 then some tkCrown
  else if c = 2 then some tkIsland
  else if c = 0x10 then some tkLanding
  else if 0x00010000 ≤ c ∧ c ≤ 0x0001FFFF then some tkPartition
  else none

/-- The first range of a component that a set does not meet. -/
def rangeFails (set : List Comp) (c : Comp) : Option Nat :=
  (c.ranges.zipIdx.find? fun x =>
    !(set.any fun d => decide (d.num = x.1.1 ∧ x.1.2.1 ≤ d.ver ∧ d.ver ≤ x.1.2.2))).map fun x => x.2

/-- The check of R426: DETAIL and the component whose range failed. -/
def inconsistent (set : List Comp) (c : Comp) : Option (Nat × Nat) :=
  match rangeFails set c with
  | some j => some (0x10 + j, c.num)
  | none => ((sortComps set).filter fun d => d.num ≠ c.num).findSome? fun d => (rangeFails set d).map fun j => (0x20 + j, d.num)

/-- A set with one component replaced. -/
def withComp (set : List Comp) (c : Comp) : List Comp := sortComps ((set.filter fun d => d.num ≠ c.num) ++ [c])

/-- Whether a safety function is in RUN or STOPPING (R432). -/
def State.safetyRuns (s : State) : Bool := (List.range 16).any fun f => s.fnState f = fnRun || s.fnState f = fnStopping

/-- UPD_ACTIVATE (0x0A04). -/
def opUpdActivate : OpSpec where
  opcode := 0x0A04
  classes := [clLong]
  bits := allBits 4
  requester := updRequester
  need := fun _ => 4
  body := fun c s =>
    let k := c.arg 0 4
    if k = 2 ∧ s.safetyRuns then Reply.err s stSafetyLocked 0
    else if !s.upd.ready.contains k ∨ (kindOf k).isNone then Reply.err s stConflict 4
    else if s.onTrial ∨ s.longWith [0x0A04] then Reply.err s stConflict 3
    else Reply.accepted s

/-- Migration copies created for the records that the package names (R430), where none is valid. -/
def State.migrCreate (s : State) : State :=
  s.each (List.range 16) fun s j =>
    let (ty, mode, fmt) := hSetting s.upd.header j
    let t := ty - 1
    let m := s.upd.migr.getD t {}
    if ty = 0 ∨ mode = 0 ∨ copyValid s.fwVersion t m.c0 ∨ copyValid s.fwVersion t m.c1 then s
    else
      let r := s.record t
      let sel := r.used.map fun c => r.copy c
      let conv := if mode = 1 then sel.bind fun b => Config.convert ty fmt ((b.drop 32).take (le b 4 4)) else none
      let body := conv.getD (Config.defaultBody ty)
      let b := recBytes t fmt ((match sel with | some b => copySeq b | none => 0) + 1) s.rtc body
      (s.modUpd fun u => { u with migr := updAt u.migr t fun _ => { c0 := b, c1 := b } }).raise 457 s.updOwner
        (leBytes 2 ty ++ leBytes 1 mode ++ leBytes 1 (b2n (mode = 1 && conv.isNone)))

/-- The records that a trial reads from their migration copies, selected under R77. -/
def State.migrUse (s : State) : State :=
  s.modUpd fun u => { u with migr := u.migr.zipIdx.map fun x => { x.1 with used := (selectCopy s.fwVersion x.2 x.1).1 } }

/-- Migration copies erased (R429, R430). -/
def State.migrErase (s : State) : State := s.modUpd fun u => { u with migr := List.replicate 11 {} }

/-- Promotion (R430): each migration record written into copies 0 and 1, the SEQ one above the higher of the two. -/
def State.migrPromote (s : State) : State :=
  (s.each (List.range 11) fun s t =>
    let m := s.upd.migr.getD t {}
    match (selectCopy s.fwVersion t m).1 with
    | some c =>
      let x := m.copy c
      let r := s.record t
      let b := recBytes t (le x 2 2) (max (copySeq r.c0) (copySeq r.c1) + 1) s.rtc ((x.drop 32).take (le x 4 4))
      s.modRecord t fun _ => { c0 := b, c1 := b, used := some 0 }
    | none => s).migrErase

/-! Landing's reload (R263, R428). -/

/-- Registers of Landing. -/
def isLgw (a : Nat) : Bool := match blkOf a with | some .lgw => true | some .slot => true | some .route => true | _ => false

/-- Landing cleared as at a crown reset (R263). -/
def State.landingClear (s : State) : State :=
  ((s.clearRegs isLgw).onLgw fun _ => {}).onCans fun l => l.map fun x => { x with landing := [] }

/-- What the LANDING record sets: Landing's registers, CTRL aside, and the MAC of its queue pair QP31 (R259, R263). -/
def landingSets (a : Nat) : Bool := (isLgw a && a ≠ R.LGW_CTRL) || a = R.ESW_QPk_MAC_LO 31 || a = R.ESW_QPk_MAC_HI 31

/-- Every block restored from the LANDING record (R263); RUN stays. -/
def State.landingLoad (s : State) : State :=
  let run := s.rd R.LGW_CTRL_RUN
  let ws := (s.recPairs recLanding 0).filter fun x => landingSets x.1
  let s1 := s.landingClear.recordWords recLanding 0 landingSets
  let blocks := ((ws.filter fun x => isRouteAddr x.1).map fun x => (x.1 - R.LGW_ROUTE 0 0) / 0x2000).eraseDups
  (s1.each blocks fun s b => s.lgwPost regReset b).wr R.LGW_CTRL_RUN run

/-- The first rule of R264 that Landing's registers fail. -/
def State.landingBad (s : State) : Bool :=
  (s.ruleCheck s.raw (s.candidates []) [] ((List.range 65).map (0x0600 + ·))).isSome

/-- Turn boundary (R428): a LANDING trial starts, with RUN = 0 when a rule fails; after a fall-back Landing reloads. -/
def State.landingTurn (s : State) : State :=
  match s.upd.landing with
  | none => s
  | some 0 =>
    let s1 := (s.modUpd fun u => { u with landing := none }).landingLoad
    if s1.landingBad then ((s1.trialLost 4).wr R.LGW_CTRL_RUN 0).modUpd fun u => { u with landing := some (if s.isSet R.LGW_CTRL_RUN then 2 else 1) }
    else s1.trialRuns
  | some k =>
    let s1 := (s.modUpd fun u => { u with landing := none }).landingLoad
    if k = 2 then s1.wr R.LGW_CTRL_RUN 1 else s1

/-! Trials (R427, R428). -/

/-- The start of a trial of a kind (R428). -/
def State.trialStart (s : State) (kind c : Nat) (data : List Byte) : State :=
  let s1 := s.raise 452 .pub (leBytes 4 c ++ leBytes 1 kind)
  if kind = tkCrown then ((if c = 1 then s1 else s1.migrCreate).assertSrc rsSwr crown)
  else
    let s2 := s1.migrCreate.migrUse
    if kind = tkPartition then
      let ps := (List.range 16).filter s2.partOnTrial
      (s2.each ps fun s p => (s.modPart p fun x => { x with trialSlot := some (1 - s.boot.active) }).partResetAs p pcRestart [pcRestart]).trialRuns
    else if kind = tkIsland then (s2.wr R.ISB_STAT_TRIAL 1).ilReset
    else
      let r := s2.record recLanding
      let b := recBytes recLanding 1 ((match r.used with | some k => copySeq (r.copy k) | none => 0) + 1) s2.rtc data
      s2.modUpd fun u => { u with migr := updAt u.migr recLanding fun _ => { c0 := b, c1 := b, used := some 0 }, landing := some 0 }

/-- The end of UPD_ACTIVATE (R426, R427): the inactive slot made the active one with c replaced, then the boot record. -/
def State.updActivateDone (s : State) (l : LongCmd) (out : LongOut) : Nat × Nat × List Byte × State :=
  let k := le l.payload 0 4
  let h := s.upd.header
  match out, hIndex h k, kindOf k with
  | .internal code, _, _ => (stInternal, code, [], s)
  | _, none, _ => (stInternal, 3, [], s)
  | _, _, none => (stInternal, 3, [], s)
  | _, some i, some kind =>
    let data := s.stagedData i
    let c : Comp := ⟨k, hVer h i, data, hDigest h i, hRanges h i⟩
    let act := (s.upd.slots.getD s.boot.active {}).comps
    let set := withComp act c
    match inconsistent set c with
    | some (d, f) => (stConflict, d, leBytes 4 f, s)
    | none =>
      let s1 := s.modUpd fun u => { u with slots := updAt u.slots (1 - s.boot.active) fun _ => { ok := true, comps := set } }
      let s2 := if kind = tkIsland then s1.modSil fun x =>
          { x with fw := updAt x.fw (1 - s.rd R.SIL_STAT_BANK) fun _ => ((leWords data).zipIdx.map fun w => (4 * w.2, w.1)) } else s1
      let s3 := s2.writeBoot fun b =>
        { b with trial := trPending, kind := kind, starts := 0, comp := k, pkg := hId h, window := le h 36 4, tstart := s.rtc, owner := s.upd.owner }
      (stOk, 0, [], s3.trialStart kind k data)

/-- A failed trial, with its fall-back (R428). -/
def State.trialFail (s : State) (why : Nat) : State :=
  if !s.onTrial then s
  else
    let kind := s.boot.kind
    if kind = tkCrown then (s.trialLost why).assertSrc rsSwr crown
    else if kind = tkPartition then s.partFallback why
    else if kind = tkIsland then s.trialLost why
    else (s.trialLost why).modUpd fun u => { u with landing := if u.landing = some 0 then none else some 1 }

/-- UPD_CONFIRM (0x0A05) and UPD_REJECT (0x0A06): the named component under trial with TRIAL RUNNING (R434). -/
def trialOp (op : Nat) : OpSpec where
  opcode := op
  classes := [clLong]
  bits := allBits 4
  requester := updRequester
  need := fun _ => 4
  body := fun c s =>
    if s.boot.trial ≠ trRunning ∨ s.boot.comp ≠ c.arg 0 4 then Reply.err s stConflict 0 else Reply.accepted s

def opUpdConfirm : OpSpec := trialOp 0x0A05
def opUpdReject : OpSpec := trialOp 0x0A06

/-- The staged package discarded (R425, R429, R434). -/
def State.updDiscard (s : State) : State :=
  s.modUpd fun u => { u with header := [], owner := 0, m0 := none, m1 := none, billets := [], ready := [] }

/-- The end of UPD_CONFIRM (R429). -/
def State.updConfirmDone (s : State) (l : LongCmd) (out : LongOut) : Nat × Nat × List Byte × State :=
  let b := s.boot
  match out with
  | .internal code => (stInternal, code, [], s)
  | _ =>
    if b.trial ≠ trRunning ∨ b.comp ≠ le l.payload 0 4 then (stInternal, 4, [], s)
    else
      let s1 := if b.kind = tkIsland then s.isbConfirm else s
      let new := 1 - b.active
      let h := s.upd.header
      let s2 := s1.writeBoot fun x =>
        { x with active := new, trial := trNone, rollback := if h.isEmpty then x.rollback else max x.rollback (le h 24 4) }
      let s3 := (s2.migrPromote.modUpd fun u => { u with running := new }).onParts fun ps => ps.map fun p => { p with trialSlot := none }
      let ver := match s3.comp new b.comp with | some c => c.ver | none => 0
      let s4 := s3.raise 453 .pub (leBytes 4 b.comp ++ leBytes 4 ver)
      let all := !h.isEmpty && (List.range (hCount h)).all fun i =>
        match s4.comp new (hNum h i) with | some c => c.ver = hVer h i && c.digest == hDigest h i | none => false
      (stOk, 0, [], if all then s4.updDiscard else s4)

/-- The end of UPD_REJECT (R428). -/
def State.updRejectDone (s : State) (l : LongCmd) (_ : LongOut) : Nat × Nat × List Byte × State :=
  if s.boot.trial = trRunning ∧ s.boot.comp = le l.payload 0 4 then (stOk, 0, [], s.trialFail 2) else (stOk, 0, [], s)

/-- UPD_ABORT (0x0A07). -/
def opUpdAbort : OpSpec where
  opcode := 0x0A07
  classes := [clNormal]
  bits := allBits 4
  requester := updRequester
  need := fun _ => 4
  body := fun c s =>
    if s.onTrial ∨ s.longWith [0x0A04] ∨ s.upd.header.isEmpty ∨ c.arg 0 4 ≠ hId s.upd.header then Reply.err s stConflict 0
    else Reply.ok s.updDiscard

/-- UPD_INFO (0x0A08). -/
def opUpdInfo : OpSpec where
  opcode := 0x0A08
  classes := [clNormal]
  bits := allBits 1
  need := fun _ => 1
  body := fun c s =>
    if 1 < c.arg 0 1 then Reply.range s 0
    else
      let cs := (sortComps (s.upd.slots.getD (c.arg 0 1) {}).comps).take 22
      Reply.ok s (leBytes 1 cs.length ++ List.replicate 3 0 ++
        cs.flatMap fun x => leBytes 4 x.num ++ leBytes 4 x.ver ++ leBytes 4 x.data.length ++ padTo 32 x.digest)

def execUpdBegin (m : Fin 17) (fate : Fate) (s : State) : Out := s.finish (s.runRow opUpdBegin m fate)
def execUpdBillet (m : Fin 17) (fate : Fate) (s : State) : Out := s.finish (s.runRow opUpdBillet m fate)
def execUpdStatus (m : Fin 17) (fate : Fate) (s : State) : Out := s.finish (s.runRow opUpdStatus m fate)
def execUpdActivate (m : Fin 17) (fate : Fate) (s : State) : Out := s.finish (s.runRow opUpdActivate m fate)
def execUpdConfirm (m : Fin 17) (fate : Fate) (s : State) : Out := s.finish (s.runRow opUpdConfirm m fate)
def execUpdReject (m : Fin 17) (fate : Fate) (s : State) : Out := s.finish (s.runRow opUpdReject m fate)
def execUpdAbort (m : Fin 17) (fate : Fate) (s : State) : Out := s.finish (s.runRow opUpdAbort m fate)
def execUpdInfo (m : Fin 17) (fate : Fate) (s : State) : Out := s.finish (s.runRow opUpdInfo m fate)
/-- TRIAL_WINDOW_EXPIRY: WINDOW seconds after TSTART (R428). -/
def State.windowExpiry (s : State) : State :=
  if s.onTrial then (s.advance ((s.boot.tstart + s.boot.window) * 1000000000)).trialFail 1 else s

def execTrialWindowExpiry (s : State) : Out := s.finish s.windowExpiry

end Sys2Proof.Machine
end

