-- ==== Sys2Proof/Machine/RecorderCmd.lean ====
section
/-! DEFINITION. The incident recorder's flush, export, snapshots and commands, and the diagnostic totals (R436-R449 of
16_incidents.md). -/

namespace Sys2Proof.Machine

def State.modInc (s : State) (f : Recorder → Recorder) : State := s.onInc f

/-- SOURCE of partition p (R436). -/
def srcPart (p : Nat) : Nat := 512 + p

/-- Entries of each area of the record store (R440). -/
def alarmCap : Nat := 4194304
def generalCap : Nat := 12582912

/-- An entry put into a list in SEQ order. -/
def insEntry (e : IncEntry) : List IncEntry → List IncEntry
  | [] => [e]
  | x :: t => if e.seq ≤ x.seq then e :: x :: t else x :: insEntry e t

def sortEntries (l : List IncEntry) : List IncEntry := l.foldr insEntry []

/-- An area after entries come in: its list, its place, whether it wrapped. -/
def areaAdd (cap : Nat) (area new : List IncEntry) (pos : Nat) : List IncEntry × Nat × Bool :=
  let l := area ++ new
  (l.drop (l.length - cap), (pos + new.length) % cap, decide (cap ≤ pos + new.length))

/-- INC_FLUSH (R440): every pending entry reaches the store, in SEQ order within each class, and is freed. -/
def State.incFlush (s : State) : State :=
  let r := s.inc
  let al := sortEntries (r.ring.filter fun e => e.cls = clsAlarm)
  let ge := sortEntries (r.ring.filter fun e => e.cls ≠ clsAlarm)
  let (a, ap, aw) := areaAdd alarmCap r.alarmArea al r.alarmPos
  let (g, gp, gw) := areaAdd generalCap r.generalArea ge r.generalPos
  let s1 := (s.each r.ring State.incFreed).modInc fun r =>
    { r with ring := [], alarmArea := a, alarmPos := ap, generalArea := g, generalPos := gp }
  s1.incFill.raises ((if aw then [(468, .sys, [0])] else []) ++ (if gw then [(468, .sys, [1])] else []))

/-- FREEZE_END (R444, R445): the window ends POST after the trigger instant; its snapshot waits for the flush. -/
def State.freezeEnd (s : State) : State :=
  match s.inc.freeze with
  | none => s
  | some f =>
    ((s.advance (s.clk.when (f.ttr + f.post))).modInc fun r => { r with freeze := none, toWrite := r.toWrite ++ [f] }).wr R.INR_FREEZE_ACTIVE 0

/-- A freeze that a reset cut is completed by the next start (R445). -/
def State.freezeResume (s : State) : State :=
  match s.inc.freeze with
  | none => s
  | some f => s.modInc fun r => { r with freeze := none, toWrite := r.toWrite ++ [{ f with cut := true }] }

/-- The distance of an entry's TIME from an instant. -/
def timeFrom (t : Nat) (e : IncEntry) : Nat := if e.time ≤ t then t - e.time else e.time - t

/-- An entry put into a list by its distance from an instant. -/
def insNear (t : Nat) (e : IncEntry) : List IncEntry → List IncEntry
  | [] => [e]
  | x :: l => if timeFrom t e ≤ timeFrom t x then e :: x :: l else x :: insNear t e l

/-- The n entries nearest to an instant, in SEQ order. -/
def nearest (t n : Nat) (l : List IncEntry) : List IncEntry := sortEntries ((l.foldr (insNear t) []).take n)

/-- The entries of a snapshot (R444): all ALARM first; more than 262,144 keep every ALARM, then LOG, then TRACE nearest ttr. -/
def snapEntries (r : Recorder) (f : Freeze) : List IncEntry :=
  let win := (r.alarmArea ++ r.generalArea).filter fun e => decide (f.ttr ≤ e.time + f.pre ∧ e.time ≤ f.ttr + f.post)
  let al := win.filter fun e => e.cls = clsAlarm
  if win.length ≤ 262144 then al ++ win.filter fun e => e.cls ≠ clsAlarm
  else
    let lg := win.filter fun e => e.cls = clsLog
    let al1 := al.take 262144
    let lg1 := nearest f.ttr (262144 - al1.length) lg
    al1 ++ lg1 ++ nearest f.ttr (262144 - al1.length - lg1.length) (win.filter fun e => e.cls = clsTrace)

/-- SNAPSHOT_WRITE (R444): once every entry of the window has been flushed. -/
def State.snapshotWrite (s : State) : State :=
  match s.inc.toWrite with
  | [] => s
  | f :: rest =>
    if s.inc.ring.any fun e => e.time ≤ f.ttr + f.post then s
    else
      let es := snapEntries s.inc f
      let k := s.inc.nextSlot
      let s1 := s.modInc fun r =>
        { r with toWrite := rest, nextSlot := (k + 1) % 8
                 slots := updAt r.slots k fun _ => some { ttr := f.ttr, pre := f.pre, post := f.post, entries := es, drops := f.drops, incomplete := f.cut } }
      (s1.wr R.INR_FREEZE_SLOT k).raise 467 .sys (leBytes 1 k ++ leBytes 4 es.length)

/-- The 64 bytes of an entry (R438). -/
def IncEntry.bytes (e : IncEntry) : List Byte :=
  leBytes 4 e.seq ++ leBytes 2 e.source ++ leBytes 1 (e.cls + 4 * b2n e.merged + 8 * b2n e.mixed) ++ leBytes 1 e.code ++ leBytes 4 e.frame ++
  leBytes 8 e.time ++ padTo 16 e.data0 ++
  (if e.merged then leBytes 4 e.count ++ leBytes 8 e.lastTime ++ leBytes 4 e.lastFrame ++ List.replicate 12 0 else padTo 28 e.data1)

/-- INC_EXPORT_SKIP, at most once per turn (R443). -/
def State.skipEvent (s : State) : State :=
  if s.inc.skipped = 0 ∨ s.inc.skipRaised then s
  else (s.modInc fun r => { r with skipRaised := true }).raise 469 .sys (leBytes 4 s.inc.skipped)

/-- The export bucket filled up to now: RATE kbit/s in 10^-6 bits per ns, up to 16 KiB (R443). -/
def State.bucketFill (s : State) (rate : Nat) : State :=
  s.modInc fun r => { r with bucket := min 131072000000 (r.bucket + (s.now - r.bucketAt) * rate), bucketAt := s.now }

/-- EXPORT_SEND (R443): a frame of 1 to 22 entries, ALARM before LOG before TRACE, from QP0. -/
def State.exportSend (s : State) : State :=
  match s.recBody recIncident with
  | none => s.skipEvent
  | some b =>
    let waits (c : Nat) : List IncEntry := if s.exports c then sortEntries (s.inc.ring.filter fun e => e.cls = c && !e.sent) else []
    let es := (waits clsAlarm ++ waits clsLog ++ waits clsTrace).take 22
    let s1 := s.skipEvent.bucketFill (le b 4 4)
    match es with
    | [] => s1
    | e0 :: _ =>
      let body := [1] ++ leBytes 1 (s.rd R.SUP_STRAP_ZONE) ++ leBytes 1 es.length ++ [0] ++ leBytes 4 e0.seq ++ es.flatMap IncEntry.bytes
      let pcp := le b 19 1
      let f : EthFrame := { dmac := beVal ((b.drop 8).take 6), smac := s.qpMac 0, tagged := true, vid := Fin.ofNat 4096 (le b 14 2),
                            pcp := Fin.ofNat 8 pcp, etype := Fin.ofNat 65536 (le b 16 2), len := max 64 (18 + body.length + 4), body := body }
      let cost := f.len * 8000000
      if s1.inc.bucket < cost then s1
      else
        let qs := es.map IncEntry.seq
        let s2 := s1.modInc fun r =>
          { r with bucket := r.bucket - cost, ring := r.ring.map fun e => if qs.contains e.seq then { e with sent := true } else e }
        if s.isSet (R.ESW_Pp_CFG_EN (le b 18 1)) then s2.enqueue (le b 18 1) { frame := f, tc := pcp % 8, ingress := 17 } else s2

/-- The turn of the recorder: INC_EXPORT_SKIP for what the turn still holds, and a new count. -/
def State.incTurn (s : State) : State := s.skipEvent.modInc fun r => { r with skipped := 0, skipRaised := false }

/-- An entry of a partition (R436, R438). -/
def State.incPart (s : State) (p cls code : Nat) (data : List Byte) : State :=
  let e : IncEntry := { seq := 0, source := srcPart p, cls := cls, code := code, frame := s.frame, time := s.lc
                        data0 := padTo 16 data, data1 := padTo 28 (data.drop 16) }
  let (t, m) := s.incEnter e
  t.raises m

/-- Whether a partition may write entries of a class (R436). -/
def State.mayClass (s : State) (p cls : Nat) : Bool := decide (cls ≤ 2) && (decide (cls ≠ clsAlarm) || (s.part p).isSystem)

/-- INC_QUEUE_ENTRY (R449): the next OP 0x0050 descriptor of a queue with ENGINE 0x33; no completion. -/
def State.incQueue (s : State) (q : Nat) : State :=
  if s.rd (R.QMG_QnCFG_ENGINE q) ≠ 0x33 then s
  else
    let (s0, d) := s.qFront q
    match d, s.qOwner q with
    | some d, some p =>
      let s1 := s0.qTake q 1
      if le d 0 2 = 0x50 ∧ le d 10 2 = 0 ∧ s1.mayClass p (le d 8 1) then s1.incPart p (le d 8 1) (le d 9 1) ((d.drop 12).take 20) else s1
    | some _, none => s0.qTake q 1
    | none, _ => s0

/-- INC_LOG (0x0C01). The SEQ of an entry that was merged or dropped is not stated: a free value. -/
def opIncLog : OpSpec where
  opcode := 0x0C01
  classes := [clRt, clNormal]
  bits := fun _ i => if i = 2 ∨ i = 3 then 0 else 0xFF
  requester := fun _ c => if c.caller.isNone then some 0xFFFE else none
  grant := fun s c => match c.caller with
    | some p => if c.arg 0 1 = clsAlarm ∧ !(s.part p).isSystem then some 0xFFFE else none
    | none => some 0xFFFE
  need := fun _ => 4
  body := fun c s =>
    if 48 < c.len then Reply.range s 0xFFFF
    else if 2 < c.arg 0 1 then Reply.range s 0
    else
      let q := s.rd R.INR_SEQ_SEQ
      let s1 := s.incPart (c.caller.getD 0) (c.arg 0 1) (c.arg 1 1) (c.payload.drop 4)
      if s1.inc.ring.any fun e => e.seq = q then Reply.ok s1 (leBytes 4 q)
      else let (v, s2) := s1.fresh; Reply.ok s2 (leBytes 4 v.toNat)

/-- INC_STATUS (0x0C02). -/
def opIncStatus : OpSpec where
  opcode := 0x0C02
  classes := [clRt, clNormal]
  bits := allBits 0
  need := fun _ => 0
  body := fun _ s => Reply.ok s ((List.range 7).flatMap fun k => leBytes 4 (s.raw (R.INR_FILL + 4 * k)).toNat)

/-- Whether a caller may read an entry (R449): its source could be subscribed to, or is its own. The service port bridge
stands for the Forester, which receives every event. -/
def State.mayReadInc (s : State) (c : Ctx) (e : IncEntry) : Bool :=
  match c.caller with
  | some p => decide (e.source = srcPart p) || (decide (e.source < 512) && s.maySubscribe p e.source)
  | none => true

/-- INC_READ (0x0C03): from ring or store, in SEQ order. -/
def opIncRead : OpSpec where
  opcode := 0x0C03
  classes := [clNormal]
  bits := allBits 5
  need := fun _ => 5
  body := fun c s =>
    if c.arg 4 1 < 1 ∨ 15 < c.arg 4 1 then Reply.range s 4
    else
      let all := (s.inc.ring ++ s.inc.alarmArea ++ s.inc.generalArea).filter fun e => c.arg 0 4 ≤ e.seq && s.mayReadInc c e
      let es := (sortEntries all).take (c.arg 4 1)
      Reply.ok s (leBytes 1 es.length ++ [0, 0, 0] ++ es.flatMap IncEntry.bytes)

/-- INC_TRIGGER (0x0C04): SYSTEM only; CONFLICT while a freeze is in progress. -/
def opIncTrigger : OpSpec where
  opcode := 0x0C04
  classes := [clNormal]
  bits := allBits 0
  requester := fun s c => if s.callerSystem c then none else some 0xFFFE
  need := fun _ => 0
  body := fun _ s =>
    if s.isSet R.INR_FREEZE_ACTIVE then Reply.err s stConflict 0
    else
      let (t, m) := s.incTrigger
      Reply.ok (t.raises m) (leBytes 1 s.inc.slotNext)

/-- INC_DROPS (0x0C05). -/
def opIncDrops : OpSpec where
  opcode := 0x0C05
  classes := [clNormal]
  bits := allBits 3
  need := fun _ => 3
  body := fun c s =>
    if 528 < c.arg 0 2 then Reply.range s 0
    else if c.arg 2 1 < 1 ∨ 250 < c.arg 2 1 then Reply.range s 2
    else Reply.ok s ((List.range (c.arg 2 1)).flatMap fun i =>
      match s.inc.srcDrops.find? fun x => x.1 = c.arg 0 2 + i with
      | some x => leBytes 2 x.2.1 ++ leBytes 2 x.2.2
      | none => [0, 0, 0, 0])

/-! Diagnostic counters (R448). -/

/-- The counters by ID. -/
def diagCounters : List Fld :=
  [R.FRM_CNT_LGW_COUNT, R.FRM_CNT_LATE_COUNT, R.LGW_CNT_PEAK_COUNT, R.LGW_CNT_DROP_COUNT, R.LGW_CNT_MISFIT_COUNT, R.LGW_CNT_BADCTN_COUNT] ++
  ((List.range 6).flatMap fun g => [R.GWB_Lg_CNT0_DISCARD g, R.GWB_Lg_CNT0_REPLAY g, R.GWB_Lg_CNT1_TIMEOUT g, R.GWB_Lg_CNT1_RETRY g,
    R.GWB_Lg_CNT2_SIDE g, R.GWB_Lg_CNT2_RETRAIN g]) ++
  [R.MEM_CE_CNT_SRAM, R.MEM_CE_CNT_DRAM, R.MEM_CE_CACHE_CACHE, R.MEM_UE_CNT_SRAM, R.MEM_UE_CNT_DRAM] ++
  ((List.range 8).flatMap fun k => [R.LSC_Pk_CNT_MISMATCH k, R.LSC_Pk_CNT_LOCKUP k]) ++
  [R.PAIR_CNT0_TAKEOVERS, R.PAIR_CNT0_YIELDS, R.PAIR_CNT1_MIRROR_TO, R.PAIR_CNT1_BADFRM] ++
  ((List.range 5).flatMap fun e => [R.KSU_CEi_CNT_DENY e, R.KSU_CEi_CNT_UNITS e]) ++
  ((List.range 64).flatMap fun n => [R.QMG_QnDROP_COUNT n, R.QMG_QnFULL_COUNT n]) ++
  [R.INR_DROP_TRACE_COUNT, R.INR_DROP_LOG_COUNT, R.INR_EXP_SKIP_COUNT]

/-- Whether a field clears on a read. -/
def isRc (f : Fld) : Bool :=
  match lookupReg f.addr with
  | some (r, _) => r.fields.any fun x => x.hi = f.hi && x.lo = f.lo && x.acc == .rc
  | none => false

/-- DIAG_COUNTER_SWEEP (R448): RC counters added and cleared, RO counters copied, LGW_CNT_PEAK's maximum kept. -/
def State.diagSweep (s : State) : State :=
  s.each diagCounters.zipIdx fun s x =>
    let v := s.rd x.1
    let f (t : Nat) : Nat := if x.2 = 2 then max t v else if isRc x.1 then (t + v) % 2 ^ 64 else v
    (s.modInc fun r => { r with totals := updAt r.totals x.2 f }).when (isRc x.1) fun s => s.wr x.1 0

/-- INC_DIAG_GET (0x0C06). -/
def opIncDiagGet : OpSpec where
  opcode := 0x0C06
  classes := [clNormal]
  bits := allBits 3
  need := fun _ => 3
  body := fun c s =>
    if 207 < c.arg 0 2 then Reply.range s 0
    else if c.arg 2 1 < 1 ∨ 126 < c.arg 2 1 ∨ 208 < c.arg 0 2 + c.arg 2 1 then Reply.range s 2
    else Reply.ok s ((List.range (c.arg 2 1)).flatMap fun i => leBytes 8 (s.inc.totals.getD (c.arg 0 2 + i) 0))

def execIncFlush (s : State) : Out := s.finish s.incFlush
def execFreezeEnd (s : State) : Out := s.finish s.freezeEnd
def execSnapshotWrite (s : State) : Out := s.finish s.snapshotWrite
def execExportSend (s : State) : Out := s.finish s.exportSend
def execIncQueueEntry (q : Fin 64) (s : State) : Out := s.finish (s.incQueue q)
def execIncLog (m : Fin 17) (fate : Fate) (s : State) : Out := s.finish (s.runRow opIncLog m fate)
def execIncStatus (m : Fin 17) (fate : Fate) (s : State) : Out := s.finish (s.runRow opIncStatus m fate)
def execIncRead (m : Fin 17) (fate : Fate) (s : State) : Out := s.finish (s.runRow opIncRead m fate)
def execIncTrigger (m : Fin 17) (fate : Fate) (s : State) : Out := s.finish (s.runRow opIncTrigger m fate)
def execIncDrops (m : Fin 17) (fate : Fate) (s : State) : Out := s.finish (s.runRow opIncDrops m fate)
def execIncDiagGet (m : Fin 17) (fate : Fate) (s : State) : Out := s.finish (s.runRow opIncDiagGet m fate)

end Sys2Proof.Machine
end

