-- ==== Sys2Proof/Machine/Sleep.lean ====
section
/-! DEFINITION. Wake detection, the sleep commit and the regulator-off (R191, R198, R200, R210-R212 of
07_tally_ring.md, R387). -/

namespace Sys2Proof.Machine

/-- Sources enabled, as a mask (R198): codes 0 and 1 always, 2 to 7 by WAKE_EN, 8 to 31 by TRXj_CTRL.WAKE_EN in
STANDBY or SLEEP; in Dormant only codes 0 and 1 (R465). -/
def State.wakeEnabled (s : State) (k : Nat) : Bool :=
  if k ≤ 1 then true
  else if s.mode = mdDormant then false
  else if k ≤ 7 then nbit (s.rd R.WAKE_EN_EN) (k - 2)
  else s.trxWakes (k - 8)

/-- The fraction of a second in 1/32,768 s. -/
def State.rtcFrac (s : State) : Nat := s.now % 1000000000 * 32768 / 1000000000

/-- The wake record latches the lowest code while it is armed (R200). -/
def State.wakeLatch (s : State) (code : Nat) (during : Bool) : State :=
  if !s.isSet R.WAKE_SRC_ARMED then s
  else (((((s.wr R.WAKE_SRC_SRC code).wrB R.WAKE_SRC_DURING_COMMIT during).wr R.WAKE_SRC_VALID 1).wr R.WAKE_SRC_ARMED 0).wr
    R.WAKE_TIME_S_SEC s.rtc).wr R.WAKE_TIME_F_FRAC s.rtcFrac

/-- The regulator switched on after Sleep or Listen, and Start-up (R466): the limb dies come out of reset, their transceivers
in STANDBY (R190). DEDUCED. -/
def State.regulatorOn (s : State) : State :=
  (s.trxReset.modSvr fun v => { v with regOn := true, offAt := none }).setMode mdStartup

/-- A wake in Sleep after the regulator-off (R212, R466): supplies return not before 10 ms after it. -/
def State.wakeUp (s : State) : State :=
  if s.mode ≠ mdSleep ∨ s.svr.regOn then s
  else
    let s1 := match s.svr.offAt with | some t => s.advance (t + 10000000) | none => s
    if s.svr.startOk then s1.regulatorOn else s1.setMode mdListen

/-- A wake in the commit window cancels the regulator-off (R212): a reset of Module reach for 1 ms. -/
def State.wakeCancel (s : State) : State :=
  match s.tly.commitAt with
  | none => s
  | some _ =>
    let s1 := ((s.wr R.WAKE_CMT_STAT_CANCELLED 1).bump R.WAKE_CNT_CANCEL).modTly fun t => { t with commitAt := none }
    s1.assertSrc rsSleep module

/-- Sleep being agreed is aborted by a wake (R207, R210, R212). -/
def State.wakeAbort (s : State) : State :=
  let s1 := s.trxRestore
  let s2 := s1.each ((List.range 4).filter fun i => (s.ring i).on && decide ((s.ring i).st = rsWait)) fun s i =>
    (s.ringAbort i 2 0xFF s.veto).ringSendAbort i
  if s.aloneWaits then (s2.modTly fun t => { t with localWait := none }).tlyEvent 213 0xFF ([2, 0xFF] ++ leBytes 2 s.veto)
  else s2

/-- The sources of a mask detected in one wake-domain cycle. For a transceiver it is wake activity (R191), for WAKE-IN a change of
the filtered level, which counts where EDGE selects it (R198, R199). -/
def State.sensed (s : State) (srcs : Nat) : State × List Nat :=
  let en := (maskIdx 32 srcs).filter s.wakeEnabled
  let c := (s.raw R.WAKE_IN_CFG).toNat
  let edge (k : Nat) : Bool :=
    let active := !s.tly.wakeIn.getD k false != nbit c (4 * k + 3)
    nbit c (4 * k + if active then 0 else 1)
  let hit := en.filter fun k => decide (k < 4 ∨ 8 ≤ k) || edge (k - 4)
  let s1 := s.each (en.filter (8 ≤ ·)) fun s k => s.trxWake (k - 8)
  (s1.modTly fun t => { t with wakeIn := t.wakeIn.zipIdx.map fun x => x.1 != nbit srcs (4 + x.2) }, hit)

/-- Detections in one wake-domain cycle (R200, R212). A detection at the regulator-off instant is before it. -/
def State.detect (s0 : State) (srcs : Nat) : State :=
  match s0.sensed srcs with
  | (s, []) => s
  | (s, k :: rest) =>
    let during := match s.tly.commitAt with | some t => decide (s.now ≤ t + 5000000) | none => false
    let s1 := ((k :: rest).foldl (fun s c => s.wr ⟨R.WAKE_PEND, c, c⟩ 1) s).wakeLatch k during
    let s2 := if s1.crownUp then (s1.each (k :: rest) fun s c => s.tlyEvent 218 0xFF [BitVec.ofNat 8 c]).wakeAbort else s1
    if during then s2.wakeCancel else s2.wakeUp

/-- TRX_WAKE_DETECT (R191). -/
def State.trxDetect (s : State) (j : Nat) : State := s.detect (2 ^ (8 + j))

/-- WAKE_IN_LEVEL_CHANGE (R199, R201, R208): the filtered level of WAKE-INk becomes `high`; an edge that EDGE selects is a
detection, and the veto of a held level follows. -/
def State.wakeInChange (s : State) (k : Nat) (high : Bool) : State :=
  if s.tly.wakeIn.getD k false = high then s
  else
    let t := s.detect (2 ^ (4 + k))
    t.when t.crownUp State.vetoCheck

/-- RTC_ALARM (R198, R214): a partition's alarm that has come is over, and the next is programmed. -/
def State.rtcAlarm (s : State) : State :=
  let t := s.rd R.WAKE_RTC_ALM_SEC
  if t = 0 then s
  else
    let s1 := (s.advance (t * 1000000000)).detect 4
    if s1.crownUp then
      (s1.modTly fun x => { x with alarms := x.alarms.map fun a => match a with | some v => if v ≤ s1.rtc then none else some v | none => none }).alarmProgram
    else s1

/-- The transceivers put into SLEEP for a commit (R210). -/
def State.sleepPrepare (s : State) : State :=
  let s1 := s.tlyEvent 214 0xFF
  let modes := (List.range 24).map fun j => s.raw (R.TRXj_CTRL j)
  let mask := le s.tally 88 4
  let s2 := s1.each (List.range 24) fun s j =>
    s.trxWrite j (BitVec.ofNat 32 (txSleep + 4 * b2n (s.tly.rings.any (fun r => r.on && r.seg == j) || nbit mask j)))
  s2.modTly fun t => { t with ready := some modes, localWait := none }

/-- SLEEP_WAIT_END (R207, R210, R387): ring g of the record, or the module's own sleep-wait for another number. The
reserve of a pair follows its lead's announcement. -/
def State.sleepWaitEnd (s0 : State) (g : Nat) : State :=
  let s := match (if g < 4 then (s0.ring g).waitFrom else s0.tly.localWait) with
    | some t => s0.advance (t + 1500000000)
    | none => s0
  if s.tly.ready.isSome then s
  else if g < 4 then
    (let r := s.ring g
     if !(r.on && decide (r.st = rsWait)) then s
     else if s.veto = 0 ∧ (s.tly.rings.all fun x => !x.on || decide (x.st = rsWait)) then s.sleepPrepare
     else (s.ringAbort g 2 0xFF s.veto).ringSendAbort g)
  else if s.veto = 0 ∧ (s.tly.localWait.isSome ∨ (s.mode = mdReserve ∧ s.pairU.sleepFlag)) then s.sleepPrepare
  else s

/-- SLEEP_COMMIT: the write of WAKE_CMT.COMMIT (R211). A refused one the Forester treats as a wake: ABORT on each segment in its
sleep-wait, and the transceivers return to their modes. -/
def State.sleepCommit (s : State) : State :=
  let awake := (List.range 24).any fun j => s.rd (R.TRXj_STAT_STATE j) ≠ txSleep
  let pend := s.isSet R.WAKE_PEND_PEND
  if awake || pend then
    let s1 := (s.when awake fun s => s.wr R.WAKE_CMT_STAT_REF_TRX 1).when pend fun s => s.wr R.WAKE_CMT_STAT_REF_PEND 1
    let s2 := s1.trxRestore.each ((List.range 4).filter fun i => (s.ring i).on && decide ((s.ring i).st = rsWait)) fun s i =>
      (s.ringAbort i 3 0xFF s.veto).ringSendAbort i
    if s.aloneWaits then
      (s2.modTly fun t => { t with localWait := none }).tlyEvent 213 0xFF ([3, 0xFF] ++ leBytes 2 s.veto)
    else s2
  else
    let s1 := ((s.wr R.WAKE_SRC_ARMED 1).wr R.WAKE_SRC_VALID 0).wr R.WAKE_SRC_DURING_COMMIT 0
    (s1.modTly fun t => { t with commitAt := some s.now }).assertAs rsSleep crown mdSleep

/-- REGULATOR_OFF (R211): 5 ms after the commit point only the wake domain stays powered. -/
def State.regulatorOff (s : State) : State :=
  match s.tly.commitAt with
  | none => s
  | some t =>
    let s0 := s.advance (t + 5000000)
    let s1 := (s0.powerOff.boleClear.bump R.WAKE_CNT_SLEEPS).wr R.SUP_MODE_MODE mdSleep
    let s2 := (s1.wr R.SUP_LAST_COLD 1).wr R.SUP_LAST_REACH 1
    (s2.modSvr fun v => { v with rel := 2, srcs := v.srcs.filter (fun x => x.1 ≠ rsSleep), regOn := false, offAt := some s0.now }).modTly fun x =>
      { x with commitAt := none }

def execWakeSourceDetect (srcs : Nat) (s : State) : Out := s.finish (s.detect srcs)
def execTrxWakeDetect (j : Fin 24) (s : State) : Out := s.finish (s.trxDetect j)
def execRtcAlarm (s : State) : Out := s.finish s.rtcAlarm
def execSleepWaitEnd (g : Fin 8) (s : State) : Out := s.finish (s.sleepWaitEnd g)
def execWakeInLevelChange (k : Fin 4) (high : Bool) (s : State) : Out := s.finish (s.wakeInChange k high)
def execRegulatorOff (s : State) : Out := s.finish s.regulatorOff

end Sys2Proof.Machine
end

