-- ==== Sys2Proof/Machine/Frame.lean ====
section
/-! DEFINITION. The frame boundary (R24-R33 of 01_architecture.md) and what every unit does at it, FRM_START, the HI
latches of FRM_NUM. -/

namespace Sys2Proof.Machine

/-! The grid. -/

/-- The instant of the next boundary, and the time since the last: boundaries lie where the local clock modulo 250 µs is
PHASE (R24), the first of them the next such instant (R37). -/
def State.nextBoundary (s : State) : Nat × Nat :=
  let from_ := if s.frm.first then s.frameLc else s.lc
  let t := max s.now (s.clk.when (from_ + (frameNs - (((from_ : Int) - s.rd R.FRM_PHASE_PHASE) % 250000).toNat)))
  (t, if s.frm.first then t - s.frm.last else frameNs)

/-- The frame number raised by one. -/
def State.numStep (s : State) : State := s.wr64 R.FRM_NUM_LO R.FRM_NUM_HI ((s.frame64 + 1) % 2 ^ 64)

/-- Time, slew, turn position and number of the frame that a boundary opens. The first boundary opens frame 0 and, at
whatever position, the first turn. DEDUCED. -/
def State.gridStep (s : State) (t : Nat) : State :=
  let s1 := if s.frm.first then s.numStep.slotStep else (s.takeSlot (s.slotAt (s.rd R.TMU_STAT_TOFS))).onFrm fun f => { f with newTurn := true }
  let s2 := (s1.onFrm fun f => { f with first := true, last := t }).slewFrame
  s2.modSvr fun v => { v with localFrom := if s2.srcAuto && decide (s2.rd R.FRM_STAT_SRC_ACT = 0) then some (v.localFrom.getD t) else none }

/-! Far dies and commits. -/

/-- A marker reaches a far die (R24, R99): its own boundaries end, and it latches what the frame just ended brought. -/
def State.markerAt (s : State) (g t : Nat) (obs : FrameObs) (tf : Nat) : State :=
  let s1 := s.modDie g fun x => { x with marker := t, localJ := 0 }
  if g < 2 then (s1.wr (R.LIMB_STAT_LOCAL_FRAME g) 0).limbPre g obs
  else (s1.wr (R.BOLE_STAT_LOCAL_FRAME (g - 2)) 0).bolePre (g - 2) obs tf

/-- Whether a boundary reaches a group's die. -/
def State.reaches (s : State) (g : Nat) : Bool := match groupLink g with | some l => s.linkOk l | none => true

/-- A COMMIT whose instant lies before a boundary (R28). -/
def Commit.dueAt (c : Commit) (t : Nat) : Bool := match c.instant with | some i => decide (i < t) | none => false

/-- A COMMIT that applies at a boundary: its instant has passed and every die it touches gets the marker, so that it
applies whole and never in part across two boundaries (R28, R29). -/
def State.applies (s : State) (t : Nat) (c : Commit) : Bool := c.dueAt t && c.groups.all s.reaches

/-- Commits whose instant has passed apply (R10, R28); the second part names the groups. -/
def State.applyCommits (s : State) (t : Nat) : State × List Nat :=
  let due := s.commits.filter (s.applies t)
  let s1 := s.each due fun s c =>
    (s.each c.snap fun s e => s.applyWord e.1 e.2).when (c.groups.contains 0x0560) fun s => s.applyTab c.tab
  let s2 := s1.onCommits fun l => l.filter fun c => !s.applies t c
  (s2.each (List.range 17) fun s m => s.refreshPending m, (due.flatMap fun c => c.groups).eraseDups)

/-- What new active values of groups on the crown die bring to their blocks; `old` are the words before. -/
def State.crownPosts (s : State) (old : Nat → Word) (gs : List Nat) : State :=
  s.each (sortNat gs) fun s g =>
    if 0x0400 ≤ g ∧ g < 0x0418 then s.canPost (g - 0x0400) old
    else if 0x0500 ≤ g ∧ g < 0x0515 then s.portPost (g - 0x0500) old
    else if 0x0520 ≤ g ∧ g < 0x0535 then s.gclPost (g - 0x0520)
    else if 0x0600 ≤ g ∧ g < 0x0640 then s.lgwPost old (g - 0x0600)
    else s

/-! What the boundary does on the crown die. -/

/-- Marks of "at most once per frame" cleared. -/
def State.frameMarks (s : State) : State :=
  ((((s.onQueues fun l => l.map fun q => { q with staleRaised := false }).modInc fun r => { r with dropRaised := [] }).modCpx fun c =>
    { c with ceRaised := [] }).canFrameMarks).modPair fun u => { u with served := s.now }

/-- SUP_VSUP, SUP_VM and SUP_TEMP (R468), and the temperature of the tables of R452. -/
def State.supLatch (s : State) (obs : FrameObs) : State :=
  let va := sat 0xFFFF (obs.studA / 10)
  let vb := sat 0xFFFF (obs.studB / 10)
  let s1 := ((s.wr R.SUP_VSUP_VA va).wr R.SUP_VSUP_VB vb).wr R.SUP_VM_VM (max va vb)
  let s2 := s1.wrB R.SUP_VM_OVER36 (decide (3600 < max va vb))
  (((s2.wr R.SUP_TEMP_PLATE (unsigned 8 obs.plate)).wr R.SUP_TEMP_CROWN (unsigned 8 obs.crown)).wr R.SUP_TEMP_BOLE (unsigned 8 obs.bole)).wr
    R.SUP_TEMP_LIMB (unsigned 8 obs.limb)

/-- The quality index of each port's link (R240). -/
def State.sqiLatch (s : State) (obs : FrameObs) : State := 
  s.each (obs.sqi.filter fun x => s.isSet (R.ESW_Pp_STAT_LINK x.1) && decide (x.1.val < 14 ∨ x.1.val = 16)) fun s x => s.wr (R.ESW_Pp_STAT_SQI x.1) x.2

/-- What a boundary that begins a turn adds (R25, R33). -/
def State.turnStart (s : State) (obs : FrameObs) : State :=
  if !s.frm.newTurn then s
  else (((((s.govPlate obs.plate).usedTurn).pairTurn).diagSweep).incTurn).landingTurn

/-- The units of the crown die at a boundary, once commits have applied; `old` is the state before them. -/
def State.crownBoundary (s old : State) (gs : List Nat) (obs : FrameObs) : State :=
  let s1 := ((s.lgwTurn.kerfBoundary old gs).crownPosts old.raw gs).frameMarks
  let s2 := (((s1.sqiLatch obs).ethBoundary).gwbBoundary).lgwBoundary
  let s3 := ((s2.supLatch obs).pairClear.turnStart obs).ckptSend.each ((List.range 17).map (· + 24)) fun s u => s.gateRefresh u
  ((s3.replayDrain.ageRefresh.intrRefresh).vetoCheck).degr

/-- One frame boundary at its instant (R24-R28). -/
def State.boundary (s : State) (obs : FrameObs) (t tf : Nat) : State :=
  let s1 := (s.advance t).gridStep t
  let linked := (List.range 6).filter s1.linkOk
  let s2 := s1.each linked fun s g => s.markerAt g t obs tf
  let (s3, gs) := s2.applyCommits t
  let s4 := s3.each linked fun s g => if g < 2 then s.limbPost g gs else s.bolePost (g - 2) gs
  (s4.crownBoundary s2 gs obs).mirrorPins

/-- What follows a command of R469 when its 1 ms is over: SWR of a reach, or Dormant (3): only the wake domain stays powered (R465). -/
def State.swrFire (s : State) (w what : Nat) : State :=
  let s1 := s.advance w
  if what ≤ crown then s1.assertSrc rsSwr what
  else
    let was := s1.mode
    let s2 := s1.powerOff.boleClear.modSvr fun v => { v with rel := 2, regOn := false, startOk := false, swr := none, offAt := some w }
    (s2.wr R.SUP_MODE_MODE was).setMode mdDormant

/-- FRAME_BOUNDARY. Without a running generator there is none. -/
def State.frameBoundary (s : State) (obs : FrameObs) : State :=
  if !s.isSet R.FRM_STAT_RUN then s
  else
    let b := s.nextBoundary
    match s.svr.swr with
    | some (w, reach) => if w ≤ b.1 then s.swrFire w reach else s.boundary obs b.1 b.2
    | none => s.boundary obs b.1 b.2

/-- Time passes on an empty queue: one ns. -/
def State.idle (s : State) : State :=
  let t := s.now + 1
  match s.svr.swr with
  | some (w, reach) => if w ≤ t then s.swrFire w reach else s.advance t
  | none => s.advance t

/-- FRM_CTRL.START (R37): ignored while the generator runs. -/
def State.frmStart (s : State) : State :=
  if s.isSet R.FRM_STAT_RUN then s
  else ((s.wr R.FRM_STAT_RUN 1).wr64 R.FRM_NUM_LO R.FRM_NUM_HI 0).onFrm fun f => { f with first := false, slotFix := none }

/-- The HI latch of a requester (R37): P0-P15 for RQC 0 and 2, the Forester, the debug port, all others. -/
def latchOf (a : Attr) : Nat := if a.isPart then a.pid else if a.isForester then 16 else if a.isDebug then 17 else 18

/-- A read of FRM_NUM_LO: the requester's latch takes HI. -/
def State.numLatch (s : State) (a : Attr) : State :=
  (s.onFrm fun f => { f with hiLatch := updAt f.hiLatch (latchOf a) fun _ => s.raw R.FRM_NUM_HI }).respondBus (s.raw R.FRM_NUM_LO)

/-- FRM_START. -/
def execFrmStart (a : Attr) (s : State) : Out := s.finish (s.access a R.FRM_CTRL true State.frmStart)
def execFrmNumLoRead (a : Attr) (s : State) : Out := s.finish (s.access a R.FRM_NUM_LO false fun s => s.numLatch a)
def execFrameBoundary (obs : FrameObs) (s : State) : Out := s.finish (s.frameBoundary obs)

/-- BOLE_ADOPT (R101), a write of the Forester alone: in Service and Reserve mode the outputs that are not the lease's stay off after it (R379, R465). -/
def State.adopted (s : State) : State :=
  if s.mode = mdService then s.outputsOff false else if s.mode = mdReserve then s.outputsOff true else s

end Sys2Proof.Machine
end

