-- ==== Sys2Proof/Machine/Supervisor.lean ====
section
/-! DEFINITION. The supervisor (17_supervisor.md): thresholds, reset sources, block resets, the Forester watchdog, clock
failures, and the supervisor's commands. Start-up is in Machine/Startup.lean. -/

namespace Sys2Proof.Machine

/-! Supply thresholds (R451, R452). -/

/-- An event of block 0 (R470), raised by the Forester. -/
def State.supRaise (s : State) (e : Nat) (o : Owner) (p : List Byte) : State := if s.crownUp then s.raise e o p else s

/-- BOR_ASSERT: Module reach; below the hold threshold the hold latches go too, and the regulator waits for a new start condition. -/
def State.borAssert (s : State) : State :=
  let s1 := s.assertSrc rsBor module
  (if s.svr.belowHold then s1.boleClear else s1).extLow.modSvr fun v => { v with startOk := false, regOn := false }

/-- HOLD_THRESHOLD: VM below 5.0 V; the latches are cleared if a BOR is asserted. -/
def State.holdThreshold (s : State) : State :=
  let s1 := s.modSvr fun v => { v with belowHold := true }
  if s.isAsserted rsBor then s1.boleClear else s1

/-- START_CONDITION: it is not met while RESET-IN or a supply source is asserted, or in a hold-off; the regulator switches on from Listen. -/
def State.startCondition (s : State) : State :=
  if s.isAsserted rsPor || s.isAsserted rsBor || s.isAsserted rsPin || s.svr.holdEnd.isSome then s
  else
    let s1 := (s.modSvr fun v => { v with startOk := true }).wr R.SUP_VM_START_OK 1
    if s.mode = mdSleep ∨ s.mode = mdDormant ∨ (s.svr.regOn ∧ s.mode ≠ mdListen) then s1 else s1.regulatorOn

/-- Loss of a stud (true: BAT-B), and its return: an event of its change. -/
def State.studLoss (s : State) (b lost : Bool) : State :=
  if (if b then s.svr.lossB else s.svr.lossA) = lost then s
  else
  let s1 := s.modSvr fun v => if b then { v with lossB := lost } else { v with lossA := lost }
  let s2 := s1.wrB (if b then R.SUP_VM_LOSS_B else R.SUP_VM_LOSS_A) lost
  (s2.supRaise (if lost then 4 else 5) .sys (leBytes 1 (b2n b))).degr

/-- The extended range entered or left: an event of its change. -/
def State.extRange (s : State) (v : Bool) : State :=
  if s.svr.ext = v then s
  else
  let s1 := (s.modSvr fun x => { x with ext := v }).wrB R.SUP_VM_EXT v
  (s1.supRaise (if v then 2 else 3) .sys (leBytes 2 (s.rd R.SUP_VM_VM))).degr

/-- THERMAL_THRESHOLD: THERMAL above 105 °C plate or at 120 °C crown, until 100 °C and 115 °C; at 135 °C every partition stops. -/
def State.thermal (s : State) (plate crownT : Int) : State :=
  let set := decide (105 < plate ∨ 120 ≤ crownT)
  let clr := decide (plate ≤ 100 ∧ crownT ≤ 115)
  let hot := set || (s.svr.hot && !clr)
  let cut := decide (135 ≤ crownT) || (s.svr.cut && decide (115 < crownT))
  let s1 := (s.wr R.SUP_TEMP_PLATE (unsigned 8 plate)).wr R.SUP_TEMP_CROWN (unsigned 8 crownT)
  let s2 := s1.modSvr fun v => { v with hot := hot, cut := cut }
  let p := leBytes 1 (unsigned 8 plate) ++ leBytes 1 (unsigned 8 crownT)
  let newCut := cut && !s.svr.cut
  let s3 := s2.when ((hot && !s.svr.hot) || newCut) fun s => s.supRaise 6 .pub (p ++ leBytes 1 (b2n newCut))
  let s4 := s3.when (!hot && s.svr.hot) fun s => s.supRaise 7 .sys p
  (s4.when (newCut && s.crownUp) State.stopParts).degr

/-! Clock (R453). -/

/-- Whether the crown runs from the TCXO: after a failure, and with CLKM 0b00 or 0b11. -/
def State.onTcxo (s : State) : Bool := s.svr.fallback || decide (s.rd R.SUP_STRAP_CLKM = 0 ∨ s.rd R.SUP_STRAP_CLKM = 3)

/-- CLOCK_FAILURE: CLKF of Crown reach, and the TCXO from the following start on. -/
def State.clockFailure (s : State) : State :=
  let s1 := (s.bump R.SUP_CLK_CLKF).assertSrc rsClkf crown
  s1.modSvr fun v => { v with fallback := true, tcxoBad := s.onTcxo }

/-- CLOCK_RECHECK: L0 checks a TCXO that failed every 100 ms. -/
def State.clockRecheck (s : State) (ok : Bool) : State :=
  if s.svr.tcxoBad && ok then (s.modSvr fun v => { v with tcxoBad := false }).releaseSrc rsClkf else s

/-! Reset sources (R455). -/

/-- PIN_RESET: RESET-IN is wake source code 1 as well. -/
def State.pinReset (s : State) : State :=
  ((s.detect 2).assertSrc rsPin module).modSvr fun v => { v with startOk := false }

/-- RESET_IN_LONG: low for more than 10 ms, the regulator switches off. -/
def State.pinLong (s : State) : State :=
  if s.isAsserted rsPin then (s.extLow.modSvr fun v => { v with regOn := false }).setMode mdListen else s

/-- RESET_SOURCE_RELEASE: the assertion time of a source that is an event is over. -/
def State.sourceRelease (s : State) (src : Nat) : State :=
  let reach := (s.svr.srcs.find? fun x => x.1 = src).map (·.2)
  if src = rsWdg ∨ src = rsSwr ∨ src = rsLockup ∨ (src = rsClkf ∧ !s.svr.tcxoBad) ∨ (src = rsSleep ∧ reach = some module) then s.releaseSrc src else s

/-- SUP_SWR: REACH is kept, GO asserts SWR. -/
def State.swrGo (s : State) (val : Word) : State :=
  let s1 := s.wr R.SUP_SWR_REACH (bitsOf val 1 1)
  if val.getLsbD 0 then s1.assertSrc rsSwr (if val.getLsbD 1 then module else crown) else s1

/-- SUP_BLKRST_CAN: the controllers of a mask, as at a crown reset (R189). -/
def State.rstCan (s : State) (mask : Nat) : State :=
  s.each (maskIdx 24 mask) fun s n =>
    ((((s.clearRegs fun a => decide (0x20100000 + n * 0x1000 ≤ a ∧ a < 0x20100000 + (n + 1) * 0x1000)).modCan n fun _ => {}).trxUnblock n).dropGroups
      fun g => g == 0x0400 + n || g == 0x0420 + n).votesOn [n]

/-- SUP_BLKRST.CRYPTO: the job in progress of an engine completes with INTERNAL, and its votes are ON again (R325). -/
def State.rstCrypto (s : State) (mask : Nat) : State :=
  (s.each (maskIdx 5 mask) fun s e => s.votesOn [41 + e]).each (maskIdx 5 mask) fun s e =>
    match s.sec.serving.getD e none with
    | none => s
    | some v =>
      match s.jobOf v with
      | none => (s.freeEngine e).dispatchUnits
      | some j => ((((s.freeEngine e).dropJob v).jobCpl j.queue j.desc stInternal 0).when j.dead State.settleSlots).dispatchUnits

/-- SUP_BLKRST.INR: the recorder's logic; what the ring holds stays, with its fill and SEQ. -/
def State.rstInr (s : State) : State :=
  let q := s.rd R.INR_SEQ_SEQ
  let s1 := (s.clearBlks fun b => b == .inr).wr R.INR_SEQ_SEQ q
  (s1.modInc fun r => { r with freeze := none, toWrite := [], dropRaised := [], mergeRaised := false, srcDrops := [] }).incFill

/-- SUP_BLKRST.ESW: every port goes down, the configuration takes its reset values. -/
def State.rstEsw (s : State) : State :=
  let s1 := s.each (List.range 17) fun s p => if s.isSet (R.ESW_Pp_STAT_LINK p) then s.ethEvent 161 p else s
  (((s1.clearBlks fun b => b == .esw || b == .qp).onEth fun _ => {}).dropGroups fun g => decide (0x0500 ≤ g ∧ g < 0x0600)).votesOn
    ((List.range 17).map (24 + ·))

/-- SUP_BLKRST.LGW: Landing cleared as at a crown reset, its staged values with it (R263). -/
def State.rstLgw (s : State) : State := s.landingClear.dropGroups fun g => decide (0x0600 ≤ g ∧ g ≤ 0x0640)

/-! Forester watchdog (R462). -/

/-- Source WDG, of Module reach where the options in force say so. -/
def State.fwdgExpiry (s : State) : State :=
  if s.crownUp then s.assertSrc rsWdg (if s.svr.wdgReach then module else crown) else s

/-- FWDG_EXPIRY: PERIOD after the last kick. -/
def State.fwdgPeriodEnd (s : State) : State :=
  if s.crownUp then (s.advance (s.svr.kickAt + s.rd R.SUP_FWDG_PERIOD * 1000000)).fwdgExpiry else s

def State.fwdgKick (s : State) (val : Nat) : State :=
  if val % 65536 = 0x5AA5 then s.modSvr fun v => { v with kickAt := s.now } else s.fwdgExpiry

/-- SUP_FWDG.PERIOD: once per start, 10 to 1,000 ms. -/
def State.fwdgPeriod (s : State) (val : Nat) : State :=
  if s.svr.periodSet ∨ val < 10 ∨ 1000 < val then s
  else (s.wr R.SUP_FWDG_PERIOD val).modSvr fun v => { v with periodSet := true }

/-! Commands (R469). -/

/-- What Service mode holds (R465): no partition, outputs off, the island as in Safe Hold. -/
def State.service (s : State) : State :=
  let s1 := ((s.stopParts).setMode mdService).outputsOff false
  if s1.ilUp then (s1.ilQuiet.lockFns).wr R.SIL_STAT_HOLD 1 else s1.wr R.SIL_STAT_HOLD 1

/-- The end of a command's 1 ms (R469): 1 and 2 a reset of that reach, 3 Dormant. -/
def dormantCode : Nat := 3

/-- SYS_MODE_REQ (0x0140). -/
def opSysModeReq : OpSpec where
  opcode := 0x0140
  classes := [clNormal]
  bits := allBits 1
  requester := fun _ c => if c.mbx = forester then none else some 0xFFFE
  grant := fun _ c => if c.len ≠ 0 ∧ c.arg 0 1 ∈ [0, 4, 11] ∧ !c.isService then some 0xFFFE else none
  need := fun _ => 1
  body := fun c s =>
    let m := s.mode
    let after (what : Nat) : State := s.modSvr fun v => { v with swr := some (s.now + 1000000, what) }
    let r := s.role
    if c.arg 0 1 = 4 then
      if !(decide (m = mdLead ∨ m = mdDegraded ∨ m = mdReserve ∨ m = mdSafeHold)) || decide (r = roLead ∨ r = roTakeover ∨ r = roHanding) ||
          (decide (m = mdSafeHold) && s.sil.dead) then Reply.err s stConflict 0
      else Reply.ok (s.setMode mdCommission)
    else if c.arg 0 1 = 11 then Reply.ok s.service
    else if c.arg 0 1 = 3 then
      if m = mdCommission ∨ m = mdService then Reply.ok (after crown) else Reply.err s stConflict 0
    else if c.arg 0 1 = 0 then
      if m = mdService then Reply.ok (after dormantCode) else Reply.err s stConflict 0
    else Reply.range s 0

/-- SYS_OPT_WRITE (0x0141). -/
def opSysOptWrite : OpSpec where
  opcode := 0x0141
  classes := [clLong]
  bits := allBits 5
  requester := fun _ c => if c.isService then none else some 0xFFFE
  need := fun _ => 5
  body := fun c s =>
    if !s.sourceOk c (c.arg 0 5) 64 then Reply.range s 0
    else if s.mode ≠ mdCommission ∧ s.mode ≠ mdService then Reply.err s stConflict 0
    else Reply.accepted s

/-- The first field of an OPTIONS block out of its range (R459): its byte offset. -/
def optsBad (b : List Byte) : Option Nat :=
  if le b 4 1 ≠ 1 then some 4
  else if 16 < le b 5 1 then some 5
  else if le b 7 1 < 1 ∨ 7 < le b 7 1 then some 7
  else if le b 5 1 < le b 8 1 then some 8
  else if 1 < le b 9 1 then some 9
  else if 384 - 8 * le b 5 1 < le b 10 2 then some 10
  else if 3584 < le b 12 2 then some 12
  else ((List.range 46).find? fun i => le b (14 + i) 1 ≠ 0).map (14 + ·)

/-- The end of SYS_OPT_WRITE: both copies written under R76, with the next SEQ and CRC. -/
def State.optWriteDone (s : State) (l : LongCmd) (out : LongOut) : Nat × Nat × List Byte × State :=
  let b := s.sourceBytes l (le l.payload 0 5) 64
  match optsBad b with
  | some off => (stRange, off, [], s)
  | none =>
    let r := s.svr.opts
    let v := ([r.c0, r.c1].filter optsValid).map fun x => le x 0 4
    let n := if v.isEmpty then 1 else v.foldl max 0 + 1
    if n = 0xFFFFFFFF then (stRange, 0, [], s)
    else
      let h := leBytes 4 n ++ (padTo 60 b).drop 4
      let w := h ++ leBytes 4 (crc32c h)
      let c := if !optsValid r.c0 then 0 else if !optsValid r.c1 then 1 else if le r.c0 0 4 < le r.c1 0 4 then 0 else 1
      let put (r : Record) : State := s.modSvr fun x => { x with opts := r }
      match out with
      | .ok => (stOk, 0, leBytes 4 n, put ((r.setCopy c w).setCopy (1 - c) w))
      | .otherBad => (stOk, 0, leBytes 4 n, put ((r.setCopy c w).setCopy (1 - c) []))
      | .internal code => (stInternal, code, [], put (r.setCopy c []))

/-- SYS_RESET (0x0142). -/
def opSysReset : OpSpec where
  opcode := 0x0142
  classes := [clNormal]
  bits := allBits 1
  requester := fun s c => if s.mayAct c then none else some 0xFFFE
  need := fun _ => 1
  body := fun c s =>
    if c.arg 0 1 > 1 then Reply.range s 0
    else if s.longWith [0x0131, 0x0810, 0x0904, 0x0905, 0x0A04] then Reply.err s stConflict 0
    else Reply.ok (s.modSvr fun v => { v with swr := some (s.now + 1000000, if c.arg 0 1 = 1 then module else crown) })

/-- SYS_SUP_GET (0x0143): SUP_CAUSE to SUP_STARTS. -/
def opSysSupGet : OpSpec where
  opcode := 0x0143
  classes := [clRt, clNormal]
  bits := allBits 0
  need := fun _ => 0
  body := fun _ s => let t := s.intrRefresh; Reply.ok t (t.bytesAt R.SUP_CAUSE 56)

def execPorAssert (s : State) : Out := s.finish (s.assertSrc rsPor whole)
def execPorRelease (s : State) : Out := s.finish (s.releaseSrc rsPor)
def execHoldThreshold (s : State) : Out := s.finish s.holdThreshold
def execBorAssert (s : State) : Out := s.finish s.borAssert
def execBorRelease (s : State) : Out := s.finish ((s.releaseSrc rsBor).modSvr fun v => { v with belowHold := false })
def execStartCondition (s : State) : Out := s.finish s.startCondition
def execStudLossEnter (b : Bool) (s : State) : Out := s.finish (s.studLoss b true)
def execStudLossLeave (b : Bool) (s : State) : Out := s.finish (s.studLoss b false)
def execExtRangeEnter (s : State) : Out := s.finish (s.extRange true)
def execExtRangeLeave (s : State) : Out := s.finish (s.extRange false)
def execThermalThreshold (plate crown : Int) (s : State) : Out := s.finish (s.thermal plate crown)
def execClockFailure (s : State) : Out := s.finish s.clockFailure
def execClockRecheck (ok : Bool) (s : State) : Out := s.finish (s.clockRecheck ok)
def execPinReset (s : State) : Out := s.finish s.pinReset
def execPinRelease (s : State) : Out := s.finish (s.releaseSrc rsPin)
def execResetInLong (s : State) : Out := s.finish s.pinLong
def execResetSourceRelease (src : Fin 9) (s : State) : Out := s.finish (s.sourceRelease src)
def execSwrGo (a : Attr) (val : Word) (s : State) : Out := s.finish (s.access a R.SUP_SWR true fun s => s.swrGo val)
def execBlkrstCan (a : Attr) (mask : Nat) (s : State) : Out := s.finish (s.access a R.SUP_BLKRST_CAN true fun s => s.rstCan mask)
def execBlkrstCrypto (a : Attr) (mask : Nat) (s : State) : Out := s.finish (s.access a R.SUP_BLKRST true fun s => s.rstCrypto mask)
def execBlkrstInr (a : Attr) (s : State) : Out := s.finish (s.access a R.SUP_BLKRST true State.rstInr)
def execBlkrstLgw (a : Attr) (s : State) : Out := s.finish (s.access a R.SUP_BLKRST true State.rstLgw)
def execBlkrstEsw (a : Attr) (s : State) : Out := s.finish (s.access a R.SUP_BLKRST true State.rstEsw)
def execFwdgKick (a : Attr) (val : Nat) (s : State) : Out := s.finish (s.access a R.SUP_FWDG true fun s => s.fwdgKick val)
def execFwdgPeriodWrite (a : Attr) (val : Nat) (s : State) : Out := s.finish (s.access a R.SUP_FWDG true fun s => s.fwdgPeriod val)
def execFwdgExpiry (s : State) : Out := s.finish s.fwdgPeriodEnd
def execSysModeReq (m : Fin 17) (fate : Fate) (s : State) : Out := s.finish (s.runRow opSysModeReq m fate)
def execSysOptWrite (m : Fin 17) (fate : Fate) (s : State) : Out := s.finish (s.runRow opSysOptWrite m fate)
def execSysReset (m : Fin 17) (fate : Fate) (s : State) : Out := s.finish (s.runRow opSysReset m fate)
def execSysSupGet (m : Fin 17) (fate : Fate) (s : State) : Out := s.finish (s.runRow opSysSupGet m fate)

end Sys2Proof.Machine
end

