-- ==== Sys2Proof/Machine/Startup.lean ====
section
/-! DEFINITION. Start-up (R457-R467 of 17_supervisor.md, R393, R402, R405, R418, R419, R430, R431): the release of the
domains, the work of the boot ROM and the Forester, the mode decision, Update mode. -/

namespace Sys2Proof.Machine

/-! Steps 2 to 6 of R457. -/

/-- STRAP_SAMPLE (R461). -/
def State.strapSample (s : State) (straps : Nat) : State :=
  if !s.svr.strapDue then s
  else (s.setRaw R.SUP_STRAP (BitVec.ofNat 32 straps &&& 0x1F3)).modSvr fun v => { v with strapDue := false, strapNew := true, fallback := false }

/-- The next step of the release. -/
def State.toStep (s : State) (n : Nat) : State := s.modSvr fun v => { v with rel := n }

/-- Step 2: start condition, regulator, reference and limb trim; the links then train. -/
def State.limbStep (s : State) (obs : StartObs) : State :=
  if !s.svr.startOk || !s.svr.regOn then s
  else
    let s1 := s.strapSample obs.straps
    if !(if s1.onTcxo then obs.tcxoOk else obs.refOk) then s1.clockFailure
    else if !obs.trimOk then s1.interrupted
    else
      let s2 := if s1.mode = mdListen then s1.setMode mdStartup else s1
      (s2.each (List.range 6) fun s g => (s.wr (R.GWB_Lg_STAT_TRAINING g) 1).modGwb g fun x => { x with fails := 0 }).toStep 3

/-- Step 3: every link up, or failed three times. -/
def State.linksReady (s : State) : Bool := (List.range 6).all fun g => s.isSet (R.GWB_Lg_STAT_UP g) || decide (3 ≤ (s.gwb g).fails)

/-- Step 4: each microsequencer runs, or waits for its code. -/
def State.bolesReady (s : State) : Bool := (List.range 4).all fun d => s.isSet (R.BOLE_STAT_SEQ_RUN d) || (s.upd.ucode.getD d []).isEmpty

/-- The OPTIONS copy that R459 selects: none where both are invalid. -/
def State.optsPick (s : State) : Option Nat :=
  let r := s.svr.opts
  match optsValid r.c0, optsValid r.c1 with
  | true, true => some (if le r.c0 0 4 < le r.c1 0 4 then 1 else 0)
  | true, false => some 0
  | false, true => some 1
  | false, false => none

/-- The defaults of R459. -/
def optsDefault : List Byte := padTo 64 (leBytes 4 0 ++ [1, 0, 0, 4])

/-- The option fields applied (R300, R284, R322, R323, R455, R460). -/
def State.optsApply (s : State) : State :=
  let pick := s.optsPick
  let b := match pick with | some c => s.svr.opts.copy c | none => optsDefault
  let s1 := ((s.wr R.SUP_OPT_COPY (pick.getD 2)).wrB R.SUP_OPT_SPLIT (optsSplit s.svr.opts)).wrB R.SUP_OPT_DEFAULTS pick.isNone
  let s2 := (s1.each (List.range 8) fun s k => s.wrB (R.LSC_Pk_CFG_SPLIT k) (nbit (le b 6 1) k)).wr R.MEM_SC_CFG_WAYS (le b 5 1)
  let s3 := (((s2.wr R.KSU_WM_L2HW (le b 7 1)).wr R.KSU_WM_SCHW (le b 8 1)).wr R.KSU_WM_WM_SRAM (le b 10 2)).wr R.KSU_WM_WM_DRAM (le b 12 2)
  s3.modSvr fun v => { v with wdgReach := nbit (le b 9 1) 0, opts := { v.opts with used := pick } }

/-- Step 5: crown trim and options applied; the local clock is set from the RTC (R231), the supervisor's mirrors from L0. -/
def State.fabricStep (s : State) (obs : StartObs) : State :=
  if !obs.trimOk then s.interrupted
  else
    let v := s.svr
    let s1 := s.optsApply.onClk fun _ => Clock.set s.now (s.rtc * 1000000000)
    let s2 := (((s1.wrB R.SUP_VM_START_OK v.startOk).wrB R.SUP_VM_LOSS_A v.lossA).wrB R.SUP_VM_LOSS_B v.lossB).wrB R.SUP_VM_EXT v.ext
    ((s2.wr R.SUP_CLK_SRC (if s.onTcxo then 0 else s.rd R.SUP_STRAP_CLKM)).wrB R.SUP_CLK_FALLBACK v.fallback).toStep 6

/-- Step 6: the Forester pair's start-up test (R299), whose end START_TEST_DONE brings. -/
def State.foresterStep (s : State) : State :=
  if s.pairState 8 = psRun then s.toStep 7 else if s.pairState 8 = psTesting then s else s.startPair 8

/-! The boot ROM and the Forester's start (R463). -/

/-- What BOOT asks of this start (R461). -/
def State.bootAct (s : State) : Nat := if s.isSet R.SUP_STRAP_BOOT_USED then 0 else s.rd R.SUP_STRAP_BOOT

/-- A START entry (R438), before any other entry. -/
def State.startEntry (s : State) : State :=
  s.incInternal 1 clsAlarm (leBytes 2 (s.rd R.SUP_CAUSE_SRC) ++ [0, 0] ++ leBytes 4 (s.raw R.WAKE_SRC).toNat)

/-- ROOT_RECONSTRUCT (R393, R394); the DRBG is seeded with it. -/
def State.rootStep (s : State) (ok : Bool) : State :=
  let s1 := s.wr R.KSU_STAT_DRBG_OK 1
  if s.lcs = 0 then s1 else if ok then s1.wr R.KSU_STAT_ROOT_OK 1 else (s1.wr R.KSU_STAT_ROOT_FAIL 1).raise 128 .sys

/-- A torn life-cycle word completed, and the first start in a new state: the key directory erased (R405). -/
def State.lcStep (s : State) : State :=
  let torn := s.sec.words.findIdx? (· = 2)
  let s1 := match torn with
    | some i => ((s.modSec fun x => { x with words := x.words.map fun w => if w = 2 then 1 else w }).wr R.KSU_LCS_TORN 1).raise 136 .sys (leBytes 1 i)
    | none => s
  if s1.sec.lcSeen = s1.lcs then s1
  else
    let p := leBytes 1 s1.sec.lcSeen ++ leBytes 1 s1.lcs
    ((s1.modSec fun x => { x with dir := [], lcSeen := s1.lcs }).raise 135 .pub p).incInternal 4 clsAlarm p

/-- The boot record carried into the present life-cycle state (R418): under the keys of earlier states, the most recent first. -/
def State.bootCarry (s : State) : State :=
  if s.bootRec.isSome then s
  else match (List.range s.lcs).reverse.findSome? s.bootUnder with
  | some x => let b := { x with seq := x.seq + 1, lcs := s.lcs }
              s.modUpd fun u => { u with b0 := some b, b1 := some b }
  | none => (s.modSvr fun v => { v with bootBad := true }).raise 458 s.updOwner

/-- Whether a component's bytes meet its digest (R417). -/
def Comp.good (c : Comp) : Bool := padTo 32 (Config.sha256 c.data) == padTo 32 c.digest

/-- What is bad in a slot: 0 its directory, 1 the Forester's digest. -/
def State.slotFault (s : State) (c : Nat) : Option Nat :=
  if !(s.upd.slots.getD c {}).ok then some 0
  else match s.comp c 1 with
  | some x => if x.good then none else some 1
  | none => some 1

/-- The slot that the boot record asks for, with what that writes (R419); a trial of another kind fails (R428). -/
def State.slotWanted (s : State) : State × Nat :=
  let b := s.boot
  let other := 1 - b.active
  if s.bootRec.isNone then (s, 0)
  else if s.svr.boot = 1 then (s, other)
  else if b.kind = tkCrown ∧ b.trial = trPending then (s.writeBoot fun b => { b with trial := trRunning, starts := 1 }, other)
  else if b.kind = tkCrown ∧ b.trial = trRunning then
    if s.svr.lastSrc.contains rsWdg || s.svr.lastSrc.contains rsLockup || decide (s.raw R.LSC_FATAL ≠ 0) then (s.trialLost 0, b.active)
    else if b.starts = 3 then (s.trialLost 3, b.active)
    else (s.writeBoot fun b => { b with starts := b.starts + 1 }, other)
  else if s.onTrial then (s.trialLost 0, b.active)
  else (s, b.active)

/-- BOOT_SLOT_SELECT (R419): the other slot starts where the Forester of the chosen one is bad. -/
def State.slotSelect (s : State) : State :=
  let (s1, c) := s.slotWanted
  let run (s : State) (c : Nat) : State :=
    (s.modUpd fun u => { u with running := c }).onFwVersion fun _ => match s.comp c 1 with | some x => x.ver | none => 0
  match s1.slotFault c with
  | none => run s1 c
  | some why =>
    let s2 := s1.raise 455 .pub (leBytes 1 c ++ leBytes 1 why)
    if (s1.slotFault (1 - c)).isSome then run (s2.modSvr fun v => { v with bootBad := true }) c
    else
      let s3 := if s2.onTrial || decide (s2.svr.boot = 1) then s2 else s2.writeBoot fun b => { b with active := 1 - c }
      run s3 (1 - c)

/-- RECORD_SELECT of every record (R77), and migration copies (R430): created at the first start of a CROWN trial, used while
a trial runs, promoted after a confirmation, erased after a failure. -/
def State.recordStep (s : State) : State :=
  let s1 := s.each (List.range 11) fun s t => s.recordSelect t
  let b := s1.boot
  if b.trial = trRunning then (s1.when (decide (b.kind = tkCrown ∧ b.comp = 1 ∧ b.starts = 1)) State.migrCreate).migrUse
  else if b.trial = trFailed then s1.migrErase
  else if b.trial = trNone then s1.migrPromote
  else s1

/-- The microcode component of die i (R416, R431). -/
def ucodeComp (i : Nat) : Nat := if i < 4 then 3 else if i < 6 then 4 else 5

/-- One microcode RAM reloaded; its duration is left open. A limb die samples no pin meanwhile, and the values of the frames affected
are not valid. -/
def State.ucodeLoad (s : State) (i : Nat) (digest : List Byte) : State :=
  let s1 := s.modUpd fun u => { u with ucode := updAt u.ucode i fun _ => digest }
  let s2 := if i < 4 then (s1.seqStop i).seqResume i
    else if i < 6 then s1.each (List.range 48) fun s p => s.wr (R.UIOp_VAL_VALID (48 * (i - 4) + p)) 0
    else s1
  let (v, s3) := s2.fresh
  s3.raise 456 s.updOwner (leBytes 1 i ++ leBytes 2 v.toNat)

/-- Microcode RAMs to reload (R431): all at a cold start, else those whose digest differs. -/
def State.ucodeDue (s : State) : List (Nat × Comp) :=
  let cold := s.isSet R.SUP_LAST_COLD || decide (s.svr.boot = 3 ∨ s.lcs = 1)
  (List.range 7).filterMap fun i =>
    match s.comp s.upd.running (ucodeComp i) with
    | some c => if cold || decide (s.upd.ucode.getD i [] ≠ c.digest) then some (i, c) else none
    | none => none

/-- UCODE_RELOAD: a digest that fails twice ends the start in Service mode. -/
def State.ucodeStep (s : State) : State :=
  let s1 := s.each s.ucodeDue fun s x => if x.2.good then s.ucodeLoad x.1 x.2.digest else s
  if s.ucodeDue.all fun x => x.2.good then s1
  else (s1.modSvr fun v => { v with bootBad := true }).raise 455 .pub (leBytes 1 s.upd.running ++ [2])

/-- A CROWN trial whose microcode fails (R431). -/
def State.trialUcodeBad (s : State) : Bool :=
  decide (s.boot.kind = tkCrown ∧ s.boot.trial = trRunning) && !(s.ucodeDue.all fun x => x.2.good)

/-- The blocks that records configure: channel roles, CAN, the network, Landing. The bodies' layouts are the model's where the
spec states none. -/
def State.blockStep (s : State) : State :=
  let isRole (a : Nat) : Bool := (List.range 64).any fun n => a = R.CHn_ROLE n
  let s1 := s.recordWords recChannel 0 isRole
  let s2 := s1.recordWords recCan 8 fun a => blkOf a == some .can
  let trx := (s.recPairs recCan 8).filter fun x => blkOf x.1 == some .trx
  let s3 := (s2.each trx fun s x => match (List.range 24).find? (fun j => R.TRXj_CTRL j = x.1) with
    | some j => s.trxWrite j x.2
    | none => s).trxHoldUnused
  let s4 := s3.each (List.range 24) fun s n => s.canPost n s1.raw
  let s5 := s4.recordWords recNet 8 fun a => blkOf a == some .esw || blkOf a == some .qp
  let s6 := s5.each (List.range 21) fun s p => (s.portPost p s4.raw).gclPost p
  s6.landingLoad

/-- The Forester's work at step 7, its watchdog running (R462), once its firmware is verified. -/
def State.foresterStart (s : State) : State :=
  let s1 := s.recordStep
  let s2 := (s1.keyScan).each [1, 2, 3, 4] fun s k => s.fillPrivate k
  let s3 := ((s2.ucodeStep).blockStep).freezeResume
  let s4 := s3.pairSetup
  let s5 := s4.wrB R.LGW_CTRL_RUN (decide (s4.role = roUnpaired ∨ s4.role = roLead) || s4.isSet R.PAIR_CFG_TWIN)
  let s6 := s5.when s5.svr.fallback fun s => s.raise 8 .sys (leBytes 1 (s.rd R.SUP_STRAP_CLKM))
  let s7 := s6.when (s6.svr.strapNew && decide (s6.rd R.SUP_STRAP_CLKM = 3)) fun s => s.raise 10 .sys (leBytes 1 3)
  let s8 := if s7.ilUp then s7.ilPresent 0 else s7
  ((s8.modSvr fun v => { v with strapNew := false }).toStep 8).degr

/-- Step 7: the boot ROM and the Forester's start. BOOT 0b10 starts no firmware (R464). -/
def State.bootStep (s : State) (obs : StartObs) : State :=
  let s0 := s.modSvr fun v => { v with boot := s.bootAct, kickAt := s.now, bootBad := false }
  if s0.svr.boot = 2 then s0.toStep 9
  else
    let s1 := (((s0.startEntry).rootStep obs.rootOk).lcStep).bootCarry.slotSelect
    if s1.trialUcodeBad then s1.trialFail 4 else s1.foresterStart

/-- Conditions that lead to Service mode (R466). -/
def State.serviceDue (s : State) : Bool :=
  decide (s.svr.boot = 1 ∨ s.svr.boot = 3) || s.isSet R.KSU_STAT_ROOT_FAIL || decide (s.lcs = 5) || s.svr.bootBad || s.isSet R.SUP_OPT_DEFAULTS

/-- MANIFEST invalid or missing (R311). -/
def State.manifestGone (s : State) : Bool := match s.recBody recManifest with | none => true | some b => (manifestBad b).isSome

/-- Step 8: partitions are created (R311); their pairs start on START. The ring segments follow, whose controllers no partition
owns (R202). -/
def State.pairStep (s : State) : State := (if s.serviceDue then s else s.createParts.2).tallySetup.toStep 9

/-- RESET_RELEASE_STEP (R457): the domain at the release's step reports ready, unless a source or the hold-off holds it. -/
def State.releaseStep (s : State) (obs : StartObs) : State :=
  if s.heldStep || s.svr.holdEnd.isSome then s
  else if s.svr.rel = 1 then s.toStep 2
  else if s.svr.rel = 2 then s.limbStep obs
  else if s.svr.rel = 3 then (if s.linksReady then s.toStep 4 else s)
  else if s.svr.rel = 4 then (if s.bolesReady then s.toStep 5 else s)
  else if s.svr.rel = 5 then s.fabricStep obs
  else if s.svr.rel = 6 then s.foresterStep
  else if s.svr.rel = 7 then s.bootStep obs
  else if s.svr.rel = 8 then s.pairStep
  else s

/-- HOLDOFF_END (R460): 100 ms after its start. -/
def State.holdoffEnd (s : State) : State :=
  match s.svr.holdEnd with
  | none => s
  | some t => (s.advance t).modSvr fun v => { v with holdEnd := none }

/-! The mode decision (R466). -/

/-- What the decision adds to a start (R461, R468, R470): SUP_RESET_CAUSE and its like, once per start. -/
def State.decided (s : State) : State :=
  let s1 := s.raise 1 .pub (leBytes 1 (s.rd R.SUP_CAUSE_FIRST) ++ leBytes 2 (s.rd R.SUP_CAUSE_SRC) ++ leBytes 1 (s.rd R.SUP_LAST_REACH) ++
    leBytes 1 (s.rd R.SUP_LAST_COLD))
  let s2 := s1.when s1.svr.holdNew fun s => s.raise 9 .sys (leBytes 1 (s.rd R.SUP_OPT_HOLDS))
  let s3 := s2.when (s2.isSet R.WAKE_SRC_VALID) fun s =>
    s.tlyEvent 219 0xFF ([BitVec.ofNat 8 (s.rd R.WAKE_SRC_SRC), BitVec.ofNat 8 (s.rd R.WAKE_SRC_DURING_COMMIT)] ++ leBytes 4 (s.rd R.WAKE_TIME_S_SEC))
  s3.modSvr fun v => { v with holdNew := false }

/-- The mode that the first row of R466 gives: none while the pair arbitrates. -/
def State.modeRow (s : State) : Option Nat :=
  if s.svr.boot = 2 then some mdUpdate
  else if s.serviceDue || s.manifestGone then some mdService
  else if s.ilRecord.isNone || s.sil.dead then some mdSafeHold
  else if !s.isSet R.SIL_STAT_CONFIRMED then some mdCommission
  else if s.role = roReserve then some mdReserve
  else if s.role = roLead ∨ s.role = roUnpaired then some (if s.rd R.SUP_MODE_DEGR ≠ 0 then mdDegraded else mdLead)
  else none

/-- MODE_DECISION. -/
def State.modeDecision (s : State) : State :=
  if s.svr.rel ≠ 9 ∨ s.mode ≠ mdStartup then s
  else
    let s0 := if s.svr.boot = 2 then s else s.degr
    match s0.modeRow with
    | none => s0
    | some m =>
      let s1 := (s0.count R.SUP_STARTS_COUNT).when (decide (s0.svr.boot ≠ 0)) fun s => s.wr R.SUP_STRAP_BOOT_USED 1
      let s2 := if m = mdUpdate then s1.modSvr fun v => { v with imageAt := some s.now } else s1.decided
      if m = mdService then s2.service else if m = mdReserve then (s2.setMode m).outputsOff true else s2.setMode m

/-! Update mode (R464). -/

/-- The end of Update mode without an image: Service mode. -/
def State.imageFail (s : State) : State := (s.modSvr fun v => { v with imageAt := none }).setMode mdService

/-- PARTNER_IMAGE_SERVE: this module's Forester serves the image in Lead, Reserve and Degraded mode; it changes nothing here. In
Update mode it is the partner's answer: the slot that ACTIVE does not name takes it, and SWR of Module reach follows; a
refusal, a ROLLBACK below the own valid boot record's or a bad digest ends in Service mode. -/
def State.imageServe (s : State) (ans : ImgAnswer) : State :=
  if s.mode ≠ mdUpdate then s
  else match ans with
  | .refused => s.imageFail
  | .image comps rollback =>
    let b := s.boot
    let img : List Comp := comps.map fun c => { num := c.num, ver := c.ver, data := c.data, digest := c.digest }
    if s.bootRec.isSome ∧ rollback < b.rollback then s.imageFail
    else
      let c := 1 - b.active
      let s1 := s.modUpd fun u => { u with slots := updAt u.slots c fun _ => { ok := true, comps := img } }
      if img.all Comp.good then
        (s1.writeBoot fun b => { b with active := c, trial := trNone, rollback := rollback }).assertSrc rsSwr module
      else s1.imageFail

/-- UPDATE_IMAGE_TIMEOUT: no answer within 10 s. -/
def State.imageTimeout (s : State) : State :=
  if s.mode = mdUpdate then s.imageFail else s

def execResetReleaseStep (obs : StartObs) (s : State) : Out := s.finish (s.releaseStep obs)
def execHoldoffEnd (s : State) : Out := s.finish s.holdoffEnd
def execModeDecision (s : State) : Out := s.finish s.modeDecision
def execPartnerImageServe (ans : ImgAnswer) (s : State) : Out := s.finish (s.imageServe ans)
def execUpdateImageTimeout (s : State) : Out := s.finish s.imageTimeout

end Sys2Proof.Machine
end

