-- ==== Sys2Proof/Machine/Mailbox.lean ====
section
/-! DEFINITION. Ends of LONG commands (R53, R54, R507), the completions of queue commands (R74), and the rows of a
mailbox's own registers (R41, R44, R53, R506). -/

namespace Sys2Proof.Machine

/-- The end of SYS_CFG_WRITE (R69, R76, R366, R507): the source bytes are read, the record written. -/
def State.cfgWriteDone (s : State) (l : LongCmd) (out : LongOut) : Nat × Nat × List Byte × State :=
  let t := le l.payload 0 2 - 1
  let body := s.sourceBytes l (le l.payload 8 8) (le l.payload 4 4)
  if t = recPairing ∧ (s.pairingBad body).isSome then (stRange, (s.pairingBad body).getD 0, [], s)
  else
    let (st, d, seq, t1) := s.recordWrite t body out
    if st ≠ stOk then (st, d, [], t1)
    else (stOk, 0, leBytes 4 seq, if t = recTally then t1.tallySetup else t1)

/-- The effect of a LONG command at its end, by opcode: final status, DETAIL, RESULT, state. -/
def State.longEffect (s : State) (l : LongCmd) (out : LongOut) : Nat × Nat × List Byte × State :=
  match l.opcode with
  | 0x0131 => s.cfgWriteDone l out
  | 0x0141 => s.optWriteDone l out
  | 0x0810 => s.safeWriteDone l out
  | 0x0811 => s.safeConfirmDone l out
  | 0x0902 => s.keyLoadDone l out
  | 0x0904 => s.keyStoreDone l out
  | 0x0905 => s.keyDeleteDone l out
  | 0x0930 => s.lcAdvanceDone l out
  | 0x0A01 => s.updBeginDone l out
  | 0x0A02 => s.updBilletDone l out
  | 0x0A04 => s.updActivateDone l out
  | 0x0A05 => s.updConfirmDone l out
  | 0x0A06 => s.updRejectDone l out
  | _ => (stOk, 0, [], s)

/-- Record writes are done one at a time, in the order of their acceptance (R507). -/
def isRecordWrite (l : LongCmd) : Bool := l.opcode = 0x0131 || l.opcode = 0x0810

/-- Address of completion entry e of mailbox m (R40, R53). -/
def longEntry (m e : Nat) : Nat := mbxBase m + 0x880 + 32 * e

/-- A completion entry written, VALID last, with RHP_LONG_DONE (R53). -/
def State.writeEntry (s : State) (l : LongCmd) (e st detail : Nat) (result : List Byte) : State :=
  let bytes := leBytes 2 l.opcode ++ leBytes 1 l.tag ++ [1] ++ leBytes 2 l.gen ++ leBytes 2 st ++ leBytes 2 detail ++ [0, 0] ++
    leBytes 4 s.frame ++ padTo 16 result
  (s.setWords (longEntry l.mbx e) (leWords bytes)).raise 32 (ownerMbx l.mbx) (leBytes 1 e)

/-- The completion descriptor of a queue command (R74). -/
def completion (op tag gen st detail frame : Nat) (result : List Byte) : List Byte :=
  leBytes 2 op ++ leBytes 2 tag ++ leBytes 2 gen ++ leBytes 2 st ++ leBytes 2 detail ++ leBytes 2 result.length ++
  leBytes 4 frame ++ padTo 16 result

/-- Completion queue of queue q. -/
def State.cqOf (s : State) (q : Nat) : Nat := s.rd (R.QMG_QnCFG_CQ q)

/-- Completions that queue q holds are written while CQ has room (R74). -/
def State.flushHeld (s : State) (q : Nat) : List (List Byte) → State
  | [] => s.modQ q fun x => { x with held := [] }
  | d :: t =>
    if s.qRoom (s.cqOf q) = 0 then s.modQ q fun x => { x with held := d :: t }
    else (s.qPush (s.cqOf q) d).flushHeld q t

/-- The result, then the completion of a queue command; held when CQ has no room or others are held before it (R74). -/
def State.complete (s : State) (q addr op tag gen st detail : Nat) (result : List Byte) : State :=
  let s1 := s.memPut addr result
  s1.flushHeld q ((s1.q q).held ++ [completion op tag gen st detail s.frame result])

/-- The end of a LONG command told to its sender (R46, R53, R74): nothing of an old generation. -/
def State.longDeliver (s : State) (l : LongCmd) (st detail : Nat) (result : List Byte) : State :=
  let s1 := match l.queue, l.entry with
    | some q, _ => s.complete q l.resultAddr l.opcode l.tag l.gen st detail result
    | none, some e => s.writeEntry l e st detail result
    | none, none => s
  if st = stInternal then s1.raise 43 (ownerMbx l.mbx) (leBytes 2 l.opcode ++ leBytes 2 detail) else s1

/-- LONG_COMPLETION (R53): the k-th outstanding LONG command ends. One whose command a reset took away during its own
effect tells nothing. -/
def State.longEnd (s : State) (k : Nat) (out : LongOut) : State :=
  match s.longs[k]? with
  | none => s
  | some l =>
    if isRecordWrite l && (s.longs.take k).any isRecordWrite then s
    else
      let (st, d, res, t) := s.longEffect l out
      let t1 := t.onLongs fun x => x.eraseIdx k
      match t.longs[k]? with
      | none => t.degr
      | some x =>
        let t2 := if x.stale then t1 else t1.longDeliver x st d res
        (match x.queue with | some q => t2.qSettle q | none => t2).degr

/-- A write to byte 3 of a completion entry (R41, R53): a 0 frees a valid entry. -/
def State.entryWrite (s : State) (m e v : Nat) : State :=
  let a := longEntry m e
  if bitsOf (s.raw a) 31 24 ≠ 0 ∧ v = 0 then
    ((s.wr ⟨a, 31, 24⟩ 0).modMbx m fun b => { b with longUsed := updAt b.longUsed e fun _ => false }).refreshLong m
  else s

/-- A write to MBX_EVT_TAIL; a value above 19 is ignored. -/
def State.tailWrite (s : State) (m v : Nat) : State :=
  if v % 32 > 19 then s else s.wr (R.MBX_EVT_TAIL_IDX m) (v % 32)

/-- A flag of MBX_ERR set, with MBX_PROTO_ERR (R42, R75). -/
def State.mbxErr (s : State) (m : Nat) (f : Nat → Fld) : State :=
  let s1 := s.wr (f m) 1
  s1.raise 40 (ownerMbx m) (leBytes 1 m ++ leBytes 1 (s1.raw (R.MBX_ERR m)).toNat)

/-- A write of 1 to MBX_COMMIT (R506): every group in which the partition holds staged values. -/
def State.mbxCommit (s : State) (m : Nat) : State :=
  if m < 16 && (s.part m).holds 35 then s.acceptCommit m (s.stagedGroups.filter fun g => s.groupOwner g = some m)
  else s.mbxErr m R.MBX_ERR_COMMIT_DENIED

def execLongCompletion (k : Nat) (out : LongOut) (s : State) : Out := s.finish (s.longEnd k out)
def execLongEntryFree (a : Attr) (m : Fin 17) (e : Fin 8) (s : State) : Out :=
  s.finish (s.access a (longEntry m e) true fun s => s.entryWrite m e 0)
def execEvtTailWrite (a : Attr) (m : Fin 17) (v : Nat) (s : State) : Out :=
  s.finish (s.access a (R.MBX_EVT_TAIL m) true fun s => s.tailWrite m v)
def execMbxCommitWrite (a : Attr) (m : Fin 17) (s : State) : Out :=
  s.finish (s.access a (R.MBX_COMMIT m) true fun s => s.mbxCommit m)
def execCqRoomAvailable (q : Fin 64) (s : State) : Out := s.finish (s.flushHeld q (s.q q).held)

end Sys2Proof.Machine
end

