-- ==== Sys2Proof/Machine/Commands.lean ====
section
/-! DEFINITION. The doorbell and the slot of a mailbox (R41, R42), commands whose opcode names no row, and the commands
that hardware queues carry (R74). -/

namespace Sys2Proof.Machine

/-- Every opcode of the Rhapol interface, by chapter. -/
def opsCanCmd : List OpSpec := [opCanConfig, opCanRun, opCanFilter, opCanFifo, opCanSend, opCanRead, opCanStatus,
    opCanBoffRelease, opCanTrxSet, opCanTrxGet, opLgwRouteSet, opLgwImageSet, opLgwEnable, opLgwRead, opLgwStatus,
  opGwbStatus]
def opsChanCmd : List OpSpec := [opChSet, opChConfig, opChGet, opChAck, opChSoGet, opGovGet, opChMeasGet,
    opChWireSet, opChTambSet, opSigConfig, opSigRefSet, opSigRead]
def opsEthCmd : List OpSpec := [opEthPortCfg, opEthPortGet, opEthGclSet, opEthGclGet, opEthFdbSet, opEthVlanSet,
    opEthQciSet, opEthQpGet, opEthTsRead, opTimeGet, opTimeDomGet]
def opsFieldCmd : List OpSpec := [opUioConfig, opUioRead, opUioOutSet, opUioStatus, opSsSet, opSsGet, opKtConfig,
    opKtDuty, opKtGet, opKcConfig, opKcSet, opKcGet, opExtGet]
def opsIsland : List OpSpec := [opSafeGet, opSafeFnGet, opSafeFaultLog, opSafeCheckGet, opSafeWrite, opSafeConfirm]
def opsKeyCmd : List OpSpec := [opKeyInfo, opKeyLoad, opKeyUnload, opKeyStore, opKeyDelete, opKeyPub, opAuthChal,
    opAuthResp, opAuthEnd, opAttest, opLcAdvance]
def opsPairing : List OpSpec := [opPairGet, opPairCkptPub, opPairCkptInfo, opPairHandover]
def opsPartCmd : List OpSpec := [opPartInfo, opPartRestart, opPartStop, opPartStart, opPartGate, opPartGateGet]
def opsRecorderCmd : List OpSpec := [opIncLog, opIncStatus, opIncRead, opIncTrigger, opIncDrops, opIncDiagGet]
def opsSupervisor : List OpSpec := [opSysModeReq, opSysOptWrite, opSysReset, opSysSupGet]
def opsSysCmd : List OpSpec := [opSysHello, opSysInfo, opSysCommit, opSysDiscard, opSysEvtSub, opSysEvtUnsub,
    opSysCfgRead, opSysCfgWrite, opSysSvcPut]
def opsTally : List OpSpec := [opTlyStay, opTlyGet, opTlyVetoList, opWakeGet, opWakeAlarm]
def opsUpdateCmd : List OpSpec := [opUpdBegin, opUpdBillet, opUpdStatus, opUpdActivate, opUpdConfirm, opUpdReject,
    opUpdAbort, opUpdInfo]
def opTable : List OpSpec :=
  opsCanCmd ++ opsChanCmd ++ opsEthCmd ++ opsFieldCmd ++ opsIsland ++ opsKeyCmd ++ opsPairing ++ opsPartCmd ++
    opsRecorderCmd ++ opsSupervisor ++ opsSysCmd ++ opsTally ++ opsUpdateCmd

/-- The handler of an opcode. -/
def opOf (opcode : Nat) : Option OpSpec := opTable.find? fun o => o.opcode = opcode

/-- A command whose opcode is unknown (R56 steps 1 and 2). -/
def State.unknownOp (s : State) (c : Ctx) : Reply :=
  if c.gen ≠ s.gen c.mbx then Reply.err s stStale (s.gen c.mbx) else Reply.err s stBadOpcode 0

/-- The doorbell rung (R42): the slot is locked with the requester and the time of the ring. A command whose opcode no
row names is answered at once. -/
def State.ringBell (s : State) (a : Attr) (m : Nat) : State :=
  if s.isSet (R.MBX_STAT_BUSY m) then s.mbxErr m R.MBX_ERR_DB_WHILE_BUSY
  else
    let s1 := ((s.wr (R.MBX_STAT_BUSY m) 1).wr (R.MBX_STAT_DONE m) 0).modMbx m fun b => { b with ringAttr := a, ringTime := s.now }
    let c := s1.slotCtx m
    match opOf c.opcode with
    | some _ => s1
    | none => s1.answer c (s1.unknownOp c)

/-- A write into the page of a mailbox, at a word offset below 0xC00 (R41, R42). -/
def State.mbxSpaceWrite (s : State) (m off : Nat) (v : Word) : State :=
  let a := mbxBase m + off
  if off < 0x400 then (if s.isSet (R.MBX_STAT_BUSY m) then s.mbxErr m R.MBX_ERR_SLOT_WRITE else s.setRaw a v)
  else if 0x800 ≤ off ∧ off < 0x880 then (s.setRaw a (s.raw a &&& ~~~ v)).evtRefresh m
  else if 0x880 ≤ off ∧ off < 0x980 ∧ off % 32 = 0 then s.entryWrite m ((off - 0x880) / 32) (bitsOf v 31 24)
  else s

/-! Queue commands (R74). -/

/-- The command of a descriptor of queue q, for its owner p. Queue accesses carry W = 0 and RQC 2 (R321). -/
def State.queueCtx (s : State) (q p : Nat) (d : List Byte) : Ctx :=
  let len := le d 14 2
  { mbx := p, attr := ⟨false, Fin.ofNat 16 p, 2⟩, opcode := le d 0 2, tag := le d 2 2, flags := le d 13 1, gen := le d 4 2
    len := len, hdrRsvd := le d 21 11, payload := s.memRead (le d 8 5) (min len 1008), queue := some q, resultAddr := le d 16 5 }

/-- Whether the payload and the result buffer lie in RW system SRAM of the owner, and the payload can be read: one in poisoned
memory is treated as one outside (R287). DESIGN CHOICE: the spec does not say what the Forester answers there. -/
def State.queueBufsOk (s : State) (p : Nat) (d : List Byte) : Bool :=
  (le d 14 2 = 0 || (s.part p).inRwSram (le d 8 5) (le d 14 2)) && (s.part p).inRwSram (le d 16 5) 1024 &&
  (s.poisonIn (le d 8 5) (le d 14 2)).isEmpty

/-- What a queue command answers: the checks of R56, CLASS 0 not permitted, and RANGE 0xFFFE for its buffers once the
header has passed. -/
def State.queueReply (s : State) (c : Ctx) (bufs : Bool) (fate : Fate) : Reply :=
  match opOf c.opcode with
  | none => s.unknownOp c
  | some o =>
    let o1 := { o with classes := o.classes.filter fun k => k ≠ clRt }
    match fate, bufs with
    | .internal code, _ => Reply.err s stInternal code
    | _, true => s.runOp o1 c fate
    | _, false =>
      match s.headBad o1 c with
      | some (st, d) => Reply.err s st d
      | none => Reply.err s stRange 0xFFFE

/-- QUEUE_COMMAND (R74): the Forester takes the next descriptor of a command queue, once no RT command waits. A LONG command
that is accepted completes at its final status only. -/
def State.queueCommand (s : State) (q : Nat) (fate : Fate) : State :=
  if s.rd (R.QMG_QnCFG_ENGINE q) ≠ 0x40 ∨ !(s.q q).held.isEmpty ∨ (List.range 17).any s.rtWaits then s
  else
    match s.qFront q, s.qOwner q with
    | (s1, some d), some p =>
      let c := s1.queueCtx q p d
      let s2 := s1.poisonReads c.attr (le d 8 5) (le d 14 2)
      let r := s2.queueReply c (s1.queueBufsOk p d) fate
      if r.s.gen p ≠ s1.gen p ∨ !r.s.isSet (R.QMG_QnCFG_EN q) then r.s
      else
        let s3 := r.s.qTake q 1
        if r.st = stAccepted then s3
        else (s3.complete q c.resultAddr c.opcode c.tag c.gen r.st r.detail r.result).replyEvents c r.st r.detail
    | (s1, _), _ => s1

def execQueueCommand (q : Fin 64) (fate : Fate) (s : State) : Out := s.finish (s.queueCommand q fate)

end Sys2Proof.Machine
end

