-- ==== Sys2Proof/Machine/Fabric.lean ====
section
/-! DEFINITION. Accesses of the crown fabric (R7, R8, R10, R12, R20, R21): reads and writes of registers by access code
and update class, of memory, and of far dies through the Gwebry bridge (R266-R275). -/

namespace Sys2Proof.Machine

/-! Writes at a register. -/

/-- A route with EN set in route block b (R250). -/
def State.blkActive (s : State) (b : Nat) : Bool :=
  (List.range 256).any fun r => (s.raw (R.LGW_ROUTE (256 * b + r) 0)).getLsbD 3

/-- Whether the block of a class S register runs (R10, R37, R73, R86, R149, R241, R242, R264). A queue pair runs while one
of its queues is enabled, a route block while one of its routes is, the pairing unit while it has a role: the spec
states no condition for these three. DESIGN CHOICE. -/
def State.blockRuns (s : State) (b : Blk) (addr : Nat) (i : Nat → Nat) : Bool :=
  match b with
  | .frm => s.isSet R.FRM_STAT_RUN
  | .tmu => s.isSet R.TMU_CTRL_TRACK
  | .qmg => s.isSet (R.QMG_QnCFG_EN (i 0)) || !s.isSet (R.QMG_QnSTAT_STOPPED (i 0))
  | .ch => s.isSet (R.CHn_CMD_ON (16 * i 0 + i 1)) || s.isSet (R.CHn_STAT_OUT (16 * i 0 + i 1))
  | .ss => s.isSet (R.SSs_CFG_ON (4 * i 0 + i 1))
  | .esw => s.isSet (R.ESW_Pp_CFG_EN (i 0))
  | .qp => [R.ESW_QPk_CFG_TXQ (i 0), R.ESW_QPk_CFG_RXQ (i 0), R.ESW_QPk_CFG_BUFQ (i 0)].any fun f =>
      s.isSet (R.ESW_QPk_CFG_EN (i 0)) && s.isSet (R.QMG_QnCFG_EN (s.rd f))
  | .lgw => if addr = R.LGW_ETH then s.isSet R.LGW_CTRL_RUN else s.blkActive (i 0)
  | .pair => s.isSet R.PAIR_STAT_ROLE
  | _ => false

/-- Values that a register's table rejects (R37, R73, R242). -/
def badValue (addr : Nat) (v : Word) (b : Blk) : Bool :=
  if addr = R.FRM_CFG then decide (2 ≤ bitsOf v 1 0)
  else if addr = R.FRM_PHASE then decide (250000 ≤ bitsOf v 17 0)
  else if addr = R.TMU_CFG then decide (bitsOf v 14 8 = bitsOf v 6 0 ∨ bitsOf v 23 16 = 0)
  else if b = .qmg ∧ (addr - 0x20020000) % 0x40 = 8 then
    let e := bitsOf v 23 16
    let z := bitsOf v 3 0
    decide (z < 3 ∨ 12 < z) || !(decide (e = 0 ∨ (0x10 ≤ e ∧ e ≤ 0x27) ∨ (0x30 ≤ e ∧ e ≤ 0x37) ∨ e = 0x40))
  else false

/-- A write rejected under R10: the error flag of the block, and its event. -/
def State.rejectWrite (s : State) (b : Blk) (addr : Nat) (i : Nat → Nat) : State :=
  match b with
  | .frm => s.wr R.FRM_ERR_CFG_ERR 1
  | .tmu => s.wr R.TMU_STAT_CFG_ERR 1
  | .ch =>
    let n := 16 * i 0 + i 1
    if s.isSet (R.CHn_FLT_CFG_ERR n) then s
    else (s.wr (R.CHn_FLT_CFG_ERR n) 1).chEvent n 338 (leBytes 1 (addr % 0x1000))
  | .ss =>
    let u := 4 * i 0 + i 1
    if s.isSet (R.SSs_FLT_CFG_ERR u) then s else (s.wr (R.SSs_FLT_CFG_ERR u) 1).supEvent u 296 [1]
  | .esw => s.ethEvent 168 (i 0) (leBytes 2 (addr % 0x1000))
  | .qp => s.ethEvent 168 (17 + i 0 / 8) (leBytes 2 (addr % 0x10000))
  | .lgw => s.raise 230 (if addr = R.LGW_ETH then .sys else ownerOf (s.blkOwner (i 0))) (leBytes 2 0 ++ leBytes 4 (addr - 0x20400000))
  | _ => s

/-- Registers that the Forester alone writes; the writes of others are ignored (R85, R87, R131, R150, R201, R241, R264,
R275). -/
def foresterOnly (b : Blk) (addr : Nat) : Bool :=
  match b with
  | .bole | .limb | .wake | .lgw | .gwb | .qp => true
  | .ch => decide (addr % 0x1000 = 0x01C)
  | _ => false

/-- A word written under access codes and update classes (R7, R8, R10, R12): RW fields of class L and S take the value,
W1C bits clear, class F fields are staged, all else stays. -/
def State.storePlain (s : State) (r : RegDef) (addr : Nat) (v : Word) : State :=
  let now := r.mask fun f => f.acc == .rw && f.upd != .staged
  let w1c := r.mask fun f => f.acc == .w1c
  let fm := r.mask fun f => f.acc == .rw && f.upd == .staged
  let s1 := s.setRaw addr (((s.raw addr &&& ~~~now) ||| (v &&& now)) &&& ~~~(w1c &&& v))
  if fm = 0 then s1 else s1.stage addr ((s.view addr &&& ~~~fm) ||| (v &&& fm))

/-- A write to a mailbox page (R40-R42, R44). -/
def State.storeMbx (s : State) (a : Attr) (addr : Nat) (v : Word) : State :=
  let m := (addr - 0x20030000) / 0x1000
  let off := addr % 0x1000
  if off < 0xC00 then s.mbxSpaceWrite m off v
  else if off = 0xC00 then (if v.getLsbD 0 then s.ringBell a m else s)
  else if off = 0xC08 then s.setRaw addr (s.raw addr &&& ~~~v)
  else if off = 0xC10 then s.tailWrite m v.toNat
  else if off = 0xC18 then (if v.getLsbD 0 then s.mbxCommit m else s)
  else s

/-- A write to a queue's registers (R70, R71, R73): a partition's writes but those of PROD and CONS are ignored. -/
def State.storeQmg (s : State) (a : Attr) (r : RegDef) (n addr : Nat) (v : Word) : State :=
  if addr = R.QMG_QnPROD n then s.prodWrite a n v.toNat
  else if addr = R.QMG_QnCONS n then s.consGo a n v.toNat
  else if !a.isForester then s
  else
    let s1 := s.storePlain r addr v
    if addr = R.QMG_QnCFG n then (s1.when (s1.isSet (R.QMG_QnCFG_EN n)) fun s => s.wr (R.QMG_QnSTAT_STOPPED n) 0).qSettle n else s1

/-- A write to a CAN controller's page (R174, R177, R181, R184, R188). -/
def State.storeCan (s : State) (r : RegDef) (n addr : Nat) (v : Word) : State :=
  let off := addr % 0x1000
  let b := (off - 0x100) / 0x80
  if addr = R.CANn_CTRL n then (s.storePlain r addr v).when (v.getLsbD 1) fun s => s.boffRelease n
  else if addr = R.CANn_TXC n then
    ((s.storePlain r addr v).each (maskIdx 3 (bitsOf v 6 4)) fun s b => s.txAbort n b).each (maskIdx 3 (bitsOf v 2 0)) fun s b => s.txRequest n b
  else if addr = R.CANn_RXUNLOCK n then s.moUnlock n v.toNat
  else if 0x100 ≤ off ∧ off < 0x280 then
    if !nbit (s.rd (R.CANn_CFG_DIRECT n)) b || s.isSet (txcBit (R.CANn_TXC_PEND n) b) then s.wr (R.CANn_FLT_TXB_BUSY n) 1
    else
      let s1 := s.storePlain r addr v
      s1.wr (R.TXBb_W1_LEN n b) (frameLen (s1.raw (R.TXBb_W0 n b)) (s1.raw (R.TXBb_W1 n b)))
  else s.storePlain r addr v

/-- A write to a sensor supply's configuration (R149). -/
def State.storeSup (s : State) (r : RegDef) (u addr : Nat) (v : Word) : State :=
  let s1 := s.storePlain r addr v
  if addr = R.SSs_CFG u then (s1.wrB (R.SSs_CFG_ON u) (s.isSet (R.SSs_CFG_ON u))).supSet u (v.getLsbD 0) else s1

/-- A write to the L1 bank port (R432); RESTART comes last. -/
def State.storeIsb (s : State) (r : RegDef) (addr : Nat) (v : Word) : State :=
  if addr = R.ISB_CTRL then
    (((s.when (v.getLsbD 0) State.isbErase).when (v.getLsbD 1) fun s => s.wr R.ISB_STAT_TRIAL 1).when (v.getLsbD 3) State.isbConfirm).when
      (v.getLsbD 2) State.ilReset
  else if addr = R.ISB_DATA then s.isbProgram v
  else s.storePlain r addr v

/-- A write to the supervisor's registers (R462, R468). -/
def State.storeSupervisor (s : State) (r : RegDef) (addr : Nat) (v : Word) : State :=
  if addr = R.SUP_SWR then s.swrGo v
  else if addr = R.SUP_BLKRST_CAN then s.rstCan (bitsOf v 23 0)
  else if addr = R.SUP_BLKRST then
    (((s.rstCrypto (bitsOf v 7 3)).when (v.getLsbD 2) State.rstInr).when (v.getLsbD 1) State.landingClear).when (v.getLsbD 0) State.rstEsw
  else if addr = R.SUP_FWDG then (s.fwdgPeriod (bitsOf v 31 16)).fwdgKick (bitsOf v 15 0)
  else s.storePlain r addr v

/-- A write at a register that its table lists, by block: registers whose write acts, else the plain rule. -/
def State.storeBlk (s : State) (a : Attr) (r : RegDef) (addr : Nat) (i : Nat → Nat) (v : Word) : State :=
  match r.blk with
  | .evr =>
    let p := i 0
    if addr = R.EVR_Pp_DONE p ∧ v.getLsbD 0 then s.frameDone p
    else if addr = R.EVR_Pp_WDG p ∧ v.getLsbD 0 then s.modPart p fun x => { x with wdgFrom := x.wdgFrom.map fun _ => s.now }
    else s
  | .qmg => s.storeQmg a r (i 0) addr v
  | .can => s.storeCan r (i 0) addr v
  | .trx => if addr = R.TRXj_CTRL (12 * i 0 + i 1) then s.trxWrite (12 * i 0 + i 1) v else s.storePlain r addr v
  | .wake => if addr = R.WAKE_CMT then s.when (v.getLsbD 0) State.sleepCommit else s.storePlain r addr v
  | .esw => if addr = R.ESW_Pp_TSQ_POP (i 0) then s.when (v.getLsbD 0) fun s => s.tsqDrop (i 0) else s.storePlain r addr v
  | .frm =>
    if addr = R.FRM_CTRL then s.when (v.getLsbD 0) State.frmStart
    else (s.storePlain r addr v).when (decide (addr = R.FRM_CFG)) State.srcWritten
  | .gwb =>
    let s1 := s.storePlain r addr v
    if 0x40 ≤ addr % 0x1000 ∧ s1.raw addr ≠ s.raw addr then s1.lineDrop (i 0) fun _ => true else s1
  | .lsc =>
    let k := if r.dims.isEmpty then 8 else i 0
    if addr = R.LSC_Pk_CTRL k then (s.when (v.getLsbD 0) fun s => s.startPair k).when (v.getLsbD 1) fun s => s.haltPair k
    else s.storePlain r addr v
  | .limb => if addr = R.LIMB_HOLD (i 0) ∧ v.getLsbD 0 then (s.limbAdopt (i 0)).adopted else s.storePlain r addr v
  | .bole => if addr = R.BOLE_HOLD (i 0) ∧ v.getLsbD 0 then (s.boleAdopt (i 0)).adopted else s.storePlain r addr v
  | .ss => s.storeSup r (4 * i 0 + i 1) addr v
  | .isb => s.storeIsb r addr v
  | .sup | .supwd => s.storeSupervisor r addr v
  | _ => s.storePlain r addr v

/-- Class S fields of a register. -/
def RegDef.stoppedMask (r : RegDef) : Word := r.mask fun f => f.upd == .stopped

/-- A write that reaches its register (R10); one at an offset that no table lists is ignored (R8). -/
def State.storeWord (s : State) (a : Attr) (addr : Nat) (v : Word) : State :=
  if 0x20030000 ≤ addr ∧ addr < 0x20041000 then s.storeMbx a addr v
  else match lookupReg addr with
  | none => s
  | some (r, ix) =>
    let i := fun k => ix.getD k 0
    if (foresterOnly r.blk addr || (r.blk == .qmg && r.stoppedMask ≠ 0)) && !a.isForester then s
    else if badValue addr v r.blk || ((s.raw addr ^^^ v) &&& r.stoppedMask ≠ 0 && s.blockRuns r.blk addr i) then s.rejectWrite r.blk addr i
    else s.storeBlk a r addr i v

/-! Reads at a register. -/

/-- Whether a read clears the RC fields of a register: in FRM and QMG a read by the Forester alone (R37, R70, R448). -/
def readClears (b : Blk) (a : Attr) : Bool :=
  match b with
  | .frm | .qmg => a.isForester
  | _ => true

/-- A read that reaches its register (R7, R12, R37, R183, R184, R242): the word and the state after it. The ages of
PAIR_AGE, the replay FIFO's level and SUP_OPT.INTR stand as time does. -/
def State.loadWord (s0 : State) (a : Attr) (addr : Nat) : Word × State :=
  let s := ((s0.when (decide (0x20F00000 ≤ addr)) State.ageRefresh).when (decide (0x20D10000 ≤ addr ∧ addr < 0x20D18000)) State.replayDrain).when
    (decide (addr = R.SUP_OPT)) State.intrRefresh
  let n := (addr - 0x20100000) / 0x1000
  if addr = R.FRM_NUM_LO then
    (s.raw addr, s.onFrm fun f => { f with hiLatch := updAt f.hiLatch (latchOf a) fun _ => s.raw R.FRM_NUM_HI })
  else if addr = R.FRM_NUM_HI then (s.frm.hiLatch.getD (latchOf a) 0, s)
  else if addr = R.TMU_LC_NS then let t := s.lcLatch; (t.bus.data, t.onBus fun _ => s.bus)
  else if addr = R.TMU_DOMx_STAT 0 then (s.raw addr, s.domLatch 0)
  else if addr = R.TMU_DOMx_STAT 1 then (s.raw addr, s.domLatch 1)
  else if 0x20100000 ≤ addr ∧ addr < 0x20118000 ∧ R.MOm_W0 n 0 ≤ addr ∧ addr < R.MOm_W0 n 32 then
    s.moRead n ((addr - R.MOm_W0 n 0) / 0x50) ((addr - R.MOm_W0 n 0) % 0x50 / 4)
  else match lookupReg addr with
  | none => (s.raw addr, s)
  | some (r, _) =>
    let fm := r.mask fun f => f.upd == .staged
    let rc := r.mask fun f => f.acc == .rc
    let wo := r.mask fun f => f.acc == .wo
    let v := ((s.raw addr &&& ~~~fm) ||| (s.view addr &&& fm)) &&& ~~~wo
    (v, if rc ≠ 0 && readClears r.blk a then s.setRaw addr (s.raw addr &&& ~~~rc) else s)

/-! Memory (R20, R287, R322). -/

/-- A 32-bit read of memory; a poisoned word answers with an error. -/
def State.memLoad (s : State) (a : Attr) (addr : Nat) : State :=
  if !s.memAdmits a addr 4 false then s.deny a addr
  else if s.isPoisoned addr then s.memError a addr .poisoned
  else s.respondBus (BitVec.ofNat 32 (le (s.memRead addr 4) 0 4))

/-- A 32-bit write of memory; narrower than 64 bits, it leaves a poisoned word as it is. -/
def State.memStore (s : State) (a : Attr) (addr : Nat) (v : Word) : State :=
  if !s.memAdmits a addr 4 true then s.deny a addr
  else (s.memPut addr (leBytes 4 v.toNat)).respondBus 0

/-- Boot ROM and the code flash window (R21), whose contents the spec gives no addresses for. -/
def isRom (addr : Nat) : Bool := addr < 0x40000 || (0x4000000000 ≤ addr && addr < 0x4010000000)

/-- The register blocks of R21. -/
def isRegSpace (addr : Nat) : Bool :=
  (0x20000000 ≤ addr ∧ addr < 0x20041000) ∨ (0x20100000 ≤ addr ∧ addr < 0x20118000) ∨ (0x20200000 ≤ addr ∧ addr < 0x20310000) ∨
  (0x20400000 ≤ addr ∧ addr < 0x21000000)

/-! Far dies (R267-R275). -/

/-- The line of an address. -/
def lineOf (addr : Nat) : Nat := addr / 64 * 64

/-- Offsets of a far window that hold a block (R84, R137, R170, R358, R432): any other address is one that no block decodes.
DEDUCED: an RSVD offset within a block's page reads 0 (R8), one outside every page is undecoded. -/
def farDecodes (addr : Nat) : Bool :=
  let w := (addr - 0x20600000) / 0x100000
  let o := addr % 0x100000
  if 2 ≤ w then o < 0x1000 || (0x2000 ≤ o && o < 0x3000) || (0x10000 ≤ o && o < 0x20000)
  else o < 0x1000 || (0x10000 ≤ o && o < 0x44000) || (0x80000 ≤ o && o < 0x8C000) || (w = 0 && 0x90000 ≤ o && o < 0xA0000) ||
    (w = 1 && ((0x48000 ≤ o && o < 0x49000) || (0xA0000 ≤ o && o < 0xC0000)))

/-- A request put into the issue buffer of a link; one that finds its 32 entries full is answered with a fabric retry, and its
requester repeats it until there is room (R268). The island's requests wait on the far side. -/
def State.farIssue (s : State) (g : Nat) (t : GwbTx) : State :=
  if !t.toCrown && (issuePlaces ≤ (s.gwb g).buffered || !(s.gwb g).again.isEmpty) then
    (s.modGwb g fun x => { x with again := x.again ++ [t] }).onBus fun _ => { type := .again }
  else s.modGwb g fun x => x.put t

/-- Whether another requester holds the lock of a link (R274); the island's own traffic is not affected. -/
def State.lockedOut (s : State) (g : Nat) (a : Attr) : Bool :=
  s.isSet (R.GWB_Lg_LOCK_GRANT g) && decide ((s.gwb g).locker ≠ some a ∧ a.rqc.val ≠ 5)

/-- A request of the same requester, address and access whose requester gave it up (R270). -/
def State.reissued (s : State) (g : Nat) (a : Attr) (addr : Nat) (val : Option Word) : Option GwbTx :=
  (s.gwb g).txs.find? fun t => t.attr = a ∧ t.addr = addr ∧ t.val = val ∧ !t.posted ∧ !t.waits

/-- A non-posted request: the re-issue of one whose requester gave up collects its delayed completion, or waits for it
again; else it is issued (R268, R270). -/
def State.farRequest (s : State) (g : Nat) (a : Attr) (addr : Nat) (val : Option Word) : State :=
  match s.reissued g a addr val with
  | none => s.farIssue g { tag := 0, attr := a, addr := addr, val := val }
  | some t =>
    match t.held with
    | some (v, e) =>
      match e with
      | some k => (s.txDrop g t.tag).busErr (respOf k)
      | none => (s.txDrop g t.tag).respondBus v
    | none => s.txWaits g t.tag true

/-- What every access to a link meets first (R270, R274, R275): the error after a lost lock, a link that is down. -/
def State.farEnter (s : State) (g : Nat) (a : Attr) (addr : Nat) (posted : Bool) (f : State → State) : State :=
  if (s.gwb g).lockErr = some a then
    ((s.modGwb g fun x => { x with lockErr := none }).wr (R.GWB_Lg_LOCK_LOCK_TO g) 0).busErr .lock
  else if !s.isSet (R.GWB_Lg_STAT_UP g) then (if posted then (s.respondBus 0).farErr g a addr geLink 0 else s.busErr .link)
  else f s

/-- A read over a link: the re-issue of an earlier one, from a held line, or as a non-posted request (R270, R272). -/
def State.farRead (s : State) (g : Nat) (a : Attr) (addr : Nat) : State :=
  s.farEnter g a addr false fun s =>
    match s.reissued g a addr none, (s.gwb g).lines.find? fun l => l.addr = lineOf addr with
    | none, some l =>
      let k := (addr - l.addr) / 4
      (s.modGwb g fun x => { x with lines := x.lines.map fun y =>
        if y.addr = l.addr then { y with sens := updAt y.sens k fun _ => false } else y }).respondBus (l.words.getD k 0)
    | _, _ => s.farRequest g a addr none

/-- Whether a posted write waits in the bridge in one direction (R266: it goes before every non-posted request), one of a
requester that another's lock keeps out aside. -/
def State.postedWaits (s : State) (g : Nat) (crown : Bool) : Bool :=
  (s.gwb g).txs.any fun t => t.posted && t.toCrown == crown && !s.lockedOut g t.attr

/-- A posted write at the far die: DECERR is logged (R275). The spec names no posted write that a far die refuses. -/
def State.farStore (s : State) (g : Nat) (a : Attr) (addr : Nat) (v : Word) : State :=
  if farDecodes addr then s.storeWord a addr v else s.farErr g a addr geDecerr 0

/-- A write over a link: non-posted inside a range with NPW = 1 and from the island, else posted (R267, R271, R272). A
posted write on a link that is free is at the far die within R15's latency and holds none of the 16 credits; one that finds
the link training or locked, or another posted write waiting, waits in the bridge. -/
def State.farWrite (s : State) (g : Nat) (a : Attr) (addr : Nat) (v : Word) : State :=
  let np := s.inRange g addr R.GWB_Lg_PFr_BASE_NPW || a.rqc.val = 5
  s.farEnter g a addr (!np) fun s =>
    let s1 := s.lineDrop g fun l => decide (l.addr = lineOf addr)
    if np then s1.farRequest g a addr (some v)
    else
      let s2 := s1.respondBus 0
      if s2.linkOk g && !s2.lockedOut g a && !((s2.gwb g).txs.any fun t => t.posted) then s2.farStore g a addr v
      else s2.farIssue g { tag := 0, attr := a, addr := addr, val := some v, posted := true, waits := false }

/-- A prefetched line (R272, R273): the far die reads its 16 words in one access; the oldest of 16 held lines gives way. -/
def State.fetchLine (s : State) (g : Nat) (a : Attr) (addr : Nat) : Word × State :=
  let l := lineOf addr
  let (ws, s1) := (List.range 16).foldl (fun (acc : List Word × State) k =>
    let (w, t) := acc.2.loadWord a (l + 4 * k)
    (acc.1 ++ [w], t)) ([], s)
  let sens := (List.range 16).map fun k => readSensitive (l + 4 * k) && decide (l + 4 * k ≠ addr)
  let s2 := match (s1.gwb g).lines with
    | old :: rest => if 16 ≤ rest.length + 1 then s1.lineDrop g fun y => decide (y.addr = old.addr) else s1
    | [] => s1
  (ws.getD ((addr - l) / 4) 0, s2.modGwb g fun x => { x with lines := x.lines ++ [⟨l, ws, sens⟩] })

/-- Whether the far side can carry out a request now (R266, R267, R274): over a link that works, past no lock of another; a
posted write after the earlier ones of its requester; a non-posted request that is in flight, and after every posted write. -/
def State.farTurn (s : State) (g : Nat) (t : GwbTx) : Bool :=
  s.linkOk g && !s.lockedOut g t.attr &&
  (if t.posted then
    ((s.gwb g).txs.find? fun y => y.posted && decide (y.attr = t.attr)).map (·.tag) == some t.tag
  else ((s.gwb g).flying t.toCrown).contains t.tag && !s.postedWaits g t.toCrown)

/-- What the far side makes of a request (R275): SLVERR for a refused one, DECERR for an undecoded address, or its effect. -/
def State.farPerform (s : State) (g : Nat) (t : GwbTx) (refused : Bool) : Word × Option Nat × State :=
  if refused then (0, some geSlverr, s)
  else if !t.toCrown && !farDecodes t.addr then (0, some geDecerr, s)
  else match t.val with
  | some v => (0, none, s.storeWord t.attr t.addr v)
  | none =>
    let (w, s1) := if !t.toCrown && s.inRange g t.addr R.GWB_Lg_PFr_BASE_PREFETCH then s.fetchLine g t.attr t.addr
      else s.loadWord t.attr t.addr
    (w, none, s1)

/-- GWB_COMPLETION (R267, R270, R275): the far side has carried out a request, or refused it; its requester gets the answer,
or the bridge holds it. -/
def State.farDone (s : State) (g tag : Nat) (refused : Bool) : State :=
  match (s.gwb g).txs.find? fun t => t.tag = tag ∧ t.held = none with
  | none => s
  | some t =>
    if !s.farTurn g t then s
    else
      let (v, e, s1) := s.farPerform g t refused
      if t.posted then
        match e with
        | some k => (s1.txDrop g tag).farErr g t.attr t.addr k 0
        | none => s1.txDrop g tag
      else if t.waits then
        match e with
        | some k => (s1.txDrop g tag).busErr (respOf k)
        | none => (s1.txDrop g tag).respondBus v
      else s1.modGwb g fun x => { x with txs := x.txs.map fun y => if y.tag = tag then { y with held := some (v, e) } else y }

/-! Accesses. -/

/-- A checked access to a register, over its link where it lies on a far die (R20, R21, R325). -/
def State.regAccess (s : State) (a : Attr) (addr : Nat) (write : Bool) (near : State → State) (far : State → Nat → State) : State :=
  if !s.regAdmits a addr write then s.deny a addr
  else if s.gated addr then s.gateAccess a addr
  else match farLink a addr with
  | some g => far s g
  | none => near s

/-- REG_WRITE: a 32-bit write; address bits 1-0 are ignored. -/
def State.regWrite (s : State) (a : Attr) (addr0 : Nat) (v : Word) : State :=
  let addr := addr0 / 4 * 4
  let g := (addr - 0x20420000) / 0x1000
  if isMemory addr then s.memStore a addr v
  else if isRom addr && a.isForester then s.respondBus 0
  else if !isRegSpace addr then s.deny a addr
  else if 0x20420000 ≤ addr ∧ g < 6 ∧ addr = R.GWB_Lg_LOCK g then (if v.getLsbD 0 then s.lockReq a g else s.lockEnd a g)
  else s.regAccess a addr true (fun s => (s.respondBus 0).storeWord a addr v) fun s g => s.farWrite g a addr v

/-- A read at a register and its response. -/
def State.loadRespond (s : State) (a : Attr) (addr : Nat) : State :=
  let (v, t) := s.loadWord a addr
  t.respondBus v

/-- REG_READ: a 32-bit read; what the boot ROM and the code flash hold at an address is a free value. -/
def State.regRead (s : State) (a : Attr) (addr0 : Nat) : State :=
  let addr := addr0 / 4 * 4
  if isMemory addr then s.memLoad a addr
  else if isRom addr && a.isForester then let (v, t) := s.fresh; t.respondBus (v.setWidth 32)
  else if !isRegSpace addr then s.deny a addr
  else s.regAccess a addr false (fun s => s.loadRespond a addr) fun s g => s.farRead g a addr

def execRegWrite (a : Attr) (addr : Nat) (val : Word) (s : State) : Out := s.finish (s.regWrite a addr val)
def execRegRead (a : Attr) (addr : Nat) (s : State) : Out := s.finish (s.regRead a addr)

/-- COUNTER_READ_CLEAR (R7): the read of an RC register. -/
def execCounterReadClear (a : Attr) (addr : Nat) (s : State) : Out := s.finish (s.regRead a addr)

/-! Rows that are a write to one register of a far die: each goes over its link as any write does (R267-R275). -/

/-- SS_ON_WRITE (R149): the other fields of SSs_CFG as they are. -/
def execSsOnWrite (a : Attr) (u : Fin 8) (on : Bool) (s : State) : Out :=
  s.finish (s.regWrite a (R.SSs_CFG u) (setBits (s.raw (R.SSs_CFG u)) 0 0 (b2n on)))

def execBoleAdopt (a : Attr) (d : Fin 4) (s : State) : Out := s.finish (s.regWrite a (R.BOLE_HOLD d) 1)
def execLimbAdopt (a : Attr) (l : Fin 2) (s : State) : Out := s.finish (s.regWrite a (R.LIMB_HOLD l) 1)
def execSleepCommit (a : Attr) (s : State) : Out := s.finish (s.regWrite a R.WAKE_CMT 1)
def execTrxModeWrite (a : Attr) (j : Fin 24) (val : Word) (s : State) : Out := s.finish (s.regWrite a (R.TRXj_CTRL j) val)
def execIsbErase (a : Attr) (s : State) : Out := s.finish (s.regWrite a R.ISB_CTRL 1)
def execIsbTrialSet (a : Attr) (s : State) : Out := s.finish (s.regWrite a R.ISB_CTRL 2)
def execIsbRestart (a : Attr) (s : State) : Out := s.finish (s.regWrite a R.ISB_CTRL 4)
def execIsbConfirm (a : Attr) (s : State) : Out := s.finish (s.regWrite a R.ISB_CTRL 8)
def execIsbProgram (a : Attr) (val : Word) (s : State) : Out := s.finish (s.regWrite a R.ISB_DATA val)

def execGwbCompletion (g : Fin 6) (tag : Nat) (refused : Bool) (s : State) : Out := s.finish (s.farDone g tag refused)

end Sys2Proof.Machine
end

