-- ==== Sys2Proof/Machine/ServiceUart.lean ====
section
/-! DEFINITION. The service UART (R489): the service port bridge of R39, which reaches the Forester mailbox with RQC 3. -/

namespace Sys2Proof.Machine

/-- The attributes of the bridge (R39, R489). -/
def uartAttr : Attr := ⟨false, 0, 3⟩

/-- NAK codes. -/
def nakCrc : Nat := 1
def nakRange : Nat := 2
def nakFabric : Nat := 3

/-- A frame on the UART: SYNC, TYPE, TAG, OFFSET, LEN, DATA, CRC. -/
def uartFrame (type tag off len : Nat) (data : List Byte) : List Byte :=
  let b := leBytes 1 type ++ leBytes 1 tag ++ leBytes 2 off ++ leBytes 2 len ++ data
  [0xA5, 0x5A] ++ b ++ leBytes 4 (crc32c b)

/-- The length of the request that a buffer begins with, from its header; none for a TYPE that is no request. -/
def uartLen (b : List Byte) : Option Nat :=
  if le b 2 1 = 1 then some (12 + le b 6 2) else if le b 2 1 = 2 then some 12 else none

/-- A reply noted. -/
def State.uartReply (s : State) (r : List Byte) : State := s.onUart fun u => { u with replies := u.replies ++ [r] }

/-- A whole request carried out, or answered with a NAK and without effect. -/
def State.uartRequest (s : State) (f : List Byte) : State :=
  let type := le f 2 1
  let tag := le f 3 1
  let off := le f 4 2
  let len := le f 6 2
  let n := f.length
  let nak (s : State) (code : Nat) : State := s.uartReply (uartFrame 0xE0 tag off 4 (leBytes 4 code))
  let base := mbxBase forester + off
  if le f (n - 4) 4 ≠ crc32c ((f.drop 2).take (n - 6)) then nak s nakCrc
  else if off % 4 ≠ 0 ∨ len % 4 ≠ 0 ∨ len < 4 ∨ 1024 < len ∨ 4096 < off + len then nak s nakRange
  else if !s.regAdmits uartAttr base (type = 1) then nak (s.deny uartAttr base) nakFabric
  else if type = 1 then
    let s1 := ((leWords ((f.drop 8).take len)).zipIdx).foldl (fun (s : State) w => s.regWrite uartAttr (base + 4 * w.2) w.1) s
    s1.uartReply (uartFrame 0x81 tag off len [])
  else
    let (d, s1) := (List.range (len / 4)).foldl (fun (acc : List Byte × State) k =>
      let t := acc.2.regRead uartAttr (base + 4 * k)
      (acc.1 ++ leBytes 4 t.bus.data.toNat, t)) ([], s)
    s1.uartReply (uartFrame 0x82 tag off len d)

/-- The bytes held, request by request, in order of arrival; bytes before a SYNC and requests of no known TYPE are
passed over. -/
def State.uartRun (s : State) (b : List Byte) : Nat → State
  | 0 => s.onUart fun u => { u with buf := b }
  | n + 1 =>
    match b with
    | [] => s.onUart fun u => { u with buf := [] }
    | x :: t =>
      if x ≠ 0xA5 ∨ (t ≠ [] ∧ t.head? ≠ some 0x5A) then s.uartRun t n
      else if b.length < 8 then s.onUart fun u => { u with buf := b }
      else match uartLen b with
      | none => s.uartRun t n
      | some k => if b.length < k then s.onUart fun u => { u with buf := b } else (s.uartRequest (b.take k)).uartRun (b.drop k) n

/-- Bytes received after those held. -/
def State.uartIn (s : State) (bytes : List Byte) : State :=
  let b := s.uart.buf ++ bytes
  (s.onUart fun _ => {}).uartRun b (b.length + 1)

def execSvcUartWrite (bytes : List Byte) (s : State) : Out := s.finish (s.uartIn bytes)
def execSvcUartRead (bytes : List Byte) (s : State) : Out := s.finish (s.uartIn bytes)
/-- SVC_UART_GAP_TIMEOUT: a partial frame is discarded without a reply. -/
def execSvcUartGapTimeout (s : State) : Out := s.finish (s.onUart fun _ => {})

end Sys2Proof.Machine
end

