-- ==== Sys2Proof/Machine/Dispatch.lean ====
section
/-! DEFINITION. The meaning of each command: one arm for each row of spec/opcode_table.json. -/

namespace Sys2Proof.Machine

def exec (i : Instr) (s : State) : Host.Outcome State Fault Refusal :=
  match i with
  | .frameBoundary obs => Sys2Proof.Machine.execFrameBoundary obs s
  | .frmStart a => Sys2Proof.Machine.execFrmStart a s
  | .frmNumLoRead a => Sys2Proof.Machine.execFrmNumLoRead a s
  | .counterReadClear a addr => Sys2Proof.Machine.execCounterReadClear a addr s
  | .regWrite a addr val => Sys2Proof.Machine.execRegWrite a addr val s
  | .commitInstant m => Sys2Proof.Machine.execCommitInstant m s
  | .commitLinkTimeout m => Sys2Proof.Machine.execCommitLinkTimeout m s
  | .landingCarry => Sys2Proof.Machine.execLandingCarry s
  | .governorInstant => Sys2Proof.Machine.execGovernorInstant s
  | .partFrameTick p => Sys2Proof.Machine.execPartFrameTick p s
  | .partBudgetExpiry p => Sys2Proof.Machine.execPartBudgetExpiry p s
  | .evrDoneWrite a p => Sys2Proof.Machine.execEvrDoneWrite a p s
  | .evrWdgKick a p => Sys2Proof.Machine.execEvrWdgKick a p s
  | .partWdgExpiry p => Sys2Proof.Machine.execPartWdgExpiry p s
  | .syncAccepted x info => Sys2Proof.Machine.execSyncAccepted x info s
  | .domainTimeout x => Sys2Proof.Machine.execDomainTimeout x s
  | .domainQualified x => Sys2Proof.Machine.execDomainQualified x s
  | .domainReturnQualified x => Sys2Proof.Machine.execDomainReturnQualified x s
  | .lcReadLatch a => Sys2Proof.Machine.execLcReadLatch a s
  | .domStatReadLatch a x => Sys2Proof.Machine.execDomStatReadLatch a x s
  | .longCompletion k out => Sys2Proof.Machine.execLongCompletion k out s
  | .longEntryFree a m e => Sys2Proof.Machine.execLongEntryFree a m e s
  | .evtTailWrite a m v => Sys2Proof.Machine.execEvtTailWrite a m v s
  | .mbxCommitWrite a m => Sys2Proof.Machine.execMbxCommitWrite a m s
  | .queueProdWrite a q v => Sys2Proof.Machine.execQueueProdWrite a q v s
  | .queueConsWrite a q v => Sys2Proof.Machine.execQueueConsWrite a q v s
  | .queueCommand q fate => Sys2Proof.Machine.execQueueCommand q fate s
  | .cqRoomAvailable q => Sys2Proof.Machine.execCqRoomAvailable q s
  | .cfgCopyRepair ty => Sys2Proof.Machine.execCfgCopyRepair ty s
  | .inEdge src level => Sys2Proof.Machine.execInEdge src level s
  | .captureComplete n samples => Sys2Proof.Machine.execCaptureComplete n samples s
  | .inrushWindowEnd n => Sys2Proof.Machine.execInrushWindowEnd n s
  | .currentCeilingReached n => Sys2Proof.Machine.execCurrentCeilingReached n s
  | .currentBelowCeiling n => Sys2Proof.Machine.execCurrentBelowCeiling n s
  | .overcurrentTrip n cur => Sys2Proof.Machine.execOvercurrentTrip n cur s
  | .shortCircuit n peak => Sys2Proof.Machine.execShortCircuit n peak s
  | .thermalShutdown n delta temp => Sys2Proof.Machine.execThermalShutdown n delta temp s
  | .dieThermalShutdown d => Sys2Proof.Machine.execDieThermalShutdown d s
  | .thermalLatchClear n => Sys2Proof.Machine.execThermalLatchClear n s
  | .retryRefill n => Sys2Proof.Machine.execRetryRefill n s
  | .openLoadDetect n offState => Sys2Proof.Machine.execOpenLoadDetect n offState s
  | .stbDetect n => Sys2Proof.Machine.execStbDetect n s
  | .supplyConditionEnter d cond mv => Sys2Proof.Machine.execSupplyConditionEnter d cond mv s
  | .supplyConditionLeave d cond mv => Sys2Proof.Machine.execSupplyConditionLeave d cond mv s
  | .crownResetIndication die => Sys2Proof.Machine.execCrownResetIndication die s
  | .linkSilenceTimeout die => Sys2Proof.Machine.execLinkSilenceTimeout die s
  | .dieLocalBoundary die obs => Sys2Proof.Machine.execDieLocalBoundary die obs s
  | .boleAdopt a d => Sys2Proof.Machine.execBoleAdopt a d s
  | .sequencerResume d => Sys2Proof.Machine.execSequencerResume d s
  | .leaseLineChange d level => Sys2Proof.Machine.execLeaseLineChange d level s
  | .chkReleaseInChange level => Sys2Proof.Machine.execChkReleaseInChange level s
  | .soGateEnableChange k sw level => Sys2Proof.Machine.execSoGateEnableChange k sw level s
  | .soSwitchTrip k sw cause => Sys2Proof.Machine.execSoSwitchTrip k sw cause s
  | .uioRangeCount p ovr => Sys2Proof.Machine.execUioRangeCount p ovr s
  | .shuntOvercurrent p => Sys2Proof.Machine.execShuntOvercurrent p s
  | .shuntReconnect p => Sys2Proof.Machine.execShuntReconnect p s
  | .digitalFilterExpiry p level => Sys2Proof.Machine.execDigitalFilterExpiry p level s
  | .freqQuadEdge p x ts => Sys2Proof.Machine.execFreqQuadEdge p x ts s
  | .uioOutLimitTrip p => Sys2Proof.Machine.execUioOutLimitTrip p s
  | .uioOutThermal p => Sys2Proof.Machine.execUioOutThermal p s
  | .uioOutOpenCount p => Sys2Proof.Machine.execUioOutOpenCount p s
  | .kerfEdgeMessage t level => Sys2Proof.Machine.execKerfEdgeMessage t level s
  | .limbAdopt a l => Sys2Proof.Machine.execLimbAdopt a l s
  | .ssOnWrite a u on => Sys2Proof.Machine.execSsOnWrite a u on s
  | .ssLimitTimeout u => Sys2Proof.Machine.execSsLimitTimeout u s
  | .ssRetryTimer u => Sys2Proof.Machine.execSsRetryTimer u s
  | .ssBackfeedDetect u => Sys2Proof.Machine.execSsBackfeedDetect u s
  | .ssBackfeedClear u => Sys2Proof.Machine.execSsBackfeedClear u s
  | .extInEdge k level => Sys2Proof.Machine.execExtInEdge k level s
  | .kerfPwmEdge t kind => Sys2Proof.Machine.execKerfPwmEdge t kind s
  | .inKHoldExpiry => Sys2Proof.Machine.execInKHoldExpiry s
  | .senseMessage d msg => Sys2Proof.Machine.execSenseMessage d msg s
  | .kcExecute c => Sys2Proof.Machine.execKcExecute c s
  | .senseLostCount c => Sys2Proof.Machine.execSenseLostCount c s
  | .kcSaturationRun c => Sys2Proof.Machine.execKcSaturationRun c s
  | .canFrameValid n f => Sys2Proof.Machine.execCanFrameValid n f s
  | .canFifoDrain n => Sys2Proof.Machine.execCanFifoDrain n s
  | .canMoRead a n o w => Sys2Proof.Machine.execCanMoRead a n o w s
  | .canRxUnlock a n bits => Sys2Proof.Machine.execCanRxUnlock a n bits s
  | .canTxRequest a n bits => Sys2Proof.Machine.execCanTxRequest a n bits s
  | .canTxAbort a n bits => Sys2Proof.Machine.execCanTxAbort a n bits s
  | .canSofOpportunity n => Sys2Proof.Machine.execCanSofOpportunity n s
  | .canTxComplete n out => Sys2Proof.Machine.execCanTxComplete n out s
  | .canBufferRefill n => Sys2Proof.Machine.execCanBufferRefill n s
  | .canBusError n err => Sys2Proof.Machine.execCanBusError n err s
  | .canIntegrated n => Sys2Proof.Machine.execCanIntegrated n s
  | .canStopped n => Sys2Proof.Machine.execCanStopped n s
  | .canRecoveryDone n => Sys2Proof.Machine.execCanRecoveryDone n s
  | .canBoffRelWrite a n => Sys2Proof.Machine.execCanBoffRelWrite a n s
  | .trxModeWrite a j val => Sys2Proof.Machine.execTrxModeWrite a j val s
  | .trxWakeDetect j => Sys2Proof.Machine.execTrxWakeDetect j s
  | .txdDominantTimeout j => Sys2Proof.Machine.execTxdDominantTimeout j s
  | .trxThermalShutdown j => Sys2Proof.Machine.execTrxThermalShutdown j s
  | .busDominantTimeout j => Sys2Proof.Machine.execBusDominantTimeout j s
  | .wakeSourceDetect srcs => Sys2Proof.Machine.execWakeSourceDetect srcs s
  | .rtcAlarm => Sys2Proof.Machine.execRtcAlarm s
  | .sleepCommit a => Sys2Proof.Machine.execSleepCommit a s
  | .regulatorOff => Sys2Proof.Machine.execRegulatorOff s
  | .ringMessageReceived g f => Sys2Proof.Machine.execRingMessageReceived g f s
  | .ringRoundStart g => Sys2Proof.Machine.execRingRoundStart g s
  | .ringNodeTimeout g => Sys2Proof.Machine.execRingNodeTimeout g s
  | .ringStartTimeout g => Sys2Proof.Machine.execRingStartTimeout g s
  | .ringListenEnd g => Sys2Proof.Machine.execRingListenEnd g s
  | .ringJoinTimer g => Sys2Proof.Machine.execRingJoinTimer g s
  | .ringFormationTimer g => Sys2Proof.Machine.execRingFormationTimer g s
  | .ringRejoinTimer g => Sys2Proof.Machine.execRingRejoinTimer g s
  | .sleepWaitEnd g => Sys2Proof.Machine.execSleepWaitEnd g s
  | .idleTimeExpiry g => Sys2Proof.Machine.execIdleTimeExpiry g s
  | .stayExpiry p reason => Sys2Proof.Machine.execStayExpiry p reason s
  | .ethFrameReceived p f => Sys2Proof.Machine.execEthFrameReceived p f s
  | .ethTxDone p ts => Sys2Proof.Machine.execEthTxDone p ts s
  | .gateEntryChange p => Sys2Proof.Machine.execGateEntryChange p s
  | .portLinkChange p up sqi => Sys2Proof.Machine.execPortLinkChange p up sqi s
  | .hostTxDescriptor k => Sys2Proof.Machine.execHostTxDescriptor k s
  | .hostRxBufferPost k => Sys2Proof.Machine.execHostRxBufferPost k s
  | .tsqPop a p => Sys2Proof.Machine.execTsqPop a p s
  | .fdbAgeing mac vid => Sys2Proof.Machine.execFdbAgeing mac vid s
  | .sqiLowCount p sqi => Sys2Proof.Machine.execSqiLowCount p sqi s
  | .routeStaleTimeout r => Sys2Proof.Machine.execRouteStaleTimeout r s
  | .emitBuild r => Sys2Proof.Machine.execEmitBuild r s
  | .containerBuild c => Sys2Proof.Machine.execContainerBuild c s
  | .containerReceived p f => Sys2Proof.Machine.execContainerReceived p f s
  | .linkCrcError p => Sys2Proof.Machine.execLinkCrcError p s
  | .linkTrainingResult g ok => Sys2Proof.Machine.execLinkTrainingResult g ok s
  | .linkTrainingRetry g => Sys2Proof.Machine.execLinkTrainingRetry g s
  | .gwbCompletion g tag refused => Sys2Proof.Machine.execGwbCompletion g tag refused s
  | .nonpostedTimeout g tag => Sys2Proof.Machine.execNonpostedTimeout g tag s
  | .delayedCompletionExpiry g tag => Sys2Proof.Machine.execDelayedCompletionExpiry g tag s
  | .islandRetryTimeout tag => Sys2Proof.Machine.execIslandRetryTimeout tag s
  | .prefetchLineExpiry g line => Sys2Proof.Machine.execPrefetchLineExpiry g line s
  | .gwbLockRequest a g => Sys2Proof.Machine.execGwbLockRequest a g s
  | .gwbUnlock a g => Sys2Proof.Machine.execGwbUnlock a g s
  | .lockGrant g => Sys2Proof.Machine.execLockGrant g s
  | .lockHoldExpiry g => Sys2Proof.Machine.execLockHoldExpiry g s
  | .lockstepMismatch k c => Sys2Proof.Machine.execLockstepMismatch k c s
  | .trapLoop k half => Sys2Proof.Machine.execTrapLoop k half s
  | .pairStart a k => Sys2Proof.Machine.execPairStart a k s
  | .pairHalt a k => Sys2Proof.Machine.execPairHalt a k s
  | .startTestDone k out => Sys2Proof.Machine.execStartTestDone k out s
  | .memReadError a addr err => Sys2Proof.Machine.execMemReadError a addr err s
  | .scrubPassEnd dram ms => Sys2Proof.Machine.execScrubPassEnd dram ms s
  | .scrubLate dram => Sys2Proof.Machine.execScrubLate dram s
  | .debugHalt k half => Sys2Proof.Machine.execDebugHalt k half s
  | .debugResume k half => Sys2Proof.Machine.execDebugResume k half s
  | .debugWrite k half reg val => Sys2Proof.Machine.execDebugWrite k half reg val s
  | .wcall h mode pc => Sys2Proof.Machine.execWcall h mode pc s
  | .wret h => Sys2Proof.Machine.execWret h s
  | .heartCallTimeout h => Sys2Proof.Machine.execHeartCallTimeout h s
  | .fenceAck p e => Sys2Proof.Machine.execFenceAck p e s
  | .partLoadDone p out => Sys2Proof.Machine.execPartLoadDone p out s
  | .cryptoJob vq => Sys2Proof.Machine.execCryptoJob vq s
  | .cryptoUnitDone e out => Sys2Proof.Machine.execCryptoUnitDone e out s
  | .islandEvaluation obs => Sys2Proof.Machine.execIslandEvaluation obs s
  | .islandLocalTimer obs => Sys2Proof.Machine.execIslandLocalTimer obs s
  | .evalTimeout => Sys2Proof.Machine.execEvalTimeout s
  | .islandWdgExpiry => Sys2Proof.Machine.execIslandWdgExpiry s
  | .outputStageTimeout line => Sys2Proof.Machine.execOutputStageTimeout line s
  | .islandMismatch => Sys2Proof.Machine.execIslandMismatch s
  | .islandClockFault => Sys2Proof.Machine.execIslandClockFault s
  | .l1SupplyFault => Sys2Proof.Machine.execL1SupplyFault s
  | .siFilterExpiry si chB level => Sys2Proof.Machine.execSiFilterExpiry si chB level s
  | .discrepancyTimeout si => Sys2Proof.Machine.execDiscrepancyTimeout si s
  | .tpPulse t obs => Sys2Proof.Machine.execTpPulse t obs s
  | .safeResetEdge level => Sys2Proof.Machine.execSafeResetEdge level s
  | .safeResetStuck => Sys2Proof.Machine.execSafeResetStuck s
  | .swiPeriod w periodUs highUs => Sys2Proof.Machine.execSwiPeriod w periodUs highUs s
  | .swiFilterExpiry w => Sys2Proof.Machine.execSwiFilterExpiry w s
  | .switchTestTimer k x => Sys2Proof.Machine.execSwitchTestTimer k x s
  | .pairFaultLine k level => Sys2Proof.Machine.execPairFaultLine k level s
  | .islandStart res => Sys2Proof.Machine.execIslandStart res s
  | .islandMirrorRead => Sys2Proof.Machine.execIslandMirrorRead s
  | .renewSend => Sys2Proof.Machine.execRenewSend s
  | .helloSend => Sys2Proof.Machine.execHelloSend s
  | .stateSend => Sys2Proof.Machine.execStateSend s
  | .leaseSelfExpiry => Sys2Proof.Machine.execLeaseSelfExpiry s
  | .leaseExpiry => Sys2Proof.Machine.execLeaseExpiry s
  | .pairAgeLimit sig => Sys2Proof.Machine.execPairAgeLimit sig s
  | .arbitrateEnd => Sys2Proof.Machine.execArbitrateEnd s
  | .chkLeaseInChange valid => Sys2Proof.Machine.execChkLeaseInChange valid s
  | .chokerYieldTimer => Sys2Proof.Machine.execChokerYieldTimer s
  | .renewReceived f => Sys2Proof.Machine.execRenewReceived f s
  | .mirrorReceived f => Sys2Proof.Machine.execMirrorReceived f s
  | .ackReceived f => Sys2Proof.Machine.execAckReceived f s
  | .mirrorAckTimeout => Sys2Proof.Machine.execMirrorAckTimeout s
  | .stateReceived f => Sys2Proof.Machine.execStateReceived f s
  | .imageReceived f => Sys2Proof.Machine.execImageReceived f s
  | .ckptReceived f => Sys2Proof.Machine.execCkptReceived f s
  | .helloReceived f => Sys2Proof.Machine.execHelloReceived f s
  | .handbackReceived f => Sys2Proof.Machine.execHandbackReceived f s
  | .takeoverLeaseEnable => Sys2Proof.Machine.execTakeoverLeaseEnable s
  | .takeoverSwitch => Sys2Proof.Machine.execTakeoverSwitch s
  | .takeoverRelease => Sys2Proof.Machine.execTakeoverRelease s
  | .handbackStop => Sys2Proof.Machine.execHandbackStop s
  | .handbackReleaseLow => Sys2Proof.Machine.execHandbackReleaseLow s
  | .handbackLeasePass => Sys2Proof.Machine.execHandbackLeasePass s
  | .drbgHealthFail => Sys2Proof.Machine.execDrbgHealthFail s
  | .authExpiry => Sys2Proof.Machine.execAuthExpiry s
  | .authLockoutEnd => Sys2Proof.Machine.execAuthLockoutEnd s
  | .dbgEnDeassert => Sys2Proof.Machine.execDbgEnDeassert s
  | .trialWindowExpiry => Sys2Proof.Machine.execTrialWindowExpiry s
  | .isbConfirm a => Sys2Proof.Machine.execIsbConfirm a s
  | .isbRestart a => Sys2Proof.Machine.execIsbRestart a s
  | .isbTrialSet a => Sys2Proof.Machine.execIsbTrialSet a s
  | .isbErase a => Sys2Proof.Machine.execIsbErase a s
  | .isbProgram a val => Sys2Proof.Machine.execIsbProgram a val s
  | .isbFlashDone ok => Sys2Proof.Machine.execIsbFlashDone ok s
  | .incFlush => Sys2Proof.Machine.execIncFlush s
  | .freezeEnd => Sys2Proof.Machine.execFreezeEnd s
  | .snapshotWrite => Sys2Proof.Machine.execSnapshotWrite s
  | .exportSend => Sys2Proof.Machine.execExportSend s
  | .incQueueEntry q => Sys2Proof.Machine.execIncQueueEntry q s
  | .porAssert => Sys2Proof.Machine.execPorAssert s
  | .porRelease => Sys2Proof.Machine.execPorRelease s
  | .holdThreshold => Sys2Proof.Machine.execHoldThreshold s
  | .borAssert => Sys2Proof.Machine.execBorAssert s
  | .borRelease => Sys2Proof.Machine.execBorRelease s
  | .startCondition => Sys2Proof.Machine.execStartCondition s
  | .studLossEnter b => Sys2Proof.Machine.execStudLossEnter b s
  | .studLossLeave b => Sys2Proof.Machine.execStudLossLeave b s
  | .extRangeEnter => Sys2Proof.Machine.execExtRangeEnter s
  | .extRangeLeave => Sys2Proof.Machine.execExtRangeLeave s
  | .thermalThreshold plate crown => Sys2Proof.Machine.execThermalThreshold plate crown s
  | .clockFailure => Sys2Proof.Machine.execClockFailure s
  | .pinReset => Sys2Proof.Machine.execPinReset s
  | .pinRelease => Sys2Proof.Machine.execPinRelease s
  | .resetInLong => Sys2Proof.Machine.execResetInLong s
  | .swrGo a val => Sys2Proof.Machine.execSwrGo a val s
  | .blkrstCan a mask => Sys2Proof.Machine.execBlkrstCan a mask s
  | .blkrstCrypto a mask => Sys2Proof.Machine.execBlkrstCrypto a mask s
  | .blkrstInr a => Sys2Proof.Machine.execBlkrstInr a s
  | .blkrstLgw a => Sys2Proof.Machine.execBlkrstLgw a s
  | .blkrstEsw a => Sys2Proof.Machine.execBlkrstEsw a s
  | .fwdgKick a val => Sys2Proof.Machine.execFwdgKick a val s
  | .fwdgPeriodWrite a val => Sys2Proof.Machine.execFwdgPeriodWrite a val s
  | .fwdgExpiry => Sys2Proof.Machine.execFwdgExpiry s
  | .resetReleaseStep obs => Sys2Proof.Machine.execResetReleaseStep obs s
  | .holdoffEnd => Sys2Proof.Machine.execHoldoffEnd s
  | .modeDecision => Sys2Proof.Machine.execModeDecision s
  | .partnerImageServe ans => Sys2Proof.Machine.execPartnerImageServe ans s
  | .updateImageTimeout => Sys2Proof.Machine.execUpdateImageTimeout s
  | .svcUartWrite bytes => Sys2Proof.Machine.execSvcUartWrite bytes s
  | .svcUartRead bytes => Sys2Proof.Machine.execSvcUartRead bytes s
  | .svcUartGapTimeout => Sys2Proof.Machine.execSvcUartGapTimeout s
  | .sysHello m fate => Sys2Proof.Machine.execSysHello m fate s
  | .sysInfo m fate => Sys2Proof.Machine.execSysInfo m fate s
  | .sysCommit m fate => Sys2Proof.Machine.execSysCommit m fate s
  | .sysDiscard m fate => Sys2Proof.Machine.execSysDiscard m fate s
  | .sysEvtSub m fate => Sys2Proof.Machine.execSysEvtSub m fate s
  | .sysEvtUnsub m fate => Sys2Proof.Machine.execSysEvtUnsub m fate s
  | .sysCfgRead m fate => Sys2Proof.Machine.execSysCfgRead m fate s
  | .sysCfgWrite m fate => Sys2Proof.Machine.execSysCfgWrite m fate s
  | .sysSvcPut m fate => Sys2Proof.Machine.execSysSvcPut m fate s
  | .chSet m fate => Sys2Proof.Machine.execChSet m fate s
  | .chConfig m fate => Sys2Proof.Machine.execChConfig m fate s
  | .chGet m fate => Sys2Proof.Machine.execChGet m fate s
  | .chAck m fate => Sys2Proof.Machine.execChAck m fate s
  | .chSoGet m fate => Sys2Proof.Machine.execChSoGet m fate s
  | .govGet m fate => Sys2Proof.Machine.execGovGet m fate s
  | .chMeasGet m fate => Sys2Proof.Machine.execChMeasGet m fate s
  | .chWireSet m fate => Sys2Proof.Machine.execChWireSet m fate s
  | .chTambSet m fate => Sys2Proof.Machine.execChTambSet m fate s
  | .sigConfig m fate => Sys2Proof.Machine.execSigConfig m fate s
  | .sigRefSet m fate => Sys2Proof.Machine.execSigRefSet m fate s
  | .sigRead m fate => Sys2Proof.Machine.execSigRead m fate s
  | .uioConfig m fate => Sys2Proof.Machine.execUioConfig m fate s
  | .uioRead m fate => Sys2Proof.Machine.execUioRead m fate s
  | .uioOutSet m fate => Sys2Proof.Machine.execUioOutSet m fate s
  | .uioStatus m fate => Sys2Proof.Machine.execUioStatus m fate s
  | .ssSet m fate => Sys2Proof.Machine.execSsSet m fate s
  | .ssGet m fate => Sys2Proof.Machine.execSsGet m fate s
  | .ktConfig m fate => Sys2Proof.Machine.execKtConfig m fate s
  | .ktDuty m fate => Sys2Proof.Machine.execKtDuty m fate s
  | .ktGet m fate => Sys2Proof.Machine.execKtGet m fate s
  | .kcConfig m fate => Sys2Proof.Machine.execKcConfig m fate s
  | .kcSet m fate => Sys2Proof.Machine.execKcSet m fate s
  | .kcGet m fate => Sys2Proof.Machine.execKcGet m fate s
  | .extGet m fate => Sys2Proof.Machine.execExtGet m fate s
  | .canConfig m fate => Sys2Proof.Machine.execCanConfig m fate s
  | .canRun m fate => Sys2Proof.Machine.execCanRun m fate s
  | .canFilter m fate => Sys2Proof.Machine.execCanFilter m fate s
  | .canFifo m fate => Sys2Proof.Machine.execCanFifo m fate s
  | .canSend m fate => Sys2Proof.Machine.execCanSend m fate s
  | .canRead m fate => Sys2Proof.Machine.execCanRead m fate s
  | .canStatus m fate => Sys2Proof.Machine.execCanStatus m fate s
  | .canBoffRelease m fate => Sys2Proof.Machine.execCanBoffRelease m fate s
  | .canTrxSet m fate => Sys2Proof.Machine.execCanTrxSet m fate s
  | .canTrxGet m fate => Sys2Proof.Machine.execCanTrxGet m fate s
  | .tlyStay m fate => Sys2Proof.Machine.execTlyStay m fate s
  | .tlyGet m fate => Sys2Proof.Machine.execTlyGet m fate s
  | .tlyVetoList m fate => Sys2Proof.Machine.execTlyVetoList m fate s
  | .wakeGet m fate => Sys2Proof.Machine.execWakeGet m fate s
  | .wakeAlarm m fate => Sys2Proof.Machine.execWakeAlarm m fate s
  | .ethPortCfg m fate => Sys2Proof.Machine.execEthPortCfg m fate s
  | .ethPortGet m fate => Sys2Proof.Machine.execEthPortGet m fate s
  | .ethGclSet m fate => Sys2Proof.Machine.execEthGclSet m fate s
  | .ethGclGet m fate => Sys2Proof.Machine.execEthGclGet m fate s
  | .ethFdbSet m fate => Sys2Proof.Machine.execEthFdbSet m fate s
  | .ethVlanSet m fate => Sys2Proof.Machine.execEthVlanSet m fate s
  | .ethQciSet m fate => Sys2Proof.Machine.execEthQciSet m fate s
  | .ethQpGet m fate => Sys2Proof.Machine.execEthQpGet m fate s
  | .ethTsRead m fate => Sys2Proof.Machine.execEthTsRead m fate s
  | .timeGet m fate => Sys2Proof.Machine.execTimeGet m fate s
  | .timeDomGet m fate => Sys2Proof.Machine.execTimeDomGet m fate s
  | .lgwRouteSet m fate => Sys2Proof.Machine.execLgwRouteSet m fate s
  | .lgwImageSet m fate => Sys2Proof.Machine.execLgwImageSet m fate s
  | .lgwEnable m fate => Sys2Proof.Machine.execLgwEnable m fate s
  | .lgwRead m fate => Sys2Proof.Machine.execLgwRead m fate s
  | .lgwStatus m fate => Sys2Proof.Machine.execLgwStatus m fate s
  | .gwbStatus m fate => Sys2Proof.Machine.execGwbStatus m fate s
  | .partInfo m fate => Sys2Proof.Machine.execPartInfo m fate s
  | .partRestart m fate => Sys2Proof.Machine.execPartRestart m fate s
  | .partStop m fate => Sys2Proof.Machine.execPartStop m fate s
  | .partStart m fate => Sys2Proof.Machine.execPartStart m fate s
  | .partGate m fate => Sys2Proof.Machine.execPartGate m fate s
  | .partGateGet m fate => Sys2Proof.Machine.execPartGateGet m fate s
  | .safeGet m fate => Sys2Proof.Machine.execSafeGet m fate s
  | .safeFnGet m fate => Sys2Proof.Machine.execSafeFnGet m fate s
  | .safeFaultLog m fate => Sys2Proof.Machine.execSafeFaultLog m fate s
  | .safeWrite m fate => Sys2Proof.Machine.execSafeWrite m fate s
  | .safeConfirm m fate => Sys2Proof.Machine.execSafeConfirm m fate s
  | .safeCheckGet m fate => Sys2Proof.Machine.execSafeCheckGet m fate s
  | .pairGet m fate => Sys2Proof.Machine.execPairGet m fate s
  | .pairCkptPub m fate => Sys2Proof.Machine.execPairCkptPub m fate s
  | .pairCkptInfo m fate => Sys2Proof.Machine.execPairCkptInfo m fate s
  | .pairHandover m fate => Sys2Proof.Machine.execPairHandover m fate s
  | .keyInfo m fate => Sys2Proof.Machine.execKeyInfo m fate s
  | .keyLoad m fate => Sys2Proof.Machine.execKeyLoad m fate s
  | .keyUnload m fate => Sys2Proof.Machine.execKeyUnload m fate s
  | .keyStore m fate => Sys2Proof.Machine.execKeyStore m fate s
  | .keyDelete m fate => Sys2Proof.Machine.execKeyDelete m fate s
  | .keyPub m fate => Sys2Proof.Machine.execKeyPub m fate s
  | .authChal m fate => Sys2Proof.Machine.execAuthChal m fate s
  | .authResp m fate => Sys2Proof.Machine.execAuthResp m fate s
  | .authEnd m fate => Sys2Proof.Machine.execAuthEnd m fate s
  | .attest m fate => Sys2Proof.Machine.execAttest m fate s
  | .lcAdvance m fate => Sys2Proof.Machine.execLcAdvance m fate s
  | .updBegin m fate => Sys2Proof.Machine.execUpdBegin m fate s
  | .updBillet m fate => Sys2Proof.Machine.execUpdBillet m fate s
  | .updStatus m fate => Sys2Proof.Machine.execUpdStatus m fate s
  | .updActivate m fate => Sys2Proof.Machine.execUpdActivate m fate s
  | .updConfirm m fate => Sys2Proof.Machine.execUpdConfirm m fate s
  | .updReject m fate => Sys2Proof.Machine.execUpdReject m fate s
  | .updAbort m fate => Sys2Proof.Machine.execUpdAbort m fate s
  | .updInfo m fate => Sys2Proof.Machine.execUpdInfo m fate s
  | .incLog m fate => Sys2Proof.Machine.execIncLog m fate s
  | .incStatus m fate => Sys2Proof.Machine.execIncStatus m fate s
  | .incRead m fate => Sys2Proof.Machine.execIncRead m fate s
  | .incTrigger m fate => Sys2Proof.Machine.execIncTrigger m fate s
  | .incDrops m fate => Sys2Proof.Machine.execIncDrops m fate s
  | .incDiagGet m fate => Sys2Proof.Machine.execIncDiagGet m fate s
  | .sysModeReq m fate => Sys2Proof.Machine.execSysModeReq m fate s
  | .sysOptWrite m fate => Sys2Proof.Machine.execSysOptWrite m fate s
  | .sysReset m fate => Sys2Proof.Machine.execSysReset m fate s
  | .sysSupGet m fate => Sys2Proof.Machine.execSysSupGet m fate s
  | .regRead a addr => Sys2Proof.Machine.execRegRead a addr s
  | .cacheError h kind addr => Sys2Proof.Machine.execCacheError h kind addr s
  | .islandSramError => Sys2Proof.Machine.execIslandSramError s
  | .debugReset assert target => Sys2Proof.Machine.execDebugReset assert target s
  | .resetSourceRelease src => Sys2Proof.Machine.execResetSourceRelease src s
  | .clockRecheck ok => Sys2Proof.Machine.execClockRecheck ok s
  | .laneLockLoss g => Sys2Proof.Machine.execLaneLockLoss g s
  | .drbgReseed => Sys2Proof.Machine.execDrbgReseed s
  | .helloAgeExpiry => Sys2Proof.Machine.execHelloAgeExpiry s
  | .minAwakeExpiry => Sys2Proof.Machine.execMinAwakeExpiry s
  | .wakeInLevelChange k high => Sys2Proof.Machine.execWakeInLevelChange k high s
  | .trxThermalClear j => Sys2Proof.Machine.execTrxThermalClear j s
  | .wakeBiasTimeout j => Sys2Proof.Machine.execWakeBiasTimeout j s
  | .notBeforeInstant n b => Sys2Proof.Machine.execNotBeforeInstant n b s
  | .ptpIntervalExpiry kind => Sys2Proof.Machine.execPtpIntervalExpiry kind s

end Sys2Proof.Machine
end

