-- ==== Sys2Proof/Machine/Step.lean ====
section
/-! DEFINITION. The step of the block: the command at the front of the queue, or a tick of time on an empty one. -/

namespace Sys2Proof.Machine

/-- One step: the command that has waited longest runs with the queue's rest. On an empty queue nothing is commanded and
1 ns passes (State.idle). DESIGN CHOICE: the spec's table has no row for the passing of time. -/
def step (s : State) : Host.Outcome State Fault Refusal :=
  match s.pending with
  | [] => s.finish s.idle
  | c :: rest => exec c { s with pending := rest }

/-- The state with the command that a word spells put at the front of its queue. The table spells no command by bits, so
the state is as it was. -/
def State.withFetchWord (s : State) (nbits w : Nat) : State :=
  match decodeTableWord nbits w with
  | some c => { s with pending := c :: s.pending }
  | none => s

end Sys2Proof.Machine
end

