-- ==== Sys2Proof/Safety.lean ====
section
/-! DEFINITION. What every state of a run keeps, and what a run that never stops is. -/

namespace Sys2Proof.Machine

/-- Memory in its canonical form: addresses strictly rising, no entry equal to what an unlisted byte reads as. -/
def Memory.wf (m : List Host.Cell) : Bool := canon memDefault m

/-- Registers in their canonical form: addresses strictly rising, no entry equal to the Reset column. -/
def Registers.wf (r : List (Nat × Word)) : Bool := canon regReset r

/-- The sparse lists of the state are canonical, so that equal memories and equal registers are equal data. -/
def State.inv (s : State) : Bool := Registers.wf s.regs && Memory.wf s.mem

/-- The machine takes n steps from a state without a fault or a refusal. -/
def State.runs : Nat → State → Prop
  | 0, _ => True
  | n + 1, s => ∃ t, step s = .next t ∧ t.runs n

/-- A command answers a next state of which a property holds. -/
def Answers (i : Instr) (s : State) (p : State → Prop) : Prop := ∃ t, exec i s = .next t ∧ p t

/-- The frame of a command: every field that shares no bit with the fields listed, and lies in no exempt word, reads as
before; every byte of memory and the queue are as before. -/
def KeepsBut (exempt : Nat → Prop) (s t : State) (written : List Fld) : Prop :=
  (∀ f : Fld, f.ok → (∀ g ∈ written, g.apart f) → ¬ exempt f.addr → t.rd f = s.rd f) ∧
  (∀ a, t.memGet a = s.memGet a) ∧ t.pending = s.pending

/-- The frame of a command that raises events: the words of the router and the recorder are exempt. -/
def Keeps (s t : State) (written : List Fld) : Prop := KeepsBut eventWord s t written

/-- The frame of a command that raises no event: no word is exempt. -/
def KeepsQuiet (s t : State) (written : List Fld) : Prop := KeepsBut (fun _ => False) s t written

/-- An event with its payload, raised in the state s, stands in the Forester's list of t (R22, R75). -/
def Raised (s t : State) (num : Nat) (payload : List Byte) : Prop := ⟨num, s.frame, s.lc, payload⟩ ∈ t.events

end Sys2Proof.Machine
end

