-- ==== Sys2Proof/WellFormed.lean ====
section
/-! DEFINITION. Which operands a command can carry: numbers within the width that the spec gives the value on the wire
or in the register, samples within the count that a frame or a capture holds, lists that name nothing twice. -/

namespace Sys2Proof

/-- A number of at most n bits. -/
def below (n v : Nat) : Bool := decide (v < 2 ^ n)

/-- An address of the 40-bit address space (R21). -/
def addrWf (a : Nat) : Bool := below 40 a

/-- A temperature in a signed byte of degrees C (R111). -/
def tempWf (t : Int) : Bool := decide (-128 ≤ t) && decide (t < 128)

/-- A list that names no key twice. -/
def keysUnique {α β : Type} [DecidableEq α] (l : List (α × β)) : Bool := decide (l.map Prod.fst).Nodup

/-- An internal fault code is a byte pair (R55). -/
def Fate.wf : Fate → Bool
  | .internal code => below 16 code
  | _ => true

/-- A switch temperature within its range (R111). -/
def tjWf (t : Int) : Bool := decide (-40 ≤ t) && decide (t ≤ 200)

/-- The step of a current sample of channel n in mA, by its class (R79, R111). -/
def curStep (n : Nat) : Int := if n % 16 < 2 then 250 else if n % 16 < 8 then 100 else 32

/-- The 50 samples of a frame, each a 12-bit step of its full scale (R111). -/
def ChanObs.wf (n : Nat) (o : ChanObs) : Bool :=
  decide (o.samples.length = 50) && tjWf o.tj &&
  o.samples.all fun x =>
    decide (x.cur % curStep n = 0) && decide (-2048 * curStep n ≤ x.cur ∧ x.cur < 2048 * curStep n) &&
    decide (x.volt % 16 = 0) && decide (x.volt < 65536)

/-- The 64 samples of OVS 3, of which a smaller OVS takes the first (R139). -/
def PinObs.wf (o : PinObs) : Bool := decide (o.samples.length = 64)

def FrameObs.wf (o : FrameObs) : Bool :=
  keysUnique o.chans && keysUnique o.pins && keysUnique o.supplies && keysUnique o.soCur && keysUnique o.sqi &&
  (o.chans.all fun x => x.2.wf x.1) && (o.pins.all fun x => x.2.wf) &&
  tempWf o.plate && tempWf o.crown && tempWf o.bole && tempWf o.limb

/-- A grandmaster identity has 8 bytes (R242). -/
def SyncInfo.wf (i : SyncInfo) : Bool := below 64 i.gmid

def SenseMsg.wf (m : SenseMsg) : Bool := keysUnique m.cur

/-- Identifier width by format, and data as long as DLC says (R180, R182). -/
def CanFrame.wf (f : CanFrame) : Bool :=
  below (if f.xtd then 29 else 11) f.id && decide (f.data.length ≤ if f.fdf then 64 else 8) && !(f.rtr && f.fdf)

/-- The codes of LEC that an error has (R187). -/
def CanErr.wf : CanErr → Bool
  | .rx lec _ => decide (1 ≤ lec.val ∧ lec.val ≤ 6)
  | .tx lec _ _ => decide (1 ≤ lec.val ∧ lec.val ≤ 6)
  | .pxh => true

/-- MAC addresses of 6 bytes (R219); what follows the EtherType is shorter than the frame. -/
def EthFrame.wf (f : EthFrame) : Bool :=
  below 48 f.dmac && below 48 f.smac && decide (f.body.length ≤ f.len)

/-- A body of at most 308 bytes (R389). -/
def PairFrame.wf (f : PairFrame) : Bool :=
  below 16 f.pairId && below 16 f.epoch && below 16 f.seq && below 8 f.flags && decide (f.body.length ≤ 308)

def CryptoOut.wf : CryptoOut → Bool
  | .more => true
  | .done status _ => below 16 status

/-- Components numbered below 256, each once (R416). -/
def ImgAnswer.wf : ImgAnswer → Bool
  | .image comps _ => (comps.all fun c => below 8 c.num) && decide (comps.map ImgComp.num).Nodup
  | .refused => true

/-- The operands of a command are such as it can carry. -/
def Instr.wf : Instr → Bool
  | .frameBoundary obs => obs.wf
  | .frmStart _ => true
  | .frmNumLoRead _ => true
  | .counterReadClear _ addr => addrWf addr
  | .regWrite _ addr _ => addrWf addr
  | .commitInstant _ => true
  | .commitLinkTimeout _ => true
  | .landingCarry => true
  | .governorInstant => true
  | .partFrameTick _ => true
  | .partBudgetExpiry _ => true
  | .evrDoneWrite _ _ => true
  | .evrWdgKick _ _ => true
  | .partWdgExpiry _ => true
  | .syncAccepted _ info => info.wf
  | .domainTimeout _ => true
  | .domainQualified _ => true
  | .domainReturnQualified _ => true
  | .lcReadLatch _ => true
  | .domStatReadLatch _ _ => true
  | .longCompletion _ _ => true
  | .longEntryFree _ _ _ => true
  | .evtTailWrite _ _ v => below 32 v
  | .mbxCommitWrite _ _ => true
  | .queueProdWrite _ _ v => below 32 v
  | .queueConsWrite _ _ v => below 32 v
  | .queueCommand _ fate => fate.wf
  | .cqRoomAvailable _ => true
  | .cfgCopyRepair _ => true
  | .inEdge _ _ => true
  | .captureComplete _ samples => decide (samples.length = 256)
  | .inrushWindowEnd _ => true
  | .currentCeilingReached _ => true
  | .currentBelowCeiling _ => true
  | .overcurrentTrip _ _ => true
  | .shortCircuit _ _ => true
  | .thermalShutdown _ _ t => tjWf t
  | .dieThermalShutdown _ => true
  | .thermalLatchClear _ => true
  | .retryRefill _ => true
  | .openLoadDetect _ _ => true
  | .stbDetect _ => true
  | .supplyConditionEnter _ _ _ => true
  | .supplyConditionLeave _ _ _ => true
  | .crownResetIndication _ => true
  | .linkSilenceTimeout _ => true
  | .dieLocalBoundary _ obs => obs.wf
  | .boleAdopt _ _ => true
  | .sequencerResume _ => true
  | .leaseLineChange _ _ => true
  | .chkReleaseInChange _ => true
  | .soGateEnableChange _ _ _ => true
  | .soSwitchTrip _ _ _ => true
  | .uioRangeCount _ _ => true
  | .shuntOvercurrent _ => true
  | .shuntReconnect _ => true
  | .digitalFilterExpiry _ _ => true
  | .freqQuadEdge _ _ _ => true
  | .uioOutLimitTrip _ => true
  | .uioOutThermal _ => true
  | .uioOutOpenCount _ => true
  | .kerfEdgeMessage _ _ => true
  | .limbAdopt _ _ => true
  | .ssOnWrite _ _ _ => true
  | .ssLimitTimeout _ => true
  | .ssRetryTimer _ => true
  | .ssBackfeedDetect _ => true
  | .ssBackfeedClear _ => true
  | .extInEdge _ _ => true
  | .kerfPwmEdge _ _ => true
  | .inKHoldExpiry => true
  | .senseMessage _ msg => msg.wf
  | .kcExecute _ => true
  | .senseLostCount _ => true
  | .kcSaturationRun _ => true
  | .canFrameValid _ f => f.wf
  | .canFifoDrain _ => true
  | .canMoRead _ _ _ _ => true
  | .canRxUnlock _ _ b => below 32 b
  | .canTxRequest _ _ b => below 32 b
  | .canTxAbort _ _ b => below 32 b
  | .canSofOpportunity _ => true
  | .canTxComplete _ _ => true
  | .canBufferRefill _ => true
  | .canBusError _ e => e.wf
  | .canIntegrated _ => true
  | .canStopped _ => true
  | .canRecoveryDone _ => true
  | .canBoffRelWrite _ _ => true
  | .trxModeWrite _ _ _ => true
  | .trxWakeDetect _ => true
  | .txdDominantTimeout _ => true
  | .trxThermalShutdown _ => true
  | .busDominantTimeout _ => true
  | .wakeSourceDetect v => below 32 v
  | .rtcAlarm => true
  | .sleepCommit _ => true
  | .regulatorOff => true
  | .ringMessageReceived _ f => f.wf
  | .ringRoundStart _ => true
  | .ringNodeTimeout _ => true
  | .ringStartTimeout _ => true
  | .ringListenEnd _ => true
  | .ringJoinTimer _ => true
  | .ringFormationTimer _ => true
  | .ringRejoinTimer _ => true
  | .sleepWaitEnd _ => true
  | .idleTimeExpiry _ => true
  | .stayExpiry _ r => below 16 r
  | .ethFrameReceived _ f => f.wf
  | .ethTxDone _ _ => true
  | .gateEntryChange _ => true
  | .portLinkChange _ _ _ => true
  | .hostTxDescriptor _ => true
  | .hostRxBufferPost _ => true
  | .tsqPop _ _ => true
  | .fdbAgeing mac vid => below 48 mac && below 12 vid
  | .sqiLowCount _ _ => true
  | .routeStaleTimeout _ => true
  | .emitBuild _ => true
  | .containerBuild _ => true
  | .containerReceived _ f => f.wf
  | .linkCrcError _ => true
  | .linkTrainingResult _ _ => true
  | .linkTrainingRetry _ => true
  | .gwbCompletion _ tag _ => below 8 tag
  | .nonpostedTimeout _ tag => below 8 tag
  | .delayedCompletionExpiry _ tag => below 8 tag
  | .islandRetryTimeout tag => below 8 tag
  | .prefetchLineExpiry _ line => addrWf line && decide (line % 64 = 0)
  | .gwbLockRequest _ _ => true
  | .gwbUnlock _ _ => true
  | .lockGrant _ => true
  | .lockHoldExpiry _ => true
  | .lockstepMismatch _ c => below 128 c.rails && below 64 c.parity
  | .trapLoop _ _ => true
  | .pairStart _ _ => true
  | .pairHalt _ _ => true
  | .startTestDone _ _ => true
  | .memReadError _ addr _ => addrWf addr
  | .scrubPassEnd _ _ => true
  | .scrubLate _ => true
  | .debugHalt _ _ => true
  | .debugResume _ _ => true
  | .debugWrite _ _ _ v => below 64 v
  | .wcall _ _ pc => below 64 pc
  | .wret _ => true
  | .heartCallTimeout _ => true
  | .fenceAck _ _ => true
  | .partLoadDone _ _ => true
  | .cryptoJob _ => true
  | .cryptoUnitDone _ out => out.wf
  | .islandEvaluation obs => keysUnique obs.readback
  | .islandLocalTimer obs => keysUnique obs.readback
  | .evalTimeout => true
  | .islandWdgExpiry => true
  | .outputStageTimeout _ => true
  | .islandMismatch => true
  | .islandClockFault => true
  | .l1SupplyFault => true
  | .siFilterExpiry _ _ _ => true
  | .discrepancyTimeout _ => true
  | .tpPulse _ obs => keysUnique obs.seen
  | .safeResetEdge _ => true
  | .safeResetStuck => true
  | .swiPeriod _ p h => decide (h ≤ p)
  | .swiFilterExpiry _ => true
  | .switchTestTimer _ _ => true
  | .pairFaultLine _ _ => true
  | .islandStart _ => true
  | .islandMirrorRead => true
  | .renewSend => true
  | .helloSend => true
  | .stateSend => true
  | .leaseSelfExpiry => true
  | .leaseExpiry => true
  | .pairAgeLimit _ => true
  | .arbitrateEnd => true
  | .chkLeaseInChange _ => true
  | .chokerYieldTimer => true
  | .renewReceived f => f.wf
  | .mirrorReceived f => f.wf
  | .ackReceived f => f.wf
  | .mirrorAckTimeout => true
  | .stateReceived f => f.wf
  | .imageReceived f => f.wf
  | .ckptReceived f => f.wf
  | .helloReceived f => f.wf
  | .handbackReceived f => f.wf
  | .takeoverLeaseEnable => true
  | .takeoverSwitch => true
  | .takeoverRelease => true
  | .handbackStop => true
  | .handbackReleaseLow => true
  | .handbackLeasePass => true
  | .drbgHealthFail => true
  | .authExpiry => true
  | .authLockoutEnd => true
  | .dbgEnDeassert => true
  | .trialWindowExpiry => true
  | .isbConfirm _ => true
  | .isbRestart _ => true
  | .isbTrialSet _ => true
  | .isbErase _ => true
  | .isbProgram _ _ => true
  | .isbFlashDone _ => true
  | .incFlush => true
  | .freezeEnd => true
  | .snapshotWrite => true
  | .exportSend => true
  | .incQueueEntry _ => true
  | .porAssert => true
  | .porRelease => true
  | .holdThreshold => true
  | .borAssert => true
  | .borRelease => true
  | .startCondition => true
  | .studLossEnter _ => true
  | .studLossLeave _ => true
  | .extRangeEnter => true
  | .extRangeLeave => true
  | .thermalThreshold a b => tempWf a && tempWf b
  | .clockFailure => true
  | .pinReset => true
  | .pinRelease => true
  | .resetInLong => true
  | .swrGo _ _ => true
  | .blkrstCan _ m => below 24 m
  | .blkrstCrypto _ m => below 5 m
  | .blkrstInr _ => true
  | .blkrstLgw _ => true
  | .blkrstEsw _ => true
  | .fwdgKick _ v => below 32 v
  | .fwdgPeriodWrite _ v => below 32 v
  | .fwdgExpiry => true
  | .resetReleaseStep obs => below 32 obs.straps
  | .holdoffEnd => true
  | .modeDecision => true
  | .partnerImageServe ans => ans.wf
  | .updateImageTimeout => true
  | .svcUartWrite _ => true
  | .svcUartRead _ => true
  | .svcUartGapTimeout => true
  | .sysHello _ fate => fate.wf
  | .sysInfo _ fate => fate.wf
  | .sysCommit _ fate => fate.wf
  | .sysDiscard _ fate => fate.wf
  | .sysEvtSub _ fate => fate.wf
  | .sysEvtUnsub _ fate => fate.wf
  | .sysCfgRead _ fate => fate.wf
  | .sysCfgWrite _ fate => fate.wf
  | .sysSvcPut _ fate => fate.wf
  | .chSet _ fate => fate.wf
  | .chConfig _ fate => fate.wf
  | .chGet _ fate => fate.wf
  | .chAck _ fate => fate.wf
  | .chSoGet _ fate => fate.wf
  | .govGet _ fate => fate.wf
  | .chMeasGet _ fate => fate.wf
  | .chWireSet _ fate => fate.wf
  | .chTambSet _ fate => fate.wf
  | .sigConfig _ fate => fate.wf
  | .sigRefSet _ fate => fate.wf
  | .sigRead _ fate => fate.wf
  | .uioConfig _ fate => fate.wf
  | .uioRead _ fate => fate.wf
  | .uioOutSet _ fate => fate.wf
  | .uioStatus _ fate => fate.wf
  | .ssSet _ fate => fate.wf
  | .ssGet _ fate => fate.wf
  | .ktConfig _ fate => fate.wf
  | .ktDuty _ fate => fate.wf
  | .ktGet _ fate => fate.wf
  | .kcConfig _ fate => fate.wf
  | .kcSet _ fate => fate.wf
  | .kcGet _ fate => fate.wf
  | .extGet _ fate => fate.wf
  | .canConfig _ fate => fate.wf
  | .canRun _ fate => fate.wf
  | .canFilter _ fate => fate.wf
  | .canFifo _ fate => fate.wf
  | .canSend _ fate => fate.wf
  | .canRead _ fate => fate.wf
  | .canStatus _ fate => fate.wf
  | .canBoffRelease _ fate => fate.wf
  | .canTrxSet _ fate => fate.wf
  | .canTrxGet _ fate => fate.wf
  | .tlyStay _ fate => fate.wf
  | .tlyGet _ fate => fate.wf
  | .tlyVetoList _ fate => fate.wf
  | .wakeGet _ fate => fate.wf
  | .wakeAlarm _ fate => fate.wf
  | .ethPortCfg _ fate => fate.wf
  | .ethPortGet _ fate => fate.wf
  | .ethGclSet _ fate => fate.wf
  | .ethGclGet _ fate => fate.wf
  | .ethFdbSet _ fate => fate.wf
  | .ethVlanSet _ fate => fate.wf
  | .ethQciSet _ fate => fate.wf
  | .ethQpGet _ fate => fate.wf
  | .ethTsRead _ fate => fate.wf
  | .timeGet _ fate => fate.wf
  | .timeDomGet _ fate => fate.wf
  | .lgwRouteSet _ fate => fate.wf
  | .lgwImageSet _ fate => fate.wf
  | .lgwEnable _ fate => fate.wf
  | .lgwRead _ fate => fate.wf
  | .lgwStatus _ fate => fate.wf
  | .gwbStatus _ fate => fate.wf
  | .partInfo _ fate => fate.wf
  | .partRestart _ fate => fate.wf
  | .partStop _ fate => fate.wf
  | .partStart _ fate => fate.wf
  | .partGate _ fate => fate.wf
  | .partGateGet _ fate => fate.wf
  | .safeGet _ fate => fate.wf
  | .safeFnGet _ fate => fate.wf
  | .safeFaultLog _ fate => fate.wf
  | .safeWrite _ fate => fate.wf
  | .safeConfirm _ fate => fate.wf
  | .safeCheckGet _ fate => fate.wf
  | .pairGet _ fate => fate.wf
  | .pairCkptPub _ fate => fate.wf
  | .pairCkptInfo _ fate => fate.wf
  | .pairHandover _ fate => fate.wf
  | .keyInfo _ fate => fate.wf
  | .keyLoad _ fate => fate.wf
  | .keyUnload _ fate => fate.wf
  | .keyStore _ fate => fate.wf
  | .keyDelete _ fate => fate.wf
  | .keyPub _ fate => fate.wf
  | .authChal _ fate => fate.wf
  | .authResp _ fate => fate.wf
  | .authEnd _ fate => fate.wf
  | .attest _ fate => fate.wf
  | .lcAdvance _ fate => fate.wf
  | .updBegin _ fate => fate.wf
  | .updBillet _ fate => fate.wf
  | .updStatus _ fate => fate.wf
  | .updActivate _ fate => fate.wf
  | .updConfirm _ fate => fate.wf
  | .updReject _ fate => fate.wf
  | .updAbort _ fate => fate.wf
  | .updInfo _ fate => fate.wf
  | .incLog _ fate => fate.wf
  | .incStatus _ fate => fate.wf
  | .incRead _ fate => fate.wf
  | .incTrigger _ fate => fate.wf
  | .incDrops _ fate => fate.wf
  | .incDiagGet _ fate => fate.wf
  | .sysModeReq _ fate => fate.wf
  | .sysOptWrite _ fate => fate.wf
  | .sysReset _ fate => fate.wf
  | .sysSupGet _ fate => fate.wf
  | .regRead _ addr => addrWf addr
  | .cacheError _ _ addr => addrWf addr
  | .islandSramError => true
  | .debugReset _ _ => true
  | .resetSourceRelease _ => true
  | .clockRecheck _ => true
  | .laneLockLoss _ => true
  | .drbgReseed => true
  | .helloAgeExpiry => true
  | .minAwakeExpiry => true
  | .wakeInLevelChange _ _ => true
  | .trxThermalClear _ => true
  | .wakeBiasTimeout _ => true
  | .notBeforeInstant _ _ => true
  | .ptpIntervalExpiry _ => true

end Sys2Proof
end

