-- ==== Sys2Proof/Certificates/Slice0/Obligations.lean ====
section
/-! DEFINITION. The statements for the provers. `Answers i s p` says that command i at s answers a next state that meets
p; `Keeps` and `KeepsQuiet` are frames (Safety.lean). -/

open Sys2Proof Sys2Proof.Machine

/-! The whole machine. -/

/-- A step takes the command at the front of the queue and runs it on the state with the queue's rest. The model's choices
in it: log entries 2. -/
def Obligations.StepRunsFrontCommand : Prop :=
  ∀ (c : Instr) (s : State) (rest : List Instr), s.pending = c :: rest → step s = exec c { s with pending := rest }

/-- On an empty queue, while no reset of SYS_RESET and no delayed turn-on waits, a step lets 1 ns pass and changes no
register, no byte of memory and no queue entry (the model's choice: DESIGN CHOICE, the log entry on the idle tick). -/
def Obligations.IdleStepOnlyLetsTimePass : Prop :=
  ∀ (s : State), s.pending = [] → s.svr.swr = none → (∀ c ∈ s.chans, c.delayOn = none) →
    ∃ t, step s = .next t ∧ t.now = s.now + 1 ∧ KeepsQuiet s t []

/-- What the Reset columns of some tables give right after reset (R41, R73, R85, R119, R123, R150, R192, R325, R468): the
numbers of channel, pin, transceiver, queue, key-gate and supervisor words, HELLO and GEN of a mailbox, a channel off
in state OFF, the frame generator stopped at frame 0; the queue of commands is empty. The model's choices in it: log
entries 2, 6. -/
def Obligations.ResetShowsResetColumns : Prop :=
  State.reset.pending = [] ∧ State.reset.rd (R.MBX_STAT_HELLO 16) = 1 ∧
  (∀ m : Fin 17, State.reset.rd (R.MBX_STAT_GEN m) = 0) ∧
  (∀ n : Fin 64, State.reset.rd (R.CHn_CMD_ON n) = 0 ∧ State.reset.rd (R.CHn_STAT_STATE n) = 0 ∧
    State.reset.raw (R.CHn_CFG n) = 0x500 ∧ State.reset.raw (R.CHn_TIM n) = 0x28302864 ∧
    State.reset.raw (R.CHn_ROLE n) = 8 ∧ State.reset.raw (R.CHn_WIRE_AMB n) = 0x55 ∧
    State.reset.raw (R.CHn_SIG_CFG n) = 0x30 ∧ State.reset.raw (R.QMG_QnCFG n) = 3 ∧
    State.reset.raw (R.QMG_QnSTAT n) = 2) ∧
  (∀ p : Fin 96, State.reset.raw (R.UIOp_DIG p) = 0x402003c) ∧
  (∀ j : Fin 24, State.reset.raw (R.TRXj_CTRL j) = 6 ∧ State.reset.raw (R.TRXj_STAT j) = 2) ∧
  (∀ u : Fin 46, State.reset.raw (R.KSU_GATEu u) = 3) ∧ State.reset.raw R.SUP_FWDG = 0x1f40000 ∧
  State.reset.raw R.PAIR_AGE = 0xffffffff ∧
  State.reset.rd R.FRM_STAT_RUN = 0 ∧ State.reset.rd64 R.FRM_NUM_LO R.FRM_NUM_HI = 0

/-- The sparse lists of the state right after reset are canonical. The model's choices in it: log entries 3. -/
def Obligations.ResetMeetsInvariant : Prop := State.reset.inv = true

/-- Every step from any state leaves registers and memory in their canonical form, whatever the command does. The model's
choices in it: log entries 3. -/
def Obligations.StepKeepsCanonicalForm : Prop :=
  ∀ s t : State, step s = .next t → t.inv = true

/-- The machine never stops: from every state any number of steps answer a next state. The model's choices in it: log
entries 1. -/
def Obligations.MachineNeverStops : Prop := ∀ (n : Nat) (s : State), s.runs n

/-- Every command of every row, with whatever operands and in every state, answers a next state, and never writes the
queue: after it the queue is what stood behind it. The model's choices in it: log entries 2. -/
def Obligations.CommandsKeepTheQueue : Prop :=
  ∀ (i : Instr) (s : State), Answers i s fun t => t.pending = s.pending

/-- Raising an event (R75): it comes last to the Forester, each partition that receives it has its EVT_PEND bit set and
the event interrupt of its priority asserted, and nothing but the words of the router and of the recorder changes, a
mailbox's BUSY, DONE, HELLO and GEN included. The model's choices in it: log entries 15, 226. -/
def Obligations.RaisingAnEventWritesOnlyEventWords : Prop :=
  ∀ (s : State) (e : Nat) (o : Owner) (p : List Byte), e < 512 →
    Raised s (s.raise e o p) e p ∧ Keeps s (s.raise e o p) [] ∧
    (∀ k q, k < 16 → (k, q) ∈ s.receivers e o →
      (s.raise e o p).wordBit (pendWord k e) (e % 32) = true ∧ (s.raise e o p).eventIrq k q = true) ∧
    (∀ m : Fin 17, (s.raise e o p).rd (R.MBX_STAT_BUSY m) = s.rd (R.MBX_STAT_BUSY m) ∧
      (s.raise e o p).rd (R.MBX_STAT_DONE m) = s.rd (R.MBX_STAT_DONE m) ∧
      (s.raise e o p).rd (R.MBX_STAT_HELLO m) = s.rd (R.MBX_STAT_HELLO m) ∧ (s.raise e o p).gen m = s.gen m)

/-- The words of some blocks as before. -/
def KeepsBlks (s t : State) (bs : List Blk) : Prop := ∀ f : Fld, f.ok → (∃ b ∈ bs, blkOf f.addr = some b) → t.rd f = s.rd f

/-- The words of a channel's page. -/
def chPage (n a : Nat) : Prop := R.CHn_CFG n ≤ a ∧ a < R.CHn_CFG n + 0x1000

/-- The frame of a command on one channel: all but its page, and the words of events. -/
def ChFrame (n : Nat) (s t : State) : Prop := KeepsBut (fun a => eventWord a ∨ chPage n a) s t []

/-- A source asserted with a reach (R454 to R458, R465, R466): it is recorded and held, the release stands at or before the
first step inside the reach, mailboxes, staged values, LONG commands, the frame generator and the lease lines are reset, and
the mode is Listen, or Start-up for a Crown reach. -/
def ResetTo (code reach : Nat) (s t : State) : Prop :=
  (code, reach) ∈ t.svr.srcs ∧ t.rd ⟨R.SUP_CAUSE, code, code⟩ = 1 ∧ t.svr.rel ≤ firstStep reach ∧
  t.mode = (if reach ≤ module then mdListen else mdStartup) ∧ (∀ m : Fin 17, t.rd (R.MBX_STAT_BUSY m) = 0) ∧
  (∀ p : Fin 16, t.partState p = 0) ∧ t.commits = [] ∧ t.staged = [] ∧ t.longs = [] ∧ t.rd R.FRM_STAT_RUN = 0 ∧
  t.rd R.PAIR_STAT_LEASE_OUT = 0 ∧ t.pending = s.pending ∧
  (reach = crown → KeepsBlks s t [.trx, .wake, .isb, .sil, .ss, .ext]) ∧
  (reach = module → ∀ f : Fld, f.ok → blkOf f.addr = some .wake → f.addr ≠ R.WAKE_EN → t.rd f = s.rd f)

/-! Frames and the time unit (01_architecture.md, 08_ethernet_time.md). -/

/-- A whole register. -/
def wholeReg (a : Nat) : Fld := ⟨a, 31, 0⟩

/-- The fields of the generator that a change of the followed time source writes. -/
def followFields : List Fld := [R.FRM_OFS_OFS, R.FRM_STAT_SRC_ACT, R.FRM_STAT_ALIGNED, R.FRM_ERR_DOMAIN_LOST]

/-- The registers of the time unit. -/
def timePage (a : Nat) : Prop := 0x20300000 ≤ a ∧ a < 0x20300200

/-- The frame of a command on the time unit. -/
def TimeFrame (s t : State) : Prop := KeepsBut (fun a => eventWord a ∨ timePage a) s t followFields

/-- FRM_CTRL.START (R37): the generator runs and the next boundary opens frame 0; while it runs the write is ignored. -/
def FrameStartBeginsAtFrameZero : Prop :=
  ∀ (s : State) (a : Attr), s.regAdmits a R.FRM_CTRL true = true →
    (s.rd R.FRM_STAT_RUN = 0 → Answers (.frmStart a) s fun t =>
      t.rd R.FRM_STAT_RUN = 1 ∧ t.rd64 R.FRM_NUM_LO R.FRM_NUM_HI = 0 ∧ t.frm.first = false ∧ t.bus.err = false ∧
      KeepsQuiet s t [R.FRM_STAT_RUN, wholeReg R.FRM_NUM_LO, wholeReg R.FRM_NUM_HI]) ∧
    (s.rd R.FRM_STAT_RUN = 1 → Answers (.frmStart a) s fun t => KeepsQuiet s t [])

/-- The grid of a boundary (R25, R28, R33): the first opens the frame that START numbered; each later one raises the number
by one; the turn position moves by one modulo 40, or is set by a slot correction, which is reported; a turn begins at the
first boundary, at position 0, and where a correction does not move the position on. -/
def EachBoundaryCountsOneFrame : Prop :=
  ∀ (s : State) (b : Nat),
    (s.frm.first = true → (s.gridStep b).rd64 R.FRM_NUM_LO R.FRM_NUM_HI = (s.rd64 R.FRM_NUM_LO R.FRM_NUM_HI + 1) % 2 ^ 64) ∧
    (s.frm.first = false → (s.gridStep b).rd64 R.FRM_NUM_LO R.FRM_NUM_HI = s.rd64 R.FRM_NUM_LO R.FRM_NUM_HI) ∧
    (s.frm.first = true →
      (s.frm.slotFix = none → (s.gridStep b).rd R.FRM_STAT_SLOT = (s.rd R.FRM_STAT_SLOT + 1) % 40) ∧
      (∀ k, s.frm.slotFix = some k → (s.gridStep b).rd R.FRM_STAT_SLOT = s.slotAt k ∧
        (s.gridStep b).rd R.FRM_ERR_SLOT_CORR = 1 ∧ (⟨483, (s.gridStep b).frame, s.lc, []⟩ : EvRec) ∈ (s.gridStep b).events)) ∧
    ((s.gridStep b).frm.newTurn = true ↔
      s.frm.first = false ∨ (s.gridStep b).rd R.FRM_STAT_SLOT = 0 ∨ (s.gridStep b).rd R.FRM_STAT_SLOT ≤ s.rd R.FRM_STAT_SLOT) ∧
    (s.gridStep b).rd R.FRM_STAT_SLOT < 40 ∧ (s.gridStep b).frm.first = true ∧ (s.gridStep b).frm.last = b ∧
    (∀ a, (s.gridStep b).memGet a = s.memGet a) ∧ (s.gridStep b).pending = s.pending

/-- What a boundary leaves (R466, R467): with the Forester running, SUP_MODE.DEGR holds one bit for each cause that holds,
Lead stands only without a cause, and Degraded only with one; without a running generator there is no boundary; and no
boundary writes the wake domain, the L1 bank port or the island. -/
def BoundariesJudgeDegradedCauses : Prop :=
  ∀ (s : State) (obs : FrameObs),
    (s.rd R.FRM_STAT_RUN = 0 → Answers (.frameBoundary obs) s fun t => KeepsQuiet s t []) ∧
    (s.rd R.FRM_STAT_RUN = 1 → s.svr.swr = none → Answers (.frameBoundary obs) s fun t => 6 < t.svr.rel →
      (∀ k : Fin 9, (t.rd R.SUP_MODE_DEGR / 2 ^ k.val % 2 = 1 ↔ t.causes[k.val]? = some true)) ∧
      (t.rd R.SUP_MODE_MODE = mdLead → t.rd R.SUP_MODE_DEGR = 0) ∧
      (t.rd R.SUP_MODE_MODE = mdDegraded → t.rd R.SUP_MODE_DEGR ≠ 0) ∧
      t.pending = s.pending ∧ KeepsBlks s t [.wake, .isb, .sil])

/-- The frame of a Sync: one that the module passes on (R237) meets the ports of the switch too. -/
def SyncFrame (passed : Bool) (s t : State) : Prop :=
  KeepsBut (fun a => eventWord a ∨ timePage a ∨ (passed = true ∧ blkOf a = some .esw)) s t followFields

/-- gPTP domains (R32, R233, R234, R237): a Sync that the domain's configuration admits sets offset, rate and grandmaster
and makes its domain valid, or invalid with role 0 or a rate of more than 200 ppm against the TCXO nominal; before the
first boundary the clock steps once to it; three missed intervals make the domain invalid; qualification sets QUAL
and, from holdover, the followed source; domain B is left for A only when A is return-qualified. The model's choices
in it: log entries 32, 33, 34, 207. -/
def Obligations.DomainsBecomeValidAndFollowed : Prop :=
  ∀ (s : State) (x : Fin 2),
    (∀ i : SyncInfo, s.syncAdmits x i = false → Answers (.syncAccepted x i) s fun t => KeepsQuiet s t []) ∧
    (∀ i : SyncInfo, s.rd R.TMU_CTRL_TRACK = 0 → s.syncAdmits x i = true → Answers (.syncAccepted x i) s fun t =>
      SyncFrame (decide (i.role = 1)) s t ∧ ∀ k : Fin 2, t.rd (R.TMU_DOMx_STAT_VALID k) = s.rd (R.TMU_DOMx_STAT_VALID k)) ∧
    (∀ i : SyncInfo, s.rd R.TMU_CTRL_TRACK = 1 → s.syncAdmits x i = true → x.val < s.doms.length →
      Answers (.syncAccepted x i) s fun t =>
      t.rd (R.TMU_DOMx_STAT_ROLE x) = i.role ∧ t.rd (R.TMU_DOMx_STAT_STEPS x) = i.steps ∧ (t.dom x).gmid = i.gmid ∧
      (t.dom x).rate = i.rate ∧ (t.dom x).port = i.port ∧ (t.dom x).nom = i.rate + s.clk.rate ∧
      (s.frm.first = true → (t.dom x).ofs = i.ofs ∧ (t.dom x).sync = some s.lc) ∧
      (t.rd (R.TMU_DOMx_STAT_VALID x) = 1 ↔ i.role ≠ 0 ∧ (i.rate + s.clk.rate).natAbs ≤ 200000) ∧
      (s.frm.first = false → s.rd R.FRM_CFG_SRC = 0 → x = 0 → t.rd (R.TMU_DOMx_STAT_VALID x) = 1 → t.rd R.TMU_STAT_STEPPED = 1) ∧
      SyncFrame (decide (i.role = 1)) s t) ∧
    (s.rd (R.TMU_DOMx_STAT_VALID x) = 1 → Answers (.domainTimeout x) s fun t =>
      t.rd (R.TMU_DOMx_STAT_VALID x) = 0 ∧ t.rd (R.TMU_DOMx_STAT_QUAL x) = 0 ∧ t.rd R.TMU_AB_STAT_AB_VALID = 0 ∧
      Raised s t 170 ([BitVec.ofNat 8 x, BitVec.ofNat 8 (s.domNumber x)] ++ leBytes 4 (s.domAge x)) ∧
      (s.rd R.FRM_CFG_SRC = 0 → t.rd R.TMU_STAT_FOLLOW ≠ x + 1) ∧
      TimeFrame s t) ∧
    (s.rd (R.TMU_DOMx_STAT_VALID x) = 0 → Answers (.domainTimeout x) s (fun t => KeepsQuiet s t []) ∧
      Answers (.domainQualified x) s (fun t => KeepsQuiet s t []) ∧
      Answers (.domainReturnQualified x) s (fun t => KeepsQuiet s t [])) ∧
    (s.rd (R.TMU_DOMx_STAT_VALID x) = 1 → Answers (.domainQualified x) s fun t =>
      t.rd (R.TMU_DOMx_STAT_QUAL x) = 1 ∧
      (s.rd R.FRM_CFG_SRC = 0 → s.rd R.TMU_STAT_FOLLOW = 0 →
        t.rd R.TMU_STAT_FOLLOW = (if x = 0 ∨ s.rd (R.TMU_DOMx_STAT_QUAL 0) = 1 then 1 else 2) ∧
        t.rd R.TMU_STAT_HOLDOVER = 0 ∧ Raised s t 480 []) ∧
      (s.rd R.TMU_STAT_FOLLOW = 1 → s.rd (R.TMU_DOMx_STAT_VALID 0) = 1 → t.rd R.TMU_STAT_FOLLOW = 1) ∧ TimeFrame s t) ∧
    (s.rd (R.TMU_DOMx_STAT_VALID x) = 1 → x.val < s.doms.length → Answers (.domainReturnQualified x) s fun t =>
      t.rd (R.TMU_DOMx_STAT_QUAL x) = 1 ∧ (t.dom x).ret = true ∧
      (s.rd R.FRM_CFG_SRC = 0 → s.rd R.TMU_STAT_FOLLOW = 2 → x = 0 → t.rd R.TMU_STAT_FOLLOW = 1) ∧ TimeFrame s t)

/-- Latched reads (R37, R232, R242): FRM_NUM_LO latches the high word for its requester, TMU_LC_NS the seconds of the
reading it answers, TMU_DOMx_STAT the rest of its page. The model's choices in it: log entries 31. -/
def Obligations.TimeReadsLatchTheirOtherWords : Prop :=
  ∀ (s : State) (a : Attr) (x : Fin 2),
    (s.regAdmits a R.FRM_NUM_LO false = true → Answers (.frmNumLoRead a) s fun t =>
      t.bus = { data := s.raw R.FRM_NUM_LO } ∧
      (latchOf a < s.frm.hiLatch.length → t.frm.hiLatch.getD (latchOf a) 0 = s.raw R.FRM_NUM_HI) ∧
      (∀ k, k ≠ latchOf a → t.frm.hiLatch.getD k 0 = s.frm.hiLatch.getD k 0) ∧ KeepsQuiet s t []) ∧
    (s.regAdmits a R.TMU_LC_NS false = true → s.lc < 2 ^ 64 → Answers (.lcReadLatch a) s fun t =>
      t.bus.err = false ∧ t.rd64 R.TMU_LC_S_LO R.TMU_LC_S_HI * 1000000000 + t.bus.data.toNat = s.lc ∧
      KeepsQuiet s t [wholeReg R.TMU_LC_S_LO, wholeReg R.TMU_LC_S_HI]) ∧
    (s.regAdmits a (R.TMU_DOMx_STAT x) false = true → Answers (.domStatReadLatch a x) s fun t =>
      t.bus = { data := s.raw (R.TMU_DOMx_STAT x) } ∧
      t.rd64 (R.TMU_DOMx_GMID_LO x) (R.TMU_DOMx_GMID_HI x) = (s.dom x).gmid % 2 ^ 64 ∧
      t.rd64 (R.TMU_DOMx_UPD_LO x) (R.TMU_DOMx_UPD_HI x) = ((s.dom x).sync.getD 0) % 2 ^ 64 ∧
      t.rd (R.TMU_DOMx_RATE_RATE x) = unsigned 32 (s.dom x).rate ∧
      t.rd (R.TMU_DOMx_AGE_AGE x) = (match (s.dom x).sync with
        | some u => min 0xFFFFFFFF ((s.lc - u) / 1000000) | none => 0xFFFFFFFF) ∧
      KeepsQuiet s t ((List.range 8).map fun k => wholeReg (R.TMU_DOMx_STAT x + 4 + 4 * k)))

/-- A die that the governor can act on (R130). -/
def govLive (s : State) (n : Nat) : Prop :=
  s.rd (R.BOLE_STAT_LINK_OK (dieOf n)) = 1 ∧ s.rd (R.BOLE_STAT_HOLD (dieOf n)) = 0

/-- The governor (R127 to R130): it sheds no ESSENTIAL channel, only channels in an on state on a die it can act on, and
refuses no ESSENTIAL one; the load register of a die shows its load under R126 and its spare register what the loads
after the decisions leave; a die out of reach keeps its registers. The model's choices in it: log entries 61. -/
def Obligations.GovernorShedsOnlyWhatItMay : Prop :=
  ∀ s : State, (∀ n : Fin 64, (s.chan n).verdict = .none) → Answers .governorInstant s fun t =>
    (∀ (n : Fin 64) (q w g : Nat), (t.chan n).verdict = .shed q w g →
      s.chOnState n = true ∧ govLive s n ∧ s.rd (R.CHn_ROLE_ESSENTIAL n) = 0) ∧
    (∀ (n : Fin 64) (q l m : Nat), (t.chan n).verdict = .refuse q l m →
      s.rd (R.CHn_ROLE_ESSENTIAL n) = 0 ∧ s.chOnState n = false ∧ govLive s n) ∧
    (∀ d : Fin 4, (govLive s (16 * d) → t.rd (R.BOLE_GOV_LOAD_LOAD_I d) = qUnit 0 (s.govLoads.getD d 0) ∧
        t.rd (R.BOLE_GOV_SPARE_SPARE_P d) = qUnit 7 ((s.gov.plim - t.gov.loads.getD 7 0) / 4)) ∧
      (¬ govLive s (16 * d) → t.raw (R.BOLE_GOV_LOAD d) = s.raw (R.BOLE_GOV_LOAD d) ∧
        t.raw (R.BOLE_GOV_SPARE d) = s.raw (R.BOLE_GOV_SPARE d))) ∧
    Keeps s t ((List.range 4).flatMap fun d => [R.BOLE_GOV_SPARE_SPARE_I d, R.BOLE_GOV_SPARE_SPARE_P d,
      R.BOLE_GOV_LOAD_LOAD_I d, R.BOLE_GOV_LOAD_LOAD_P d])
/-! Accesses, commits, mailboxes and queues (00_scope.md, 01_architecture.md, 02_rhapol_interface.md). -/

/-- Blocks whose registers all follow the plain rule of R7 and R10. -/
def plainBlk (b : Blk) : Prop := b ∈ [Blk.ch, .uio, .ext, .krf, .kt, .kc, .slot, .route, .fatal, .mem, .ksu, .sil, .pair, .inr]

/-- An access that reaches a register: admitted (R20), its unit not gated (R325), near, or far over a healthy link that
neither holds a line nor is locked nor has a posted write waiting (R266 to R274). -/
def Reaches (a : Attr) (addr : Nat) (write : Bool) (s : State) : Prop :=
  s.regAdmits a addr write = true ∧ s.gated addr = false ∧
  (farLink a addr = none ∨ write = true ∧ a.rqc ≠ 5 ∧ ∃ g, farLink a addr = some g ∧ s.linkOk g = true ∧ (s.gwb g).lines = [] ∧
    (s.gwb g).lockErr ≠ some a ∧ s.lockedOut g a = false ∧ s.inRange g addr R.GWB_Lg_PFr_BASE_NPW = false ∧
    farDecodes addr = true ∧ ∀ x ∈ (s.gwb g).txs, x.posted = false)

/-- REG_WRITE (R7, R8, R10, R12) at a register of a plain block, with no class S field changed
while its block runs: RW fields of class L and S take the value, W1C bits written 1 clear, class F fields keep their active
value and read as written, all other fields stay. -/
def WritesFollowAccessCodes : Prop :=
  ∀ (s : State) (a : Attr) (addr : Nat) (v : Word) (r : RegDef) (ix : List Nat),
    addr % 4 = 0 → isRegSpace addr = true → lookupReg addr = some (r, ix) → plainBlk r.blk → Reaches a addr true s →
    (foresterOnly r.blk addr = true → a.isForester = true) →
    (s.raw addr ^^^ v) &&& r.stoppedMask = 0 ∨ s.blockRuns r.blk addr (fun k => ix.getD k 0) = false →
    Answers (.regWrite a addr v) s fun t =>
      (∀ f ∈ r.fields, let p : Fld := ⟨addr, f.hi, f.lo⟩
        (f.acc = .rw → f.upd ≠ .staged → t.rd p = bitsOf v f.hi f.lo) ∧
        (f.acc = .rw → f.upd = .staged → t.rd p = s.rd p ∧ t.vrd p = bitsOf v f.hi f.lo) ∧
        (f.acc = .w1c → f.hi = f.lo → t.rd p = if bitsOf v f.hi f.lo = 1 then 0 else s.rd p) ∧
        (f.acc = .ro ∨ f.acc = .rc ∨ f.acc = .wo → t.rd p = s.rd p)) ∧
      t.bus.err = false ∧ KeepsQuiet s t [wholeReg addr]

/-- Writes that R8 and R10 turn away: an offset that no table lists is ignored; a value that FRM_CFG or FRM_PHASE rejects,
or a changed class S value while the generator runs, leaves the register and sets CFG_ERR; while it is stopped a value
within range is taken. -/
def RejectedWritesKeepTheirRegister : Prop :=
  ∀ (s : State) (a : Attr) (addr : Nat) (v : Word), Reaches a addr true s →
    (addr % 4 = 0 → 0x20430000 ≤ addr → addr < 0x20600000 → lookupReg addr = none →
      Answers (.regWrite a addr v) s fun t => KeepsQuiet s t []) ∧
    (addr = R.FRM_CFG → 2 ≤ bitsOf v 1 0 ∨ (s.rd R.FRM_STAT_RUN = 1 ∧ bitsOf v 1 0 ≠ s.rd R.FRM_CFG_SRC) →
      Answers (.regWrite a addr v) s fun t => t.rd R.FRM_ERR_CFG_ERR = 1 ∧ KeepsQuiet s t [R.FRM_ERR_CFG_ERR]) ∧
    (s.rd R.FRM_STAT_RUN = 0 →
      (addr = R.FRM_CFG → bitsOf v 1 0 < 2 → Answers (.regWrite a addr v) s fun t =>
        t.rd R.FRM_CFG_SRC = bitsOf v 1 0 ∧ KeepsQuiet s t [R.FRM_CFG_SRC]) ∧
      (addr = R.FRM_PHASE → bitsOf v 17 0 < 250000 → Answers (.regWrite a addr v) s fun t =>
        t.rd R.FRM_PHASE_PHASE = bitsOf v 17 0 ∧ KeepsQuiet s t [R.FRM_PHASE_PHASE])) ∧
    (addr = R.FRM_PHASE → 250000 ≤ bitsOf v 17 0 ∨ (s.rd R.FRM_STAT_RUN = 1 ∧ bitsOf v 17 0 ≠ s.rd R.FRM_PHASE_PHASE) →
      Answers (.regWrite a addr v) s fun t => t.rd R.FRM_ERR_CFG_ERR = 1 ∧ KeepsQuiet s t [R.FRM_ERR_CFG_ERR])

/-- Reads (R7, R12): a read answers with the active value, class F fields with the staged or accepted one; a read of an RC
field returns it and clears it, in FRM and QMG for the Forester alone (R37, R70). -/
def ReadsReturnAndClear : Prop :=
  ∀ (s : State) (a : Attr) (addr : Nat) (r : RegDef) (ix : List Nat),
    addr % 4 = 0 → isRegSpace addr = true → lookupReg addr = some (r, ix) →
    plainBlk r.blk ∧ addr < 0x20D00000 ∨ r.blk = .qmg ∨ addr = R.FRM_CNT_LGW ∨ addr = R.FRM_CNT_LATE →
    Reaches a addr false s →
    let after := fun t => (∀ f ∈ r.fields, let p : Fld := ⟨addr, f.hi, f.lo⟩
        bitsOf t.bus.data f.hi f.lo = (if f.acc = .wo then 0 else if f.upd = .staged then s.vrd p else s.rd p) ∧
        t.rd p = if f.acc = .rc ∧ (readClears r.blk a = true) then 0 else s.rd p) ∧
      t.bus.err = false ∧ KeepsQuiet s t [wholeReg addr]
    Answers (.regRead a addr) s after ∧ Answers (.counterReadClear a addr) s after

/-- Memory (R20, R284, R285): the Forester's write of a word that is not poisoned stores its four bytes, little-endian,
and no others; its read returns them; system SRAM that the system cache has taken answers with an error. The model's
choices in it: log entries 3, 25. -/
def Obligations.MemoryHoldsWhatIsWritten : Prop :=
  ∀ (s : State) (a : Attr) (addr : Nat) (v : Word),
    addr % 4 = 0 → isMemory addr = true → a.isForester = true →
    (s.inScWays addr 4 = true →
      Answers (.regWrite a addr v) s (fun t => t.bus.err = true ∧ Keeps s t []) ∧
      Answers (.regRead a addr) s (fun t => t.bus.err = true ∧ Keeps s t [])) ∧
    (s.inScWays addr 4 = false → s.isPoisoned addr = false →
    Answers (.regWrite a addr v) s (fun t =>
      (∀ k : Fin 4, t.memGet (addr + k) = BitVec.ofNat 8 (v.toNat / 256 ^ k.val)) ∧
      (∀ b, b < addr ∨ addr + 4 ≤ b → t.memGet b = s.memGet b) ∧ (∀ f, t.rd f = s.rd f) ∧ t.bus.err = false ∧ t.pending = s.pending) ∧
    Answers (.regRead a addr) s (fun t =>
      (∀ k : Fin 4, (t.bus.data.toNat / 256 ^ k.val) % 256 = (s.memGet (addr + k)).toNat) ∧ t.bus.err = false ∧ KeepsQuiet s t []))

/-- Far completions (R266, R267, R270, R275): an unknown tag, or a request whose turn it is not, changes nothing; else its
entry is freed: a refused request answers SLVERR, an undecoded address DECERR, a read the word its register holds, and a
write is carried out; one whose requester gave up is held for it; an error of a posted write is logged. -/
def FarRequestsCompleteOnce : Prop :=
  ∀ (s : State) (g : Fin 6) (tag : Nat),
    (∀ refused, (s.gwb g).txs.find? (fun y => y.tag = tag ∧ y.held = none) = none →
      Answers (.gwbCompletion g tag refused) s fun t => t.bus = s.bus ∧ KeepsQuiet s t []) ∧
    (∀ x, (s.gwb g).txs.find? (fun y => y.tag = tag ∧ y.held = none) = some x →
      let gone := fun t : State => ∀ y ∈ (t.gwb g).txs, y.tag = tag → (s.gwb g).nextTag ≤ tag
      let done := fun refused (p : State → Prop) => Answers (.gwbCompletion g tag refused) s p
      let plain := x.toCrown = true ∨ s.inRange g x.addr R.GWB_Lg_PFr_BASE_PREFETCH = false
      let decodes := x.toCrown = true ∨ farDecodes x.addr = true
      (∀ refused, s.farTurn g x = false → done refused fun t => t.bus = s.bus ∧ KeepsQuiet s t []) ∧
      (s.farTurn g x = true → x.posted = false → x.waits = true →
        done true (fun t => t.bus = ⟨0, true, .slverr⟩ ∧ gone t ∧ KeepsQuiet s t []) ∧
        (x.toCrown = false → farDecodes x.addr = false → done false fun t => t.bus = ⟨0, true, .decerr⟩ ∧ gone t ∧ KeepsQuiet s t []) ∧
        (x.val = none → plain → decodes → done false fun t =>
          t.bus = { data := (s.loadWord x.attr x.addr).1 } ∧ gone t ∧ KeepsQuiet (s.loadWord x.attr x.addr).2 t []) ∧
        (∀ v, x.val = some v → decodes → done false fun t =>
          t.bus = {} ∧ ∀ f, t.rd f = (s.storeWord x.attr x.addr v).rd f)) ∧
      (s.farTurn g x = true → x.posted = false → x.waits = false → x.val = none → plain → decodes → done false fun t =>
        (∃ y ∈ (t.gwb g).txs, y.tag = tag ∧ y.held = some ((s.loadWord x.attr x.addr).1, none)) ∧
          KeepsQuiet (s.loadWord x.attr x.addr).2 t []) ∧
      (s.farTurn g x = true → x.posted = true →
        (∀ v, x.val = some v → decodes → done false fun t => ∀ f, t.rd f = (s.storeWord x.attr x.addr v).rd f) ∧
        done true (fun t => t.bus = s.bus ∧ gone t ∧ t.rd (R.GWB_Lg_ERR_INFO_VALID g) = 1 ∧
          Keeps s t [wholeReg (R.GWB_Lg_ERR_ADDR g), wholeReg (R.GWB_Lg_ERR_INFO g)])))

/-- A COMMIT (R64, R67, R506): a write of 1 to MBX_COMMIT by a holder of feature 35 takes the staged values of every group
that its partition owns into one snapshot and sets PENDING; with nothing staged nothing changes; others are turned away
with COMMIT_DENIED. -/
def CommitTakesWhatItsOwnerStaged : Prop :=
  ∀ (s : State) (a : Attr) (m : Fin 17), s.regAdmits a (R.MBX_COMMIT m) true = true →
    (m.val < 16 → (s.part m).holds 35 = true →
      ((∃ g ∈ s.stagedGroups, s.groupOwner g = some m.val) → Answers (.mbxCommitWrite a m) s fun t =>
        t.rd (R.MBX_CSTAT_PENDING m) = 1 ∧ t.rd (R.MBX_CSTAT_REJECTED m) = 0 ∧
        (∀ e ∈ s.staged, s.groupOwner (groupOf e.1) = some m.val → e ∉ t.staged ∧ ∃ c ∈ t.commits, c.issuer = m ∧ e ∈ c.snap) ∧
        (∀ e ∈ s.staged, s.groupOwner (groupOf e.1) ≠ some m.val → e ∈ t.staged) ∧
        KeepsQuiet s t [R.MBX_CSTAT_PENDING m, R.MBX_CSTAT_REJECTED m]) ∧
      ((∀ g ∈ s.stagedGroups, s.groupOwner g ≠ some m.val) → Answers (.mbxCommitWrite a m) s fun t => KeepsQuiet s t [])) ∧
    (m.val = 16 ∨ (s.part m).holds 35 = false → Answers (.mbxCommitWrite a m) s fun t =>
      t.rd (R.MBX_ERR_COMMIT_DENIED m) = 1 ∧ (∃ p, Raised s t 40 p) ∧ Keeps s t [R.MBX_ERR_COMMIT_DENIED m])

/-- The fields that the state of commits shows. -/
def pendingFields : List Fld := (List.range 17).map R.MBX_CSTAT_PENDING

/-- The commit instant (R28, R29, R65, R373): with no COMMIT waiting nothing changes; a rule that fails rejects it, names
group and rule, and drops its values; else its instant is taken, and a lead that has to mirror it sends its frames, and waits
for the reserve while MIRROR_OK stands; a link that stays down for 1 ms rejects it with rule 0. -/
def CommitInstantTakesOrRejects : Prop :=
  ∀ (s : State) (m : Fin 17),
    (s.commitWaiting m = none → Answers (.commitInstant m) s (fun t => KeepsQuiet s t []) ∧
      Answers (.commitLinkTimeout m) s (fun t => KeepsQuiet s t [])) ∧
    (∀ c i, s.commitWaiting m = some (c, i) →
      ((∀ g ∈ c.groups, ∀ l, groupLink g = some l → s.linkOk l = true) →
        (∀ g r, s.ruleCheck (s.overlay c.snap) (s.candidates c.snap) c.tab c.groups = some (g, r) → g < 65536 → r < 256 →
          Answers (.commitInstant m) s fun t =>
            t.rd (R.MBX_CSTAT_REJECTED m) = 1 ∧ t.rd (R.MBX_CSTAT_GROUP m) = g ∧ t.rd (R.MBX_CSTAT_RULE m) = r ∧
            Raised s t 33 (leBytes 2 g ++ leBytes 1 r ++ leBytes 1 m) ∧ (∀ e ∈ t.staged, groupOf e.1 ∉ c.groups) ∧
            Keeps s t [wholeReg (R.MBX_CSTAT m)]) ∧
        (s.ruleCheck (s.overlay c.snap) (s.candidates c.snap) c.tab c.groups = none → c.groups ≠ [] →
          (s.mirrored c = false → Answers (.commitInstant m) s fun t =>
            (∃ d ∈ t.commits, d = { c with instant := some s.now }) ∧ Keeps s t (R.FRM_CNT_LATE_COUNT :: pendingFields)) ∧
          (s.mirrored c = true → s.pairU.mirrorHold = false → Answers (.commitInstant m) s fun t =>
            t.pairU.mirror = some (m.val, s.now) ∧
            (s.rd R.PAIR_STAT_MIRROR_OK = 1 → t.commits = s.commits ∧ t.pairU.mirrorHold = true) ∧
            (s.rd R.PAIR_STAT_MIRROR_OK = 0 → ∃ d ∈ t.commits, d = { c with instant := some s.now }) ∧
            KeepsBut (fun a => eventWord a ∨ blkOf a = some .esw ∨ blkOf a = some .pair) s t (R.FRM_CNT_LATE_COUNT :: pendingFields)) ∧
          (s.mirrored c = true → s.pairU.mirrorHold = true → Answers (.commitInstant m) s fun t => KeepsQuiet s t []))) ∧
      (∀ g l, c.groups.find? (fun g => match groupLink g with | some l => !s.linkOk l | none => false) = some g → g < 65536 →
        groupLink g = some l → (∀ x ∈ s.chans, x.delayOn = none) →
        Answers (.commitInstant m) s (fun t => KeepsQuiet s t []) ∧
        Answers (.commitLinkTimeout m) s (fun t =>
          t.rd (R.MBX_CSTAT_REJECTED m) = 1 ∧ t.rd (R.MBX_CSTAT_GROUP m) = g ∧ t.rd (R.MBX_CSTAT_RULE m) = 0 ∧
          (∃ e ∈ t.events, e.num = 33) ∧ Keeps s t [wholeReg (R.MBX_CSTAT m)])))

/-- The mailbox's own registers (R41, R53, R75): freeing a completion entry clears its VALID byte, and an entry that is
not valid is left alone; EVT_TAIL takes an index below 20 and ignores others. -/
def MailboxEntriesFreeAndAdvance : Prop :=
  ∀ (s : State) (a : Attr) (m : Fin 17) (e : Fin 8) (v : Nat),
    (s.regAdmits a (longEntry m e) true = true →
      (s.rd ⟨longEntry m e, 31, 24⟩ ≠ 0 → Answers (.longEntryFree a m e) s fun t =>
        t.rd ⟨longEntry m e, 31, 24⟩ = 0 ∧ (t.mbxs.getD m {}).longUsed.getD e false = false ∧
        KeepsQuiet s t [⟨longEntry m e, 31, 24⟩, R.MBX_STAT_LONG_OPEN m]) ∧
      (s.rd ⟨longEntry m e, 31, 24⟩ = 0 → Answers (.longEntryFree a m e) s fun t => KeepsQuiet s t [])) ∧
    (s.regAdmits a (R.MBX_EVT_TAIL m) true = true → Answers (.evtTailWrite a m v) s fun t =>
      t.rd (R.MBX_EVT_TAIL_IDX m) = (if v % 32 ≤ 19 then v % 32 else s.rd (R.MBX_EVT_TAIL_IDX m)) ∧
      KeepsQuiet s t [R.MBX_EVT_TAIL_IDX m])

/-- A mailbox's own words (R41, R42): event words are W1C; other words from 0x400 to 0xBFF ignore writes but byte 3 of a
completion entry; a ring sets BUSY and its time, clears DONE and locks the slot, whose writes, and a further ring, are then
ignored and flagged. -/
def MailboxesLockAtTheRing : Prop :=
  ∀ (s : State) (a : Attr) (m : Fin 17) (v : Word), s.regAdmits a (mbxBase m) true = true →
    let w := fun off => Instr.regWrite a (mbxBase m + off) v
    let flags := fun (i : Instr) (f : Fld) => Answers i s fun t => t.rd f = 1 ∧ (∃ p, Raised s t 40 p) ∧ t.mbxs.length = s.mbxs.length ∧ Keeps s t [f]
    (∀ k : Fin 32, Answers (w (0x800 + 4 * k)) s fun t =>
      t.raw (mbxBase m + 0x800 + 4 * k) = s.raw (mbxBase m + 0x800 + 4 * k) &&& ~~~v ∧
      KeepsQuiet s t [wholeReg (mbxBase m + 0x800 + 4 * k), R.MBX_STAT_EVT m]) ∧
    (∀ off, off % 4 = 0 → (0x400 ≤ off ∧ off < 0x800) ∨ (0x980 ≤ off ∧ off < 0xC00) ∨ (0x880 ≤ off ∧ off < 0x980 ∧ (off % 32 ≠ 0 ∨ bitsOf v 31 24 ≠ 0)) →
      Answers (w off) s fun t => KeepsQuiet s t []) ∧
    (∀ e : Fin 8, bitsOf v 31 24 = 0 → Answers (w (0x880 + 32 * e)) s fun t => t.rd ⟨mbxBase m + 0x880 + 32 * e, 31, 24⟩ = 0 ∧
      KeepsQuiet s t [⟨mbxBase m + 0x880 + 32 * e, 31, 24⟩, R.MBX_STAT_LONG_OPEN m]) ∧
    (∀ off, off % 4 = 0 → off < 0x400 →
      (s.rd (R.MBX_STAT_BUSY m) = 0 → Answers (w off) s fun t => t.raw (mbxBase m + off) = v ∧ KeepsQuiet s t [wholeReg (mbxBase m + off)]) ∧
      (s.rd (R.MBX_STAT_BUSY m) = 1 → flags (w off) (R.MBX_ERR_SLOT_WRITE m))) ∧
    (v.getLsbD 0 = false → Answers (w 0xC00) s fun t => KeepsQuiet s t []) ∧
    (v.getLsbD 0 = true →
      (s.rd (R.MBX_STAT_BUSY m) = 1 → flags (w 0xC00) (R.MBX_ERR_DB_WHILE_BUSY m)) ∧
      (s.rd (R.MBX_STAT_BUSY m) = 0 → s.mbxs.length = 17 → opOf (s.slotCtx m).opcode ≠ none → Answers (w 0xC00) s fun t =>
        t.rd (R.MBX_STAT_BUSY m) = 1 ∧ t.rd (R.MBX_STAT_DONE m) = 0 ∧ (t.mbxs.getD m {}).ringTime = s.now ∧
        t.slotCtx m = { s.slotCtx m with attr := a } ∧ KeepsQuiet s t [R.MBX_STAT_BUSY m, R.MBX_STAT_DONE m]))

/-- The end of a LONG command (R53): none outstanding under the number changes nothing; else the effect of its opcode takes
place, the command leaves the list, and its completion entry holds opcode, TAG, VALID, generation, status, DETAIL, frame
and result. -/
def LongCommandsEndInTheirEntry : Prop :=
  ∀ (s : State) (k : Nat) (out : LongOut),
    (s.longs[k]? = none → Answers (.longCompletion k out) s fun t => KeepsQuiet s t []) ∧
    (∀ l u st d res e, s.longs[k]? = some l → (isRecordWrite l = true → (s.longs.take k).any isRecordWrite = false) →
      s.longEffect l out = (st, d, res, u) → u.longs[k]? = some l → l.stale = false → l.queue = none → l.entry = some e →
      e < 8 → l.mbx ≤ 16 → res.length ≤ 16 →
      Answers (.longCompletion k out) s fun t =>
        t.longs = u.longs.eraseIdx k ∧
        t.bytesAt (longEntry l.mbx e) 32 = leBytes 2 l.opcode ++ leBytes 1 l.tag ++ [1] ++ leBytes 2 l.gen ++ leBytes 2 st ++
          leBytes 2 d ++ [0, 0] ++ leBytes 4 u.frame ++ padTo 16 res ∧
        Raised u t 32 (leBytes 1 e) ∧
        (∀ f : Fld, f.ok → ¬ eventWord f.addr → (f.addr < longEntry l.mbx e ∨ longEntry l.mbx e + 32 ≤ f.addr) →
          f.addr ≠ R.SUP_MODE → t.rd f = u.rd f) ∧ (∀ b, t.memGet b = u.memGet b) ∧ t.pending = s.pending)

/-- Record copies (R76 to R78): a write goes to the copy that is not in use with the SEQ one above the highest, and then to
the other; CFG_COPY_REPAIR rewrites an invalid copy from the valid one and leaves two valid or two invalid copies alone. -/
def RecordCopiesAreWrittenAndRepaired : Prop :=
  (∀ (fw t now : Nat) (r : Record) (body : List Byte) (n : Nat), nextSeq fw t r = some n →
    let w := writeCopies fw t now r body .ok
    w.1 = stOk ∧ w.2.2.1 = n ∧ w.2.2.2.1.c0 = w.2.2.2.1.c1 ∧
    (copyValid fw t r.c0 = true → copyValid fw t r.c1 = true → n = max (copySeq r.c0) (copySeq r.c1) + 1) ∧
    (copyValid fw t r.c0 = true → copyValid fw t r.c1 = false → w.2.2.2.1.used = some 1 ∧ n = copySeq r.c0 + 1) ∧
    (copyValid fw t r.c0 = false → copyValid fw t r.c1 = true → w.2.2.2.1.used = some 0 ∧ n = copySeq r.c1 + 1)) ∧
  (∀ (s : State) (t : Fin 11), t.val < s.records.length →
    (copyValid s.fwVersion t (s.record t).c0 = true → copyValid s.fwVersion t (s.record t).c1 = false →
      Answers (.cfgCopyRepair t) s fun u => (u.record t).c1 = (s.record t).c0 ∧ (u.record t).c0 = (s.record t).c0 ∧
        Raised s u 36 (leBytes 2 (t + 1) ++ [1]) ∧ Keeps s u [R.SUP_MODE_DEGR, R.SUP_MODE_MODE]) ∧
    (copyValid s.fwVersion t (s.record t).c0 = copyValid s.fwVersion t (s.record t).c1 →
      Answers (.cfgCopyRepair t) s fun u => u.records = s.records ∧ Keeps s u [R.SUP_MODE_DEGR, R.SUP_MODE_MODE]))

/-- Queue indices (R70, R71, R225): the producer side moves PROD within the ring, and a PROD beyond it sets OVF; the consumer
side moves CONS, which changes nothing else unless a received frame waited for the room; the other side's writes, and those of no owner, change neither. -/
def QueueIndicesBelongToTheirSides : Prop :=
  ∀ (s : State) (a : Attr) (q : Fin 64) (v : Nat), s.qAdmits a q = true →
    (a.isForester = true ∨ s.rd (R.QMG_QnCFG_DIR q) = 0 →
      ((v % 65536 + 65536 - s.rd (R.QMG_QnCONS_IDX q)) % 65536 ≤ s.qSize q → Answers (.queueProdWrite a q v) s fun t =>
        t.rd (R.QMG_QnPROD_IDX q) = v % 65536 ∧ KeepsQuiet s t [R.QMG_QnPROD_IDX q]) ∧
      ((v % 65536 + 65536 - s.rd (R.QMG_QnCONS_IDX q)) % 65536 > s.qSize q → Answers (.queueProdWrite a q v) s fun t =>
        t.rd (R.QMG_QnSTAT_OVF q) = 1 ∧ Raised s t 39 [BitVec.ofNat 8 q] ∧ Keeps s t [R.QMG_QnSTAT_OVF q])) ∧
    (a.isForester = true ∨ s.rd (R.QMG_QnCFG_DIR q) = 1 → Answers (.queueConsWrite a q v) s fun t =>
      t.rd (R.QMG_QnCONS_IDX q) = v % 65536 ∧
      ((∀ k : Fin 32, s.rd (R.ESW_QPk_CFG_EN k) = 1 → s.rd (R.ESW_QPk_CFG_RXQ k) = q → s.hostNext k = none) →
        KeepsQuiet s t [R.QMG_QnCONS_IDX q])) ∧
    (a.isForester = false → s.rd (R.QMG_QnCFG_DIR q) = 1 → Answers (.queueProdWrite a q v) s fun t => KeepsQuiet s t []) ∧
    (a.isForester = false → s.rd (R.QMG_QnCFG_DIR q) = 0 → Answers (.queueConsWrite a q v) s fun t => KeepsQuiet s t [])

/-- Queue commands (R74): a queue of another engine, or one that holds completions, is left alone, and any while an RT command
waits; else the next descriptor
runs, CONS moves by one, and its completion stands in the completion queue; held completions are written when there is
room. -/
def QueueCommandsComplete : Prop :=
  ∀ (s : State) (q : Fin 64),
    (∀ fate, s.rd (R.QMG_QnCFG_ENGINE q) ≠ 0x40 ∨ (s.q q).held ≠ [] ∨ (∃ m : Fin 17, s.rtWaits m = true) →
      Answers (.queueCommand q fate) s fun t => KeepsQuiet s t []) ∧
    (∀ fate s1 d p, s.rd (R.QMG_QnCFG_ENGINE q) = 0x40 → (s.q q).held = [] → (∀ m : Fin 17, s.rtWaits m = false) →
      s.qFront q = (s1, some d) → s.qOwner q = some p →
      let c := s1.queueCtx q p d
      let r := (s1.poisonReads c.attr (le d 8 5) (le d 14 2)).queueReply c (s1.queueBufsOk p d) fate
      r.s.gen p = s1.gen p → r.s.rd (R.QMG_QnCFG_EN q) = 1 → r.st ≠ stAccepted → (r.s.q q).held = [] →
      let cq := r.s.cqOf q
      cq ≠ q.val → r.s.rd (R.QMG_QnCFG_EN cq) = 1 → c.gen = r.s.qGen cq → r.s.qRoom cq ≠ 0 →
      Answers (.queueCommand q fate) s fun t =>
        t.rd (R.QMG_QnCONS_IDX q) = (r.s.rd (R.QMG_QnCONS_IDX q) + 1) % 65536 ∧
        t.rd (R.QMG_QnPROD_IDX cq) = (r.s.rd (R.QMG_QnPROD_IDX cq) + 1) % 65536 ∧
        t.memRead (r.s.qEntry cq (r.s.rd (R.QMG_QnPROD_IDX cq))) 32 =
          padTo 32 (completion c.opcode c.tag c.gen r.st r.detail r.s.frame r.result) ∧
        (∀ f : Fld, f.ok → ¬ eventWord f.addr → (R.QMG_QnCONS_IDX q).apart f → (R.QMG_QnPROD_IDX cq).apart f → t.rd f = r.s.rd f) ∧
        (let e := r.s.qEntry cq (r.s.rd (R.QMG_QnPROD_IDX cq))
         ∀ b, (b < e ∨ e + 32 ≤ b) → (b < c.resultAddr ∨ c.resultAddr + r.result.length ≤ b) → t.memGet b = r.s.memGet b) ∧
        t.pending = s.pending) ∧
    (s.qRoom (s.cqOf q) = 0 → Answers (.cqRoomAvailable q) s fun t => (t.q q).held = (s.q q).held ∧ KeepsQuiet s t []) ∧
    (∀ d, (s.q q).held = [d] → s.qRoom (s.cqOf q) ≠ 0 → s.rd (R.QMG_QnCFG_EN (s.cqOf q)) = 1 → le d 4 2 = s.qGen (s.cqOf q) →
      Answers (.cqRoomAvailable q) s fun t => (t.q q).held = [] ∧
        t.rd (R.QMG_QnPROD_IDX (s.cqOf q)) = (s.rd (R.QMG_QnPROD_IDX (s.cqOf q)) + 1) % 65536 ∧
        t.memRead (s.qEntry (s.cqOf q) (s.rd (R.QMG_QnPROD_IDX (s.cqOf q)))) 32 = padTo 32 d ∧
        (∀ f : Fld, f.ok → (R.QMG_QnPROD_IDX (s.cqOf q)).apart f → t.rd f = s.rd f) ∧
        (let e := s.qEntry (s.cqOf q) (s.rd (R.QMG_QnPROD_IDX (s.cqOf q)))
         ∀ b, (b < e ∨ e + 32 ≤ b) → t.memGet b = s.memGet b) ∧ t.pending = s.pending)

/-- Adoption (R101, R148) and sensor supplies (R149): ADOPT ends the hold of a die whose link carries traffic and reports
it, in the modes that leave its outputs alone; without LINK_OK, or out of hold, it is ignored; SS_ON_WRITE turns a supply
on or off; each is a write to one register over its link. -/
def AdoptionEndsHold : Prop :=
  ∀ (s : State) (a : Attr), s.mode ≠ mdService → s.mode ≠ mdReserve →
    (∀ d : Fin 4, Reaches a (R.BOLE_HOLD d) true s → a.isForester = true →
      (s.rd (R.BOLE_STAT_LINK_OK d) = 1 → s.rd (R.BOLE_STAT_HOLD d) = 1 → (∀ x ∈ (s.die (2 + d)).queue, x.1 < 512) → Answers (.boleAdopt a d) s fun t =>
        t.rd (R.BOLE_STAT_HOLD d) = 0 ∧ Raised s t 335 ([0xFF, BitVec.ofNat 8 d] ++ leBytes 2 (min 0xFFFF (s.die (2 + d)).lost)) ∧
        KeepsBut (fun x => eventWord x ∨ ∃ k : Fin 16, chPage (16 * d + k) x) s t [R.BOLE_STAT_HOLD d]) ∧
      (s.rd (R.BOLE_STAT_LINK_OK d) = 0 ∨ s.rd (R.BOLE_STAT_HOLD d) = 0 → Answers (.boleAdopt a d) s fun t => KeepsQuiet s t [])) ∧
    (∀ l : Fin 2, Reaches a (R.LIMB_HOLD l) true s → a.isForester = true →
      (s.rd (R.LIMB_STAT_LINK_OK l) = 1 → s.rd (R.LIMB_STAT_HOLD l) = 1 → (∀ x ∈ (s.die l).queue, x.1 < 512) → Answers (.limbAdopt a l) s fun t =>
        t.rd (R.LIMB_STAT_HOLD l) = 0 ∧ Raised s t 295 (BitVec.ofNat 8 l :: leBytes 2 (min 0xFFFF (s.die l).lost)) ∧
        KeepsBut (fun x => eventWord x ∨ ∃ k : Fin 48, x = R.UIOp_STAT (48 * l + k)) s t [R.LIMB_STAT_HOLD l]) ∧
      (s.rd (R.LIMB_STAT_LINK_OK l) = 0 ∨ s.rd (R.LIMB_STAT_HOLD l) = 0 → Answers (.limbAdopt a l) s fun t => KeepsQuiet s t [])) ∧
    (∀ u : Fin 8, Reaches a (R.SSs_CFG u) true s →
      Answers (.ssOnWrite a u false) s (fun t => t.rd (R.SSs_CFG_ON u) = 0 ∧ t.rd (R.SSs_STAT_STATE u) = 0 ∧
        KeepsQuiet s t [R.SSs_CFG_ON u, R.SSs_STAT_STATE u]) ∧
      (s.rd (R.SSs_STAT_STATE u) = 0 → Answers (.ssOnWrite a u true) s fun t =>
        t.rd (R.SSs_CFG_ON u) = 1 ∧ t.rd (R.SSs_STAT_STATE u) = 1 ∧ Keeps s t [R.SSs_CFG_ON u, R.SSs_STAT_STATE u]))
/-! Load channels (03_channels_switching.md). -/

/-- What a protective turn-off leaves (R93): the output off, cause and flag recorded, one trip counted, and the restart
pending or the channel locked off. -/
def TurnedOff (n cause : Nat) (flag : Fld) (s t : State) : Prop :=
  t.rd (R.CHn_STAT_OUT n) = 0 ∧ t.rd (R.CHn_STAT_LIMITING n) = 0 ∧ t.rd (R.CHn_STAT_CAUSE n) = cause ∧ t.rd flag = 1 ∧
  t.rd (R.CHn_CNT_TRIPS n) = min 0xFFFF (s.rd (R.CHn_CNT_TRIPS n) + 1) ∧
  t.rd (R.CHn_STAT_RETRY_LEFT n) = s.rd (R.CHn_STAT_RETRY_LEFT n) ∧
  (0 < s.rd (R.CHn_STAT_RETRY_LEFT n) →
    t.rd (R.CHn_STAT_STATE n) =
      if t.rd (R.CHn_STAT_TLATCH n) = 0 ∧ t.rd (R.CHn_STAT_HLATCH n) = 0 then 4 else 5) ∧
  (s.rd (R.CHn_STAT_RETRY_LEFT n) = 0 → t.rd (R.CHn_STAT_STATE n) = 6 ∧ t.rd (R.CHn_FLT_LOCKED n) = 1) ∧
  ChFrame n s t

/-- SHORT_CIRCUIT, OVERCURRENT_TRIP and THERMAL_SHUTDOWN turn an on channel off (R90 to R93); on a channel that is in no on
state they change no register. -/
def ProtectiveTurnOffRecordsItsCause : Prop :=
  ∀ (s : State) (n : Fin 64) (peak cur : Nat) (delta : Bool) (temp : Int),
    (s.chOnState n = true → (s.chan n).analogOff = none → s.seqRun n = true →
      Answers (.shortCircuit n peak) s (TurnedOff n 1 (R.CHn_FLT_SHORT n) s) ∧
      ((s.chan n).window = false → Answers (.overcurrentTrip n cur) s (TurnedOff n 2 (R.CHn_FLT_OVERCURRENT n) s)) ∧
      Answers (.thermalShutdown n delta temp) s (fun t =>
        TurnedOff n (if delta then 4 else 3) (R.CHn_FLT_THERMAL n) s t ∧ t.rd (R.CHn_STAT_TLATCH n) = 1)) ∧
    (s.chOnState n = false →
      Answers (.shortCircuit n peak) s (fun t => KeepsQuiet s t []) ∧
      Answers (.overcurrentTrip n cur) s (fun t => KeepsQuiet s t []) ∧
      Answers (.thermalShutdown n delta temp) s (fun t => KeepsQuiet s t []))

/-- DIE_THERMAL_SHUTDOWN (R92): every channel of the die sets its thermal latch and every conducting one turns off;
THERMAL_LATCH_CLEAR clears a latch. -/
def ThermalLatchesSetAndClear : Prop :=
  ∀ (s : State),
    (∀ d : Fin 4, Answers (.dieThermalShutdown d) s fun t =>
      (∀ k : Fin 16, t.rd (R.CHn_STAT_TLATCH (16 * d + k)) = 1 ∧
        (s.chOnState (16 * d + k) = true → (s.chan (16 * d + k)).analogOff = none →
          t.rd (R.CHn_STAT_OUT (16 * d + k)) = 0 ∧ t.rd (R.CHn_STAT_CAUSE (16 * d + k)) = 13) ∧
        (s.chOnState (16 * d + k) = false → t.rd (R.CHn_STAT_CAUSE (16 * d + k)) = s.rd (R.CHn_STAT_CAUSE (16 * d + k)))) ∧
      KeepsBut (fun a => eventWord a ∨ ∃ k : Fin 16, chPage (16 * d + k) a) s t []) ∧
    (∀ n : Fin 64, Answers (.thermalLatchClear n) s fun t =>
      t.rd (R.CHn_STAT_TLATCH n) = 0 ∧ Keeps s t [R.CHn_STAT_TLATCH n])

/-- The on states (R88, R89, R94): the end of the inrush window, the current ceiling reached and left, and the refill of
the retries. -/
def OnStatesFollowWindowAndCeiling : Prop :=
  ∀ (s : State) (n : Fin 64),
    Answers (.inrushWindowEnd n) s (fun t =>
      t.rd (R.CHn_STAT_STATE n) = (if s.rd (R.CHn_STAT_STATE n) = 2 then 1 else s.rd (R.CHn_STAT_STATE n)) ∧
      KeepsQuiet s t [R.CHn_STAT_STATE n]) ∧
    Answers (.currentCeilingReached n) s (fun t =>
      ((s.rd (R.CHn_STAT_STATE n) = 1 ∨ s.rd (R.CHn_STAT_STATE n) = 2) ∧ s.rd (R.CHn_STAT_OUT n) = 1 →
        t.rd (R.CHn_STAT_STATE n) = 3 ∧ t.rd (R.CHn_STAT_LIMITING n) = 1) ∧
      KeepsQuiet s t [R.CHn_STAT_STATE n, R.CHn_STAT_LIMITING n]) ∧
    Answers (.currentBelowCeiling n) s (fun t =>
      (s.rd (R.CHn_STAT_STATE n) = 3 →
        t.rd (R.CHn_STAT_STATE n) = (if (s.chan n).window then 2 else 1) ∧ t.rd (R.CHn_STAT_LIMITING n) = 0) ∧
      KeepsQuiet s t [R.CHn_STAT_STATE n, R.CHn_STAT_LIMITING n]) ∧
    Answers (.retryRefill n) s (fun t =>
      (s.chOnState n = true → t.rd (R.CHn_STAT_RETRY_LEFT n) = s.rd (R.CHn_TIM_RETRY_MAX n)) ∧
      KeepsQuiet s t [R.CHn_STAT_RETRY_LEFT n])

/-- Open load and short to battery (R95): the flags are set, and no check turns a channel off. -/
def LoadChecksOnlyRaiseFlags : Prop :=
  ∀ (s : State) (n : Fin 64),
    (s.rd (R.CHn_CFG_OLON_EN n) = 1 → s.chOnState n = true →
      Answers (.openLoadDetect n false) s (fun t =>
        t.rd (R.CHn_STAT_OL_ON n) = 1 ∧ t.rd (R.CHn_FLT_OL_ON n) = 1 ∧
        Keeps s t [R.CHn_STAT_OL_ON n, R.CHn_FLT_OL_ON n])) ∧
    (s.rd (R.CHn_STAT_OUT n) = 0 → s.rd (R.CHn_ROLE_PAIRED n) = 0 →
      (s.rd (R.CHn_CFG_OLOFF_EN n) = 1 →
        Answers (.openLoadDetect n true) s (fun t =>
          t.rd (R.CHn_STAT_OL_OFF n) = 1 ∧ t.rd (R.CHn_FLT_OL_OFF n) = 1 ∧
          Keeps s t [R.CHn_STAT_OL_OFF n, R.CHn_FLT_OL_OFF n])) ∧
      Answers (.stbDetect n) s (fun t =>
        t.rd (R.CHn_STAT_STB n) = 1 ∧ t.rd (R.CHn_FLT_STB n) = 1 ∧ Keeps s t [R.CHn_STAT_STB n, R.CHn_FLT_STB n]))

/-- Safety output switches (R104, R105): a switch that conducts trips and records its cause; a gate-enable line that falls
turns the switch off, and one that rises on a switch that has not tripped, on a die without an inhibit cause, turns it
on; LEASE_LINE_CHANGE shows the level of a die's lease line (R102). -/
def SafetySwitchesFollowGateAndTrip : Prop :=
  ∀ (s : State) (k : Fin 4) (sw : Bool),
    (∀ cause : Fin 3, s.rd (soOut k sw) = 1 → Answers (.soSwitchTrip k sw cause) s fun t =>
      t.rd (soOut k sw) = 0 ∧ t.rd (soTripped k sw) = 1 ∧ t.rd (soCause k sw) = cause.val + 1 ∧
      Keeps s t [soOut k sw, soTripped k sw, soCause k sw]) ∧
    (s.rd (soGate k sw) = 1 → Answers (.soGateEnableChange k sw false) s fun t =>
      t.rd (soGate k sw) = 0 ∧ t.rd (soOut k sw) = 0 ∧ t.rd (soTripped k sw) = s.rd (soTripped k sw) ∧
      KeepsQuiet s t [soGate k sw, soOut k sw, soCause k sw]) ∧
    (s.rd (soGate k sw) = 0 → s.rd (soTripped k sw) = 0 → (s.bole (soDie k sw)).cause = none →
      Answers (.soGateEnableChange k sw true) s fun t =>
        t.rd (soGate k sw) = 1 ∧ t.rd (soOut k sw) = 1 ∧ KeepsQuiet s t [soGate k sw, soOut k sw, soCause k sw]) ∧
    (∀ (d : Fin 4) (level : Bool), Answers (.leaseLineChange d level) s fun t =>
      t.rd (R.BOLE_STAT_LEASE d) = (if level then 1 else 0) ∧ KeepsQuiet s t [R.BOLE_STAT_LEASE d])

/-! Supply conditions (03_channels_switching.md). -/

/-- Supply conditions (R96, R97): on every die that a condition reaches SUPPLY shows the highest present and GND_LOSS its
own; a channel in an on state turns off into INHIBIT with the cause that now holds, and one that waits with a protective
restart leaves INHIBIT for TRIPPED with the last cause; reverse current inhibits its channel alone. -/
def SupplyConditionsInhibitTheirChannels : Prop :=
  ∀ (s : State) (d : Fin 4) (cond : SupplyCond) (mv : Nat), s.boles.length = 4 → s.chans.length = 64 →
    ((∀ n, cond ≠ .reverseCur n) →
      (∀ v : Bool, Answers (if v then .supplyConditionEnter d cond mv else .supplyConditionLeave d cond mv) s fun t =>
        (∀ k : Fin 4, k.val ∈ condDies d cond →
          let b := (s.bole k).set cond v
          t.rd (R.BOLE_STAT_SUPPLY k) = b.supply ∧ t.rd (R.BOLE_STAT_GND_LOSS k) = (if b.gndLoss then 1 else 0) ∧
          (∀ n : Fin 64, dieOf n = k → s.rd (R.BOLE_STAT_SEQ_RUN k) = 1 → (s.chan n).revCur = false →
            (∀ c, b.cause = some c → s.chOnState n = true →
              t.rd (R.CHn_STAT_STATE n) = csInhibit ∧ t.rd (R.CHn_STAT_OUT n) = 0 ∧ t.rd (R.CHn_STAT_CAUSE n) = c ∧
              t.rd (R.CHn_FLT_SUPPLY n) = 1) ∧
            (b.cause = none → s.chOnState n = true → t.raw (R.CHn_STAT n) = s.raw (R.CHn_STAT n)) ∧
            (b.cause = none → s.rd (R.CHn_STAT_STATE n) = csInhibit → (s.chan n).restart = true → s.rd (R.CHn_CMD_ON n) = 1 →
              s.latched n = false → t.rd (R.CHn_STAT_STATE n) = csTripped))) ∧
        KeepsBut (fun a => eventWord a ∨ ∃ k : Fin 64, dieOf k ∈ condDies d cond ∧ chPage k a) s t
          ((condDies d cond).flatMap fun k => [R.BOLE_STAT_SUPPLY k, R.BOLE_STAT_GND_LOSS k, wholeReg (R.SO_SWA_STAT k),
            wholeReg (R.SO_SWB_STAT k)]))) ∧
    (∀ n : Fin 64, s.chOnState n = true → s.rd (R.CHn_STAT_OUT n) = 1 → s.rd (R.CHn_ROLE_PAIRED n) = 0 →
      (s.chan n).revCur = false → s.rd (R.BOLE_STAT_SEQ_RUN (dieOf n)) = 1 →
      Answers (.supplyConditionEnter d (.reverseCur n) mv) s fun t =>
        t.rd (R.CHn_STAT_STATE n) = csInhibit ∧ t.rd (R.CHn_STAT_OUT n) = 0 ∧ t.rd (R.CHn_STAT_CAUSE n) = caReverse ∧
        (t.chan n).revCur = true ∧ ChFrame n s t) ∧
    (∀ n : Fin 64, (s.chan n).revCur = true → Answers (.supplyConditionLeave d (.reverseCur n) mv) s fun t =>
      (t.chan n).revCur = false ∧
      ((s.bole (dieOf n)).cause = none → s.rd (R.CHn_STAT_STATE n) = csInhibit → (s.chan n).restart = true →
        s.rd (R.CHn_CMD_ON n) = 1 → s.rd (R.BOLE_STAT_SEQ_RUN (dieOf n)) = 1 → s.latched n = false →
        t.rd (R.CHn_STAT_STATE n) = csTripped) ∧ ChFrame n s t)
/-! Edges, field I/O and Kerf (03, 05_field_io_kerf.md). -/

/-- An edge on IN_K (R81, R83) and one on EXT-IN (R150): a KERF channel in an on state stops conducting with a falling
edge and conducts with a rising one (when no least period of R82 waits); EXT-IN holds the new level. -/
def EdgesDriveTheirChannels : Prop :=
  ∀ (s : State) (n : Fin 64),
    (s.rd (R.CHn_CFG_SRC n) = 1 → s.rd (R.CHn_STAT_HOLD n) = 0 →
      Answers (.inEdge (.k n) false) s (fun t => t.rd (R.CHn_STAT_OUT n) = 0 ∧ ChFrame n s t) ∧
      (s.chOnState n = true → s.rd (R.CHn_CMD_ON n) = 1 → n.val < s.chans.length → (s.chan n).lastOn = none →
        (s.chan n).delayOn = none → (s.chan n).analogOff = none →
        Answers (.inEdge (.k n) true) s (fun t => t.rd (R.CHn_STAT_OUT n) = 1 ∧ ChFrame n s t))) ∧
    (∀ (k : Fin 8) (level : Bool), k.val < s.extIn.length →
      Answers (.extInEdge k level) s (fun t => (t.extIn.getD k (false, false)).1 = level ∧
        KeepsBut (fun a => eventWord a ∨ ∃ m : Fin 64, chPage m a) s t []))

/-- The end of a capture (R121, R122): BUSY falls, the count rises, the edge type and the peak of the samples stand in the
signature; with no capture in progress nothing changes. -/
def CaptureEndsWithItsSignature : Prop :=
  ∀ (s : State) (n : Fin 64) (samples : List Int),
    (∀ cap, (s.chan n).capture = some cap → samples.length = 256 → (∀ x ∈ samples, 0 ≤ x ∧ x ≤ 0xFFFF) →
      Answers (.captureComplete n samples) s fun t =>
        t.rd (R.CHn_SIG_STAT_BUSY n) = 0 ∧ t.rd (R.CHn_SIG_STAT_EDGE_TYPE n) = (if cap.off then 1 else 0) ∧
        (∀ x ∈ samples, x ≤ (t.rd (R.CHn_SIG_F0_IPK n) : Int)) ∧ ((t.rd (R.CHn_SIG_F0_IPK n) : Int) ∈ samples) ∧
        ChFrame n s t) ∧
    ((s.chan n).capture = none → Answers (.captureComplete n samples) s fun t => KeepsQuiet s t [])

/-- A UIO output (R146): a limit or thermal trip turns an output that is on off and locks it, a load below 5 mA at 8
boundaries in a row sets the open flag; an output that is off is left alone. -/
def UioOutputsTripAndLock : Prop :=
  ∀ (s : State) (p : Fin 96),
    (s.rd (R.UIOp_STAT_OUT p) = 1 →
      Answers (.uioOutLimitTrip p) s (fun t => t.rd (R.UIOp_STAT_OUT p) = 0 ∧ t.rd (R.UIOp_STAT_LOCKED p) = 1 ∧
        t.rd (R.UIOp_FLT_SHORT p) = 1 ∧ Keeps s t [R.UIOp_STAT_OUT p, R.UIOp_STAT_LOCKED p, R.UIOp_FLT_SHORT p]) ∧
      Answers (.uioOutThermal p) s (fun t => t.rd (R.UIOp_STAT_OUT p) = 0 ∧ t.rd (R.UIOp_STAT_LOCKED p) = 1 ∧
        t.rd (R.UIOp_FLT_THERMAL p) = 1 ∧ Keeps s t [R.UIOp_STAT_OUT p, R.UIOp_STAT_LOCKED p, R.UIOp_FLT_THERMAL p]) ∧
      (8 ≤ (s.pin p).openRun →
        Answers (.uioOutOpenCount p) s (fun t => t.rd (R.UIOp_FLT_OPEN p) = 1 ∧ Keeps s t [R.UIOp_FLT_OPEN p]))) ∧
    (s.rd (R.UIOp_STAT_OUT p) = 0 →
      Answers (.uioOutLimitTrip p) s (fun t => KeepsQuiet s t []) ∧ Answers (.uioOutThermal p) s (fun t => KeepsQuiet s t [])) ∧
    (s.rd (R.UIOp_STAT_OUT p) = 0 ∨ (s.pin p).openRun < 8 → Answers (.uioOutOpenCount p) s (fun t => KeepsQuiet s t []))

/-- Inputs of a pin (R140 to R142): the range flag, and OPEN for a CURRENT pin under range, after 8 boundaries in a row out of
range, once; the shunt's disconnection and reconnection; the filtered level of a DIGITAL pin after FILT + 1 samples unlike
it; the oldest edge that a timer sent to the KERF outputs that follow it (R147). -/
def UioInputsSetTheirFlags : Prop :=
  ∀ (s : State) (p : Fin 96),
    (∀ ovr : Bool,
      let f := if ovr then R.UIOp_VAL_OVR p else R.UIOp_VAL_UNR p
      let run := if ovr then (s.pin p).ovrRun else (s.pin p).unrRun
      (s.rd f = 1 → 8 ≤ run → (s.pin p).ranged = false → Answers (.uioRangeCount p ovr) s fun t =>
        t.rd (R.UIOp_FLT_RANGE p) = 1 ∧ (p.val < s.pins.length → (t.pin p).ranged = true) ∧
        (s.rd (R.UIOp_CFG_MODE p) = 4 ∧ ovr = false → t.rd (R.UIOp_FLT_OPEN p) = 1 ∧ Keeps s t [R.UIOp_FLT_RANGE p, R.UIOp_FLT_OPEN p]) ∧
        (s.rd (R.UIOp_CFG_MODE p) ≠ 4 ∨ ovr = true → Keeps s t [R.UIOp_FLT_RANGE p])) ∧
      (s.rd f = 0 ∨ run < 8 ∨ (s.pin p).ranged = true → Answers (.uioRangeCount p ovr) s fun t => KeepsQuiet s t [])) ∧
    (s.rd (R.UIOp_CFG_MODE p) = 4 → s.rd (R.UIOp_STAT_SHUNT_OFF p) = 0 → Answers (.shuntOvercurrent p) s (fun t =>
      t.rd (R.UIOp_STAT_SHUNT_OFF p) = 1 ∧ t.rd (R.UIOp_FLT_SHUNT p) = 1 ∧ t.rd (R.UIOp_VAL_VALID p) = 0 ∧
      Keeps s t [R.UIOp_STAT_SHUNT_OFF p, R.UIOp_FLT_SHUNT p, R.UIOp_VAL_VALID p])) ∧
    Answers (.shuntReconnect p) s (fun t =>
      t.rd (R.UIOp_STAT_SHUNT_OFF p) = 0 ∧ KeepsQuiet s t [R.UIOp_STAT_SHUNT_OFF p]) ∧
    (s.rd (R.UIOp_CFG_MODE p) = 5 → s.rd (R.UIOp_DIG_FILT p) < (s.pin p).agree → Answers (.digitalFilterExpiry p (s.pin p).level) s (fun t =>
      t.rd (R.UIOp_VAL_VALUE p) % 2 = (if (s.pin p).level then 1 else 0) ∧ (t.pin p).filt = (s.pin p).level ∧
      KeepsQuiet s t [⟨R.UIOp_VAL p, 0, 0⟩])) ∧
    (∀ level, s.rd (R.UIOp_CFG_MODE p) ≠ 5 ∨ (s.pin p).agree ≤ s.rd (R.UIOp_DIG_FILT p) ∨ level ≠ (s.pin p).level →
      Answers (.digitalFilterExpiry p level) s (fun t => KeepsQuiet s t [])) ∧
    (∀ tm : Fin 64,
      (∀ level rest, (s.kts.getD (64 + tm.val) {}).sent = level :: rest → Answers (.kerfEdgeMessage tm level) s (fun t =>
        (t.kts.getD (64 + tm.val) {}).sent = rest ∧
        (s.rd (R.UIOp_CFG_OUT_SRC p) = 1 → s.rd (R.UIOp_STAT_HOLD p) = 0 → s.rd (R.UIOp_OUT_TMR p) = tm.val →
          p.val < s.pins.length → s.rd (R.UIOp_STAT_LOCKED p) = 0 → s.isOutput p = true → s.rd (R.UIOp_OUT_ON p) = 1 →
          t.rd (R.UIOp_STAT_OUT p) = (if level then 1 else 0)) ∧
        KeepsBut (fun a => ∃ k : Fin 96, a = R.UIOp_STAT k) s t [])) ∧
      (∀ level, (s.kts.getD (64 + tm.val) {}).sent.head? ≠ some level → Answers (.kerfEdgeMessage tm level) s (fun t => KeepsQuiet s t [])))

/-- Sensor supplies (R149): the retry wait after a limit time-out and its end, backfeed and its end. -/
def SensorSuppliesRetryAndBlockBackfeed : Prop :=
  ∀ (s : State) (u : Fin 8),
    (s.rd (R.SSs_STAT_STATE u) = 1 ∨ s.rd (R.SSs_STAT_STATE u) = 2 → Answers (.ssLimitTimeout u) s (fun t =>
      t.rd (R.SSs_STAT_STATE u) = 3 ∧ t.rd (R.SSs_FLT_OVERCURRENT u) = 1 ∧
      Keeps s t [R.SSs_STAT_STATE u, R.SSs_FLT_OVERCURRENT u])) ∧
    (s.rd (R.SSs_STAT_STATE u) = 3 → Answers (.ssRetryTimer u) s (fun t =>
      t.rd (R.SSs_STAT_STATE u) = 1 ∧ Keeps s t [R.SSs_STAT_STATE u])) ∧
    (s.rd (R.SSs_STAT_STATE u) ≠ 0 → s.rd (R.SSs_STAT_STATE u) ≠ 4 → Answers (.ssBackfeedDetect u) s (fun t =>
      t.rd (R.SSs_STAT_STATE u) = 4 ∧ t.rd (R.SSs_FLT_BACKFEED u) = 1 ∧
      Keeps s t [R.SSs_STAT_STATE u, R.SSs_FLT_BACKFEED u])) ∧
    (s.rd (R.SSs_STAT_STATE u) = 4 → Answers (.ssBackfeedClear u) s (fun t =>
      t.rd (R.SSs_STAT_STATE u) = 1 ∧ Keeps s t [R.SSs_STAT_STATE u]))

/-- The hold bit of a far die by its Gwebry link: limbs 0 and 1, boles from 2 on (R99, R148). -/
def dieHold (g : Nat) : Fld := if g < 2 then R.LIMB_STAT_HOLD g else R.BOLE_STAT_HOLD (g - 2)

/-- The LOCAL_FRAME bit of a far die. -/
def dieLocal (g : Nat) : Fld := if g < 2 then R.LIMB_STAT_LOCAL_FRAME g else R.BOLE_STAT_LOCAL_FRAME (g - 2)

/-- The register window of the far die on Gwebry link g (R21). -/
def dieWindow (g a : Nat) : Prop := 0x20600000 + g * 0x100000 ≤ a ∧ a < 0x20700000 + g * 0x100000

/-- The frame of a change of one far die: all but its window, the words of events and the PENDING bits of commits. -/
def DieFrame (g : Nat) (s t : State) : Prop := KeepsBut (fun a => eventWord a ∨ dieWindow g a) s t pendingFields

/-- Hold (R99, R100, R148): a crown reset and a silent link put a far die into hold; its own oscillator's boundaries count
only there; and a microsequencer runs again with its resume. -/
def FarDiesEnterHold : Prop :=
  ∀ (s : State) (g : Fin 6) (obs : FrameObs),
    Answers (.crownResetIndication g) s (fun t => t.rd (dieHold g) = 1 ∧ DieFrame g s t) ∧
    Answers (.linkSilenceTimeout g) s (fun t => t.rd (dieHold g) = 1 ∧ DieFrame g s t) ∧
    (s.rd (dieHold g) = 1 →
      Answers (.crownResetIndication g) s (fun t => KeepsQuiet s t []) ∧
      Answers (.linkSilenceTimeout g) s (fun t => KeepsQuiet s t []) ∧
      ((∀ c ∈ s.chans, c.delayOn = none) → Answers (.dieLocalBoundary g obs) s (fun t => t.rd (dieLocal g) = 1 ∧ DieFrame g s t))) ∧
    (s.rd (dieHold g) = 0 → Answers (.dieLocalBoundary g obs) s (fun t => KeepsQuiet s t [])) ∧
    (∀ d : Fin 4, s.rd (R.BOLE_STAT_SEQ_RUN d) = 0 →
      Answers (.sequencerResume d) s (fun t => t.rd (R.BOLE_STAT_SEQ_RUN d) = 1 ∧ DieFrame (2 + d) s t))

/-- The frame of a change of a timer's line: all but the channels and outputs that follow it. -/
def LineFrame (s t : State) : Prop := KeepsBut (fun a => eventWord a ∨ (∃ k : Fin 64, chPage k a) ∨ ∃ p : Fin 96, a = R.UIOp_STAT p) s t []

/-- Kerf's edges (R143, R147, R152 to R155): an edge of a FREQ or QUAD pin that changes its comparator and lasts the glitch
time is counted, and noted as lost where the link does not carry it; others are none; a timer off ignores its edges, the
end of an on-time with an off-gap of 1 µs or more takes the line low, and so does the end of the hold time for every IN_K
line. -/
def KerfEdgesFollowTheirTimers : Prop :=
  ∀ (s : State),
    (∀ (p : Fin 96) (mv us ts : Nat) (lost : Bool), p.val < s.pins.length →
      (s.rd (R.UIOp_CFG_MODE p) = 6 ∨ s.rd (R.UIOp_CFG_MODE p) = 7 → s.compare p mv ≠ (s.pin p).level →
        s.rd (R.UIOp_DIG_GLITCH p) ≤ us → Answers (.freqQuadEdge p ⟨mv, us, lost⟩ ts) s (fun t =>
          (t.pin p).level = s.compare p mv ∧ (t.pin p).edges = (s.pin p).edges + 1 ∧
          (lost = true ∨ s.linkOk (limbOf p) = false → (t.pin p).lost = true ∧ KeepsQuiet s t []) ∧
          KeepsBut (fun a => eventWord a ∨ ∃ k : Fin 128, a = R.KTt_STAT k) s t [])) ∧
      (s.rd (R.UIOp_CFG_MODE p) < 6 ∨ 7 < s.rd (R.UIOp_CFG_MODE p) ∨ s.compare p mv = (s.pin p).level ∨
        us < s.rd (R.UIOp_DIG_GLITCH p) → Answers (.freqQuadEdge p ⟨mv, us, lost⟩ ts) s (fun t => KeepsQuiet s t []))) ∧
    (∀ (tm : Fin 128) (k : PwmEdge), s.rd (R.KTt_CFG_MODE tm) ≠ 1 → s.rd (R.KTt_CFG_MODE tm) ≠ 2 →
      Answers (.kerfPwmEdge tm k) s (fun t => KeepsQuiet s t [])) ∧
    (∀ tm : Fin 128, s.rd (R.KTt_CFG_MODE tm) = 1 → (s.kt tm).duty < 65535 →
      80 ≤ s.rd (R.KTt_PER_PERIOD tm) - s.rd (R.KTt_PER_PERIOD tm) * (s.kt tm).duty / 65535 →
      Answers (.kerfPwmEdge tm .onEnd) s (fun t => (t.kt tm).line = false ∧ LineFrame s t)) ∧
    (∀ tm : Fin 128, tm.val < s.kts.length → s.rd (R.KTt_CFG_MODE tm) = 1 →
      Answers (.kerfPwmEdge tm .periodStart) s (fun t =>
        (t.kt tm).duty = s.rd (R.KTt_DUTY_DUTY tm) ∧
        ((t.kt tm).line = true ↔ s.rd (R.KTt_DUTY_DUTY tm) = 65535 ∨
          80 ≤ s.rd (R.KTt_PER_PERIOD tm) * s.rd (R.KTt_DUTY_DUTY tm) / 65535) ∧ LineFrame s t)) ∧
    Answers .inKHoldExpiry s (fun t => LineFrame s t ∧ ∀ n : Fin 64, (t.kt n).line = false ∧
      (s.rd (R.CHn_CFG_SRC n) = 1 → s.rd (R.CHn_STAT_HOLD n) = 0 → t.rd (R.CHn_STAT_OUT n) = 0))

/-- Current controllers (R157 to R162, R509): a sense message marks its die, a slot without one takes the mark back and an
enabled controller counts it as missed, a channel that does not conduct holds its controller at duty 0, the executed duty
stays between DMIN and DMAX, and 16 missed slots and 40 saturated frames in a row are reported once. -/
def ControllersBoundTheirDuty : Prop :=
  ∀ (s : State) (c : Fin 32),
    (∀ (d : Fin 4) (m : SenseMsg), Answers (.senseMessage d m) s (fun t =>
      t.rd ⟨R.KRF_STAT, d, d⟩ = 1 ∧ KeepsQuiet s t [⟨R.KRF_STAT, d, d⟩])) ∧
    (s.rd (R.KCc_CFG_EN c) = 0 → Answers (.kcExecute c) s (fun t =>
      KeepsQuiet s t [⟨R.KRF_STAT, dieOf (s.rd (R.KCc_CFG_CH c)), dieOf (s.rd (R.KCc_CFG_CH c))⟩])) ∧
    (s.rd (R.KCc_CFG_EN c) = 1 → (∀ m, s.sense.getD (dieOf (s.rd (R.KCc_CFG_CH c))) none = some m → (s.kc c).lastMsg = some m.id) →
      Answers (.kcExecute c) s (fun t =>
        t.rd (R.KCc_CNT_MISS c) = min (2 ^ ((R.KCc_CNT_MISS c).hi + 1 - (R.KCc_CNT_MISS c).lo) - 1) (s.rd (R.KCc_CNT_MISS c) + 1) ∧
        t.rd ⟨R.KRF_STAT, dieOf (s.rd (R.KCc_CFG_CH c)), dieOf (s.rd (R.KCc_CFG_CH c))⟩ = 0 ∧
        (c.val < s.kcs.length → (t.kc c).missRun = (s.kc c).missRun + 1) ∧
        KeepsQuiet s t [R.KCc_CNT_MISS c, ⟨R.KRF_STAT, dieOf (s.rd (R.KCc_CFG_CH c)), dieOf (s.rd (R.KCc_CFG_CH c))⟩])) ∧
    (∀ m, s.rd (R.KCc_CFG_EN c) = 1 → s.sense.getD (dieOf (s.rd (R.KCc_CFG_CH c))) none = some m →
      (s.kc c).lastMsg ≠ some m.id →
      Answers (.kcExecute c) s (fun t => Keeps s t [wholeReg (R.KCc_OUT c), wholeReg (R.KCc_DIAG c)] ∧
        (m.hold = true → t.rd (R.KCc_OUT_DUTY c) = 0 ∧ t.rd (R.KCc_DIAG_HELD c) = 1) ∧
        (m.hold = false → m.states.getD (s.rd (R.KCc_CFG_CH c) % 16) 0 = 1 →
          s.rd (R.KCc_LIM_DMIN c) ≤ s.rd (R.KCc_LIM_DMAX c) →
          t.rd (R.KCc_DIAG_HELD c) = 0 ∧ s.rd (R.KCc_LIM_DMIN c) ≤ t.rd (R.KCc_OUT_DUTY c) ∧
          t.rd (R.KCc_OUT_DUTY c) ≤ s.rd (R.KCc_LIM_DMAX c)))) ∧
    (s.rd (R.KCc_CFG_EN c) = 1 → s.rd (R.KCc_DIAG_SENSE_LOST c) = 0 → 16 ≤ (s.kc c).missRun → Answers (.senseLostCount c) s (fun t =>
      t.rd (R.KCc_DIAG_SENSE_LOST c) = 1 ∧ Raised s t 256 [BitVec.ofNat 8 c, BitVec.ofNat 8 (s.rd (R.KCc_CFG_CH c))] ∧
      Keeps s t [R.KCc_DIAG_SENSE_LOST c])) ∧
    (s.rd (R.KCc_CFG_EN c) = 0 ∨ s.rd (R.KCc_DIAG_SENSE_LOST c) = 1 ∨ (s.kc c).missRun < 16 →
      Answers (.senseLostCount c) s (fun t => KeepsQuiet s t [])) ∧
    (s.rd (R.KCc_CFG_EN c) = 1 → (s.kc c).satRaised = false → 40 ≤ (s.kc c).satRun → Answers (.kcSaturationRun c) s (fun t =>
      (∃ p, Raised s t 258 p) ∧ (c.val < s.kcs.length → (t.kc c).satRaised = true) ∧ Keeps s t [])) ∧
    (s.rd (R.KCc_CFG_EN c) = 0 ∨ (s.kc c).satRaised = true ∨ (s.kc c).satRun < 40 →
      Answers (.kcSaturationRun c) s (fun t => KeepsQuiet s t []))
/-! CAN (06_can.md). -/

/-- The registers of controller n. -/
def canPage (n a : Nat) : Prop := 0x20100000 + n * 0x1000 ≤ a ∧ a < 0x20100000 + (n + 1) * 0x1000

/-- The frame of a command on controller n: its page, and the transmitter block of its transceiver. -/
def CanKeeps (n : Nat) (s t : State) : Prop := KeepsBut (fun a => eventWord a ∨ canPage n a) s t [R.TRXj_STAT_TXD_BLOCK n]

/-- An access whose target admits it and whose unit is not gated. -/
def Own (a : Attr) (addr : Nat) (write : Bool) (s : State) : Prop := s.regAdmits a addr write = true ∧ s.gated addr = false

/-- Nobody but the controller takes the frames of its segment: Landing stopped, no ring segment. -/
def alone (s : State) : Prop := s.rd R.LGW_CTRL_RUN = 0 ∧ ∀ r ∈ s.tly.rings, r.on = false

/-- Reception (R182 to R185): a frame that the controller cannot hear changes nothing; one it hears is counted and stored
in the lowest-numbered object that matches (NEW, or OVR as well where NEW was 1), else in the FIFO; the FIFO moves its
oldest frame to its queue where the ring has room. -/
def CanFramesAreStoredWhereTheyMatch : Prop :=
  ∀ (s : State) (n : Fin 24),
    (∀ f : CanFrame, s.canHears n f = false → Answers (.canFrameValid n f) s fun t => KeepsQuiet s t []) ∧
    (∀ f : CanFrame, s.canHears n f = true → alone s → s.rd (R.CANn_STAT_REC n) = 0 → f.data.length = canLen f.fdf f.rtr f.dlc →
      let msg := canMsgOf f
      let hit := (List.range 32).find? fun m => canMatch (s.raw (R.MOm_FID n m)) (s.raw (R.MOm_FMSK n m)) msg
      (∀ m, hit = some m → s.wordBit (R.CANn_RXLOCK n) m = false → Answers (.canFrameValid n f) s fun t =>
        t.wordBit (R.CANn_RXNEW n) m = true ∧ (s.wordBit (R.CANn_RXNEW n) m = true → t.wordBit (R.CANn_RXOVR n) m = true) ∧
        (s.wordBit (R.CANn_RXNEW n) m = false → t.raw (R.CANn_RXOVR n) = s.raw (R.CANn_RXOVR n)) ∧
        t.raw (R.MOm_W0 n m) = msg.w0 ∧ t.raw (R.MOm_W1 n m) = msg.w1 ∧ t.raw (R.MOm_TIME n m) = BitVec.ofNat 32 f.time ∧
        t.bytesAt (R.MOm_D n m 0) f.data.length = f.data ∧ t.rd (R.CANn_CNT_RX_COUNT n) = min 0xFFFFFFFF (s.rd (R.CANn_CNT_RX_COUNT n) + 1) ∧
        CanKeeps n s t) ∧
      (hit = none → n.val < s.cans.length → s.rd (R.CANn_FIFO_CFG_EN n) = 1 → (s.can n).fifo.length < 64 →
        (∀ k : Fin 8, canMatch (s.raw (R.CANn_FFk_ID n k)) (s.raw (R.CANn_FFk_MSK n k)) msg = false) →
        Answers (.canFrameValid n f) s fun t =>
          (t.can n).fifo = (s.can n).fifo ++ (if s.rd (R.CANn_FIFO_CFG_ALL n) = 1 then
            [((s.can n).fifoTag, { msg with w1 := setBits msg.w1 23 16 0xFF })] else []) ∧
          t.rd (R.CANn_CNT_RX_COUNT n) = min 0xFFFFFFFF (s.rd (R.CANn_CNT_RX_COUNT n) + 1) ∧ CanKeeps n s t)) ∧
    ((s.can n).fifo = [] → Answers (.canFifoDrain n) s fun t => KeepsQuiet s t []) ∧
    (∀ tag f rest, (s.can n).fifo = (tag, f) :: rest → n.val < s.cans.length → rest.length < 64 →
      let q := s.rd (R.CANn_FIFO_CFG_QUEUE n)
      let k := 1 + (w1Len f.w1 - 12 + 23) / 24
      s.rd (R.QMG_QnCFG_EN q) = 1 → s.rd (R.QMG_QnCFG_DIR q) = 1 →
      (s.qRoom q < k → Answers (.canFifoDrain n) s fun t => (t.can n).fifo = (s.can n).fifo ∧ KeepsQuiet s t []) ∧
      (k ≤ s.qRoom q → s.qGen q < 65536 → s.rd (R.QMG_QnPROD_IDX q) + k < 65536 → Answers (.canFifoDrain n) s fun t =>
        (t.can n).fifo = rest ∧ t.rd (R.CANn_FIFO_STAT_LEVEL n) = rest.length ∧
        t.rd (R.QMG_QnPROD_IDX q) = s.rd (R.QMG_QnPROD_IDX q) + k ∧
        (∀ b, b < s.qBase q ∨ s.qBase q + 32 * s.qSize q ≤ b → t.memGet b = s.memGet b) ∧
        (∀ g : Fld, g.ok → g.apart (R.QMG_QnPROD_IDX q) → g.apart (R.CANn_FIFO_STAT_LEVEL n) → t.rd g = s.rd g) ∧
        t.pending = s.pending))

/-- Reading an object (R183, R184): reading its first word locks it, its last word releases it with NEW, a word beyond
the frame of a locked object reads 0; RXUNLOCK releases as well, and a frame received meanwhile moves in with NEW 1. -/
def ObjectsLockFromFirstToLastWord : Prop :=
  ∀ (s : State) (a : Attr) (n : Fin 24) (o : Fin 32),
    (∀ w : Fin 20, Own a (R.MOm_W0 n o + 4 * w) false s →
      (w = 0 → Answers (.canMoRead a n o w) s fun t => t.bus = { data := s.raw (R.MOm_W0 n o) } ∧
        t.wordBit (R.CANn_RXLOCK n) o = true ∧ KeepsQuiet s t [⟨R.CANn_RXLOCK n, o, o⟩]) ∧
      (w ≠ 0 → s.wordBit (R.CANn_RXLOCK n) o = false ∨ w.val < s.moLast n o → w.val < 19 →
        Answers (.canMoRead a n o w) s fun t => t.bus = { data := s.raw (R.MOm_W0 n o + 4 * w) } ∧ KeepsQuiet s t []) ∧
      (s.wordBit (R.CANn_RXLOCK n) o = true → w.val = s.moLast n o → w.val < 19 → (∀ x ∈ (s.can n).shadows, x.1 ≠ o.val) →
        Answers (.canMoRead a n o w) s fun t => t.bus = { data := s.raw (R.MOm_W0 n o + 4 * w) } ∧
          t.wordBit (R.CANn_RXLOCK n) o = false ∧ t.wordBit (R.CANn_RXNEW n) o = false ∧
          KeepsQuiet s t [⟨R.CANn_RXLOCK n, o, o⟩, ⟨R.CANn_RXNEW n, o, o⟩]) ∧
      (w ≠ 0 → s.wordBit (R.CANn_RXLOCK n) o = true → s.moLast n o < w.val →
        Answers (.canMoRead a n o w) s fun t => t.bus = {} ∧ KeepsQuiet s t [])) ∧
    (Own a (R.CANn_RXUNLOCK n) true s →
      (s.wordBit (R.CANn_RXLOCK n) o = false → Answers (.canRxUnlock a n (2 ^ o.val)) s fun t => KeepsQuiet s t []) ∧
      (s.wordBit (R.CANn_RXLOCK n) o = true → Answers (.canRxUnlock a n (2 ^ o.val)) s fun t =>
        t.wordBit (R.CANn_RXLOCK n) o = false ∧
        ((∀ x ∈ (s.can n).shadows, x.1 ≠ o.val) → t.wordBit (R.CANn_RXNEW n) o = false ∧
          KeepsQuiet s t [⟨R.CANn_RXLOCK n, o, o⟩, ⟨R.CANn_RXNEW n, o, o⟩]) ∧
        (∀ x, (s.can n).shadows.find? (fun x => x.1 = o.val) = some x → t.raw (R.MOm_W0 n o) = x.2.w0 ∧
          t.raw (R.MOm_W1 n o) = x.2.w1 ∧ t.wordBit (R.CANn_RXNEW n) o = true ∧
          KeepsBut (canPage n) s t [])))

/-- Requests and aborts (R177, R181): a request of a free direct buffer asserts PEND, of a malformed frame FAIL with
CAN_TX_FAIL; an abort of a buffer that is not on the bus ends its request with reason 4; other buffers are left alone. -/
def DirectBuffersPendOrFail : Prop :=
  ∀ (s : State) (a : Attr) (n : Fin 24) (b : Fin 3), Own a (R.CANn_TXC n) true s →
    let pend := txcBit (R.CANn_TXC_PEND n) b
    let fail := txcBit (R.CANn_TXC_FAIL n) b
    let done := txcBit (R.CANn_TXC_DONE n) b
    (nbit (s.rd (R.CANn_CFG_DIRECT n)) b = true → s.rd pend = 0 →
      (s.canMalformed n (s.raw (R.TXBb_W0 n b)) (s.raw (R.TXBb_W1 n b)) = false →
        Answers (.canTxRequest a n (2 ^ b.val)) s fun t => t.rd pend = 1 ∧ KeepsQuiet s t [pend]) ∧
      (s.canMalformed n (s.raw (R.TXBb_W0 n b)) (s.raw (R.TXBb_W1 n b)) = true →
        Answers (.canTxRequest a n (2 ^ b.val)) s fun t => t.rd fail = 1 ∧ t.rd done = 0 ∧ t.rd (R.CANn_FLT_TXFAIL n) = 1 ∧
          Raised s t 198 [BitVec.ofNat 8 n, BitVec.ofNat 8 b, 5] ∧ Keeps s t [fail, done, R.CANn_FLT_TXFAIL n])) ∧
    (nbit (s.rd (R.CANn_CFG_DIRECT n)) b = false ∨ s.rd pend = 1 →
      Answers (.canTxRequest a n (2 ^ b.val)) s fun t => KeepsQuiet s t []) ∧
    (s.rd pend = 0 → Answers (.canTxAbort a n (2 ^ b.val)) s fun t => KeepsQuiet s t []) ∧
    (s.rd pend = 1 → (s.can n).offered ≠ some b.val → (s.can n).buf b = none → Answers (.canTxAbort a n (2 ^ b.val)) s fun t =>
      t.rd pend = 0 ∧ t.rd done = 0 ∧ t.rd fail = 1 ∧ Raised s t 198 [BitVec.ofNat 8 n, BitVec.ofNat 8 b, 4] ∧
      Keeps s t [pend, done, fail, R.CANn_FLT_TXFAIL n]) ∧
    (s.rd pend = 1 → (s.can n).offered = some b.val → n.val < s.cans.length → Answers (.canTxAbort a n (2 ^ b.val)) s fun t =>
      b.val ∈ (t.can n).aborts ∧ KeepsQuiet s t [])

/-- Transmission (R178 to R181): at a start-of-frame opportunity the pending buffer with the lowest arbitration field, or
with TXORD = 1 the lowest-numbered one, goes on the bus; a frame sent ends its request with DONE, its time and the count;
lost arbitration keeps the request and goes on as a reception; a free fed buffer takes the head of its only source. -/
def TransmissionsOfferCompleteAndRefill : Prop :=
  ∀ (s : State) (n : Fin 24), n.val < s.cans.length →
    let pend := fun b : Nat => txcBit (R.CANn_TXC_PEND n) b
    (s.canLive n = true → s.rd (R.CANn_CTRL_RUN n) = 1 → s.rd (R.CANn_STAT_GATED n) = 0 → s.rd (R.CANn_CFG_OPMODE n) = 0 → s.rd (R.TRXj_STAT_TXD_BLOCK n) = 0 →
      s.rd (R.CANn_STAT_ACT n) ≠ 3 → (s.can n).offered = none → ∀ c : Fin 3, s.rd (pend c) = 1 →
      Answers (.canSofOpportunity n) s fun t => ∃ b : Fin 3, (t.can n).offered = some b.val ∧ s.rd (pend b) = 1 ∧
        (s.rd (R.CANn_CFG_TXORD n) = 1 → ∀ c : Fin 3, s.rd (pend c) = 1 → b ≤ c) ∧
        (s.rd (R.CANn_CFG_TXORD n) = 0 → ∀ c : Fin 3, s.rd (pend c) = 1 →
          canKey (s.raw (R.TXBb_W0 n b)) ≤ canKey (s.raw (R.TXBb_W0 n c))) ∧
        t.rd (R.CANn_STAT_ACT n) = 2 ∧ KeepsQuiet s t [R.CANn_STAT_ACT n, R.TXBb_W1_ESI n b]) ∧
    (s.canLive n = false ∨ s.rd (R.CANn_CTRL_RUN n) = 0 → Answers (.canSofOpportunity n) s fun t => (t.can n).offered = (s.can n).offered ∧ KeepsQuiet s t []) ∧
    (∀ out, (s.can n).offered = none → Answers (.canTxComplete n out) s fun t => KeepsQuiet s t []) ∧
    (∀ b : Fin 3, (s.can n).offered = some b.val → alone s → s.rd (R.CANn_CFG_OPMODE n) ≠ omLoopback →
      (∀ v ts, s.rd (R.CANn_CFG_TDC_EN n) = 0 → s.rd (R.CANn_STAT_TEC n) = 0 → (s.can n).buf b = none → ts < 2 ^ 32 →
        Answers (.canTxComplete n (.sent v ts)) s fun t =>
          t.rd (pend b) = 0 ∧ t.rd (txcBit (R.CANn_TXC_DONE n) b) = 1 ∧ t.rd (txcBit (R.CANn_TXC_FAIL n) b) = 0 ∧
          t.rd (R.TXBb_TS_TIME n b) = ts ∧ t.rd (R.CANn_CNT_TX_COUNT n) = min 0xFFFFFFFF (s.rd (R.CANn_CNT_TX_COUNT n) + 1) ∧
          (t.can n).offered = none ∧ t.rd (R.CANn_STAT_ACT n) = 0 ∧
          KeepsQuiet s t [pend b, txcBit (R.CANn_TXC_DONE n) b, txcBit (R.CANn_TXC_FAIL n) b, R.TXBb_TS_TIME n b,
            R.CANn_CNT_TX_COUNT n, R.CANn_STAT_ACT n, R.TRXj_STAT_TXD_BLOCK n]) ∧
      (w1Sshot (s.raw (R.TXBb_W1 n b)) = false → (s.can n).aborts = [] → ∀ (lost : Bool) (v : Option Nat) (ts : Nat), ts < 2 ^ 32 →
        lost = true ∨ v = none ∨ s.rd (R.CANn_CFG_TDC_EN n) = 0 →
        Answers (.canTxComplete n (if lost then .arbLost ts else .error v ts)) s fun t =>
          t.raw (R.CANn_TXC n) = s.raw (R.CANn_TXC n) ∧ (t.can n).offered = none ∧ t.rd (R.TXBb_TS_TIME n b) = ts ∧
          t.rd (R.CANn_STAT_ACT n) = (if lost then 1 else 0) ∧
          KeepsQuiet s t [R.CANn_STAT_ACT n, R.TRXj_STAT_TXD_BLOCK n, R.TXBb_TS_TIME n b])) ∧
    ((∀ b : Fin 3, nbit (s.rd (R.CANn_CFG_DIRECT n)) b = true ∨ s.rd (pend b) = 1) →
      Answers (.canBufferRefill n) s fun t => KeepsQuiet s t []) ∧
    (∀ (b : Fin 3) tx rest, (s.can n).sends = tx :: rest → (s.can n).landing = [] → s.feedQueues n = [] → s.segHeld n = false →
      (s.can n).bufs = [none, none, none] → tx.src = some 64 → tx.notBefore = none →
      (nbit (s.rd (R.CANn_CFG_DIRECT n)) b = false ∧ s.rd (pend b) = 0) →
      (∀ c < b, nbit (s.rd (R.CANn_CFG_DIRECT n)) c = true ∨ s.rd (pend c) = 1) →
      Answers (.canBufferRefill n) s fun t =>
        (t.can n).sends = rest ∧ (t.can n).buf b = some tx ∧ t.rd (pend b) = 1 ∧ t.raw (R.TXBb_W0 n b) = tx.msg.w0 ∧
        t.raw (R.TXBb_W1 n b) = txW1 tx.msg.w0 tx.msg.w1 ∧ KeepsBut (canPage n) s t []) ∧
    (∀ b : Fin 3, ((s.can n).buf b = none → Answers (.notBeforeInstant n b) s fun t => KeepsQuiet s t []) ∧
      (∀ tx, (s.can n).buf b = some tx → (∀ c ∈ s.chans, c.delayOn = none) → Answers (.notBeforeInstant n b) s fun t =>
        t.rd (pend b) = 1 ∧ t.now = max s.now (tx.notBefore.getD 0) ∧ KeepsQuiet s t [pend b]))

/-- Errors (R187): detected on a controller that takes part they raise the counters of ISO 11898-1, and 96 sets WARN, 128
makes it passive, 256 bus-off; in a mode that does not count only LEC and the error count move; else they change nothing.
The start of a frame that fails stands in its buffer's TS; a reception that fails is over. -/
def CanErrorsFollowTheCounters : Prop :=
  ∀ (s : State) (n : Fin 24),
    let seen := [R.CANn_STAT_LEC n, R.CANn_CNT_ERR_COUNT n, R.CANn_STAT_ACT n]
    let ts := (s.can n).offered.toList.map (R.TXBb_TS_TIME n)
    (∀ e, s.canLive n = false → Answers (.canBusError n e) s fun t => KeepsQuiet s t []) ∧
    (s.canLive n = true → s.canCounts n = false → ∀ (lec : Fin 8) (e : Bool) (at_ : Nat),
      Answers (.canBusError n (.tx lec e at_)) s (fun t => t.rd (R.CANn_STAT_LEC n) = lec ∧ KeepsQuiet s t (seen ++ ts)) ∧
      Answers (.canBusError n (.rx lec e)) s (fun t => t.rd (R.CANn_STAT_LEC n) = lec ∧
        t.rd (R.CANn_STAT_ACT n) = (if s.rd (R.CANn_STAT_ACT n) = 1 then 0 else s.rd (R.CANn_STAT_ACT n)) ∧ KeepsQuiet s t seen)) ∧
    (s.rd (R.CANn_STAT_STATE n) = ctActive → s.canCounts n = true → s.rd (R.CANn_STAT_REC n) < 96 →
      (∀ (lec : Fin 8) (e : Bool) (at_ : Nat),
        let tec := s.rd (R.CANn_STAT_TEC n) + if e then 0 else 8
        let k := if e then 8 else 1
        (tec < 96 → Answers (.canBusError n (.tx lec e at_)) s fun t =>
          t.rd (R.CANn_STAT_TEC n) = tec ∧ t.rd (R.CANn_STAT_LEC n) = lec ∧ t.rd (R.CANn_STAT_STATE n) = ctActive ∧
          KeepsQuiet s t (R.CANn_STAT_TEC n :: R.CANn_STAT_WARN n :: seen ++ ts)) ∧
        (96 ≤ tec → tec < 128 → Answers (.canBusError n (.tx lec e at_)) s fun t =>
          t.rd (R.CANn_STAT_TEC n) = tec ∧ t.rd (R.CANn_STAT_WARN n) = 1 ∧ t.rd (R.CANn_STAT_STATE n) = ctActive ∧
          (s.rd (R.CANn_STAT_WARN n) = 0 → t.rd (R.CANn_FLT_WARN n) = 1 ∧ ∃ p, Raised s t 195 p) ∧ KeepsBut (fun a => eventWord a ∨ canPage n a) s t (R.TRXj_STAT_TXD_BLOCK n :: ts)) ∧
        (128 ≤ tec → tec < 256 → Answers (.canBusError n (.tx lec e at_)) s fun t =>
          t.rd (R.CANn_STAT_TEC n) = tec ∧ t.rd (R.CANn_STAT_STATE n) = ctPassive ∧
          t.rd (R.CANn_FLT_PASSIVE n) = 1 ∧ (∃ p, Raised s t 192 p) ∧ KeepsBut (fun a => eventWord a ∨ canPage n a) s t (R.TRXj_STAT_TXD_BLOCK n :: ts)) ∧
        (256 ≤ tec → s.rd (R.CANn_STAT_TEC n) < 256 → Answers (.canBusError n (.tx lec e at_)) s fun t =>
          t.rd (R.CANn_STAT_STATE n) = (if s.rd (R.CANn_CFG_BOFF_HOLD n) = 1 then ctHeld else ctRecovering) ∧
          t.rd (R.CANn_FLT_BOFF n) = 1 ∧ (∃ p, Raised s t 193 p) ∧
          ((s.can n).bufs = [none, none, none] → KeepsBut (fun a => eventWord a ∨ canPage n a) s t (R.TRXj_STAT_TXD_BLOCK n :: ts))) ∧
        (s.rd (R.CANn_STAT_TEC n) < 96 → s.rd (R.CANn_STAT_REC n) + k < 96 → Answers (.canBusError n (.rx lec e)) s fun t =>
          t.rd (R.CANn_STAT_REC n) = s.rd (R.CANn_STAT_REC n) + k ∧ t.rd (R.CANn_STAT_LEC n) = lec ∧
          KeepsQuiet s t (R.CANn_STAT_REC n :: R.CANn_STAT_WARN n :: seen))) ∧
      (s.rd (R.CANn_CFG_PXHD n) = 0 → s.rd (R.CANn_STAT_TEC n) < 96 → s.rd (R.CANn_STAT_REC n) + 1 < 96 →
        Answers (.canBusError n .pxh) s fun t => t.rd (R.CANn_STAT_REC n) = s.rd (R.CANn_STAT_REC n) + 1 ∧
          t.rd (R.CANn_STAT_LEC n) = 2 ∧ KeepsQuiet s t (R.CANn_STAT_REC n :: R.CANn_STAT_WARN n :: seen)) ∧
      (s.rd (R.CANn_CFG_PXHD n) = 1 → Answers (.canBusError n .pxh) s fun t =>
        t.rd (R.CANn_FLT_PXH n) = 1 ∧ t.rd (R.CANn_STAT_ACT n) = 3 ∧ Raised s t 199 [BitVec.ofNat 8 n] ∧
        Keeps s t [R.CANn_FLT_PXH n, R.CANn_STAT_ACT n, R.CANn_CNT_PXH_COUNT n]))

/-- The states of a controller (R176, R188): 11 recessive bits end INTEGRATING; with RUN at 0, once no frame is on the bus,
the controller stops with its counters 0 and its requests kept; a held bus-off is released by BOFF_REL, and recovery ends in ERROR_ACTIVE. -/
def ControllersIntegrateStopAndRecover : Prop :=
  ∀ (s : State) (n : Fin 24) (a : Attr),
    (s.rd (R.CANn_CTRL_RUN n) = 0 → Answers (.canIntegrated n) s fun t => KeepsQuiet s t []) ∧
    (s.rd (R.CANn_CTRL_RUN n) = 1 → s.rd (R.CANn_STAT_STATE n) = 1 → Answers (.canIntegrated n) s fun t =>
      t.rd (R.CANn_STAT_STATE n) = 2 ∧ t.rd (R.CANn_STAT_ACT n) = 0 ∧
      KeepsQuiet s t [R.CANn_STAT_STATE n, R.CANn_STAT_ACT n, R.CANn_STAT_GATED n]) ∧
    (s.rd (R.CANn_CTRL_RUN n) = 1 → s.rd (R.CANn_STAT_STATE n) ≠ 1 → Answers (.canIntegrated n) s fun t =>
      t.rd (R.CANn_STAT_ACT n) = (if s.rd (R.CANn_STAT_ACT n) = 3 then 0 else s.rd (R.CANn_STAT_ACT n)) ∧
      KeepsQuiet s t [R.CANn_STAT_ACT n]) ∧
    (s.rd (R.CANn_CTRL_RUN n) = 0 → s.rd (R.CANn_STAT_STATE n) ≠ 0 → s.rd (R.CANn_STAT_ACT n) ≠ 1 → s.rd (R.CANn_STAT_ACT n) ≠ 2 → Answers (.canStopped n) s fun t =>
      t.rd (R.CANn_STAT_STATE n) = 0 ∧ t.rd (R.CANn_STAT_TEC n) = 0 ∧ t.rd (R.CANn_STAT_REC n) = 0 ∧
      (n.val < s.cans.length → (t.can n).offered = none) ∧
      Keeps s t [R.CANn_STAT_STATE n, R.CANn_STAT_TEC n, R.CANn_STAT_REC n, R.CANn_STAT_WARN n, R.CANn_STAT_GATED n,
        R.CANn_STAT_ACT n, R.TRXj_STAT_TXD_BLOCK n, R.KSU_GATEu_GATED n, R.KSU_GATEu_HELD n]) ∧
    (s.rd (R.CANn_CTRL_RUN n) = 1 ∨ s.rd (R.CANn_STAT_ACT n) = 1 ∨ s.rd (R.CANn_STAT_ACT n) = 2 → Answers (.canStopped n) s fun t => Keeps s t [R.KSU_GATEu_GATED n, R.KSU_GATEu_HELD n]) ∧
    (s.rd (R.CANn_STAT_STATE n) = 6 → Answers (.canRecoveryDone n) s fun t =>
      t.rd (R.CANn_STAT_STATE n) = 2 ∧ t.rd (R.CANn_STAT_TEC n) = 0 ∧ t.rd (R.CANn_STAT_REC n) = 0 ∧
      t.rd (R.CANn_STAT_WARN n) = 0 ∧ Raised s t 194 [BitVec.ofNat 8 n] ∧
      Keeps s t [R.CANn_STAT_STATE n, R.CANn_STAT_TEC n, R.CANn_STAT_REC n, R.CANn_STAT_WARN n]) ∧
    (s.rd (R.CANn_STAT_STATE n) ≠ 6 → Answers (.canRecoveryDone n) s fun t => KeepsQuiet s t []) ∧
    (Own a (R.CANn_CTRL n) true s → Answers (.canBoffRelWrite a n) s fun t =>
      t.rd (R.CANn_STAT_STATE n) = (if s.rd (R.CANn_STAT_STATE n) = 5 then 6 else s.rd (R.CANn_STAT_STATE n)) ∧
      KeepsQuiet s t [R.CANn_STAT_STATE n])

/-- Transceivers (R190 to R192): a write of their control, over its link, sets mode, wake enable and its mirror, keeps the
bias for a second after wake activity, and blocks a hot transmitter; in NORMAL a dominant TXD and over-temperature
block the transmitter and report it, and it is released when cool and not sending; a dominant bus is reported; the
bias of STANDBY ends. The model's choices in it: log entries 72, 73, 203. -/
def Obligations.TransceiversFollowModeAndFaults : Prop :=
  ∀ (s : State) (j : Fin 24) (a : Attr),
    (∀ v : Word, Reaches a (R.TRXj_CTRL j) true s → s.segUnused j = false → Answers (.trxModeWrite a j v) s fun t =>
      t.rd (R.TRXj_CTRL_MODE j) = bitsOf v 1 0 ∧ t.rd (R.TRXj_STAT_STATE j) = bitsOf v 1 0 ∧
      t.rd (R.TRXj_CTRL_WAKE_EN j) = bitsOf v 2 2 ∧ t.rd ⟨R.WAKE_EN, 8 + j, 8 + j⟩ = bitsOf v 2 2 ∧
      t.rd (R.TRXj_STAT_BIAS j) = (if bitsOf v 1 0 ≤ 1 ∨ (bitsOf v 1 0 = 2 ∧ s.trxRecent j = true) then 1 else 0) ∧
      (bitsOf v 1 0 = 0 → s.rd (R.TRXj_STAT_THERM j) = 1 → t.rd (R.TRXj_STAT_TXD_BLOCK j) = 1) ∧
      (bitsOf v 1 0 ≠ 0 → t.rd (R.TRXj_STAT_TXD_BLOCK j) = 0) ∧
      Keeps s t [R.TRXj_FLT_THERMAL j, R.TRXj_CTRL_MODE j, R.TRXj_CTRL_WAKE_EN j, ⟨R.WAKE_EN, 8 + j, 8 + j⟩, R.TRXj_STAT_STATE j,
        R.TRXj_STAT_BIAS j, R.TRXj_STAT_TXD_BLOCK j, R.CANn_STAT_GATED j]) ∧
    (∀ v : Word, Reaches a (R.TRXj_CTRL j) true s → s.segUnused j = true → Answers (.trxModeWrite a j v) s fun t => KeepsQuiet s t []) ∧
    (s.rd (R.TRXj_STAT_STATE j) = 0 →
      Answers (.txdDominantTimeout j) s (fun t => t.rd (R.TRXj_FLT_TXD_DOM j) = 1 ∧ t.rd (R.TRXj_STAT_TXD_BLOCK j) = 1 ∧
        Raised s t 200 [BitVec.ofNat 8 j] ∧ Keeps s t [R.TRXj_FLT_TXD_DOM j, R.TRXj_STAT_TXD_BLOCK j]) ∧
      Answers (.trxThermalShutdown j) s (fun t => t.rd (R.TRXj_FLT_THERMAL j) = 1 ∧ t.rd (R.TRXj_STAT_TXD_BLOCK j) = 1 ∧
        t.rd (R.TRXj_STAT_THERM j) = 1 ∧ Raised s t 201 [BitVec.ofNat 8 j] ∧
        Keeps s t [R.TRXj_FLT_THERMAL j, R.TRXj_STAT_TXD_BLOCK j, R.TRXj_STAT_THERM j])) ∧
    (s.rd (R.TRXj_STAT_STATE j) ≠ 0 → Answers (.txdDominantTimeout j) s (fun t => KeepsQuiet s t []) ∧
      Answers (.trxThermalShutdown j) s (fun t => KeepsQuiet s t [R.TRXj_STAT_THERM j])) ∧
    Answers (.trxThermalClear j) s (fun t => t.rd (R.TRXj_STAT_THERM j) = 0 ∧
      t.rd (R.TRXj_STAT_TXD_BLOCK j) = (if (s.can j).offered = none then 0 else s.rd (R.TRXj_STAT_TXD_BLOCK j)) ∧
      KeepsQuiet s t [R.TRXj_STAT_THERM j, R.TRXj_STAT_TXD_BLOCK j]) ∧
    Answers (.busDominantTimeout j) s (fun t => t.rd (R.TRXj_FLT_BUS_DOM j) = 1 ∧ Raised s t 204 [BitVec.ofNat 8 j] ∧
      Keeps s t [R.TRXj_FLT_BUS_DOM j]) ∧
    Answers (.wakeBiasTimeout j) s (fun t =>
      t.rd (R.TRXj_STAT_BIAS j) = (if s.rd (R.TRXj_STAT_STATE j) = 2 then 0 else s.rd (R.TRXj_STAT_BIAS j)) ∧
      KeepsQuiet s t [R.TRXj_STAT_BIAS j])
/-! The Tally ring, sleep and wake (07_tally_ring.md). -/

/-- A message of the segment's own node put into the Forester's source queue, with its NEXT and its flags. -/
def SendsRing (s t : State) (g : Nat) (next flags : Nat) : Prop :=
  ∃ m, (t.can (s.ring g).seg).sends = (s.can (s.ring g).seg).sends ++ [{ src := some 64, msg := m }] ∧
    w0Id m.w0 = (0x500 + (s.ring g).addr) * 2 ^ 18 ∧ le m.data 0 1 = next ∧ le m.data 1 1 = flags

/-- Ring frames (R202 to R207), the oldest of the reserved route first: any other changes nothing, and of a ring that is
off, or another frame, nothing but the route; a malformed one is counted and
reported; one under the own address makes the module leave; a JOIN adds its node; an ABORT ends an agreement; a round that
names the module is answered. -/
def RingMessagesMoveTheirSegment : Prop :=
  ∀ (s : State) (g : Fin 4), s.tly.rings.length = 4 → s.cans.length = 24 → s.tly.inbox.length = 4 →
    (∀ f, (s.tly.inbox.getD g []).head? ≠ some f →
      Answers (.ringMessageReceived ⟨g.val, by omega⟩ f) s fun t => t.tly = s.tly ∧ KeepsQuiet s t []) ∧
    ∀ f rest, s.tly.inbox.getD g [] = f :: rest →
    let i : Fin 8 := ⟨g.val, by omega⟩
    let r := s.ring g
    let m := ringMsgOf f
    let go := fun p => Answers (.ringMessageReceived i f) s fun t => t.tly.inbox.getD g [] = rest ∧ p t
    (r.on = false ∨ isRingFrame f = false → go fun t => t.tly.rings = s.tly.rings ∧ KeepsQuiet s t []) ∧
    (r.on = true → isRingFrame f = true → r.st ≠ rsForming →
      (m.ok = false → go fun t => (t.ring g).protoErrs = r.protoErrs + 1 ∧
        Raised s t 217 [BitVec.ofNat 8 r.seg, BitVec.ofNat 8 m.node, 0] ∧ Keeps s t []) ∧
      (m.ok = true → m.node = r.addr → go fun t => (t.ring g).st = rsForming ∧ (t.ring g).stage = fgLeft ∧
        Raised s t 217 [BitVec.ofNat 8 r.seg, BitVec.ofNat 8 m.node, 1] ∧ Keeps s t []) ∧
      (m.ok = true → m.node ≠ r.addr → m.join = true → r.active = false → go fun t =>
        (t.ring g).present = withBit r.present m.node ∧ (r.st = rsAck → (t.ring g).st = rsReady) ∧
        Raised s t 210 [BitVec.ofNat 8 r.seg, BitVec.ofNat 8 m.node] ∧ Keeps s t []) ∧
      (m.ok = true → m.node ≠ r.addr → m.join = false → m.abort = true → r.st = rsAck ∨ r.st = rsWait → go fun t =>
        (t.ring g).st = rsReady ∧
        Raised s t 213 ([BitVec.ofNat 8 r.seg, 1, BitVec.ofNat 8 m.node] ++ leBytes 2 m.veto) ∧ Keeps s t []) ∧
      (m.ok = true → m.node ≠ r.addr → m.join = false → m.abort = false → m.start = false → r.st = rsReady → r.phase = 0 →
        m.next = r.addr → m.next ≠ masterOf (withBit r.present m.node) → r.lastNode ≠ some m.node → r.seg < 24 → r.addr < 64 →
        go fun t => SendsRing s t g (nextOf (withBit r.present m.node) r.addr) (if s.veto = 0 then 1 else 0) ∧
          (t.ring g).ready = (if m.ready then withBit r.ready m.node else noBit r.ready m.node) ∧ KeepsQuiet s t []))

/-- The timers of a ring (R204 to R206), each where its condition holds, and nothing where the segment is off. -/
def RingTimersFormAndDriveRounds : Prop :=
  ∀ (s : State) (g : Fin 4), s.tly.rings.length = 4 → s.cans.length = 24 → (s.ring g).seg < 24 → (s.ring g).addr < 64 →
    let i : Fin 8 := ⟨g.val, by omega⟩
    let r := s.ring g
    let all := withBit (r.present ||| r.joined) r.addr
    (∀ c, c ∈ [Instr.ringRoundStart i, .ringNodeTimeout i, .ringStartTimeout i, .ringListenEnd i, .ringJoinTimer i,
        .ringFormationTimer i, .ringRejoinTimer i] → r.on = false → ∃ t, exec c s = .next t ∧ t.tly = s.tly ∧ KeepsQuiet s t []) ∧
    (r.on = true →
      (r.active = false → r.st = rsReady → masterOf all = r.addr → r.nextPhase = 0 → Answers (.ringRoundStart i) s fun t =>
        (t.ring g).active = true ∧ (t.ring g).present = all ∧
        SendsRing s t g (nextOf all r.addr) (4 + if s.veto = 0 then 1 else 0) ∧ KeepsQuiet s t []) ∧
      (r.active = true → r.lastNode = some r.addr → Answers (.ringNodeTimeout i) s fun t =>
        (t.ring g).present = noBit r.present r.lastNext ∧ Raised s t 209 [BitVec.ofNat 8 r.seg, BitVec.ofNat 8 r.lastNext] ∧
        (∃ y : Fin 4, SendsRing s t g (nextOf (noBit r.present r.lastNext) r.addr) (4 * b2n (masterOf r.present = r.addr) + y)) ∧ Keeps s t []) ∧
      (r.st = rsReady → Answers (.ringStartTimeout i) s fun t =>
        (t.ring g).st = rsForming ∧ (t.ring g).stage = fgListen ∧ (t.ring g).present = 0 ∧ KeepsQuiet s t []) ∧
      (r.st = rsForming → r.stage = fgListen → Answers (.ringListenEnd i) s fun t =>
        (t.ring g).stage = (if r.heard then fgHeard else fgWait) ∧ KeepsQuiet s t []) ∧
      (r.st = rsForming → r.stage = fgWait → Answers (.ringJoinTimer i) s fun t =>
        (t.ring g).present = 2 ^ r.addr ∧ (t.ring g).stage = fgFirst ∧ SendsRing s t g 0xFF 4 ∧ KeepsQuiet s t []) ∧
      (r.st = rsForming → r.stage = fgJoin → Answers (.ringJoinTimer i) s fun t =>
        (t.ring g).present = withBit r.present r.addr ∧ (t.ring g).stage = fgFirst ∧ SendsRing s t g 0xFF 8 ∧ KeepsQuiet s t []) ∧
      (r.st = rsForming → r.stage = fgFirst → r.active = false → Answers (.ringFormationTimer i) s fun t =>
        (t.ring g).st = rsReady ∧
        Raised s t 208 [BitVec.ofNat 8 r.seg, BitVec.ofNat 8 (masterOf r.present), BitVec.ofNat 8 (members r.present).length] ∧
        (masterOf all = r.addr ↔ (t.ring g).active = true) ∧ Keeps s t []) ∧
      (r.st = rsForming → r.stage = fgLeft → Answers (.ringRejoinTimer i) s fun t =>
        (t.ring g).stage = fgListen ∧ (t.ring g).heard = false ∧ KeepsQuiet s t []))

/-- Vetoes and the sleep-wait (R199, R207 to R210): the local sleep-wait begins after IDLE_TIME without ring, veto or commit,
moving WAKE_PEND into the view; a WAKE-IN level that HOLD keeps ends it; the end of the wait without a veto readies the
transceivers; stay-awake requests end at their expiry, MINAWAKE for good. -/
def SleepWaitsBeginEndAndAreVetoed : Prop :=
  ∀ (s : State) (g : Fin 8), (∀ c ∈ s.chans, c.delayOn = none) →
    (∀ q, s.tly.quietFrom = some q → s.tly.rings.any (·.on) = false → s.veto = 0 → s.aloneWaits = false → s.tly.commitAt = none →
      Answers (.idleTimeExpiry g) s fun t =>
        t.tly.localWait = some (max s.now (q + s.idleTime * 1000000000)) ∧ t.rd R.WAKE_PEND_PEND = 0 ∧
        t.tly.view = s.tly.view ||| s.rd R.WAKE_PEND_PEND ∧ (∃ e ∈ t.events, e.num = 212 ∧ e.payload = [0xFF, 0]) ∧
        Keeps s t [R.WAKE_PEND_PEND]) ∧
    (s.tly.rings.any (·.on) = true ∨ s.veto ≠ 0 ∨ s.aloneWaits = true ∨ s.tly.commitAt ≠ none ∨ s.tly.quietFrom = none →
      Answers (.idleTimeExpiry g) s fun t => t.tly = s.tly ∧ KeepsQuiet s t []) ∧
    (∀ (k : Fin 4) (high : Bool), s.tly.wakeIn.length = 4 →
      let c := (s.raw R.WAKE_IN_CFG).toNat
      let active := high != nbit c (4 * k + 3)
      (s.tly.wakeIn.getD k false = high → Answers (.wakeInLevelChange k high) s fun t => t.tly = s.tly ∧ KeepsQuiet s t []) ∧
      (s.tly.wakeIn.getD k false ≠ high → s.tly.rings.any (·.on) = false → s.tly.ready = none → s.tly.commitAt = none →
        s.mode ≠ mdSleep → Answers (.wakeInLevelChange k high) s fun t =>
          t.tly.wakeIn.getD k false = high ∧
          (nbit c (4 * k + if active then 0 else 1) = true → s.wakeEnabled (4 + k) = true → t.rd ⟨R.WAKE_PEND, 4 + k, 4 + k⟩ = 1) ∧
          (active = true → nbit c (4 * k + 2) = true → 6 < s.svr.rel → s.tly.localWait ≠ none →
            t.tly.localWait = none ∧ ∃ p, Raised s t 213 p) ∧
          Keeps s t [R.WAKE_PEND_PEND, wholeReg R.WAKE_SRC, R.WAKE_TIME_S_SEC, R.WAKE_TIME_F_FRAC])) ∧
    (s.tly.ready = none → 4 ≤ g.val → s.veto = 0 → s.tly.localWait ≠ none → s.tly.rings.any (·.on) = false →
      (∀ j, s.segUnused j = false) → Answers (.sleepWaitEnd g) s fun t =>
        t.tly.ready = some ((List.range 24).map fun j => s.raw (R.TRXj_CTRL j)) ∧ t.tly.localWait = none ∧
        (∀ j : Fin 24, t.rd (R.TRXj_CTRL_MODE j) = 3 ∧ t.rd (R.TRXj_STAT_STATE j) = 3) ∧
        (∃ e ∈ t.events, e.num = 214 ∧ e.payload = [0xFF]) ∧
        Keeps s t ((List.range 24).flatMap fun j => [R.TRXj_CTRL_MODE j, R.TRXj_CTRL_WAKE_EN j, ⟨R.WAKE_EN, 8 + j, 8 + j⟩,
          R.TRXj_STAT_STATE j, R.TRXj_STAT_BIAS j, R.TRXj_STAT_TXD_BLOCK j, R.CANn_STAT_GATED j])) ∧
    (s.tly.ready ≠ none ∨ (4 ≤ g.val ∧ s.veto ≠ 0) → Answers (.sleepWaitEnd g) s fun t => t.tly = s.tly ∧ KeepsQuiet s t []) ∧
    (∀ (p : Fin 16) (reason : Nat),
      (s.tly.stays.find? (fun x => x.pid = p.val ∧ x.reason = reason) = none →
        Answers (.stayExpiry p reason) s fun t => t.tly = s.tly ∧ KeepsQuiet s t []) ∧
      (∀ x, s.tly.stays.find? (fun x => x.pid = p.val ∧ x.reason = reason) = some x →
        Answers (.stayExpiry p reason) s fun t =>
          (∀ y, y ∈ t.tly.stays ↔ y ∈ s.tly.stays ∧ ¬(y.pid = p.val ∧ y.reason = reason)) ∧
          (∃ e ∈ t.events, e.num = 215 ∧ e.payload = 0xFF :: leBytes 1 p ++ leBytes 2 reason) ∧ Keeps s t [])) ∧
    Answers .minAwakeExpiry s (fun t => t.tly.awake = true ∧ KeepsQuiet s t [])

/-- Wake sources (R191, R198 to R200): a detection sets the pending bits of the enabled sources, a WAKE-IN on the edge that
EDGE selects, and while armed latches the
lowest code with its time; sources that are not enabled, and a transceiver awake or without WAKE_EN, change nothing. -/
def WakeSourcesPendAndLatch : Prop :=
  ∀ (s : State), s.tly.commitAt = none → s.tly.ready = none → s.tly.localWait = none → s.tly.rings.any (·.on) = false →
    s.mode ≠ mdSleep →
    (∀ srcs : Nat,
      let hit := (s.sensed srcs).2
      let c := (s.raw R.WAKE_IN_CFG).toNat
      (∀ k : Fin 32, k.val ∈ hit ↔ nbit srcs k = true ∧ s.wakeEnabled k = true ∧ (4 ≤ k.val → k.val < 8 →
        nbit c (4 * (k - 4) + if (s.tly.wakeIn.getD (k - 4) false == nbit c (4 * (k - 4) + 3)) then 0 else 1) = true)) ∧
      (hit = [] → Answers (.wakeSourceDetect srcs) s fun t => KeepsQuiet s t []) ∧
      (∀ k rest, hit = k :: rest → Answers (.wakeSourceDetect srcs) s fun t =>
        (∀ j : Fin 32, t.rd ⟨R.WAKE_PEND, j, j⟩ = if j.val ∈ hit then 1 else s.rd ⟨R.WAKE_PEND, j, j⟩) ∧
        (s.rd R.WAKE_SRC_ARMED = 1 → t.rd R.WAKE_SRC_SRC = k ∧ t.rd R.WAKE_SRC_VALID = 1 ∧ t.rd R.WAKE_SRC_ARMED = 0 ∧
          t.rd R.WAKE_TIME_S_SEC = s.rtc % 2 ^ 32) ∧
        (s.rd R.WAKE_SRC_ARMED = 0 → t.raw R.WAKE_SRC = s.raw R.WAKE_SRC) ∧
        (6 < s.svr.rel → Raised s t 218 [0xFF, BitVec.ofNat 8 k]) ∧
        Keeps s t ([R.WAKE_PEND_PEND, wholeReg R.WAKE_SRC, R.WAKE_TIME_S_SEC, R.WAKE_TIME_F_FRAC] ++
          (hit.filter (8 ≤ ·)).flatMap fun j => [R.TRXj_STAT_WAKE (j - 8), R.TRXj_STAT_BIAS (j - 8)]))) ∧
    (∀ j : Fin 24,
      (s.trxWakes j = false → Answers (.trxWakeDetect j) s fun t => KeepsQuiet s t []) ∧
      (s.trxWakes j = true → s.mode ≠ mdDormant → Answers (.trxWakeDetect j) s fun t =>
        t.rd (R.TRXj_STAT_WAKE j) = 1 ∧ t.rd ⟨R.WAKE_PEND, 8 + j, 8 + j⟩ = 1 ∧
        (s.rd (R.TRXj_STAT_STATE j) = 2 → t.rd (R.TRXj_STAT_BIAS j) = 1) ∧
        (6 < s.svr.rel → Raised s t 202 [BitVec.ofNat 8 j]) ∧
        Keeps s t [R.TRXj_STAT_WAKE j, R.TRXj_STAT_BIAS j, R.WAKE_PEND_PEND, wholeReg R.WAKE_SRC, R.WAKE_TIME_S_SEC,
          R.WAKE_TIME_F_FRAC])) ∧
    (s.rd R.WAKE_RTC_ALM_SEC = 0 → Answers .rtcAlarm s fun t => KeepsQuiet s t []) ∧
    (s.rd R.WAKE_RTC_ALM_SEC ≠ 0 → (∀ c ∈ s.chans, c.delayOn = none) → s.wakeEnabled 2 = true → Answers .rtcAlarm s fun t =>
      t.rd ⟨R.WAKE_PEND, 2, 2⟩ = 1 ∧ t.now = max s.now (s.rd R.WAKE_RTC_ALM_SEC * 1000000000) ∧
      Keeps s t [R.WAKE_PEND_PEND, wholeReg R.WAKE_SRC, R.WAKE_TIME_S_SEC, R.WAKE_TIME_F_FRAC, R.WAKE_RTC_ALM_SEC])

/-- The commit (R201, R210, R211), a write of the Forester: refused while a transceiver is awake or a wake is pending, with the flag that says so; else
the wake record is armed, the crown die is reset towards Sleep, and 5 ms later the regulator is off. -/
def SleepCommitsOrIsRefused : Prop :=
  ∀ (s : State) (a : Attr),
    (Reaches a R.WAKE_CMT true s → a.isForester = false → Answers (.sleepCommit a) s fun t => KeepsQuiet s t []) ∧
    (Reaches a R.WAKE_CMT true s → a.isForester = true → s.loading = false →
      (s.tly.ready = none → s.tly.localWait = none → s.tly.rings.any (·.on) = false →
        (∃ j : Fin 24, s.rd (R.TRXj_STAT_STATE j) ≠ 3) ∨ s.rd R.WAKE_PEND_PEND ≠ 0 → Answers (.sleepCommit a) s fun t =>
          ((∃ j : Fin 24, s.rd (R.TRXj_STAT_STATE j) ≠ 3) → t.rd R.WAKE_CMT_STAT_REF_TRX = 1) ∧
          (s.rd R.WAKE_PEND_PEND ≠ 0 → t.rd R.WAKE_CMT_STAT_REF_PEND = 1) ∧ t.tly.commitAt = s.tly.commitAt ∧
          KeepsQuiet s t [R.WAKE_CMT_STAT_REF_TRX, R.WAKE_CMT_STAT_REF_PEND]) ∧
      ((∀ j : Fin 24, s.rd (R.TRXj_STAT_STATE j) = 3) → s.rd R.WAKE_PEND_PEND = 0 → Answers (.sleepCommit a) s fun t =>
        t.rd R.WAKE_SRC_ARMED = 1 ∧ t.rd R.WAKE_SRC_VALID = 0 ∧ t.tly.commitAt = some s.now ∧
        (rsSleep, crown) ∈ t.svr.srcs ∧ t.mode = mdSleep ∧ t.pending = s.pending ∧ KeepsBlks s t [.trx, .isb, .sil, .ss, .ext])) ∧
    (s.tly.commitAt = none → Answers .regulatorOff s fun t => KeepsQuiet s t []) ∧
    (∀ c, s.tly.commitAt = some c → Answers .regulatorOff s fun t =>
      t.svr.regOn = false ∧ t.svr.offAt = some (max s.now (c + 5000000)) ∧ t.mode = mdSleep ∧ t.tly.commitAt = none ∧
      t.raw R.WAKE_SRC = s.raw R.WAKE_SRC ∧ t.rd R.SUP_LAST_COLD = 1 ∧ t.pending = s.pending ∧
      (∀ f : Fld, f.ok → blkOf f.addr = some .wake → f.addr ≠ R.WAKE_EN → f.addr ≠ R.WAKE_CNT → t.rd f = s.rd f))
/-! The Ethernet switch (08_ethernet_time.md). -/

/-- Frames received (R219, R221, R229, R238): a port that is disabled or without link takes none; one in error, too short or
too long, one that the VLAN rules turn away and one of a blocked stream are counted and dropped; a tagged unicast frame to a
learned address is held at its port alone, as its VLAN sends it, and its source is learned. -/
def SwitchForwardsByItsTables : Prop :=
  ∀ (s : State) (p : Fin 21) (f : EthFrame),
    let rx := R.ESW_Pp_RX_COUNT p
    let up1 := fun (t : State) (c : Fld) => t.rd c = min (2 ^ (c.hi + 1 - c.lo) - 1) (s.rd c + 1)
    (s.rd (R.ESW_Pp_CFG_EN p) = 0 ∨ s.rd (R.ESW_Pp_STAT_LINK p) = 0 → Answers (.ethFrameReceived p f) s fun t =>
      t.eth = s.eth ∧ KeepsQuiet s t []) ∧
    (s.rd (R.ESW_Pp_CFG_EN p) = 1 → s.rd (R.ESW_Pp_STAT_LINK p) = 1 →
      (f.bad = true ∨ f.len < 64 ∨ 2000 < f.len → Answers (.ethFrameReceived p f) s fun t => up1 t rx ∧ up1 t (R.ESW_Pp_RXERR_COUNT p) ∧
        t.eth = s.eth ∧ KeepsQuiet s t [rx, R.ESW_Pp_RXERR_COUNT p]) ∧
      (f.bad = false → 64 ≤ f.len → f.len ≤ 2000 → f.etype.val ≠ ptpType →
        (f.tagged = true ∧ s.vlan f.vid = none ∨ f.tagged = false ∧ s.rd (R.ESW_Pp_CFG_ACC_TAGGED p) = 1 →
          Answers (.ethFrameReceived p f) s fun t => up1 t rx ∧ up1 t (R.ESW_Pp_DROP_COUNT p) ∧ t.eth = s.eth ∧
            KeepsQuiet s t [rx, R.ESW_Pp_DROP_COUNT p]) ∧
        (∀ v, f.tagged = true → s.vlan f.vid = some v →
          (nbit v.members p = false → Answers (.ethFrameReceived p f) s fun t => up1 t rx ∧ up1 t (R.ESW_Pp_DROP_COUNT p) ∧ t.eth = s.eth) ∧
          (∀ i x, s.qciFind f.vid f = some (i, x) → nbit v.members p = true → x.blocked = true → Answers (.ethFrameReceived p f) s fun t =>
            up1 t rx ∧ up1 t (R.ESW_Pp_QCIDROP_COUNT p) ∧ t.eth = s.eth ∧ KeepsQuiet s t [rx, R.ESW_Pp_QCIDROP_COUNT p]) ∧
          (∀ (e : Fin 17) (d : FdbEntry), s.eth.filters = [] → nbit v.members p = true → f.etype.val ≠ rtagType → isMulticast f.dmac = false →
            isMulticast f.smac = false → f.smac ≠ f.dmac → s.qpOfMac f.dmac = none → s.eth.ports.length = 21 →
            s.eth.fdb.length < 16384 → (∀ x ∈ s.eth.fdb, x.mac = f.smac → x.vid = f.vid.val → x.fixed = false) →
            s.eth.fdb.find? (fun x => x.mac = f.dmac ∧ x.vid = f.vid.val) = some d → v.vid = f.vid.val → d.ports = 2 ^ e.val →
            nbit v.members e = true → e.val ≠ p.val → s.rd (R.ESW_Pp_CFG_EN e) = 1 → (s.port e).held = [] →
            Answers (.ethFrameReceived p f) s fun t =>
              (t.port e).held = [{ frame := retag v e f.pcp { f with ts := s.stamp p f true 0 f.ts }, tc := f.pcp, ingress := p }] ∧
              (∀ k : Fin 21, k.val ≠ e.val → (t.port k).held = (s.port k).held) ∧
              (∃ x ∈ t.eth.fdb, x.mac = f.smac ∧ x.vid = f.vid.val ∧ x.ports = 2 ^ p.val) ∧ up1 t rx ∧ KeepsQuiet s t [rx]))))

/-- Transmission and timestamps (R220, R238, R239): the frame on the wire has left and is counted, and the port goes on with
what it held; a timestamp the frame asked for, within its bound of the local clock, enters the queue of four, or overflows
it; a pop takes the oldest. -/
def SwitchSendsAndStamps : Prop :=
  ∀ (s : State) (p : Fin 21) (ts : Nat) (a : Attr), s.eth.ports.length = 21 →
    (s.sending p = none → Answers (.ethTxDone p ts) s fun t => t.eth = s.eth ∧ KeepsQuiet s t []) ∧
    (∀ q, s.sending p = some q → q.cpl = none →
      let at_ := s.stamp p q.frame false tsqLate ts
      let left := fun t : State => (t.port p).held.length = (s.port p).queue.length ∧ (∀ x ∈ (t.port p).held, x ∈ (s.port p).queue) ∧
        t.rd (R.ESW_Pp_TX_COUNT p) = min 0xFFFFFFFF (s.rd (R.ESW_Pp_TX_COUNT p) + 1)
      (s.rd (R.ESW_Pp_ASYM_ASYM p) = 0 → at_ ≤ s.lc + tsBound p) ∧
      (q.tsId = none → Answers (.ethTxDone p ts) s fun t => left t ∧ KeepsQuiet s t [R.ESW_Pp_TX_COUNT p]) ∧
      (∀ id, q.tsId = some id → p.val ≤ 16 →
        ((s.port p).tsq.length < 4 → Answers (.ethTxDone p ts) s fun t => left t ∧
          (t.port p).tsq = (s.port p).tsq ++ [(id, at_ / 1000000000 % 2 ^ 32, at_ % 1000000000)] ∧
          t.rd (R.ESW_Pp_TSQ_STAT_COUNT p) = (s.port p).tsq.length + 1 ∧ KeepsQuiet s t [R.ESW_Pp_TX_COUNT p, R.ESW_Pp_TSQ_STAT_COUNT p,
            R.ESW_Pp_TSQ_ID_SEQID p, R.ESW_Pp_TSQ_S_SEC p, R.ESW_Pp_TSQ_NS_NS p]) ∧
        (4 ≤ (s.port p).tsq.length → Answers (.ethTxDone p ts) s fun t => left t ∧ (t.port p).tsq = (s.port p).tsq ∧
          t.rd (R.ESW_Pp_TSQ_STAT_OVF p) = 1 ∧ Raised s t 162 (BitVec.ofNat 8 p :: leBytes 2 id) ∧
          Keeps s t [R.ESW_Pp_TX_COUNT p, R.ESW_Pp_TSQ_STAT_OVF p]))) ∧
    (Own a (R.ESW_Pp_TSQ_POP p) true s → (s.port p).tsq.length ≤ 4 → Answers (.tsqPop a p) s fun t =>
      (t.port p).tsq = (s.port p).tsq.tail ∧ t.rd (R.ESW_Pp_TSQ_STAT_COUNT p) = (s.port p).tsq.length - 1 ∧
      KeepsQuiet s t [R.ESW_Pp_TSQ_STAT_COUNT p, R.ESW_Pp_TSQ_ID_SEQID p, R.ESW_Pp_TSQ_S_SEC p, R.ESW_Pp_TSQ_NS_NS p])

/-- Ports (R217, R219, R226, R233, R237, R247): the next gate entry of a list in force; the link with its state, quality and
event, and the domain whose slave port it was; a low quality at 8 boundaries in a row, told once; ageing of learned entries
alone; the gPTP messages on the ports that carry gPTP, of the domains that take part. -/
def PortsGatesAndTablesAge : Prop :=
  ∀ (s : State) (p : Fin 17) (q : Fin 21) (sqi : Fin 8),
    (let e := s.rd (R.ESW_Pp_GCL_STAT_ENTRY q)
     Answers (.gateEntryChange q) s fun t =>
      t.rd (R.ESW_Pp_GCL_STAT_ENTRY q) =
        (if (s.port q).oper.en = true ∧ e + 1 < (s.port q).oper.entries.length then (e + 1) % 64 else e) ∧
      (q.val < 17 ∨ ((s.port q).queue = [] ∧ s.eth.hp3Tx = []) → KeepsQuiet s t [R.ESW_Pp_GCL_STAT_ENTRY q])) ∧
    (∀ up : Bool,
      (s.rd (R.ESW_Pp_CFG_EN p) = 0 → Answers (.portLinkChange p up sqi) s fun t => KeepsQuiet s t []) ∧
      (s.rd (R.ESW_Pp_CFG_EN p) = 1 → Answers (.portLinkChange p up sqi) s fun t =>
        t.rd (R.ESW_Pp_STAT_LINK p) = (if up then 1 else 0) ∧ t.rd (R.ESW_Pp_STAT_PHYST p) = (if up then 2 else 1) ∧
        (p.val ≠ 14 → p.val ≠ 15 → t.rd (R.ESW_Pp_STAT_SQI p) = if up then sqi.val else 0) ∧
        (up = true → s.rd (R.ESW_Pp_STAT_LINK p) = 0 → ∃ x, Raised s t 160 x) ∧
        (up = false → s.rd (R.ESW_Pp_STAT_LINK p) = 1 → Raised s t 161 [BitVec.ofNat 8 p] ∧
          ∀ x : Fin 2, s.rd (R.TMU_DOMx_STAT_ROLE x) = 1 → (s.dom x).port = p → t.rd (R.TMU_DOMx_STAT_VALID x) = 0) ∧
        KeepsBut (fun a => eventWord a ∨ timePage a) s t
          ([R.ESW_Pp_STAT_LINK p, R.ESW_Pp_STAT_PHYST p, R.ESW_Pp_STAT_SQI p] ++ followFields))) ∧
    (s.rd (R.ESW_Pp_STAT_LINK p) = 1 → (p.val < 14 ∨ p.val = 16) → sqi.val < 3 → 8 ≤ (s.port p).sqiRun → (s.port p).sqiTold = false →
      Answers (.sqiLowCount p sqi) s (fun t => t.rd (R.ESW_Pp_STAT_SQI p) = sqi ∧
        Raised s t 166 [BitVec.ofNat 8 p, BitVec.ofNat 8 sqi] ∧ (s.eth.ports.length = 21 → (t.port p).sqiTold = true) ∧
        Keeps s t [R.ESW_Pp_STAT_SQI p])) ∧
    (3 ≤ sqi.val ∨ (s.port p).sqiRun < 8 ∨ (s.port p).sqiTold = true →
      Answers (.sqiLowCount p sqi) s (fun t => KeepsQuiet s t [R.ESW_Pp_STAT_SQI p])) ∧
    (∀ mac vid, Answers (.fdbAgeing mac vid) s fun t =>
      (∀ x, x ∈ t.eth.fdb ↔ x ∈ s.eth.fdb ∧ (x.fixed = true ∨ ¬(x.mac = mac ∧ x.vid = vid))) ∧ KeepsQuiet s t []) ∧
    (let parts := fun (k : PtpKind) (x : Fin 2) => if k = .sync then s.rd (R.TMU_DOMx_STAT_ROLE x) = 2 else s.rd (R.TMU_DOMx_STAT_ROLE x) ≠ 0
     let sent := fun (t : State) (r : Fin 17) => ∃ y, (t.port r).held = [y] ∧ y.frame.etype.val = ptpType ∧ y.tsId = some s.eth.ptpSeq
     let idle := s.eth.ports.length = 21 ∧ ∀ r : Fin 17, (s.port r).held = []
     (∀ k : PtpKind, k ≠ .pdelay → (∀ x : Fin 2, ¬ parts k x) → Answers (.ptpIntervalExpiry k) s fun t => t.eth = s.eth ∧ KeepsQuiet s t []) ∧
     (∀ (k : PtpKind) (x : Fin 2), k ≠ .pdelay → idle → parts k x → ¬ parts k (1 - x) → Answers (.ptpIntervalExpiry k) s fun t =>
      t.eth.ptpSeq = (s.eth.ptpSeq + 1) % 65536 ∧ (∀ r : Fin 17, if r.val ∈ s.masterPorts x then sent t r else (t.port r).held = []) ∧
      KeepsQuiet s t []) ∧
     (idle → Answers (.ptpIntervalExpiry .pdelay) s fun t =>
      t.eth.ptpSeq = (s.eth.ptpSeq + 1) % 65536 ∧
      (∀ r : Fin 17,
        (s.rd (R.ESW_Pp_CFG_EN r) = 1 → s.rd (R.ESW_Pp_CFG_PTP_EN r) = 1 → s.rd (R.ESW_Pp_STAT_LINK r) = 1 → r.val ≠ 14 → r.val ≠ 15 → sent t r) ∧
        (s.rd (R.ESW_Pp_CFG_PTP_EN r) = 0 → (t.port r).held = [])) ∧ KeepsQuiet s t []))

/-- Host ports (R224, R225): a queue pair that is disabled, or whose ring is empty, takes nothing; a malformed descriptor is
consumed; a directed frame is held at its port as its bytes spell it; a receive buffer is posted. -/
def HostPortsTakeDescriptors : Prop :=
  ∀ (s : State) (k : Fin 32),
    let tq := s.rd (R.ESW_QPk_CFG_TXQ k)
    let bq := s.rd (R.ESW_QPk_CFG_BUFQ k)
    let hp := 17 + k.val / 8
    (s.rd (R.ESW_QPk_CFG_EN k) = 0 ∨ s.rd (R.ESW_Pp_CFG_EN hp) = 0 ∨ s.qFront tq = (s, none) →
      Answers (.hostTxDescriptor k) s fun t => t.eth = s.eth ∧ KeepsQuiet s t []) ∧
    (s.rd (R.ESW_QPk_CFG_EN k) = 0 ∨ s.qFront bq = (s, none) → Answers (.hostRxBufferPost k) s fun t => t.eth = s.eth ∧ KeepsQuiet s t []) ∧
    (s.rd (R.ESW_QPk_CFG_EN k) = 1 →
      (∀ d, s.qFront tq = (s, some d) → s.rd (R.ESW_Pp_CFG_EN hp) = 1 → le d 0 2 ≠ 0x20 ∨ le d 14 2 < 60 ∨ 1996 < le d 14 2 →
        s.rd (R.QMG_QnCFG_EN (s.rd (R.QMG_QnCFG_CQ tq))) = 0 → Answers (.hostTxDescriptor k) s fun t =>
          t.rd (R.QMG_QnCONS_IDX tq) = (s.rd (R.QMG_QnCONS_IDX tq) + 1) % 65536 ∧ t.eth = s.eth ∧
          KeepsQuiet s t [R.QMG_QnCONS_IDX tq]) ∧
      (∀ d (e : Fin 17), s.qFront tq = (s, some d) → s.rd (R.ESW_Pp_CFG_EN hp) = 1 → le d 0 2 = 0x20 → 60 ≤ le d 14 2 → le d 14 2 ≤ 1996 →
        nbits (le d 16 1) 4 0 = e → le d 17 1 < 8 → s.memAdmits (s.qpAttr k) (le d 8 5) (le d 14 2) false = true →
        s.poisonIn (le d 8 5) (le d 14 2) = [] → s.eth.ports.length = 21 → (s.port e).held = [] → Answers (.hostTxDescriptor k) s fun t =>
          (∃ x, (t.port e).held = [x] ∧ x.frame = ethParse (s.memRead (le d 8 5) (le d 14 2)) ∧ x.ingress = hp ∧
            x.tsId = none ∧ x.cpl = none) ∧
          t.rd (R.QMG_QnCONS_IDX tq) = (s.rd (R.QMG_QnCONS_IDX tq) + 1) % 65536 ∧
          KeepsQuiet s t [R.QMG_QnCONS_IDX tq, R.ESW_Pp_RX_COUNT hp]) ∧
      (∀ d, s.qFront bq = (s, some d) → le d 0 2 = 0x22 → s.eth.posted.length = 32 → (s.port hp).queue = [] →
        Answers (.hostRxBufferPost k) s fun t =>
          t.eth.posted.getD k [] = s.eth.posted.getD k [] ++ [le d 8 5] ∧
          t.rd (R.QMG_QnCONS_IDX bq) = (s.rd (R.QMG_QnCONS_IDX bq) + 1) % 65536 ∧ KeepsQuiet s t [R.QMG_QnCONS_IDX bq]))
/-! Landing and Gwebry (09_landing_gwebry.md). -/

/-- Landing's timers (R30, R255 to R258, R261): carried executions are counted and reported; a route whose source is
silent becomes STALE with its substitute; a due emitter on CAN puts its frame into the feed of its controller; with
Landing stopped nothing changes. -/
def LandingCarriesStalesAndEmits : Prop :=
  ∀ (s : State) (r : Fin 16384),
    let x := s.route r
    (s.lgw.wait = [] → Answers .landingCarry s fun t => KeepsQuiet s t []) ∧
    (s.lgw.wait ≠ [] → Answers .landingCarry s fun t =>
      t.rd R.FRM_CNT_LGW_COUNT =
        min (2 ^ (R.FRM_CNT_LGW_COUNT.hi + 1 - R.FRM_CNT_LGW_COUNT.lo) - 1) (s.rd R.FRM_CNT_LGW_COUNT + s.lgw.wait.length) ∧
      Raised s t 485 [] ∧ Keeps s t [R.FRM_CNT_LGW_COUNT]) ∧
    (s.rd R.LGW_CTRL_RUN = 0 → Answers (.routeStaleTimeout r) s (fun t => KeepsQuiet s t []) ∧
      Answers (.emitBuild r) s (fun t => KeepsQuiet s t [])) ∧
    (s.rd R.LGW_CTRL_RUN = 1 → x.en = true →
      (x.kind = kSignal → x.timeout ≠ 0 → s.rd (slotStale r) = 0 →
        ((s.rt r).upd + x.timeout ≤ s.frame64 → Answers (.routeStaleTimeout r) s fun t =>
          t.rd (slotStale r) = 1 ∧ t.raw (R.LGW_SLOT r 0) = BitVec.ofNat 32 x.subst ∧
          Raised s t 224 (leBytes 2 r ++ leBytes 4 x.subst) ∧ Keeps s t [slotStale r, wholeReg (R.LGW_SLOT r 0)]) ∧
        (s.frame64 < (s.rt r).upd + x.timeout → Answers (.routeStaleTimeout r) s fun t => KeepsQuiet s t [])) ∧
      (x.kind = kEmit → x.dest = 0 → s.emitDue r x = true → (s.rt r).built ≠ some s.frame64 → s.lgw.execs < 4096 →
        s.segHeld x.unit = false → s.rd R.PAIR_CFG_TWIN = 0 → s.feeders r = [] → (x.fdf = true ∨ x.len ≤ 8) → x.unit < s.cans.length →
        (s.can x.unit).landing.length < 32 → (∀ y ∈ (s.can x.unit).landing, y.tag ≠ r.val) → (∀ c ∈ s.chans, c.delayOn = none) →
        Answers (.emitBuild r) s fun t =>
          (∃ tx, (t.can x.unit).landing = (s.can x.unit).landing ++ [tx] ∧ tx.tag = r.val ∧ tx.src = none ∧
            tx.notBefore = some (s.frameAt (x.offset * 100)) ∧ w0Id tx.msg.w0 = w0Id x.key ∧
            tx.msg.data.take x.len = ((imageOf s.raw r).take x.len)) ∧
          t.now = max s.now (s.frameAt (x.offset * 100) - 2000) ∧ t.raw (R.LGW_SLOT r 0) = s.raw (R.LGW_SLOT r 0) + 1 ∧
          KeepsQuiet s t [wholeReg (R.LGW_SLOT r 0), wholeReg (R.LGW_SLOT r 2), R.LGW_CNT_PEAK_COUNT]))

/-- Containers (R251 to R253, R259, R260): a container is built from the emitters due in it, as one frame from HP3 to its port; one
received brings its PDUs to the routes that match, scaled and clamped, or is counted as bad. -/
def ContainersCarryPdusBothWays : Prop :=
  ∀ (s : State) (c : Fin 256) (p : Fin 17) (f : EthFrame),
    (s.rd R.LGW_CTRL_RUN = 0 ∨ s.rd (R.LGW_CTNc_0_EN c) = 0 → Answers (.containerBuild c) s fun t => KeepsQuiet s t []) ∧
    (s.rd R.LGW_CTRL_RUN = 1 → s.rd (R.LGW_CTNc_0_EN c) = 1 →
      s.rd R.FRM_STAT_SLOT % max 1 (s.rd (R.LGW_CTNc_4_K c)) = 0 → sget (fun _ => 0) s.lgw.ctnAt c ≠ s.frame64 + 1 →
      s.rd R.PAIR_CFG_TWIN = 0 → (∀ c ∈ s.chans, c.delayOn = none) → s.rd (R.LGW_CTNc_0_PORT c) < 21 → s.eth.ports.length = 21 →
      s.rd (R.ESW_Pp_CFG_EN 20) = 1 → (s.port (s.rd (R.LGW_CTNc_0_PORT c))).held = [] → s.lgw.execs < 4096 → sget (fun _ => []) s.lgw.pdus c = [] →
      ∀ r, s.liveWhere (fun x => decide (x.kind = kEmit ∧ x.dest = 1 ∧ x.unit = c.val)) = [r] → s.emitDue r (s.route r) = true →
      ∀ w0 data stale, s.compose r (s.route r) = .some w0 data stale → Answers (.containerBuild c) s fun t =>
        (∃ q, (t.port (s.rd (R.LGW_CTNc_0_PORT c))).held = [q] ∧ q.frame.etype.val = s.rd R.LGW_ETH_ETYPE % 65536 ∧
          q.frame.dmac = s.ctnMac c ∧ q.frame.vid.val = s.rd (R.LGW_CTNc_0_VID c) % 4096 ∧
          q.frame.body = [1] ++ leBytes 1 (s.rd R.SUP_STRAP_ZONE) ++ leBytes 1 c ++ [1] ++
            leBytes 2 (sget (fun _ => 0) s.lgw.seqs c) ++ [0, 0] ++ pduBytes w0 data stale) ∧
        sget (fun _ => 0) t.lgw.seqs c = (sget (fun _ => 0) s.lgw.seqs c + 1) % 65536 ∧
        KeepsQuiet s t [wholeReg (R.LGW_SLOT r 0), wholeReg (R.LGW_SLOT r 2), R.LGW_CNT_PEAK_COUNT, R.ESW_Pp_RX_COUNT 20]) ∧
    (f.etype.val ≠ rtagType →
      (f.etype.val ≠ s.rd R.LGW_ETH_ETYPE ∨ s.rd R.LGW_CTRL_RUN = 0 → Answers (.containerReceived p f) s fun t => KeepsQuiet s t []) ∧
      (f.etype.val = s.rd R.LGW_ETH_ETYPE → s.rd R.LGW_CTRL_RUN = 1 →
        (le f.body 0 1 ≠ 1 ∨ f.body.length < 8 ∨ parsePdus (le f.body 3 1) (f.body.drop 8) = none → Answers (.containerReceived p f) s fun t =>
          t.rd R.LGW_CNT_BADCTN_COUNT = min (2 ^ (R.LGW_CNT_BADCTN_COUNT.hi + 1 - R.LGW_CNT_BADCTN_COUNT.lo) - 1) (s.rd R.LGW_CNT_BADCTN_COUNT + 1) ∧
          (s.lgw.badRaised = false → Raised s t 229 [0xFF, 0xFF, BitVec.ofNat 8 p]) ∧ Keeps s t [R.LGW_CNT_BADCTN_COUNT]) ∧
        (le f.body 0 1 = 1 → 8 ≤ f.body.length → ∀ u, parsePdus (le f.body 3 1) (f.body.drop 8) = some [u] → ∀ r,
          s.liveWhere (fun x => decide (x.kind = kSignal ∨ x.kind = kFrame) && (decide (x.src = 1 ∧ (x.unit = 0xFF ∨ x.unit = p.val)) &&
            decide ((u.1 ^^^ x.key) &&& x.mask = 0))) = [r] →
          let x := s.route r
          let bits := fieldBits x.sbe x.spos x.slen
          x.kind = kSignal → x.notify = false → s.lgw.execs < 4096 → s.rd (slotStale r) = 0 → s.rd (slotSat r) = 1 →
          (∀ i ∈ bits, i < 8 * u.2.length) → Answers (.containerReceived p f) s fun t =>
            let y : Int := (if x.ssign then signed x.slen (bitsValue u.2 bits) else (bitsValue u.2 bits : Int)) * x.mul / (2 ^ x.sh : Nat) + x.add
            let lo : Int := if x.dsign then -(2 ^ (x.dlen - 1) : Nat) else 0
            let hi : Int := if x.dsign then (2 ^ (x.dlen - 1) : Nat) - 1 else (2 ^ x.dlen : Nat) - 1
            t.raw (R.LGW_SLOT r 0) = BitVec.ofInt 32 (if y < lo then lo else if hi < y then hi else y) ∧
            t.rd (slotSat r) = (if y < lo ∨ hi < y then 1 else 0) ∧ t.rd (slotValid r) = 1 ∧
            t.raw (R.LGW_SLOT r 2) = s.raw R.FRM_NUM_LO ∧
            KeepsQuiet s t [wholeReg (R.LGW_SLOT r 0), wholeReg (R.LGW_SLOT r 1), wholeReg (R.LGW_SLOT r 2), wholeReg (R.LGW_SLOT r 3),
              R.LGW_CNT_PEAK_COUNT])))

/-- Links (R265, R275): a packet error is replayed, the fourth of one packet retrains; losing a lane retrains; a training that succeeds
brings the link up, the third that fails, the first training too, takes it down and ends what was open; a link that is down trains again. -/
def LinksReplayTrainAndFall : Prop :=
  ∀ (s : State) (g : Fin 6) (seq : Nat), s.gwbs.length = 6 →
    let n := if (s.gwb g).replaySeq = seq then (s.gwb g).replays else 0
    let linkOkBit : Fld := if g.val < 2 then R.LIMB_STAT_LINK_OK g else R.BOLE_STAT_LINK_OK (g.val - 2)
    let retrained := fun t : State => t.rd (R.GWB_Lg_STAT_TRAINING g) = 1 ∧ t.rd (R.GWB_Lg_LOCK_REQ g) = 0 ∧
      t.rd (R.GWB_Lg_LOCK_GRANT g) = 0 ∧ (t.gwb g).locker = none ∧ (t.gwb g).lines = [] ∧ (∃ e ∈ t.events, e.num = 245) ∧
      Keeps s t [R.GWB_Lg_STAT_TRAINING g, R.GWB_Lg_LOCK_REQ g, R.GWB_Lg_LOCK_GRANT g, R.GWB_Lg_CNT2_RETRAIN g, R.GWB_Lg_CNT2_SIDE g,
        R.GWB_Lg_SIDE_ADDR_ADDR g]
    (s.linkOk g = false → Answers (.linkCrcError ⟨g, seq⟩) s (fun t => KeepsQuiet s t []) ∧ Answers (.laneLockLoss g) s (fun t => KeepsQuiet s t [])) ∧
    (s.linkOk g = true →
      (n < 3 → Answers (.linkCrcError ⟨g, seq⟩) s fun t => (t.gwb g).replays = n + 1 ∧ (t.gwb g).replaySeq = seq ∧
        KeepsQuiet s t [R.GWB_Lg_CNT0_REPLAY g]) ∧
      (3 ≤ n → Answers (.linkCrcError ⟨g, seq⟩) s retrained) ∧ Answers (.laneLockLoss g) s retrained) ∧
    (s.rd (R.GWB_Lg_STAT_TRAINING g) = 1 →
      Answers (.linkTrainingResult g true) s (fun t => t.rd (R.GWB_Lg_STAT_UP g) = 1 ∧ t.rd (R.GWB_Lg_STAT_TRAINING g) = 0 ∧
        t.rd linkOkBit = 1 ∧ (s.rd (R.GWB_Lg_STAT_UP g) = 0 → ∃ e ∈ t.events, e.num = 247) ∧
        Keeps s t [R.GWB_Lg_STAT_UP g, R.GWB_Lg_STAT_TRAINING g, linkOkBit, R.SUP_MODE_DEGR, R.SUP_MODE_MODE]) ∧
      ((s.gwb g).down = true → Answers (.linkTrainingResult g false) s fun t => t.rd (R.GWB_Lg_STAT_TRAINING g) = 0 ∧
        Keeps s t [R.GWB_Lg_STAT_TRAINING g, R.SUP_MODE_DEGR, R.SUP_MODE_MODE]) ∧
      ((s.gwb g).down = false → (s.gwb g).fails < 2 → Answers (.linkTrainingResult g false) s fun t => (t.gwb g).fails = (s.gwb g).fails + 1 ∧
        Keeps s t [R.SUP_MODE_DEGR, R.SUP_MODE_MODE]) ∧
      ((s.gwb g).down = false → 2 ≤ (s.gwb g).fails → (∀ x ∈ (s.gwb g).txs ++ (s.gwb g).again, x.posted = false) →
        Answers (.linkTrainingResult g false) s fun t => t.rd (R.GWB_Lg_STAT_UP g) = 0 ∧ t.rd linkOkBit = 0 ∧ (t.gwb g).txs = [] ∧ (t.gwb g).down = true ∧
          ((∃ x ∈ (s.gwb g).txs ++ (s.gwb g).again, x.waits = true) → t.bus = { err := true, type := .link }) ∧ (∃ e ∈ t.events, e.num = 246) ∧
          Keeps s t [R.GWB_Lg_STAT_UP g, R.GWB_Lg_STAT_TRAINING g, linkOkBit, R.SUP_MODE_DEGR, R.SUP_MODE_MODE])) ∧
    Answers (.linkTrainingRetry g) s (fun t =>
      (s.rd (R.GWB_Lg_STAT_UP g) = 0 → t.rd (R.GWB_Lg_STAT_TRAINING g) = 1) ∧
      (s.rd (R.GWB_Lg_STAT_UP g) = 1 → t.rd (R.GWB_Lg_STAT_TRAINING g) = s.rd (R.GWB_Lg_STAT_TRAINING g)) ∧
      KeepsQuiet s t [R.GWB_Lg_STAT_TRAINING g])

/-- Requests, lines and locks of a link (R268 to R275): a request that waits too long answers with an error and its
completion becomes delayed; a delayed completion not collected is discarded and counted; the island gets RETRY; a held line
expires; the lock has one holder, is granted on an idle link, and is lost after its time. -/
def LinkRequestsAndLocksExpire : Prop :=
  ∀ (s : State) (g : Fin 6) (a : Attr) (tag : Nat), s.gwbs.length = 6 →
    ((s.gwb g).txs = [] → Answers (.nonpostedTimeout g tag) s (fun t => KeepsQuiet s t []) ∧
      Answers (.delayedCompletionExpiry g tag) s (fun t => KeepsQuiet s t [])) ∧
    (∀ x, (s.gwb g).txs = [x] → x.tag = tag →
      (x.waits = true → ((s.gwb g).flying x.toCrown).contains tag = true → Answers (.nonpostedTimeout g tag) s fun t =>
        t.bus = { err := true, type := .timeout } ∧ (t.gwb g).txs = [{ x with waits := false }] ∧
        Raised s t 244 (leBytes 2 g ++ (leBytes 4 x.addr ++ [BitVec.ofNat 8 x.attr.rqc, BitVec.ofNat 8 x.attr.pid])) ∧
        Keeps s t [R.GWB_Lg_CNT1_TIMEOUT g]) ∧
      (x.waits = false → (s.gwb g).again = [] → ∀ v, x.held = some (v, none) → (x.val ≠ none ∨ readSensitive x.addr = false) →
        Answers (.delayedCompletionExpiry g tag) s fun t => (t.gwb g).txs = [] ∧
          ((s.gwb g).discRaised = false → Raised s t 241 (leBytes 2 g ++ (leBytes 4 x.addr ++ [BitVec.ofNat 8 x.attr.rqc]))) ∧
          Keeps s t [R.GWB_Lg_CNT0_DISCARD g])) ∧
    ((s.gwb 1).txs = [] → Answers (.islandRetryTimeout tag) s fun t => KeepsQuiet s t []) ∧
    (∀ x, (s.gwb 1).txs = [x] → x.tag = tag → x.waits = true → x.held = none → x.attr.rqc = 5 → Answers (.islandRetryTimeout tag) s fun t =>
      (t.gwb 1).txs = [{ x with waits := false }] ∧ t.bus = { err := true, type := .retry } ∧
      t.rd (R.GWB_Lg_CNT1_RETRY 1) = min (2 ^ ((R.GWB_Lg_CNT1_RETRY 1).hi + 1 - (R.GWB_Lg_CNT1_RETRY 1).lo) - 1) (s.rd (R.GWB_Lg_CNT1_RETRY 1) + 1) ∧
      KeepsQuiet s t [R.GWB_Lg_CNT1_RETRY 1]) ∧
    (∀ line, Answers (.prefetchLineExpiry g line) s fun t =>
      (∀ l, l ∈ (t.gwb g).lines ↔ l ∈ (s.gwb g).lines ∧ l.addr ≠ line) ∧ Keeps s t [R.GWB_Lg_CNT2_SIDE g, R.GWB_Lg_SIDE_ADDR_ADDR g]) ∧
    (mayLock a = true →
      ((s.gwb g).locker = none → Answers (.gwbLockRequest a g) s fun t => t.rd (R.GWB_Lg_LOCK_REQ g) = 1 ∧ (t.gwb g).locker = some a ∧
        KeepsQuiet s t [R.GWB_Lg_LOCK_REQ g]) ∧
      ((s.gwb g).locker ≠ none → Answers (.gwbLockRequest a g) s fun t => t.gwbs = s.gwbs ∧ KeepsQuiet s t []) ∧
      ((s.gwb g).locker = some a → Answers (.gwbUnlock a g) s fun t => t.rd (R.GWB_Lg_LOCK_REQ g) = 0 ∧ t.rd (R.GWB_Lg_LOCK_GRANT g) = 0 ∧
        (t.gwb g).locker = none ∧ KeepsQuiet s t [R.GWB_Lg_LOCK_REQ g, R.GWB_Lg_LOCK_GRANT g]) ∧
      ((s.gwb g).locker ≠ some a → Answers (.gwbUnlock a g) s fun t => t.gwbs = s.gwbs ∧ KeepsQuiet s t [])) ∧
    (mayLock a = false → Answers (.gwbLockRequest a g) s (fun t => t.bus.err = true ∧ (∃ p, Raised s t 487 p) ∧ Keeps s t []) ∧
      Answers (.gwbUnlock a g) s (fun t => t.bus.err = true ∧ (∃ p, Raised s t 487 p) ∧ Keeps s t [])) ∧
    ((s.gwb g).locker = some a →
      (s.rd (R.GWB_Lg_LOCK_GRANT g) = 0 → s.linkOk g = true → (s.gwb g).flying false = [] → Answers (.lockGrant g) s fun t => t.rd (R.GWB_Lg_LOCK_GRANT g) = 1 ∧
        (t.gwb g).lines = [] ∧ Keeps s t [R.GWB_Lg_LOCK_GRANT g, R.GWB_Lg_CNT2_SIDE g, R.GWB_Lg_SIDE_ADDR_ADDR g]) ∧
      (s.rd (R.GWB_Lg_LOCK_GRANT g) = 1 → Answers (.lockHoldExpiry g) s fun t => t.rd (R.GWB_Lg_LOCK_GRANT g) = 0 ∧
        t.rd (R.GWB_Lg_LOCK_LOCK_TO g) = 1 ∧ (t.gwb g).lockErr = some a ∧ Raised s t 242 (leBytes 2 g ++ [BitVec.ofNat 8 a.rqc]) ∧
        Keeps s t [R.GWB_Lg_LOCK_GRANT g, R.GWB_Lg_LOCK_REQ g, R.GWB_Lg_LOCK_LOCK_TO g])) ∧
    ((s.gwb g).locker = none → Answers (.lockGrant g) s (fun t => KeepsQuiet s t []) ∧ Answers (.lockHoldExpiry g) s (fun t => KeepsQuiet s t []))
/-! Cores, memory errors, debug and worlds (10_application_complex.md, 11_partitions_worlds.md). -/

/-- A reset cause has reached partition p (R314 to R316, R45): it quiesces, its generation has stepped on, its harts are
halted; its mailbox, its frame status and the states of pairs are all that changes besides the fields listed. -/
def Quiesces (p cause : Nat) (s t : State) (more : List Fld) : Prop :=
  t.partState p = stQuiescing ∧ t.gen p = nextGen (s.gen p) ∧ (t.part p).cause = cause ∧
  (∀ h ∈ s.hartsOf p, (t.hart h).run = false) ∧
  KeepsBut (fun a => eventWord a ∨ (mbxBase p ≤ a ∧ a < mbxBase p + 0x1000)) s t
    ([R.EVR_Pp_FSTAT_STATE p, R.EVR_Pp_FSTAT_TICK_PEND p, R.EVR_Pp_FSTAT_IN_FRAME p, R.SUP_MODE_DEGR, R.SUP_MODE_MODE] ++
      (List.range 8).map R.LSC_Pk_STAT_STATE ++ more)

/-- A fatal stop (R288, R299): its cause recorded, and the crown die reset with source WDG. -/
def FatalStop (bit : Nat) (s t : State) : Prop := t.rd ⟨R.LSC_FATAL, bit, bit⟩ = 1 ∧ ResetTo rsWdg crown s t

/-- A partition whose reset is the plain one: it runs, and no trial of its images is on. -/
def PlainlyRuns (p : Nat) (s : State) : Prop :=
  p < 16 ∧ s.parts.length = 16 ∧ s.partState p = stRunning ∧ s.partOnTrial p = false

/-- Pairs of cores (R281, R290 to R299): a mismatch outside lockstep changes nothing; one in lockstep halts the pair, records
its groups and the time and resets its partition, that of the Forester is a fatal stop; a trap loop halts and resets, that of
the Forester the crown die; START tests a pair, HALT halts it, and its test ends in RUN or FAILED. -/
def PairsHaltTestAndResetTheirPartition : Prop :=
  ∀ (s : State) (k : Fin 8) (a : Attr), s.cpx.harts.length = 16 →
    let mm := [R.LSC_Pk_STAT_LINE k, wholeReg (R.LSC_Pk_MM_LO k), wholeReg (R.LSC_Pk_MM_HI k), wholeReg (R.LSC_Pk_MM_T_LO k),
      wholeReg (R.LSC_Pk_MM_T_HI k), R.LSC_Pk_CNT_MISMATCH k]
    let hit := fun (g : Nat) (t : State) => t.pairState k = psHalted ∧ t.rd (R.LSC_Pk_STAT_LINE k) = 1 ∧
      t.rd64 (R.LSC_Pk_MM_LO k) (R.LSC_Pk_MM_HI k) = g % 2 ^ 64 ∧ t.rd64 (R.LSC_Pk_MM_T_LO k) (R.LSC_Pk_MM_T_HI k) = s.lc % 2 ^ 64 ∧
      (t.hart (2 * k)).run = false ∧ (∃ p, Raised s t 96 p)
    (∀ rails parity tree,
      let op : Instr := .lockstepMismatch ⟨k, by omega⟩ ⟨rails, parity, tree⟩
      let g := unequalGroups k rails parity
      (∀ i : Fin 64, nbit g i = decide (railOf rails parity i ≠ 1)) ∧
      (s.canMismatch k = false ∨ g = 0 ∧ tree = 1 → Answers op s fun t => KeepsQuiet s t []) ∧
      (s.canMismatch k = true → g ≠ 0 ∨ tree ≠ 1 →
        (s.partsOn k = [] → Answers op s fun t => hit g t ∧ Keeps s t (R.LSC_Pk_STAT_STATE k :: mm)) ∧
        (∀ p, s.partsOn k = [p] → PlainlyRuns p s → Answers op s fun t => hit g t ∧ Quiesces p pcMismatch s t mm)) ∧
      (let g8 := unequalGroups 8 rails parity
       (s.pairState 8 = psRun → g8 ≠ 0 ∨ tree ≠ 1 → s.loading = false → Answers (.lockstepMismatch 8 ⟨rails, parity, tree⟩) s (FatalStop 0 s)) ∧
       (s.pairState 8 ≠ psRun ∨ g8 = 0 ∧ tree = 1 → Answers (.lockstepMismatch 8 ⟨rails, parity, tree⟩) s fun t => KeepsQuiet s t []))) ∧
    (∀ h : Fin 16, h.val / 2 = k.val → ∀ addr,
      Answers (.cacheError h .corrected addr) s (fun t =>
        t.rd R.MEM_CE_CACHE_CACHE = min 0xFFFF (s.rd R.MEM_CE_CACHE_CACHE + 1) ∧ KeepsQuiet s t [R.MEM_CE_CACHE_CACHE]) ∧
      (s.isSplit k = false → ∀ tree,
        let group63 : Instr := .lockstepMismatch ⟨k, by omega⟩ ⟨(2 ^ 128 - 1) / 3 - 2 ^ 126, 0, tree⟩
        exec (.cacheError h .clean addr) s = exec group63 s ∧ exec (.cacheError h .dirty addr) s = exec group63 s) ∧
      (s.isSplit k = true → Answers (.cacheError h .clean addr) s fun t =>
        t.rd R.MEM_CE_CACHE_CACHE = min 0xFFFF (s.rd R.MEM_CE_CACHE_CACHE + 1) ∧ KeepsQuiet s t [R.MEM_CE_CACHE_CACHE]) ∧
      (s.isSplit k = true → Answers (.cacheError h .dirty addr) s fun t => t.bus.err = true ∧ (∃ p, Raised s t 66 p) ∧ Keeps s t [])) ∧
    (s.isSplit k = false → ∀ half,
      ((s.hart (2 * k)).run = false → Answers (.trapLoop ⟨k, by omega⟩ half) s fun t => KeepsQuiet s t []) ∧
      ((s.hart (2 * k)).run = true → ∀ p, s.partOfHart (2 * k) = some p → PlainlyRuns p s → Answers (.trapLoop ⟨k, by omega⟩ half) s fun t =>
        Raised s t 98 [BitVec.ofNat 8 k, 0, BitVec.ofNat 8 p] ∧ Quiesces p pcLockup s t [R.LSC_Pk_CNT_LOCKUP k])) ∧
    (∀ half, (s.pairState 8 = psRun → s.loading = false → Answers (.trapLoop 8 half) s (ResetTo rsLockup crown s)) ∧
      (s.pairState 8 ≠ psRun → Answers (.trapLoop 8 half) s fun t => KeepsQuiet s t [])) ∧
    (∀ out : TestOut,
      (s.pairState k ≠ psTesting → Answers (.startTestDone ⟨k, by omega⟩ out) s fun t => KeepsQuiet s t []) ∧
      (s.pairState k = psTesting → (s.hart (2 * k)).rst = false →
        (out.pass = true → s.partOfHart (2 * k) = none → Answers (.startTestDone ⟨k, by omega⟩ out) s fun t =>
          t.pairState k = psRun ∧ t.rd (R.LSC_Pk_TEST_DONE k) = 1 ∧ t.rd (R.LSC_Pk_TEST_PASS k) = 1 ∧ (t.hart (2 * k)).run = true ∧
          Raised s t 99 [BitVec.ofNat 8 k] ∧ Keeps s t [R.LSC_Pk_STAT_STATE k, wholeReg (R.LSC_Pk_TEST k)]) ∧
        (out.pass = false → s.partsOn k = [] → Answers (.startTestDone ⟨k, by omega⟩ out) s fun t =>
          t.pairState k = psFailed ∧ t.rd (R.LSC_Pk_TEST_PASS k) = 0 ∧ t.rd (R.LSC_Pk_TEST_FAILGRP k) = out.failgrp ∧
          Raised s t 97 [BitVec.ofNat 8 k, BitVec.ofNat 8 out.failgrp, if out.alarmFail then 1 else 0] ∧
          Keeps s t [R.LSC_Pk_STAT_STATE k, wholeReg (R.LSC_Pk_TEST k), R.SUP_MODE_DEGR, R.SUP_MODE_MODE]))) ∧
    (Own a (R.LSC_Pk_CTRL k) true s →
      (s.pairState k = psFailed → Answers (.pairStart a k) s fun t => KeepsQuiet s t []) ∧
      (s.pairState k ≠ psFailed → s.isSplit k = false → Answers (.pairStart a k) s fun t =>
        t.pairState k = psTesting ∧ t.rd (R.LSC_Pk_STAT_LINE k) = 0 ∧ t.rd64 (R.LSC_Pk_MM_LO k) (R.LSC_Pk_MM_HI k) = 0 ∧
        KeepsQuiet s t [R.LSC_Pk_STAT_STATE k, R.LSC_Pk_STAT_LINE k, wholeReg (R.LSC_Pk_MM_LO k), wholeReg (R.LSC_Pk_MM_HI k)]) ∧
      Answers (.pairHalt a k) s (fun t => (t.hart (2 * k)).run = false ∧ (t.hart (2 * k + 1)).run = false ∧
        (s.pairState k = psRun → t.pairState k = psHalted) ∧ KeepsQuiet s t [R.LSC_Pk_STAT_STATE k]))

/-- Memory errors (R20, R287, R305): a read that the memory does not admit is denied; a corrected one has its data and is
counted; an uncorrectable one outside heartwood poisons its word, answers with an error and is logged, one inside is a fatal
stop; a read of a poisoned word answers with an error; what the scrubber finds, and its passes, are counted while the crown
die runs. -/
def MemoryErrorsAreCountedOrStop : Prop :=
  ∀ (s : State) (a : Attr) (addr : Nat),
    (s.memAdmits a addr 1 false = false → ∀ e, scrubFound e = false → Answers (.memReadError a addr e) s fun t =>
      t.bus = { err := true } ∧ (∃ p, Raised s t 487 p) ∧ Keeps s t []) ∧
    (s.crownUp = false → ∀ e, scrubFound e = true → Answers (.memReadError a addr e) s fun t => KeepsQuiet s t []) ∧
    (∀ d : Bool, memOf addr = (if d then 1 else 0) →
      let ce := if d then R.MEM_CE_CNT_DRAM else R.MEM_CE_CNT_SRAM
      let ue := if d then R.MEM_UE_CNT_DRAM else R.MEM_UE_CNT_SRAM
      let admits := fun scrub : Bool => if scrub then s.crownUp = true else s.memAdmits a addr 1 false = true
      (∀ scrub, admits scrub → Answers (.memReadError a addr (.single scrub)) s fun t => t.rd ce = min 0xFFFF (s.rd ce + 1) ∧
        (scrub = false → t.bus = { data := BitVec.ofNat 32 (le (s.memRead (addr / 4 * 4) 4) 0 4) }) ∧
        (s.cpx.ceRaised = [] → Raised s t (if d then 65 else 64) (leBytes 5 addr)) ∧ Keeps s t [ce]) ∧
      (s.heartRegion addr = false → ∀ scrub, admits scrub → Answers (.memReadError a addr (.uncorrectable scrub)) s fun t =>
        t.isPoisoned addr = true ∧ t.rd ue = min 0xFFFF (s.rd ue + 1) ∧ (scrub = false → t.bus = { err := true }) ∧ (∃ p, Raised s t 66 p) ∧
        (s.rd R.MEM_ERR_INFO_VALID = 0 → t.rd R.MEM_ERR_INFO_VALID = 1 ∧ t.rd R.MEM_ERR_ADDR_LO_ADDR = addr % 2 ^ 32 ∧
          t.rd R.MEM_ERR_INFO_MEM = memOf addr) ∧
        (s.rd R.MEM_ERR_INFO_VALID = 1 → t.rd R.MEM_ERR_INFO_MORE = 1 ∧ t.raw R.MEM_ERR_ADDR_LO = s.raw R.MEM_ERR_ADDR_LO) ∧
        Keeps s t [ue, wholeReg R.MEM_ERR_INFO, wholeReg R.MEM_ERR_ADDR_LO, wholeReg R.MEM_ERR_ADDR_HI]) ∧
      (s.heartRegion addr = true → s.loading = false → ∀ scrub, admits scrub →
        Answers (.memReadError a addr (.uncorrectable scrub)) s (FatalStop 1 s))) ∧
    (s.isPoisoned addr = true → s.memAdmits a addr 1 false = true → Answers (.memReadError a addr .poisoned) s fun t => t.bus = { err := true } ∧
      Raised s t 67 (leBytes 5 addr ++ leBytes 1 a.rqc ++ leBytes 1 a.pid) ∧ Keeps s t []) ∧
    (s.isPoisoned addr = false → s.memAdmits a addr 1 false = true → Answers (.memReadError a addr .poisoned) s fun t => KeepsQuiet s t []) ∧
    (∀ (dram : Bool) (ms : Nat),
      let passes := if dram then R.MEM_SCRUB_DRAM_PASSES else R.MEM_SCRUB_SRAM_PASSES
      let last := if dram then R.MEM_SCRUB_DRAM_LAST else R.MEM_SCRUB_SRAM_LAST
      (s.crownUp = true →
        Answers (.scrubPassEnd dram ms) s (fun t => t.rd passes = (s.rd passes + 1) % 65536 ∧
          t.rd last = min 0xFFFF (if dram then ms / 100 else ms) ∧ (∃ p, Raised s t 68 p) ∧ Keeps s t [passes, last]) ∧
        Answers (.scrubLate dram) s (fun t => Raised s t 69 [if dram then 1 else 0] ∧ Keeps s t [])) ∧
      (s.crownUp = false → Answers (.scrubPassEnd dram ms) s (fun t => KeepsQuiet s t []) ∧
        Answers (.scrubLate dram) s (fun t => KeepsQuiet s t [])))

/-- Debug (R302 to R304, R455): a request that the life cycle does not admit finds the core unavailable; an admitted one halts,
resumes or writes the hart, and a reset holds a hart or the crown die until it is released. -/
def DebugReachesOnlyWhatItMay : Prop :=
  ∀ (s : State) (k : Fin 8) (half : Bool), s.cpx.harts.length = 16 →
    let h := s.hartAt k half
    let fifos := (List.range 8).map R.LSC_Pk_STAT_FIFO
    (s.debugCore k (s.hart h).heart = false →
      Answers (.debugHalt k half) s (fun t => t.cpx = { s.cpx with dbgAns := .unavailable } ∧ KeepsQuiet s t []) ∧
      Answers (.debugResume k half) s (fun t => t.cpx = { s.cpx with dbgAns := .unavailable } ∧ KeepsQuiet s t []) ∧
      (∀ reg val, Answers (.debugWrite k half reg val) s fun t => t.cpx.harts = s.cpx.harts ∧ t.cpx.dbgAns = .unavailable ∧ KeepsQuiet s t fifos) ∧
      Answers (.debugReset true (.pair k half)) s (fun t => t.cpx = { s.cpx with dbgAns := .unavailable } ∧ KeepsQuiet s t [])) ∧
    (s.debugCore k (s.hart h).heart = true →
      ((s.hart h).dbg = false → s.pairState k ≠ psOff → s.pairState k ≠ psFailed →
        Answers (.debugHalt k half) s fun t => (t.hart h).dbg = true ∧ t.cpx.dbgAns = .done ∧ Raised s t 101 [BitVec.ofNat 8 k] ∧
          (s.isSplit k = false → s.pairState k = psRun → (s.hart (2 * k + 1)).run = false → t.pairState k = psDbgHalt) ∧
          Keeps s t [R.LSC_Pk_STAT_STATE k]) ∧
      ((s.hart h).dbg = true → Answers (.debugResume k half) s fun t => (t.hart h).dbg = false ∧ t.cpx.dbgAns = .done ∧ Raised s t 102 [BitVec.ofNat 8 k] ∧
        (s.pairState k = psDbgHalt → t.pairState k = if s.isSplit k then psSplitRun else psRun) ∧ Keeps s t [R.LSC_Pk_STAT_STATE k]) ∧
      (∀ reg val, s.isSplit k = true → Answers (.debugWrite k half reg val) s fun t =>
        (t.hart h).wrote = sput (s.hart h).wrote reg val ∧ t.cpx.dbgAns = .done ∧ KeepsQuiet s t fifos) ∧
      (∀ reg val, s.isSplit k = false → 64 ≤ ((s.cpx.fifo.getD k []).filter fun x => decide (s.now < x + 1)).length →
        Answers (.debugWrite k half reg val) s fun t => t.cpx.harts = s.cpx.harts ∧ t.cpx.dbgAns = .busy ∧ KeepsQuiet s t fifos) ∧
      (∀ reg val, s.isSplit k = false → s.cpx.fifo.getD k [] = [] → Answers (.debugWrite k half reg val) s fun t =>
        (t.hart h).wrote = sput (s.hart h).wrote reg val ∧ (s.cpx.fifo.length = 8 → t.rd (R.LSC_Pk_STAT_FIFO k) = 1) ∧ KeepsQuiet s t fifos) ∧
      Answers (.debugReset true (.pair k half)) s (fun t => (t.hart h).rst = true ∧ (t.hart h).run = false ∧
        KeepsQuiet s t [R.LSC_Pk_STAT_STATE k])) ∧
    Answers (.debugReset false (.pair k half)) s (fun t => (t.hart h).rst = false ∧ KeepsQuiet s t []) ∧
    (s.debugAny = true → s.loading = false → Answers (.debugReset true .crown) s (ResetTo rsDbg crown s)) ∧
    (s.debugAny = false → Answers (.debugReset true .crown) s fun t => t.svr = s.svr ∧ t.cpx.dbgAns = .unavailable ∧ KeepsQuiet s t []) ∧
    Answers (.debugReset false .crown) s (fun t => (∀ x ∈ t.svr.srcs, x.1 ≠ rsDbg) ∧ KeepsQuiet s t [])

/-- Worlds (R321, R324): a WCALL from machine or supervisor mode in sapwood of a heartwood partition enters heartwood at
HVEC; any other is trapped and reported; WRET returns to where it came from; a call that lasts beyond HMAX resets its
partition. A hart that does not run does nothing. -/
def WorldsSwitchByCallAndReturn : Prop :=
  ∀ (s : State) (h : Fin 16) (mode : Fin 4) (pc : Nat), s.cpx.harts.length = 16 →
    let x := s.hart h
    (x.live = false → Answers (.wcall h mode pc) s (fun t => t.cpx = s.cpx ∧ KeepsQuiet s t []) ∧
      Answers (.wret h) s (fun t => t.cpx = s.cpx ∧ KeepsQuiet s t [])) ∧
    (x.live = true →
      (x.heart = false → mode.val = 1 ∨ mode.val = 3 → ∀ p, s.partOfHart h = some p → (s.part p).isHeart = true →
        Answers (.wcall h mode pc) s fun t =>
          t.hart h = { x with heart := true, mode := 3, wepc := pc + 4, wcause := mode, pc := (s.part p).hvec, callAt := some s.now } ∧
          KeepsQuiet s t []) ∧
      (x.heart = true ∨ (mode.val ≠ 1 ∧ mode.val ≠ 3) ∨ (∀ p, s.partOfHart h = some p → (s.part p).isHeart = false) → Answers (.wcall h mode pc) s fun t =>
        t.hart h = { x with trap := true } ∧ (∃ p, Raised s t 495 p) ∧ Keeps s t []) ∧
      (x.heart = true → Answers (.wret h) s fun t =>
        t.hart h =
          { x with heart := false, mode := x.wcause, pc := x.wepc, callAt := none, held := false, ticks := x.ticks + if x.held then 1 else 0 } ∧
        KeepsQuiet s t []) ∧
      (x.heart = false → Answers (.wret h) s fun t => t.hart h = { x with trap := true } ∧ KeepsQuiet s t [])) ∧
    (x.callAt = none → Answers (.heartCallTimeout h) s fun t => t.cpx = s.cpx ∧ KeepsQuiet s t []) ∧
    (∀ c p, x.callAt = some c → s.partOfHart h = some p → PlainlyRuns p s → (∀ c ∈ s.chans, c.delayOn = none) →
      Answers (.heartCallTimeout h) s fun t => t.now = max s.now (c + (s.part p).hmax * 1000) ∧ (∃ e ∈ t.events, e.num = 494) ∧
        Quiesces p pcHeartOvr s t [])
/-! Partitions and crypto jobs (11_partitions_worlds.md, 14_keys_security.md). -/

/-- Frame work (R319, R320): a tick of a running partition opens its frame work, waits behind an open one, or is missed;
DONE ends it and takes the waiting tick; the budget's end is an overrun; other states change nothing. -/
def FrameWorkTicksAndEnds : Prop :=
  ∀ (s : State) (p : Fin 16) (a : Attr), s.parts.length = 16 → s.cpx.harts.length = 16 → (∀ c ∈ s.chans, c.delayOn = none) →
    let inF := R.EVR_Pp_FSTAT_IN_FRAME p
    let pend := R.EVR_Pp_FSTAT_TICK_PEND p
    (s.partState p ≠ stRunning → Answers (.partFrameTick p) s (fun t => KeepsQuiet s t []) ∧
      Answers (.partBudgetExpiry p) s (fun t => KeepsQuiet s t []) ∧ Answers (.partWdgExpiry p) s (fun t => KeepsQuiet s t [])) ∧
    (s.partState p = stRunning →
      (s.rd inF = 0 → Answers (.partFrameTick p) s fun t => t.rd inF = 1 ∧
        t.now = max s.now (s.frameAt ((s.part p).wstart * 1000)) ∧
        (∀ h ∈ s.hartsOf p, t.hart h = if (s.hart h).heart then { s.hart h with held := true }
          else { s.hart h with ticks := (s.hart h).ticks + 1 }) ∧ KeepsQuiet s t [inF]) ∧
      (s.rd inF = 1 → s.rd pend = 0 → Answers (.partFrameTick p) s fun t => t.rd pend = 1 ∧ t.cpx = s.cpx ∧ KeepsQuiet s t [pend]) ∧
      (s.rd inF = 1 → s.rd pend = 1 → Answers (.partFrameTick p) s fun t =>
        t.rd (R.EVR_Pp_OVR_MISSED p) = min 0xFFFF (s.rd (R.EVR_Pp_OVR_MISSED p) + 1) ∧ (∃ e ∈ t.events, e.num = 493) ∧
        Keeps s t [R.EVR_Pp_OVR_MISSED p]) ∧
      (s.rd inF = 1 → (s.part p).overSeen = false → Answers (.partBudgetExpiry p) s fun t =>
        t.rd (R.EVR_Pp_OVR_OVERRUN p) = min 0xFFFF (s.rd (R.EVR_Pp_OVR_OVERRUN p) + 1) ∧
        t.now = max s.now (s.frameAt (((s.part p).wstart + (s.part p).budget) * 1000)) ∧
        (s.debugHeld p = false → ∃ e ∈ t.events, e.num = 486) ∧ Keeps s t [R.EVR_Pp_OVR_OVERRUN p]) ∧
      (∀ w, (s.part p).wdgFrom = some w → s.partOnTrial p = false → Answers (.partWdgExpiry p) s fun t =>
        (∃ e ∈ t.events, e.num = 492) ∧ Quiesces p pcWdg s t [])) ∧
    (a.rqc = 0 → a.pid = p →
      ((s.part p).tickAt = none → Answers (.evrDoneWrite a p) s fun t => KeepsQuiet s t []) ∧
      (∀ w, (s.part p).tickAt = some w →
        (s.rd pend = 0 → Answers (.evrDoneWrite a p) s fun t => t.rd inF = 0 ∧ (t.part p).tickAt = none ∧
          (t.part p).usedMax = max (s.part p).usedMax ((s.now - w) / 1000) ∧ KeepsQuiet s t [inF]) ∧
        (s.rd pend = 1 → Answers (.evrDoneWrite a p) s fun t => t.rd inF = 1 ∧ t.rd pend = 0 ∧ (t.part p).tickAt = some s.now ∧
          KeepsQuiet s t [inF, pend])) ∧
      Answers (.evrWdgKick a p) s (fun t => (t.part p).wdgFrom = (s.part p).wdgFrom.map (fun _ => s.now) ∧ KeepsQuiet s t []))

/-- Quiescing and loading (R313, R316 to R318): fences are acknowledged in their order; after the last the partition is
LOADING or, if a command stopped it, STOPPED; a load that fails stops it, one that succeeds starts the test of its pairs. -/
def PartitionsQuiesceAndLoad : Prop :=
  ∀ (s : State) (p : Fin 16), s.parts.length = 16 →
    (∀ e : Fin 8, s.partState p ≠ stQuiescing ∨ (s.part p).fences.head? ≠ some e.val →
      Answers (.fenceAck p e) s fun t => t.parts = s.parts ∧ KeepsQuiet s t []) ∧
    (let gone := fun (lo hi : Nat) (t : State) => ∀ g ∈ t.stagedGroups, lo ≤ g → g < hi → s.groupOwner g ≠ some p.val
     (s.partState p = stQuiescing → (s.part p).fences = [3, 4, 5] → Answers (.fenceAck p 3) s fun t =>
       (t.part p).fences = [4, 5] ∧ gone 0x0200 0x0400 t ∧ KeepsQuiet s t []) ∧
     (s.partState p = stQuiescing → (s.part p).fences = [4, 5] → Answers (.fenceAck p 4) s fun t =>
       (t.part p).fences = [5] ∧ gone 0x0600 0x0640 t ∧ KeepsQuiet s t [])) ∧
    (s.partState p = stQuiescing → (s.part p).fences = [5] →
      let kept := fun t : State => KeepsBut (fun a => eventWord a ∨ blkOf a = some .qmg ∨ blkOf a = some .ksu) s t
        [R.EVR_Pp_FSTAT_STATE p, R.SUP_MODE_DEGR, R.SUP_MODE_MODE]
      (pcStop ∈ (s.part p).causes → Answers (.fenceAck p 5) s fun t => t.partState p = stStopped ∧ (t.part p).fences = [] ∧ kept t) ∧
      ((s.part p).causes = [pcRestart] → Answers (.fenceAck p 5) s fun t => t.partState p = stLoading ∧ (t.part p).fences = [] ∧
        (t.part p).restarts = (s.part p).restarts + 1 ∧ kept t)) ∧
    (∀ out, s.partState p ≠ stLoading ∨ (s.part p).loadOk = true → Answers (.partLoadDone p out) s fun t => t.parts = s.parts ∧ KeepsQuiet s t []) ∧
    (s.partState p = stLoading → (s.part p).loadOk = false →
      (s.partOnTrial p = false → ∀ out c, s.badImage p out = some c → Answers (.partLoadDone p out) s fun t => t.partState p = stStopped ∧
        Raised s t 498 (BitVec.ofNat 8 p :: leBytes 4 c) ∧
        (∀ r ∈ (s.part p).regions, r.rw = true → ∀ a, r.base ≤ a → a < r.base + r.size → t.memGet a = 0) ∧
        (∀ a, (∀ r ∈ (s.part p).regions, r.rw = true → ¬(r.base ≤ a ∧ a < r.base + r.size)) → t.memGet a = s.memGet a) ∧
        (∀ f : Fld, f.ok → (∀ g ∈ [R.EVR_Pp_FSTAT_STATE p, R.SUP_MODE_DEGR, R.SUP_MODE_MODE], f.apart g) → ¬ eventWord f.addr → blkOf f.addr ≠ some .inr →
          t.rd f = s.rd f) ∧ t.pending = s.pending) ∧
      ((∀ k ∈ s.pairsOf p, s.pairState k ≠ psFailed ∧ s.pairState k ≠ psSplitRun ∧ s.isSplit k = false) → s.pairsOf p ≠ [] →
        ∀ out, s.badImage p out = none → Answers (.partLoadDone p out) s fun t => (t.part p).loadOk = true ∧ t.partState p = stLoading ∧
          (∀ k ∈ s.pairsOf p, t.pairState k = psTesting) ∧
          (p.val ∉ s.pairU.fromCkpt → ∀ a, (∀ r ∈ (s.part p).regions, ¬(r.base ≤ a ∧ a < r.base + r.size)) → t.memGet a = s.memGet a) ∧
          (∀ f : Fld, f.ok → blkOf f.addr ≠ some .lsc → t.rd f = s.rd f) ∧ t.pending = s.pending))

/-- Crypto jobs (R326, R410): a virtual queue whose job is not done, or without a queue, takes none; a descriptor that
fails its check, or names memory that R322 does not admit, is consumed, one that passes becomes the job of its queue; an engine without work ends nothing, one that
ends a unit is free and counts it. -/
def CryptoJobsRunOneAtATime : Prop :=
  ∀ (s : State) (v : Fin 32) (e : Fin 5) (out : CryptoOut),
    ((s.jobOf v).isSome = true ∨ s.queueOfVq v = none → Answers (.cryptoJob v) s fun t => t.sec = s.sec ∧ KeepsQuiet s t []) ∧
    (s.jobOf v = none → ∀ q, s.queueOfVq v = some q → ∀ d, s.qFront q = (s, some d) →
      (s.jobBad v d = some stRange → s.rd (R.QMG_QnCFG_EN (s.rd (R.QMG_QnCFG_CQ q))) = 0 → Answers (.cryptoJob v) s fun t =>
        t.sec = s.sec ∧ t.rd (R.QMG_QnCONS_IDX q) = (s.rd (R.QMG_QnCONS_IDX q) + 1) % 65536 ∧ KeepsQuiet s t [R.QMG_QnCONS_IDX q]) ∧
      (s.jobBad v d = none → ∀ addr, s.jobDenied v d = some addr → s.rd (R.QMG_QnCFG_EN (s.rd (R.QMG_QnCFG_CQ q))) = 0 →
        Answers (.cryptoJob v) s fun t => t.sec = s.sec ∧ t.rd (R.QMG_QnCONS_IDX q) = (s.rd (R.QMG_QnCONS_IDX q) + 1) % 65536 ∧
          t.bus = { err := true } ∧ (∃ p, Raised s t 487 p) ∧ Keeps s t [R.QMG_QnCONS_IDX q]) ∧
      (s.jobBad v d = none → s.jobDenied v d = none → s.jobPoison d = [] → Answers (.cryptoJob v) s fun t =>
        t.sec.jobs = s.sec.jobs ++ [{ vq := v, queue := q, desc := d }] ∧
        t.rd (R.QMG_QnCONS_IDX q) = (s.rd (R.QMG_QnCONS_IDX q) + 1) % 65536 ∧
        (∀ u, some u ∈ s.sec.serving → some u ∈ t.sec.serving) ∧
        KeepsQuiet s t (R.QMG_QnCONS_IDX q :: (List.range 5).flatMap fun e => [R.KSU_CEi_STAT_BUSY e, R.KSU_CEi_STAT_VQ e]))) ∧
    (s.sec.serving.getD e none = none → Answers (.cryptoUnitDone e out) s fun t => t.sec = s.sec ∧
      Keeps s t [R.KSU_GATEu_GATED (41 + e), R.KSU_GATEu_HELD (41 + e)]) ∧
    (∀ j, s.sec.jobs = [j] → s.sec.serving = (List.range 5).map (fun i => if i = e.val then some j.vq else none) → j.dead = false →
      s.rd (R.QMG_QnCFG_EN (s.rd (R.QMG_QnCFG_CQ j.queue))) = 0 → le j.desc 0 2 = 0x45 → ∀ st res,
      Answers (.cryptoUnitDone e (.done st res)) s fun t => t.sec.jobs = [] ∧ t.sec.serving.getD e none = none ∧
        t.rd (R.KSU_CEi_STAT_BUSY e) = 0 ∧
        Keeps s t [R.KSU_CEi_STAT_BUSY e, R.KSU_CEi_CNT_UNITS e, R.KSU_GATEu_GATED (41 + e), R.KSU_GATEu_HELD (41 + e)])
/-! The safety island (12_safety_island.md). -/

/-- The frame of an island command: its page, and the switches of the safety outputs. -/
def SilKeeps (s t : State) (more : List Fld) : Prop :=
  KeepsBut (fun a => eventWord a ∨ (0x207A0000 ≤ a ∧ a < 0x207A0030)) s t
    (((List.range 4).flatMap fun d => [wholeReg (R.SO_SWA_STAT d), wholeReg (R.SO_SWB_STAT d)]) ++ more)

/-- Both lines of every safety output and every safe wire low. -/
def LinesLow (t : State) : Prop :=
  (∀ k : Fin 4, t.rd (soBit k 0) = 0 ∧ t.rd (soBit k 1) = 0) ∧ t.rd R.SIL_OUT_SWO_ACT = 0

/-- An evaluation (R334, R343): counted, the two lines of an output equal, and an output on only in RUN without hold, with
every enabled function that names it in RUN or STOPPING; a marker less than 150 µs after the last start is ignored; one
that does not complete leaves the outputs; the own timer's evaluation marks the frame as local. -/
def OutputsFollowTheirFunctions : Prop :=
  ∀ (s : State) (obs : IslandObs),
    let ended := fun t : State => t.rd R.SIL_EVAL_COUNT = (s.rd R.SIL_EVAL_COUNT + 1) % 2 ^ 32 ∧ t.sil.evalDone = true ∧
      (∀ k : Fin 4, t.rd (soBit k 1) = t.rd (soBit k 0) ∧
        (t.rd (soBit k 0) = 1 → t.ilState = ilRun ∧ t.rd R.SIL_STAT_HOLD = 0 ∧ soOn s.ilBody k = true ∧
          (∀ f : Fin 16, fnEn s.ilBody f = true → nbit (fnOut s.ilBody f) k = true → t.fnState f = fnRun ∨ t.fnState f = fnStopping) ∧
          (∃ f : Fin 16, fnEn s.ilBody f = true ∧ nbit (fnOut s.ilBody f) k = true))) ∧ SilKeeps s t []
    (s.ilUp = false → Answers (.islandEvaluation obs) s (fun t => t.sil = s.sil ∧ KeepsQuiet s t []) ∧
      Answers (.islandLocalTimer obs) s (fun t => t.sil = s.sil ∧ KeepsQuiet s t [])) ∧
    (s.ilUp = true →
      (∀ e, s.sil.evalAt = some e → s.now < e + 150000 → Answers (.islandEvaluation obs) s fun t => t.sil = s.sil ∧ KeepsQuiet s t []) ∧
      ((∀ e, s.sil.evalAt = some e → e + 150000 ≤ s.now) →
        (obs.complete = true → Answers (.islandEvaluation obs) s fun t => t.rd R.SIL_STAT_LOCAL_FRAME = 0 ∧ t.sil.evalAt = some s.now ∧ ended t) ∧
        (obs.complete = false → Answers (.islandEvaluation obs) s fun t => t.sil.evalDone = false ∧ t.sil.evalAt = some s.now ∧
          KeepsQuiet s t [R.SIL_STAT_LOCAL_FRAME])) ∧
      (obs.complete = true → (∀ c ∈ s.chans, c.delayOn = none) → Answers (.islandLocalTimer obs) s fun t =>
        t.rd R.SIL_STAT_LOCAL_FRAME = 1 ∧ ended t))

/-- A function at an evaluation (R346, R347): a fault comes first; a demand takes RUN to DEMAND, or to STOPPING with a
delay; what is OK leaves DEMAND, for WAIT_RESET where it is to be acknowledged; a reset release moves WAIT_RESET to RUN. -/
def FunctionsMoveByFaultDemandAndReset : Prop :=
  ∀ (s : State) (b : List Byte) (release : Bool) (f : Fin 16), s.ilState = ilRun → s.rd R.SIL_STAT_HOLD = 0 →
    let r := s.fnEval b release f
    (fnEn b f = false → r.1.fnState f = fnDisabled) ∧
    (fnEn b f = true →
      (s.fnState f = fnLocked ∨ s.fnState f = fnDisabled → r.1.fnState f = fnDemand) ∧
      (s.fnFaulted b f = true → s.fnState f = fnRun ∨ s.fnState f = fnDemand ∨ s.fnState f = fnStopping → r.1.fnState f = fnFault) ∧
      (s.fnState f = fnFault → release = false → r.1.fnState f = fnFault) ∧
      (s.fnFaulted b f = false →
        (s.fnState f = fnRun → s.fnOk b f = true → r.1.fnState f = fnRun) ∧
        (s.fnState f = fnRun → s.fnOk b f = false → fnDelay b f = 0 → r.1.fnState f = fnDemand) ∧
        (s.fnState f = fnRun → s.fnOk b f = false → fnDelay b f ≠ 0 → r.1.fnState f = fnStopping) ∧
        (s.fnState f = fnDemand → s.fnOk b f = true → r.1.fnState f = if fnBit b f 1 then fnWaitReset else fnRun) ∧
        (s.fnState f = fnDemand → s.fnOk b f = false → r.1.fnState f = fnDemand) ∧
        (s.fnState f = fnWaitReset → s.fnOk b f = true → r.1.fnState f = (if release then fnRun else fnWaitReset) ∧ r.2 = release)))

/-- Island faults (R332, R335): each of the causes takes a running island into reset with every line low, reported with its
code; the third within 60 s leaves it in FAULT and Safe Hold; an island that does not run takes none; a line not refreshed
goes low alone, a failed switch test takes its output off. -/
def IslandFaultsTakeTheLinesLow : Prop :=
  ∀ (s : State), (∀ c ∈ s.chans, c.delayOn = none) →
    let causes : List (Instr × Nat) := [(.evalTimeout, fcEvalLate), (.islandWdgExpiry, fcStall),
      (.islandMismatch, fcMismatch), (.islandClockFault, fcClock), (.islandSramError, fcEcc)]
    let faulted := fun (code : Nat) (t : State) => LinesLow t ∧ t.rd R.SIL_FLT_CODE = code ∧ t.rd R.SIL_FLT_SOURCE = 0xFF ∧
      t.rd R.SIL_CNT_FAULTS = min 0xFFFF (s.rd R.SIL_CNT_FAULTS + 1)
    (s.ilUp = false → ∀ x ∈ causes, ∃ t, exec x.1 s = .next t ∧ KeepsQuiet s t []) ∧
    (s.ilUp = true → s.sil.dead = false → s.trialOf tkIsland = false → (∃ e, s.sil.evalAt = some e) → s.sil.evalDone = false →
      (s.sil.faultAt = [] → ∀ x ∈ causes, ∃ t, exec x.1 s = .next t ∧ faulted x.2 t ∧ t.ilState = ilStart ∧ t.sil.dead = false ∧ SilKeeps s t []) ∧
      (∀ e1 e2, s.sil.faultAt = [e1, e2] → s.now < e1 + 60000000000 → s.now < e2 + 60000000000 →
        Answers .islandMismatch s fun t => faulted fcMismatch t ∧ t.ilState = ilFault ∧ t.sil.dead = true ∧ t.rd R.SIL_STAT_HOLD = 1 ∧
          SilKeeps s t [R.SUP_MODE_MODE])) ∧
    Answers .l1SupplyFault s (fun t => LinesLow t ∧ t.rd R.SIL_FLT_CODE = fcSupply ∧ t.ilState = ilStart ∧
      KeepsBut (fun a => 0x20700000 ≤ a ∧ a < 0x20800000) s t ((List.range 4).flatMap fun d => [wholeReg (R.SO_SWA_STAT d), wholeReg (R.SO_SWB_STAT d)])) ∧
    (∀ (k : Fin 4) (b : Bool),
      (s.rd (soBit k (b2n b)) = 0 → Answers (.outputStageTimeout (2 * k + b2n b)) s fun t => KeepsQuiet s t []) ∧
      (s.rd (soBit k (b2n b)) = 1 → Answers (.outputStageTimeout (2 * k + b2n b)) s fun t =>
        t.rd (soBit k (b2n b)) = 0 ∧ t.rd (soGate k b) = 0 ∧ (s.rd (soGate k b) = 1 → t.rd (soOut k b) = 0) ∧
        KeepsQuiet s t [soBit k (b2n b), soGate k b, soOut k b, soCause k b])) ∧
    (∀ (k : Fin 4) (x : SwTest),
      (x.mid = true → x.out = false → x.falls = true → Answers (.switchTestTimer k x) s fun t => t.sil = s.sil ∧ KeepsQuiet s t []) ∧
      (s.ilUp = true → s.rd (soBit k 0) = 1 → soTest s.ilBody k ≠ 0 → x.mid = false ∨ x.out = true ∨ x.falls = false → Answers (.switchTestTimer k x) s fun t =>
        t.rd (soBit k 0) = 0 ∧ t.rd (soBit k 1) = 0 ∧ t.rd (soBit k 3) = 1 ∧ t.ilHas fcSoStuckOn k = true ∧ SilKeeps s t []))

/-- Inputs of the island (R336 to R342, R346): filtered levels; a discrepancy that lasts; the pulses of a TP output, missing
or seen where they do not belong; SAFE-RESET's press and release; the periods of a safe wire; pair-fault lines. -/
def IslandInputsTakeTheirChecks : Prop :=
  ∀ (s : State) (i : Fin 8) (w : Fin 4), s.sil.flt.length = 8 → s.sil.swiGood.length = 4 → s.sil.swiDem.length = 4 →
      s.sil.tpGood.length = 4 → s.sil.siGood.length = 8 →
    (∀ chB level, Answers (.siFilterExpiry i chB level) s fun t => t.chLevel i chB = level ∧ t.chLevel i (!chB) = s.chLevel i (!chB) ∧
      KeepsQuiet s t []) ∧
    (s.sil.disc.getD i none = none → Answers (.discrepancyTimeout i) s fun t => t.sil = s.sil ∧ KeepsQuiet s t []) ∧
    (∀ d, s.sil.disc.getD i none = some d → s.ilUp = true → (∀ c ∈ s.chans, c.delayOn = none) → Answers (.discrepancyTimeout i) s fun t =>
      t.ilHas fcDiscrepancy i = true ∧ t.rd (inFld i 3) = 1 ∧ t.now = max s.now (d + inDisc s.ilBody i * 1000000) ∧
      (s.ilHas fcDiscrepancy i = false → t.rd R.SIL_FLT_CODE = fcDiscrepancy ∧ t.rd R.SIL_FLT_SOURCE = i) ∧
      KeepsQuiet s t [inFld i 3, R.SIL_FLT_CODE, R.SIL_FLT_SOURCE, R.SIL_CNT_FAULTS]) ∧
    (∀ (tp : Fin 4) (obs : TpObs),
      (s.ilUp = false ∨ tpOn s.ilBody tp = false → Answers (.tpPulse tp obs) s fun t => t.sil = s.sil ∧ KeepsQuiet s t []) ∧
      (s.ilUp = true → tpOn s.ilBody tp = true → Answers (.tpPulse tp obs) s fun t =>
        (obs.stuck = true → t.ilHas fcTpOutput tp = true) ∧
        (obs.stuck = false → t.sil.tpGood.getD tp 0 = s.sil.tpGood.getD tp 0 + 1) ∧
        (isContact s.ilBody i = true → ∀ chB c, s.tpCheck s.ilBody tp obs.seen i chB = c → c ≠ 0 → t.ilHas c i = true) ∧
        KeepsQuiet s t [R.SIL_FLT_CODE, R.SIL_FLT_SOURCE, R.SIL_CNT_FAULTS])) ∧
    Answers (.safeResetEdge true) s (fun t => (s.sil.high = none → t.sil.high = some s.now) ∧ KeepsQuiet s t []) ∧
    Answers (.safeResetEdge false) s (fun t => t.sil.high = none ∧
      (∀ h, s.sil.high = some h → (t.sil.release = true ↔ s.sil.stuck = false ∧ 100000000 ≤ s.now - h ∧ s.now - h ≤ 5000000000) ∧
        (5000000000 < s.now - h → s.ilUp = true → t.ilHas fcResetStuck 0xFF = true)) ∧
      KeepsQuiet s t [R.SIL_FLT_CODE, R.SIL_FLT_SOURCE, R.SIL_CNT_FAULTS]) ∧
    (s.sil.high = none → Answers .safeResetStuck s fun t => t.sil = s.sil ∧ KeepsQuiet s t []) ∧
    (∀ h, s.sil.high = some h → s.ilUp = true → s.ilHas fcResetStuck 0xFF = false → (∀ c ∈ s.chans, c.delayOn = none) →
      Answers .safeResetStuck s fun t => t.ilHas fcResetStuck 0xFF = true ∧ t.sil.stuck = true ∧ t.rd R.SIL_FLT_CODE = fcResetStuck ∧
        KeepsQuiet s t [R.SIL_FLT_CODE, R.SIL_FLT_SOURCE, R.SIL_CNT_FAULTS]) ∧
    (s.ilUp = true → swiOn s.ilBody w = true →
      (∀ p h, Answers (.swiPeriod w p h) s fun t =>
        (900 ≤ p ∧ p ≤ 1100 ∧ 260 + 100 * swiCode s.ilBody w ≤ h ∧ h ≤ 340 + 100 * swiCode s.ilBody w →
          t.sil.swiGood.getD w 0 = s.sil.swiGood.getD w 0 + 1 ∧
          t.sil.swiDem.getD w true = (s.sil.swiDem.getD w true && decide (s.sil.swiGood.getD w 0 + 1 < 4))) ∧
        (¬(900 ≤ p ∧ p ≤ 1100 ∧ 260 + 100 * swiCode s.ilBody w ≤ h ∧ h ≤ 340 + 100 * swiCode s.ilBody w) →
          t.sil.swiGood.getD w 0 = 0 ∧ t.sil.swiDem = s.sil.swiDem) ∧ KeepsQuiet s t []) ∧
      ((∀ c ∈ s.chans, c.delayOn = none) → Answers (.swiFilterExpiry w) s fun t => t.sil.swiGood.getD w 0 = 0 ∧ t.sil.swiDem.getD w true = true ∧
        t.now = (match s.sil.swiAt.getD w none with | some x => max s.now (x + le s.ilBody (82 + 4 * w) 2 * 100000) | none => s.now) ∧
        KeepsQuiet s t [])) ∧
    (∀ level : Bool, s.sil.pairs < 256 → Answers (.pairFaultLine i level) s fun t => nbit t.sil.pairs i = level ∧
      (∀ j : Fin 8, j ≠ i → nbit t.sil.pairs j = nbit s.sil.pairs j) ∧ KeepsQuiet s t [])

/-- The island's start and its read by the Forester (R352, R353, R359): it runs from its own parameters where the SAFETY
record's check value is theirs, with every enabled function in DEMAND; a failed start-up test is a fault; the mirror takes
the eleven words, and the events collected are raised. -/
def IslandStartsAndIsRead : Prop :=
  ∀ (s : State),
    (∀ res, s.ilState ≠ ilStart ∨ s.sil.dead = true → Answers (.islandStart res) s fun t => t.sil = s.sil ∧ KeepsQuiet s t []) ∧
    (∀ res : IslandStartRes, s.ilState = ilStart → s.sil.dead = false → s.svr.boot ≠ 2 → 8 ≤ s.svr.rel → s.trialOf tkIsland = false →
      let bank := if s.rd R.ISB_STAT_TRIAL = 1 then 1 - s.sil.sel else s.sil.sel
      (res.selfTest = false → s.sil.faultAt = [] → Answers (.islandStart res) s fun t =>
        t.ilState = ilStart ∧ t.rd R.SIL_FLT_CODE = fcStartTest ∧ LinesLow t ∧ SilKeeps s t [R.ISB_STAT_TRIAL]) ∧
      (∀ k : Fin 4, ∀ x, res.switches = [(k, x)] → x.out = true → soOn s.ilBody k = true → s.sil.faultAt = [] → Answers (.islandStart res) s fun t =>
        t.ilState = ilStart ∧ t.rd R.SIL_FLT_CODE = fcStartTest ∧ t.ilHas fcSoStuckOn k = true ∧ LinesLow t ∧ SilKeeps s t [R.ISB_STAT_TRIAL]) ∧
      (res.selfTest = true → res.switches = [] → res.trialBad = false → s.sil.sel < 2 → ∀ p, s.ilCopy = some p → ∀ body, s.ilRecord = some (body, p.check) →
        p.check < 2 ^ 32 → Answers (.islandStart res) s fun t =>
          t.ilState = ilRun ∧ t.rd R.SIL_STAT_BANK = bank ∧ t.rd R.SIL_STAT_STARTS = min 255 (s.rd R.SIL_STAT_STARTS + 1) ∧
          t.rd R.SIL_STAT_CONFIRMED = 1 ∧ t.rd R.SIL_CHECK_VALUE = p.check ∧ t.rd R.SIL_CONF_VALUE = p.check ∧
          t.rd R.SIL_STAT_HOLD = (if s.mode = mdService then 1 else 0) ∧ t.rd R.ISB_STAT_TRIAL = 0 ∧
          (∀ f : Fin 16, t.fnState f = if fnEn p.body f then fnDemand else fnDisabled) ∧ SilKeeps s t [R.ISB_STAT_TRIAL]) ∧
      (res.selfTest = true → res.switches = [] → s.ilRecord = none → Answers (.islandStart res) s fun t => LinesLow t ∧ t.rd R.SIL_STAT_HOLD = 1 ∧
        SilKeeps s t [R.ISB_STAT_TRIAL, R.SUP_MODE_MODE])) ∧
    (s.svr.rel ≤ 6 ∨ s.rd (R.GWB_Lg_STAT_UP 1) = 0 → Answers .islandMirrorRead s fun t => t.sil = s.sil ∧ KeepsQuiet s t []) ∧
    (6 < s.svr.rel → s.rd (R.GWB_Lg_STAT_UP 1) = 1 → (∀ x ∈ s.sil.evs, x.1 < 512) → Answers .islandMirrorRead s fun t =>
      t.sil.mirror = (List.range 11).map (fun i => s.raw (R.SIL_STAT + 4 * i)) ∧ t.sil.evs = [] ∧
      (∀ x ∈ s.sil.evs, Raised s t x.1 x.2.1) ∧ Keeps s t [])

/-- The bank port (R432): CONFIRM keeps the bank on trial, RESTART resets the island, TRIAL asks for one; ERASE and a
program of a word begin where no operation runs, and end with their flag, the word and the next address. -/
def BankPortErasesProgramsAndSelects : Prop :=
  ∀ (s : State) (a : Attr) (v : Word),
    let addr := s.rd R.ISB_ADDR_ADDR / 4 * 4
    (Reaches a R.ISB_CTRL true s →
      Answers (.isbConfirm a) s (fun t => t.sil.sel = (if s.sil.onTrial then s.rd R.SIL_STAT_BANK else s.sil.sel) ∧
        t.sil.onTrial = false ∧ KeepsQuiet s t []) ∧
      Answers (.isbRestart a) s (fun t => t.ilState = ilStart ∧ LinesLow t ∧ t.sil.sel = s.sil.sel ∧ SilKeeps s t []) ∧
      Answers (.isbTrialSet a) s (fun t => t.rd R.ISB_STAT_TRIAL = 1 ∧ KeepsQuiet s t [R.ISB_STAT_TRIAL]) ∧
      (s.sil.op = none → Answers (.isbErase a) s fun t => t.sil.op = some none ∧ t.rd R.ISB_STAT_BUSY = 1 ∧ KeepsQuiet s t [R.ISB_STAT_BUSY]) ∧
      (s.sil.op ≠ none → Answers (.isbErase a) s fun t => t.sil = s.sil ∧ KeepsQuiet s t [])) ∧
    (Reaches a R.ISB_DATA true s →
      (s.sil.op = none → addr < 507904 → Answers (.isbProgram a v) s fun t => t.sil.op = some (some (addr, v)) ∧
        t.rd R.ISB_STAT_BUSY = 1 ∧ KeepsQuiet s t [R.ISB_STAT_BUSY]) ∧
      (s.sil.op = none → 507904 ≤ addr → Answers (.isbProgram a v) s fun t => t.rd R.ISB_STAT_ERR = 1 ∧ t.sil = s.sil ∧
        KeepsQuiet s t [R.ISB_STAT_ERR]) ∧
      (s.sil.op ≠ none → Answers (.isbProgram a v) s fun t => t.sil = s.sil ∧ KeepsQuiet s t [])) ∧
    (∀ ok, s.sil.op = none → Answers (.isbFlashDone ok) s fun t => t.sil = s.sil ∧ KeepsQuiet s t []) ∧
    (∀ x w, s.sil.op = some (some (x, w)) → s.sil.fw.length = 2 →
      Answers (.isbFlashDone true) s (fun t => t.sil.op = none ∧ t.rd R.ISB_STAT_BUSY = 0 ∧ t.rd R.ISB_ADDR_ADDR = (x + 4) % 2 ^ 19 ∧
        t.sil.fw.getD (1 - s.rd R.SIL_STAT_BANK) [] = sput (s.sil.fw.getD (1 - s.rd R.SIL_STAT_BANK) []) x w ∧
        KeepsQuiet s t [R.ISB_STAT_BUSY, R.ISB_ADDR_ADDR]) ∧
      Answers (.isbFlashDone false) s (fun t => t.sil.op = none ∧ t.rd R.ISB_STAT_ERR = 1 ∧ t.sil.fw = s.sil.fw ∧
        KeepsQuiet s t [R.ISB_STAT_BUSY, R.ISB_ADDR_ADDR, R.ISB_STAT_ERR])) ∧
    (s.sil.op = some none → s.sil.fw.length = 2 → Answers (.isbFlashDone true) s fun t => t.sil.op = none ∧
      t.sil.fw.getD (1 - s.rd R.SIL_STAT_BANK) [(0, 0)] = [] ∧ KeepsQuiet s t [R.ISB_STAT_BUSY])
/-! Pairing, lease and takeover (13_pairing.md). -/

/-- The words that a change of role may write: outputs, transceivers with their gating, partitions with their mailboxes and
queues, Landing, Ethernet ports, the mode, and the pairing window. -/
def roleWord (a : Nat) : Prop :=
  eventWord a ∨ (0x20030000 ≤ a ∧ a < 0x20041000) ∨
    ∃ b, blkOf a = some b ∧ b ∈ [Blk.ch, .bole, .uio, .ss, .trx, .can, .lsc, .evr, .qmg, .sup, .lgw, .esw, .pair]

/-- The lease state of this module and its four lease lines. -/
def leaseFlds : List Fld := R.PAIR_STAT_LEASE_OUT :: (List.range 4).map R.BOLE_STAT_LEASE
def LeaseIs (t : State) (v : Nat) : Prop := t.rd R.PAIR_STAT_LEASE_OUT = v ∧ ∀ d : Fin 4, t.rd (R.BOLE_STAT_LEASE d) = v

/-- Sending (R369, R370, R374, R389): RENEW in frames with SLOT 0 or 20 while the lease is active and served within 5 ms,
HELLO in RESERVE, STATE from the lead with its IMAGE as a turn begins; 15 ms without service take the lease lines down. -/
def PairingSendsWhileItsRoleAllows : Prop :=
  ∀ (s : State), (∀ c ∈ s.chans, c.delayOn = none) →
    let live := s.rd R.PAIR_STAT_LEASE_OUT = 1 ∧ s.pairU.chkLease = true ∧ (s.rd R.FRM_STAT_SLOT = 0 ∨ s.rd R.FRM_STAT_SLOT = 20) ∧
      s.frameAt 235000 ≤ s.pairU.served + 5000000
    (live → Answers .renewSend s fun t => t.now = max s.now (s.frameAt 235000) ∧
      t.pairU.sent = [⟨1, s.pairU.txSeq.getD 1 0, leBytes 1 s.pairFlags ++ s.pairDigests ++ leBytes 1 (b2n s.tly.commitAt.isSome)⟩] ∧
      KeepsQuiet s t []) ∧
    (¬ live → Answers .renewSend s fun t => t.pairU = s.pairU ∧ KeepsQuiet s t []) ∧
    (s.role = roReserve → Answers .helloSend s fun t => t.pairU.sent =
      [⟨7, s.pairU.txSeq.getD 7 0, leBytes 1 s.pairFlags ++ leBytes 1 (s.rd R.PAIR_STAT_SYNCED) ++ s.pairDigests⟩] ∧ KeepsQuiet s t []) ∧
    (s.role ≠ roReserve → Answers .helloSend s fun t => t.pairU = s.pairU ∧ KeepsQuiet s t []) ∧
    (s.role = roLead ∨ s.role = roHanding → Answers .stateSend s fun t => t.now = max s.now (s.frameAt 230000) ∧
      (∃ x rest, t.pairU.sent = x :: rest ∧ x.type = 4 ∧ x.seq = s.pairU.txSeq.getD 4 0 ∧
        (∀ y ∈ rest, y.type = 4 ∨ (y.type = 5 ∧ s.frm.newTurn = true)) ∧ ∀ y ∈ x :: rest, y.type = 4 → y.body.length ≤ 308) ∧ KeepsQuiet s t []) ∧
    (s.role ≠ roLead → s.role ≠ roHanding → Answers .stateSend s fun t => t.pairU = s.pairU ∧ KeepsQuiet s t []) ∧
    (s.rd R.PAIR_STAT_LEASE_OUT = 1 → Answers .leaseSelfExpiry s fun t => t.now = max s.now (s.pairU.served + 15000000) ∧
      LeaseIs t 0 ∧ t.pairU.chkLease = false ∧ t.pairU.chkRel = false ∧ KeepsQuiet s t leaseFlds) ∧
    (s.rd R.PAIR_STAT_LEASE_OUT = 0 → Answers .leaseSelfExpiry s fun t => t.pairU = s.pairU ∧ KeepsQuiet s t [])

/-- Pairing frames (R389): one of another pair, of an older EPOCH or malformed is counted and has no other effect. -/
def PairingDiscardsWhatIsNotItsPartners : Prop :=
  ∀ (s : State) (f : PairFrame), s.pairGood f = false →
    ∀ i ∈ [Instr.renewReceived f, .mirrorReceived f, .ackReceived f, .stateReceived f, .imageReceived f, .ckptReceived f,
        .helloReceived f, .handbackReceived f],
      Answers i s fun t => t.rd R.PAIR_CNT1_BADFRM = min 0xFFFF (s.rd R.PAIR_CNT1_BADFRM + 1) ∧ t.pairU = s.pairU ∧
        KeepsQuiet s t [R.PAIR_CNT1_BADFRM]

/-- Renewals and hellos (R371 to R373, R375): a renewal restarts the age of the reserve, and makes a lead yield; a hello lets
the lead wait for the reserve's acknowledgements; 20 ms without one end that. -/
def RenewalsAndHellosKeepThePairTogether : Prop :=
  ∀ (s : State) (f : PairFrame), s.pairGood f = true → f.epoch < 65536 →
    (s.role = roReserve → Answers (.renewReceived f) s fun t => t.pairU.renewAt = some s.now ∧ t.pairU.held = false ∧
      t.epoch = f.epoch ∧ t.rd R.PAIR_AGE_RENEW = 0 ∧ t.rd R.PAIR_STAT_PL_OK = 1 ∧ t.role = roReserve ∧
      (s.pairU.lost.1 = true → Raised s t 418 [0]) ∧
      Keeps s t [R.PAIR_STAT_EPOCH, R.PAIR_AGE_RENEW, R.PAIR_AGE_SIG, R.PAIR_STAT_PL_OK, R.PAIR_STAT_SYNCED]) ∧
    (s.role = roArbitrate → Answers (.renewReceived f) s fun t => t.role = roReserve ∧ t.pairU.waitEnd = none ∧
      t.epoch = f.epoch ∧ t.rd R.LGW_CTRL_RUN = s.rd R.PAIR_CFG_TWIN ∧ KeepsBut roleWord s t []) ∧
    (s.role = roLead → Answers (.renewReceived f) s fun t => t.role = roReserve ∧ LeaseIs t 0 ∧ t.pairU.held = true ∧
      t.rd R.PAIR_CNT0_YIELDS = min 0xFFFF (s.rd R.PAIR_CNT0_YIELDS + 1) ∧ Raised s t 421 [0] ∧
      (s.mode = mdLead ∨ s.mode = mdDegraded → t.mode = mdReserve) ∧ KeepsBut roleWord s t []) ∧
    Answers (.helloReceived f) s (fun t => t.pairU.helloAt = some s.now ∧ t.pairU.peerSynced = bitAt f.body 0 ∧
      t.rd R.PAIR_STAT_PL_OK = 1 ∧
      t.rd R.PAIR_STAT_MIRROR_OK = (if s.role = roLead ∧ s.peerNear = false then 1 else s.rd R.PAIR_STAT_MIRROR_OK) ∧
      Keeps s t [R.PAIR_STAT_MIRROR_OK, R.PAIR_AGE_RENEW, R.PAIR_AGE_SIG, R.PAIR_STAT_PL_OK]) ∧
    (∀ h, s.pairU.helloAt = some h → s.pairU.mirrorHold = false → (∀ c ∈ s.chans, c.delayOn = none) → Answers .helloAgeExpiry s fun t =>
      t.now = max s.now (h + 20000000) ∧ t.rd R.PAIR_STAT_MIRROR_OK = 0 ∧ t.pairU.peerSynced = false ∧
      KeepsQuiet s t [R.PAIR_STAT_MIRROR_OK, R.PAIR_AGE_RENEW, R.PAIR_AGE_SIG, R.PAIR_STAT_PL_OK]) ∧
    (s.pairU.helloAt = none → Answers .helloAgeExpiry s fun t => t.pairU = s.pairU ∧ KeepsQuiet s t [])

/-- The image (R373, R374): a MIRROR is stored in SEQ order and acknowledged; an ACK or 12 µs without one end the wait, and
a COMMIT held for it takes its instant; STATE and IMAGE replace what the reserve holds. -/
def TheReserveHoldsTheImage : Prop :=
  ∀ (s : State) (f : PairFrame), s.pairGood f = true → f.slotT < 2 ^ 32 →
    let words := fun l : List (Nat × Word) => (pairsFrom ((f.body.drop 4).length / 8) (f.body.drop 4)).foldl (fun l x => sput l x.1 x.2) l
    let held := fun t : State => (s.pairU.mirrorHold = true → ∀ m t0, s.pairU.mirror = some (m, t0) → ∀ c i, s.commitWaiting m = some (c, i) →
      c.groups ≠ [] → ∃ x ∈ t.commits, x.issuer = m ∧ x.instant = some t.now)
    (s.role ≠ roReserve → ∀ i ∈ [Instr.mirrorReceived f, .stateReceived f, .imageReceived f] ++ (if s.pairU.final = none then [.ckptReceived f] else []),
      ∃ t, exec i s = .next t ∧ t.pairU.image = s.pairU.image ∧ t.pairU.kcs = s.pairU.kcs ∧ KeepsQuiet s t []) ∧
    (s.role = roReserve →
      Answers (.mirrorReceived f) s (fun t => (∃ l, t.pairU.sent = l ++ [⟨3, s.pairU.txSeq.getD 3 0, leBytes 2 f.seq⟩] ∧ ∀ y ∈ l, y.type = 8) ∧
        (s.pairU.rxSeq.getD 2 65536 = f.seq → t.rd R.PAIR_IMG_FRAME = f.slotT ∧ t.pairU.image = words s.pairU.image ∧ t.pairU.haveImage = s.pairU.haveImage) ∧
        (s.pairU.rxSeq.getD 2 65536 ≠ f.seq → s.pairU.rxSeq.getD 2 65536 ≠ 65536 → t.pairU.image = s.pairU.image ∧
          t.rd R.PAIR_IMG_FRAME = s.rd R.PAIR_IMG_FRAME ∧ t.rd R.PAIR_STAT_SYNCED = 0 ∧ (s.rd R.PAIR_STAT_SYNCED = 1 → Raised s t 424 [0])) ∧
        Keeps s t [R.PAIR_IMG_FRAME, R.PAIR_STAT_SYNCED]) ∧
      Answers (.stateReceived f) s (fun t => t.pairU.kcs.length = f.body.length / 12 ∧
        (∀ i, i < f.body.length / 12 → (t.pairU.kcs.getD i (0, 0, 0)).1 = le f.body (12 * i) 4 ∧
          (t.pairU.kcs.getD i (0, 0, 0)).2.1 = signed 32 (le f.body (12 * i + 4) 4)) ∧ KeepsQuiet s t []) ∧
      (le f.body 0 2 = 0 → le f.body 2 2 = 1 → Answers (.imageReceived f) s fun t => t.pairU.haveImage = true ∧
        t.pairU.image = words s.pairU.image ∧ t.rd R.PAIR_IMG_FRAME = f.slotT ∧ Keeps s t [R.PAIR_IMG_FRAME, R.PAIR_STAT_SYNCED]) ∧
      (le f.body 0 2 ≠ 0 → le f.body 0 2 ≠ s.pairU.imgRun → Answers (.imageReceived f) s fun t =>
        t.pairU.image = s.pairU.image ∧ t.pairU.haveImage = s.pairU.haveImage ∧ t.pairU.imgRun = 0 ∧ KeepsQuiet s t [])) ∧
    (∀ m t0, s.pairU.mirror = some (m, t0) →
      ((le f.body 0 2 + 1) % 65536 = s.pairU.txSeq.getD 2 0 → Answers (.ackReceived f) s fun t => t.pairU.mirror = none ∧
        t.rd R.PAIR_STAT_MIRROR_OK = 1 ∧ held t ∧ (s.pairU.mirrorHold = false → KeepsQuiet s t [R.PAIR_STAT_MIRROR_OK])) ∧
      ((le f.body 0 2 + 1) % 65536 ≠ s.pairU.txSeq.getD 2 0 → Answers (.ackReceived f) s fun t => t.commits = s.commits ∧ KeepsQuiet s t []) ∧
      ((∀ c ∈ s.chans, c.delayOn = none) → Answers .mirrorAckTimeout s fun t => t.now = max s.now (t0 + 12000) ∧ t.pairU.mirror = none ∧
        t.rd R.PAIR_STAT_MIRROR_OK = 0 ∧ t.rd R.PAIR_CNT1_MIRROR_TO = min 0xFFFF (s.rd R.PAIR_CNT1_MIRROR_TO + 1) ∧
        (∃ e ∈ t.events, e.num = 422) ∧ held t ∧
        (s.pairU.mirrorHold = false → Keeps s t [R.PAIR_STAT_MIRROR_OK, R.PAIR_CNT1_MIRROR_TO]))) ∧
    (s.pairU.mirror = none → Answers .mirrorAckTimeout s fun t => t.pairU = s.pairU ∧ KeepsQuiet s t [])

/-- Checkpoints (R376, R377): a segment that fails its check, or has another length, is ignored; one that passes is kept; the
last one completes the checkpoint of its turn, which the reserve keeps, and from which a lead that has taken the lease back and
waits for it starts its partitions. -/
def CheckpointsCompleteWithTheirLastSegment : Prop :=
  ∀ (s : State) (f : PairFrame), s.pairGood f = true → s.role = roReserve ∨ s.pairU.final ≠ none → le f.body 1 4 < 2 ^ 32 →
    let seg := (le f.body 0 1, le f.body 5 4, (f.body.drop 9).take 256)
    let parts := (if s.pairU.ckptTurn = le f.body 1 4 then s.pairU.ckptParts else []).filter
      (fun x => !(x.1 = seg.1 && x.2.1 = seg.2.1)) ++ [seg]
    (f.body.length ≠ 269 ∨ le f.body 265 4 ≠ crc32c (f.body.take 265) → Answers (.ckptReceived f) s fun t =>
      t.pairU.ckptParts = s.pairU.ckptParts ∧ t.pairU.ckptDone = s.pairU.ckptDone ∧ KeepsQuiet s t []) ∧
    (f.body.length = 269 → le f.body 265 4 = crc32c (f.body.take 265) →
      (s.ckptWhole parts = false → Answers (.ckptReceived f) s fun t => t.pairU.ckptParts = parts ∧
        t.pairU.ckptDone = s.pairU.ckptDone ∧ KeepsQuiet s t []) ∧
      (s.ckptWhole parts = true →
        let done := fun t : State => t.pairU.ckptParts = [] ∧ t.rd R.PAIR_CKPT_FRAME = le f.body 1 4 ∧
          t.pairU.ckptDone.map (·.1) = some (le f.body 1 4)
        (s.pairU.final ≠ some (le f.body 1 4) → Answers (.ckptReceived f) s fun t => done t ∧
          Keeps s t [R.PAIR_CKPT_FRAME, R.PAIR_STAT_SYNCED]) ∧
        (s.pairU.final = some (le f.body 1 4) → Answers (.ckptReceived f) s fun t => done t ∧ t.pairU.final = none ∧
          (∀ p : Fin 16, (s.part p).created = true → s.partState p = stStopped → (s.part p).spent = false →
            t.partState p = stLoading ∧ p.val ∈ t.pairU.fromCkpt) ∧ KeepsBut roleWord s t [])))

/-- The lease (R367, R368, R371, R372): the end of ARBITRATE acquires it with a new EPOCH; a reserve whose both ages pass
takes over, in Commissioning only with the event; a valid CHK-LEASE ends ARBITRATE, and for 1 ms makes a lead yield. -/
def TheLeaseIsAcquiredTakenAndYielded : Prop :=
  ∀ (s : State), (∀ c ∈ s.chans, c.delayOn = none) →
    (∀ w, s.pairU.waitEnd = some w → s.role = roArbitrate → s.rd R.PAIR_STAT_SIG_OK = 0 → Answers .arbitrateEnd s fun t =>
      t.role = roLead ∧ LeaseIs t 1 ∧ t.epoch = (s.epoch + 1) % 65536 ∧ t.pairU.chkLease = true ∧ t.pairU.chkRel = true ∧
      t.rd R.LGW_CTRL_RUN = 1 ∧
      (∀ p : Fin 16, (s.part p).created = true → s.partState p = stStopped → (s.part p).autostart = true → (s.part p).spent = false →
        t.partState p = stLoading) ∧ KeepsBut roleWord s t []) ∧
    (s.pairU.waitEnd = none ∨ s.rd R.PAIR_STAT_SIG_OK = 1 → Answers .arbitrateEnd s fun t => t.pairU = s.pairU ∧ KeepsQuiet s t []) ∧
    (s.role = roReserve → s.pairU.held = false → s.rd R.PAIR_STAT_SIG_OK = 0 → Answers .leaseExpiry s fun t =>
      t.now = max s.now (max ((s.pairU.renewAt.getD 0) + 20000000) ((s.pairU.sigAt.getD 0) + 2000000)) ∧
      (∃ e ∈ t.events, e.num = 419 ∧ e.payload = leBytes 4 (s.rd R.PAIR_CKPT_FRAME)) ∧
      t.role = (if s.mode = mdCommission then roReserve else roTakeover) ∧
      (s.mode ≠ mdCommission → t.pairU.stage = 0 ∧ t.pairU.tx = some t.now ∧ (s.mode = mdReserve → t.mode = mdTakeover)) ∧
      KeepsBut roleWord s t []) ∧
    (s.role ≠ roReserve ∨ s.pairU.held = true ∨ s.rd R.PAIR_STAT_SIG_OK = 1 → Answers .leaseExpiry s fun t =>
      t.pairU = s.pairU ∧ KeepsQuiet s t []) ∧
    (∀ sig : Bool,
      let renEnd := s.pairU.renewAt.getD 0 + 20000000
      let sigEnd := s.pairU.sigAt.getD 0 + 2000000
      let at_ := max s.now (if sig then sigEnd else renEnd)
      let both := if sig then renEnd < at_ else s.rd R.PAIR_STAT_SIG_OK = 0 ∧ sigEnd < at_
      let was := if sig then s.pairU.lost.2 else s.pairU.lost.1
      (s.role ≠ roReserve ∨ was = true ∨ (sig = true ∧ s.rd R.PAIR_STAT_SIG_OK = 1) → Answers (.pairAgeLimit sig) s fun t =>
        t.pairU = s.pairU ∧ KeepsQuiet s t []) ∧
      (s.role = roReserve → was = false → (sig = true → s.rd R.PAIR_STAT_SIG_OK = 0) → Answers (.pairAgeLimit sig) s fun t => t.now = at_ ∧
        (both → t.pairU.lost = s.pairU.lost) ∧
        (¬both → (∃ e ∈ t.events, e.num = 417 ∧ e.payload = [BitVec.ofNat 8 (b2n sig)]) ∧
          (if sig then t.pairU.lost.2 else t.pairU.lost.1) = true) ∧ Keeps s t [])) ∧
    (∀ v : Bool, s.rd R.PAIR_STAT_SIG_OK = b2n v → Answers (.chkLeaseInChange v) s fun t => t.pairU = s.pairU ∧ KeepsQuiet s t []) ∧
    (s.rd R.PAIR_STAT_SIG_OK = 1 → Answers (.chkLeaseInChange false) s fun t => t.rd R.PAIR_STAT_SIG_OK = 0 ∧
      t.pairU.sigAt = some s.now ∧ t.pairU.sigFrom = none ∧ KeepsQuiet s t [R.PAIR_STAT_SIG_OK]) ∧
    (s.rd R.PAIR_STAT_SIG_OK = 0 →
      Answers (.chkLeaseInChange true) s (fun t => t.rd R.PAIR_STAT_SIG_OK = 1 ∧ t.pairU.sigFrom = some s.now ∧
        t.role = (if s.role = roArbitrate then roReserve else s.role) ∧ (s.pairU.lost.2 = true → Raised s t 418 [1]) ∧
        (s.role ≠ roArbitrate → Keeps s t [R.PAIR_STAT_SIG_OK]) ∧ KeepsBut roleWord s t [])) ∧
    (s.role = roLead → ∀ x why, (s.pairU.sigFrom = some x ∧ (∀ u, s.pairU.relFrom = some u → x ≤ u) ∧ why = 1) ∨
        (s.pairU.relFrom = some x ∧ (∀ u, s.pairU.sigFrom = some u → x < u) ∧ why = 2) →
      Answers .chokerYieldTimer s fun t => t.role = roReserve ∧ LeaseIs t 0 ∧ t.now = max s.now (x + 1000000) ∧
        t.rd R.PAIR_CNT0_YIELDS = min 0xFFFF (s.rd R.PAIR_CNT0_YIELDS + 1) ∧
        (∃ e ∈ t.events, e.num = 421 ∧ e.payload = leBytes 1 why) ∧ KeepsBut roleWord s t []) ∧
    (s.role ≠ roLead → Answers .chokerYieldTimer s fun t => t.pairU = s.pairU ∧ KeepsQuiet s t [])

/-- The pairing release (R103, R364): the level reaches the four bole dies; where it rises, every PAIRED channel that
conducts turns off with its cause. -/
def TheReleaseTurnsPairedChannelsOff : Prop :=
  ∀ (s : State) (level : Bool), Answers (.chkReleaseInChange level) s fun t =>
    t.rd R.PAIR_STAT_REL_IN = b2n level ∧ (∀ d : Fin 4, t.rd (R.BOLE_STAT_RELEASE d) = b2n level) ∧
    (∀ n : Fin 64, level = true → s.rd (R.BOLE_STAT_RELEASE (dieOf n)) = 0 → s.rd (R.CHn_ROLE_PAIRED n) = 1 → s.chOnState n = true →
      t.rd (R.CHn_STAT_OUT n) = 0 ∧ t.rd (R.CHn_STAT_CAUSE n) = caRelease ∧ t.rd (R.CHn_STAT_STATE n) = csNoLease) ∧
    KeepsBut (fun a => eventWord a ∨ ∃ n : Fin 64, level = true ∧ s.rd (R.CHn_ROLE_PAIRED n) = 1 ∧ chPage n a) s t
      (R.PAIR_STAT_REL_IN :: (List.range 4).map R.BOLE_STAT_RELEASE)

/-- Takeover (R380): the lease lines 10 µs before the switch unless CHK-RELEASE IN is high, the switch, and the release 90 µs
after it, which makes the module LEAD, with its partitions started from the newest complete checkpoint, or after the final one
of a takeback; each stage only after the one before, at its own instant (in a takeback its commands give the instants). -/
def TakeoverRunsInThreeStages : Prop :=
  ∀ (s : State), (∀ c ∈ s.chans, c.delayOn = none) →
    let able := s.pairU.stage = 0 ∧ (s.role = roTakeover ∨ (s.role = roReserve ∧ s.pairU.taking = true))
    (¬ able → Answers .takeoverLeaseEnable s fun t => t.pairU = s.pairU ∧ KeepsQuiet s t []) ∧
    (able → s.rd R.PAIR_STAT_REL_IN = 1 →
      (s.pairU.stuck = false → Answers .takeoverLeaseEnable s fun t => t.pairU.stuck = true ∧ t.pairU.stage = 0 ∧
        (s.role = roTakeover → t.now = max s.now (s.pairU.tb - 10000)) ∧ (∃ e ∈ t.events, e.num = 427) ∧ Keeps s t []) ∧
      (s.pairU.stuck = true → Answers .takeoverLeaseEnable s fun t => t.pairU = s.pairU ∧ KeepsQuiet s t [])) ∧
    (able → s.rd R.PAIR_STAT_REL_IN = 0 →
      (s.role = roTakeover ∨ s.pairU.stuck = false ∨ s.pairU.relLow + 10000 ≤ s.now → Answers .takeoverLeaseEnable s fun t =>
        t.pairU.stage = 1 ∧ LeaseIs t 1 ∧ t.epoch = (s.epoch + 1) % 65536 ∧
        (s.role = roTakeover → t.now = max s.now (if s.pairU.stuck then s.pairU.relLow + 10000 else s.pairU.tb - 10000)) ∧
        KeepsQuiet s t (R.PAIR_STAT_EPOCH :: leaseFlds)) ∧
      (s.role = roReserve → s.pairU.stuck = true → s.now < s.pairU.relLow + 10000 → Answers .takeoverLeaseEnable s fun t =>
        t.pairU = s.pairU ∧ KeepsQuiet s t [])) ∧
    (s.pairU.stage ≠ 1 → Answers .takeoverSwitch s fun t => t.pairU = s.pairU ∧ KeepsQuiet s t []) ∧
    (s.pairU.stage = 1 → Answers .takeoverSwitch s fun t => t.pairU.stage = 2 ∧ t.role = roTakeover ∧ t.pairU.chkLease = true ∧
      t.now = max s.now s.pairU.tb ∧ t.pairU.tb = t.now ∧ t.rd R.LGW_CTRL_RUN = 1 ∧
      (∀ j ∈ s.pairedSegs, s.segUnused j = false → t.rd (R.TRXj_CTRL_MODE j) = txNormal) ∧ KeepsBut roleWord s t []) ∧
    (s.pairU.stage ≠ 2 → Answers .takeoverRelease s fun t => t.pairU = s.pairU ∧ KeepsQuiet s t []) ∧
    (s.pairU.stage = 2 → Answers .takeoverRelease s fun t => t.pairU.stage = 0 ∧ t.role = roLead ∧
      t.now = max s.now (s.pairU.tb + 90000) ∧ t.pairU.chkRel = true ∧ t.rd R.PAIR_STAT_SYNCED = 0 ∧
      t.rd R.PAIR_CNT0_TAKEOVERS = min 0xFFFF (s.rd R.PAIR_CNT0_TAKEOVERS + 1) ∧ (∃ e ∈ t.events, e.num = 420) ∧
      (let waits := s.pairU.taking = true ∧ s.ckptParts ≠ [] ∧ s.pairU.ckptDone.map (·.1) ≠ s.pairU.handT
       (waits → t.pairU.final = s.pairU.handT) ∧
       (¬waits → ∀ p : Fin 16, (s.part p).created = true → s.partState p = stStopped → (s.part p).spent = false →
        t.partState p = stLoading ∧ p.val ∈ t.pairU.fromCkpt)) ∧
      KeepsBut roleWord s t [])

/-- Takeback (R386): a request is granted by a lead whose partner is SYNCED, a grant is taken by a SYNCED reserve, a
withdrawal ends either until the partitions have stopped; then partitions stop, CHK-RELEASE goes low, and the lease passes. -/
def HandbackPassesTheLease : Prop :=
  ∀ (s : State) (f : PairFrame),
    (s.pairGood f = true →
      (le f.body 0 1 = 0 → s.role = roLead → s.pairU.peerSynced = true → Answers (.handbackReceived f) s fun t => t.role = roHanding ∧
        t.pairU.handT = some s.turnAfter ∧ t.pairU.sent = [⟨8, s.pairU.txSeq.getD 8 0, 1 :: leBytes 4 s.turnAfter⟩] ∧
        Raised s t 416 (leBytes 1 roHanding ++ leBytes 1 roLead ++ leBytes 2 s.epoch) ∧ Keeps s t [R.PAIR_STAT_ROLE]) ∧
      (le f.body 0 1 = 1 → s.role = roReserve → s.rd R.PAIR_STAT_SYNCED = 1 → Answers (.handbackReceived f) s fun t =>
        t.pairU.taking = true ∧ t.pairU.handT = some (le f.body 1 4) ∧ t.pairU.stage = 0 ∧ KeepsQuiet s t []) ∧
      (le f.body 0 1 = 2 → s.role = roHanding → s.pairU.handT = some s.pairU.sendTurn → Answers (.handbackReceived f) s fun t =>
        t.role = roHanding ∧ t.pairU.handT = s.pairU.handT ∧ KeepsQuiet s t []) ∧
      (le f.body 0 1 = 2 → s.role = roHanding → s.pairU.handT ≠ some s.pairU.sendTurn → Answers (.handbackReceived f) s fun t =>
        t.role = roLead ∧ t.pairU.handT = none ∧
        Keeps s t [R.PAIR_STAT_ROLE, R.SUP_MODE_MODE, R.SUP_MODE_DEGR]) ∧
      (le f.body 0 1 = 2 → s.role ≠ roHanding → Answers (.handbackReceived f) s fun t => t.pairU.taking = false ∧ KeepsQuiet s t [])) ∧
    (s.role ≠ roHanding → ∀ i ∈ [Instr.handbackStop, .handbackReleaseLow, .handbackLeasePass], Answers i s fun t =>
      t.pairU = s.pairU ∧ KeepsQuiet s t []) ∧
    (s.role = roHanding →
      Answers .handbackStop s (fun t => t.pairU.send = s.pairU.pub ∧ (∀ h, s.pairU.handT = some h → t.pairU.sendTurn = h) ∧ (∀ x ∈ t.pairU.sent, x.type = 5) ∧
        (∀ p : Fin 16, s.partState p = stRunning ∨ s.partState p = stLoading → t.partState p = stQuiescing) ∧ t.role = roHanding ∧
        KeepsBut roleWord s t []) ∧
      Answers .handbackReleaseLow s (fun t => t.pairU.chkRel = false ∧ KeepsQuiet s t []) ∧
      Answers .handbackLeasePass s (fun t => t.role = roReserve ∧ LeaseIs t 0 ∧ t.pairU.chkLease = false ∧ t.pairU.handT = none ∧
        t.pairU.renewAt = some s.now ∧ KeepsBut roleWord s t []))
/-! Keys, updates and the incident recorder (14_keys_security.md, 15_field_update.md, 16_incidents.md). -/

/-- The key unit's own events (R399, R407): a health test takes DRBG_OK down and a reseed sets it; an authorization ends with
its time, and the core scopes of one with DBG-EN; a lockout ends. -/
def AuthorizationsAndRandomnessEnd : Prop :=
  ∀ (s : State), (∀ c ∈ s.chans, c.delayOn = none) →
    let sc := s.rd R.KSU_AUTH_SCOPE
    Answers .drbgHealthFail s (fun t => t.rd R.KSU_STAT_DRBG_OK = 0 ∧ Raised s t 129 [] ∧ Keeps s t [R.KSU_STAT_DRBG_OK]) ∧
    Answers .drbgReseed s (fun t => t.rd R.KSU_STAT_DRBG_OK = 1 ∧ KeepsQuiet s t [R.KSU_STAT_DRBG_OK]) ∧
    (s.sec.authEnd = none → Answers .authExpiry s fun t => t.sec = s.sec ∧ KeepsQuiet s t []) ∧
    (∀ e, s.sec.authEnd = some e → Answers .authExpiry s fun t => t.now = max s.now e ∧ t.sec.authEnd = none ∧ t.raw R.KSU_AUTH = 0 ∧
      (∃ e ∈ t.events, e.num = 140 ∧ e.payload = [0]) ∧ Keeps s t [wholeReg R.KSU_AUTH]) ∧
    (s.sec.lockEnd = none → Answers .authLockoutEnd s fun t => t.sec = s.sec ∧ KeepsQuiet s t []) ∧
    (∀ e, s.sec.lockEnd = some e → Answers .authLockoutEnd s fun t => t.now = max s.now e ∧ t.sec.lockEnd = none ∧ t.sec.fails = s.sec.fails ∧
      KeepsQuiet s t []) ∧
    (sc &&& 0xE = 0 → Answers .dbgEnDeassert s fun t => t.sec.dbgEn = false ∧ KeepsQuiet s t []) ∧
    (sc &&& 0xE ≠ 0 → sc &&& 0x31 = 0 → s.sec.authEnd.isSome = true → Answers .dbgEnDeassert s fun t => t.sec.dbgEn = false ∧
      t.sec.authEnd = none ∧ t.raw R.KSU_AUTH = 0 ∧ Raised s t 140 [3] ∧ Keeps s t [wholeReg R.KSU_AUTH]) ∧
    (sc &&& 0xE ≠ 0 → sc &&& 0x31 ≠ 0 → Answers .dbgEnDeassert s fun t => t.sec.dbgEn = false ∧ t.rd R.KSU_AUTH_SCOPE = sc &&& 0x31 ∧
      t.rd R.KSU_AUTH_CORES = 0 ∧ t.sec.authEnd = s.sec.authEnd ∧ Raised s t 140 [3] ∧ Keeps s t [R.KSU_AUTH_SCOPE, R.KSU_AUTH_CORES])

/-- A trial whose window expires (R428): TRIAL becomes FAILED, reported with reason 1; partitions on trial restart from the
old slot, Landing reloads at a turn boundary, a CROWN trial resets the crown die. -/
def TrialsEndWithTheirWindow : Prop :=
  ∀ (s : State), (∀ c ∈ s.chans, c.delayOn = none) →
    let failed := fun t : State => t.now = max s.now ((s.boot.tstart + s.boot.window) * 1000000000) ∧
      t.upd.b0.map (·.trial) = some trFailed ∧ t.upd.b1 = t.upd.b0
    let told := fun t : State => ∃ e ∈ t.events, e.num = 454 ∧ e.payload = leBytes 4 s.boot.comp ++ [1]
    (s.onTrial = false → Answers .trialWindowExpiry s fun t => t.upd = s.upd ∧ KeepsQuiet s t []) ∧
    (s.onTrial = true →
      (s.boot.kind = tkIsland → Answers .trialWindowExpiry s fun t => failed t ∧ told t ∧
        t.sil = s.sil ∧ Keeps s t []) ∧
      (s.boot.kind = tkLanding → Answers .trialWindowExpiry s fun t => failed t ∧ told t ∧
        t.upd.landing = (if s.upd.landing = some 0 then none else some 1) ∧ Keeps s t []) ∧
      (s.boot.kind = tkPartition → s.parts.length = 16 → Answers .trialWindowExpiry s fun t => failed t ∧ told t ∧
        (∀ p : Fin 16, s.partOnTrial p = true → (t.part p).trialSlot = none ∧
          (s.partState p = stRunning ∨ s.partState p = stLoading → t.partState p = stQuiescing ∧ (t.part p).causes = [pcRestart])) ∧
        (∀ p : Fin 16, s.partOnTrial p = false → t.partState p = s.partState p) ∧ KeepsBut roleWord s t []) ∧
      (s.boot.kind = tkCrown → s.loading = false → Answers .trialWindowExpiry s fun t => failed t ∧ ResetTo rsSwr crown s t))

/-- The recorder's work (R440, R443 to R445, R449): a flush moves the ring to the areas in SEQ order; the end of a freeze
leaves its snapshot to be written once no entry of its window is in the ring; a frame of up to 22 entries is sent when the
bucket holds its bits; a descriptor of a partition's queue becomes an entry. -/
def TheRecorderFlushesFreezesAndExports : Prop :=
  ∀ (s : State),
    let al := sortEntries (s.inc.ring.filter fun e => e.cls = clsAlarm)
    let ge := sortEntries (s.inc.ring.filter fun e => e.cls ≠ clsAlarm)
    (s.inc.alarmPos + al.length < alarmCap → s.inc.generalPos + ge.length < generalCap → s.inc.alarmArea.length + al.length ≤ alarmCap →
      s.inc.generalArea.length + ge.length ≤ generalCap → Answers .incFlush s fun t => t.inc.ring = [] ∧
        t.inc.alarmArea = s.inc.alarmArea ++ al ∧ t.inc.generalArea = s.inc.generalArea ++ ge ∧ t.rd R.INR_FILL_ALARM = 0 ∧
        t.rd R.INR_FILL_GENERAL = 0 ∧ KeepsQuiet s t [R.INR_FILL_ALARM, R.INR_FILL_GENERAL, R.INR_EXP_SKIP_COUNT]) ∧
    (s.inc.freeze = none → Answers .freezeEnd s fun t => t.inc = s.inc ∧ KeepsQuiet s t []) ∧
    (∀ f, s.inc.freeze = some f → (∀ c ∈ s.chans, c.delayOn = none) → Answers .freezeEnd s fun t =>
      t.now = max s.now (s.clk.when (f.ttr + f.post)) ∧ t.inc.freeze = none ∧ t.inc.toWrite = s.inc.toWrite ++ [f] ∧
      t.rd R.INR_FREEZE_ACTIVE = 0 ∧ KeepsQuiet s t [R.INR_FREEZE_ACTIVE]) ∧
    (s.inc.toWrite = [] → Answers .snapshotWrite s fun t => t.inc = s.inc ∧ KeepsQuiet s t []) ∧
    (∀ f rest, s.inc.toWrite = f :: rest →
      ((∃ e ∈ s.inc.ring, e.time ≤ f.ttr + f.post) → Answers .snapshotWrite s fun t => t.inc = s.inc ∧ KeepsQuiet s t []) ∧
      ((∀ e ∈ s.inc.ring, f.ttr + f.post < e.time) → s.inc.nextSlot < 8 → s.inc.slots.length = 8 → Answers .snapshotWrite s fun t =>
        t.inc.slots.getD s.inc.nextSlot none = some { ttr := f.ttr, pre := f.pre, post := f.post, entries := snapEntries s.inc f, drops := f.drops, incomplete := f.cut } ∧
        (∀ k : Fin 8, k ≠ s.inc.nextSlot → t.inc.slots.getD k none = s.inc.slots.getD k none) ∧
        t.inc.toWrite = rest ∧ t.inc.nextSlot = (s.inc.nextSlot + 1) % 8 ∧ t.rd R.INR_FREEZE_SLOT = s.inc.nextSlot ∧
        Raised s t 467 (leBytes 1 s.inc.nextSlot ++ leBytes 4 (snapEntries s.inc f).length) ∧ Keeps s t [])) ∧
    (s.inc.skipped = 0 → s.recBody recIncident = none → Answers .exportSend s fun t => t.inc = s.inc ∧ KeepsQuiet s t []) ∧
    (s.inc.skipped = 0 → ∀ b, s.recBody recIncident = some b →
      let waits := fun c => if s.exports c then sortEntries (s.inc.ring.filter fun e => e.cls = c && !e.sent) else []
      let es := (waits clsAlarm ++ waits clsLog ++ waits clsTrace).take 22
      let cost := (max 64 (30 + 64 * es.length)) * 8000000
      let level := min 131072000000 (s.inc.bucket + (s.now - s.inc.bucketAt) * le b 4 4)
      (es = [] ∨ level < cost → Answers .exportSend s fun t => t.inc.ring = s.inc.ring ∧ t.inc.bucket = level ∧ KeepsQuiet s t []) ∧
      (es ≠ [] → cost ≤ level → s.rd (R.ESW_Pp_CFG_EN (le b 18 1)) = 0 → Answers .exportSend s fun t =>
        t.inc.ring = s.inc.ring.map (fun e => if (es.map IncEntry.seq).contains e.seq then { e with sent := true } else e) ∧
        t.inc.bucket = level - cost ∧ KeepsQuiet s t [])) ∧
    (∀ q : Fin 64, (s.rd (R.QMG_QnCFG_ENGINE q) ≠ 0x33 → Answers (.incQueueEntry q) s fun t => t.inc = s.inc ∧ KeepsQuiet s t []) ∧
      (s.rd (R.QMG_QnCFG_ENGINE q) = 0x33 → ∀ d, s.qFront q = (s, some d) → ∀ p, s.qOwner q = some p →
        let taken := fun t : State => t.rd (R.QMG_QnCONS_IDX q) = (s.rd (R.QMG_QnCONS_IDX q) + 1) % 65536
        (le d 0 2 ≠ 0x50 ∨ le d 10 2 ≠ 0 ∨ s.mayClass p (le d 8 1) = false → Answers (.incQueueEntry q) s fun t => taken t ∧ t.inc = s.inc ∧
          KeepsQuiet s t [R.QMG_QnCONS_IDX q]) ∧
        (le d 0 2 = 0x50 → le d 10 2 = 0 → s.mayClass p (le d 8 1) = true → s.inc.ring = [] → Answers (.incQueueEntry q) s fun t =>
          taken t ∧ (∃ e, t.inc.ring = [e] ∧ e.source = srcPart p ∧ e.cls = le d 8 1 ∧ e.code = le d 9 1 ∧ e.frame = s.frame ∧
            e.time = s.lc ∧ e.seq = s.rd R.INR_SEQ_SEQ) ∧ Keeps s t [R.QMG_QnCONS_IDX q])))
/-! The supervisor, resets and start-up (17_supervisor.md), and the service UART (R489). -/

/-- Reset sources (R451 to R455, R462): POR of Whole reach, BOR and RESET-IN of Module reach, the Forester watchdog, SWR and a
clock failure; a Crown reach keeps transceivers, wake domain and island. -/
def ResetSourcesResetTheirReach : Prop :=
  ∀ (s : State), s.loading = false →
    Answers .porAssert s (ResetTo rsPor whole s) ∧
    Answers .borAssert s (fun t => ResetTo rsBor module s t ∧ t.svr.startOk = false ∧ t.svr.regOn = false ∧
      (s.svr.belowHold = true → ∀ n : Fin 64, t.rd (R.CHn_CMD_ON n) = 0 ∧ t.rd (R.CHn_STAT_OUT n) = 0)) ∧
    ((s.detect 2).loading = false → Answers .pinReset s fun t => ResetTo rsPin module (s.detect 2) t ∧ t.svr.startOk = false) ∧
    (s.crownUp = true → (s.advance (s.svr.kickAt + s.rd R.SUP_FWDG_PERIOD * 1000000)).loading = false →
      Answers .fwdgExpiry s (ResetTo rsWdg (if s.svr.wdgReach then module else crown)
        (s.advance (s.svr.kickAt + s.rd R.SUP_FWDG_PERIOD * 1000000)))) ∧
    (s.crownUp = false → Answers .fwdgExpiry s fun t => t.svr = s.svr ∧ KeepsQuiet s t []) ∧
    Answers .clockFailure s (fun t => ResetTo rsClkf crown s t ∧ t.svr.fallback = true ∧ t.svr.tcxoBad = s.onTcxo ∧
      KeepsBlks s t [.lscCnt]) ∧
    (∀ (a : Attr) (v : Word), Own a R.SUP_SWR true s →
      (v.getLsbD 0 = true → Answers (.swrGo a v) s (ResetTo rsSwr (if v.getLsbD 1 then module else crown) s)) ∧
      (v.getLsbD 0 = false → Answers (.swrGo a v) s fun t => t.rd R.SUP_SWR_REACH = b2n (v.getLsbD 1) ∧ t.svr = s.svr ∧
        KeepsQuiet s t [R.SUP_SWR_REACH])) ∧
    (∀ (a : Attr) (v : Nat), Own a R.SUP_FWDG true s →
      (v % 65536 = 0x5AA5 → Answers (.fwdgKick a v) s fun t => t.svr.kickAt = s.now ∧ KeepsQuiet s t []) ∧
      (v % 65536 ≠ 0x5AA5 → s.crownUp = true → Answers (.fwdgKick a v) s (ResetTo rsWdg (if s.svr.wdgReach then module else crown) s)) ∧
      (s.svr.periodSet = false → 10 ≤ v → v ≤ 1000 → Answers (.fwdgPeriodWrite a v) s fun t => t.rd R.SUP_FWDG_PERIOD = v ∧
        t.svr.periodSet = true ∧ KeepsQuiet s t [R.SUP_FWDG_PERIOD]) ∧
      (s.svr.periodSet = true ∨ v < 10 ∨ 1000 < v → Answers (.fwdgPeriodWrite a v) s fun t => t.svr = s.svr ∧ KeepsQuiet s t []))

/-- Sources released and supply conditions (R451, R452, R455, R460): a release writes no register; the hold threshold clears
the latches only under a BOR; a start condition switches the regulator on from Listen. -/
def ReleasesAndSupplyLevelsFollow : Prop :=
  ∀ (s : State),
    let off := fun (code : Nat) (t : State) => (∀ r, (code, r) ∉ t.svr.srcs) ∧ (∀ x, x.1 ≠ code → (x ∈ t.svr.srcs ↔ x ∈ s.svr.srcs)) ∧ KeepsQuiet s t []
    Answers .porRelease s (off rsPor) ∧ Answers .borRelease s (fun t => off rsBor t ∧ t.svr.belowHold = false) ∧
    Answers .pinRelease s (off rsPin) ∧
    (∀ src : Fin 9, (src.val ∈ [rsWdg, rsSwr, rsLockup] → Answers (.resetSourceRelease src) s (off src)) ∧
      (src.val ∈ [rsPor, rsBor, rsPin] → Answers (.resetSourceRelease src) s fun t => t.svr = s.svr ∧ KeepsQuiet s t [])) ∧
    (s.svr.tcxoBad = true → Answers (.clockRecheck true) s fun t => off rsClkf t ∧ t.svr.tcxoBad = false) ∧
    Answers (.clockRecheck false) s (fun t => t.svr = s.svr ∧ KeepsQuiet s t []) ∧
    (s.isAsserted rsPin = false → Answers .resetInLong s fun t => t.svr = s.svr ∧ KeepsQuiet s t []) ∧
    (s.isAsserted rsPin = true → Answers .resetInLong s fun t => t.svr.regOn = false ∧ t.mode = mdListen ∧ Keeps s t [R.SUP_MODE_MODE]) ∧
    (s.isAsserted rsBor = false → Answers .holdThreshold s fun t => t.svr.belowHold = true ∧ KeepsQuiet s t []) ∧
    (s.isAsserted rsBor = true → Answers .holdThreshold s fun t => t.svr.belowHold = true ∧
      (∀ n : Fin 64, t.rd (R.CHn_CMD_ON n) = 0 ∧ t.rd (R.CHn_STAT_OUT n) = 0 ∧ t.rd (R.CHn_STAT_STATE n) = 0) ∧
      KeepsBut (fun a => blkOf a = some .ch ∨ blkOf a = some .bole) s t []) ∧
    (s.isAsserted rsPor = true ∨ s.isAsserted rsBor = true ∨ s.isAsserted rsPin = true ∨ s.svr.holdEnd.isSome = true →
      Answers .startCondition s fun t => t.svr = s.svr ∧ KeepsQuiet s t []) ∧
    (s.isAsserted rsPor = false → s.isAsserted rsBor = false → s.isAsserted rsPin = false → s.svr.holdEnd = none →
      (s.mode = mdListen → Answers .startCondition s fun t => t.rd R.SUP_VM_START_OK = 1 ∧ t.svr.regOn = true ∧ t.mode = mdStartup ∧
        Keeps s t [R.SUP_VM_START_OK, R.SUP_MODE_MODE]) ∧
      (s.mode = mdSleep ∨ s.mode = mdDormant → Answers .startCondition s fun t => t.rd R.SUP_VM_START_OK = 1 ∧ t.svr.startOk = true ∧
        KeepsQuiet s t [R.SUP_VM_START_OK]))

/-- Thresholds (R451, R452, R470): a stud lost or back, and the extended range entered or left, with their events once the Forester runs; THERMAL from
105 °C of the plate or 120 °C of the crown, and every partition stopped at 135 °C. -/
def ThresholdsAreShownAndReported : Prop :=
  ∀ (s : State) (b : Bool),
    let was := if b then s.svr.lossB else s.svr.lossA
    (was = true → Answers (.studLossEnter b) s fun t => t.svr = s.svr ∧ KeepsQuiet s t []) ∧
    (was = false → Answers (.studLossLeave b) s fun t => t.svr = s.svr ∧ KeepsQuiet s t []) ∧
    (s.svr.ext = true → Answers .extRangeEnter s fun t => t.svr = s.svr ∧ KeepsQuiet s t []) ∧
    (s.svr.ext = false → Answers .extRangeLeave s fun t => t.svr = s.svr ∧ KeepsQuiet s t []) ∧
    (was = false → Answers (.studLossEnter b) s fun t => t.rd (if b then R.SUP_VM_LOSS_B else R.SUP_VM_LOSS_A) = 1 ∧
      (s.crownUp = true → Raised s t 4 (leBytes 1 (b2n b))) ∧
      Keeps s t [if b then R.SUP_VM_LOSS_B else R.SUP_VM_LOSS_A, R.SUP_MODE_DEGR, R.SUP_MODE_MODE]) ∧
    (was = true → Answers (.studLossLeave b) s fun t => t.rd (if b then R.SUP_VM_LOSS_B else R.SUP_VM_LOSS_A) = 0 ∧
      (s.crownUp = true → Raised s t 5 (leBytes 1 (b2n b))) ∧
      Keeps s t [if b then R.SUP_VM_LOSS_B else R.SUP_VM_LOSS_A, R.SUP_MODE_DEGR, R.SUP_MODE_MODE]) ∧
    (s.svr.ext = false → Answers .extRangeEnter s fun t => t.rd R.SUP_VM_EXT = 1 ∧ (s.crownUp = true → Raised s t 2 (leBytes 2 (s.rd R.SUP_VM_VM))) ∧
      Keeps s t [R.SUP_VM_EXT, R.SUP_MODE_DEGR, R.SUP_MODE_MODE]) ∧
    (s.svr.ext = true → Answers .extRangeLeave s fun t => t.rd R.SUP_VM_EXT = 0 ∧ (s.crownUp = true → Raised s t 3 (leBytes 2 (s.rd R.SUP_VM_VM))) ∧
      Keeps s t [R.SUP_VM_EXT, R.SUP_MODE_DEGR, R.SUP_MODE_MODE]) ∧
    (∀ plate crownT : Int,
      let hot := decide (105 < plate ∨ 120 ≤ crownT) || (s.svr.hot && !decide (plate ≤ 100 ∧ crownT ≤ 115))
      let temps := leBytes 1 (unsigned 8 plate) ++ leBytes 1 (unsigned 8 crownT)
      Answers (.thermalThreshold plate crownT) s fun t =>
        t.rd R.SUP_TEMP_PLATE = unsigned 8 plate ∧ t.rd R.SUP_TEMP_CROWN = unsigned 8 crownT ∧ t.svr.hot = hot ∧
        (crownT < 135 → hot = true → s.svr.hot = false → s.crownUp = true → Raised s t 6 (temps ++ [0])) ∧
        (hot = false → s.svr.hot = true → s.crownUp = true → Raised s t 7 temps) ∧
        (135 ≤ crownT → s.svr.cut = false → s.crownUp = true → Raised s t 6 (temps ++ [1]) ∧
          ∀ p : Fin 16, s.partState p = stRunning → t.partState p = stQuiescing) ∧
        (crownT < 135 → Keeps s t [R.SUP_TEMP_PLATE, R.SUP_TEMP_CROWN, R.SUP_MODE_DEGR, R.SUP_MODE_MODE]) ∧ KeepsBut roleWord s t [])

/-- Block resets (R189, R263, R455, R468): the controllers of the mask, Landing, the switch and the recorder's logic take their
Reset columns, with nothing else changed; a free crypto engine stays as it is. -/
def BlockResetsReachTheirBlockOnly : Prop :=
  ∀ (s : State) (a : Attr) (mask : Nat),
    (Own a R.SUP_BLKRST_CAN true s → Answers (.blkrstCan a mask) s fun t =>
      (∀ n : Fin 24, nbit mask n = true → ∀ k, k < 0x1000 → t.raw (0x20100000 + n * 0x1000 + k) = regReset (0x20100000 + n * 0x1000 + k)) ∧
      (∀ n : Fin 24, s.cans.length = 24 → nbit mask n = true → t.can n = {}) ∧ (∀ n : Fin 24, nbit mask n = false → t.can n = s.can n) ∧
      KeepsBut (fun x => ∃ n : Fin 24, nbit mask n = true ∧ 0x20100000 + n * 0x1000 ≤ x ∧ x < 0x20100000 + (n + 1) * 0x1000) s t
        ((List.range 17).map R.MBX_CSTAT_PENDING ++ (maskIdx 24 mask).map fun n => wholeReg (R.KSU_GATEu n)) ∧
      ∀ n : Fin 24, nbit mask n = true → t.raw (R.KSU_GATEu n) = regReset (R.KSU_GATEu n)) ∧
    (Own a R.SUP_BLKRST true s →
      Answers (.blkrstLgw a) s (fun t => (∀ x, isLgw x = true → t.raw x = regReset x) ∧ t.lgw = {} ∧
        (∀ g ∈ t.stagedGroups, ¬ (0x0600 ≤ g ∧ g ≤ 0x0640)) ∧ KeepsBut (fun x => isLgw x = true) s t ((List.range 17).map R.MBX_CSTAT_PENDING)) ∧
      Answers (.blkrstInr a) s (fun t => t.inc.ring = s.inc.ring ∧ t.inc.freeze = none ∧ t.inc.toWrite = [] ∧ t.inc.srcDrops = [] ∧
        t.rd R.INR_SEQ_SEQ = s.rd R.INR_SEQ_SEQ ∧ t.rd R.INR_DROP_TRACE_COUNT = 0 ∧ t.rd R.INR_DROP_LOG_COUNT = 0 ∧
        t.rd R.INR_FREEZE_ACTIVE = 0 ∧ Keeps s t []) ∧
      Answers (.blkrstEsw a) s (fun t => (∀ x, blkOf x = some .esw ∨ blkOf x = some .qp → t.raw x = regReset x) ∧ t.eth = {} ∧
        (∀ u, 24 ≤ u → u ≤ 40 → t.raw (R.KSU_GATEu u) = regReset (R.KSU_GATEu u)) ∧
        KeepsBut (fun x => eventWord x ∨ blkOf x = some .esw ∨ blkOf x = some .qp) s t
          ((List.range 17).map R.MBX_CSTAT_PENDING ++ (List.range 17).map fun u => wholeReg (R.KSU_GATEu (24 + u)))) ∧
      ((∀ e : Fin 5, nbit mask e = true → s.sec.serving.getD e none = none) → Answers (.blkrstCrypto a mask) s fun t =>
        t.sec = s.sec ∧ (∀ e : Fin 5, nbit mask e = true → t.raw (R.KSU_GATEu (41 + e)) = regReset (R.KSU_GATEu (41 + e))) ∧
        KeepsQuiet s t ((List.range 5).map fun e => wholeReg (R.KSU_GATEu (41 + e)))) ∧
      (∀ e : Fin 5, mask = 2 ^ e.val → ∀ j, s.sec.jobs = [j] →
        s.sec.serving = (List.range 5).map (fun i => if i = e.val then some j.vq else none) → j.dead = false → s.rd (R.QMG_QnCFG_EN (s.rd (R.QMG_QnCFG_CQ j.queue))) = 0 →
        Answers (.blkrstCrypto a mask) s fun t => t.sec.jobs = [] ∧ t.sec.serving.getD e none = none ∧ t.rd (R.KSU_CEi_STAT_BUSY e) = 0 ∧
          KeepsQuiet s t [R.KSU_CEi_STAT_BUSY e, wholeReg (R.KSU_GATEu (41 + e))]))

/-- The release (R457, R460): a source or the hold-off holds it; otherwise each domain's report takes it one step on. -/
def TheReleaseAdvancesStepByStep : Prop :=
  ∀ (s : State) (obs : StartObs),
    (s.heldStep = true ∨ s.svr.holdEnd.isSome = true → Answers (.resetReleaseStep obs) s fun t => t.svr = s.svr ∧ KeepsQuiet s t []) ∧
    (s.heldStep = false → s.svr.holdEnd = none →
      (s.svr.rel = 1 → Answers (.resetReleaseStep obs) s fun t => t.svr.rel = 2 ∧ KeepsQuiet s t []) ∧
      (s.svr.rel = 2 → s.svr.startOk = false ∨ s.svr.regOn = false → Answers (.resetReleaseStep obs) s fun t => t.svr = s.svr ∧ KeepsQuiet s t []) ∧
      (s.svr.rel = 2 → s.svr.startOk = true → s.svr.regOn = true → s.svr.strapDue = false → obs.tcxoOk = true → obs.refOk = true → obs.trimOk = true →
        Answers (.resetReleaseStep obs) s fun t => t.svr.rel = 3 ∧ (∀ g : Fin 6, t.rd (R.GWB_Lg_STAT_TRAINING g) = 1) ∧
          t.mode = (if s.mode = mdListen then mdStartup else s.mode) ∧
          Keeps s t (R.SUP_MODE_MODE :: (List.range 6).map R.GWB_Lg_STAT_TRAINING)) ∧
      (s.svr.rel = 3 → Answers (.resetReleaseStep obs) s fun t => t.svr.rel = (if s.linksReady then 4 else 3) ∧ KeepsQuiet s t []) ∧
      (s.svr.rel = 4 → Answers (.resetReleaseStep obs) s fun t => t.svr.rel = (if s.bolesReady then 5 else 4) ∧ KeepsQuiet s t []) ∧
      (s.svr.rel = 5 → obs.trimOk = true → Answers (.resetReleaseStep obs) s fun t => t.svr.rel = 6 ∧
        t.rd R.SUP_OPT_DEFAULTS = b2n s.optsPick.isNone ∧ t.rd R.SUP_OPT_COPY = s.optsPick.getD 2 ∧
        t.rd R.SUP_VM_LOSS_A = b2n s.svr.lossA ∧ t.rd R.SUP_VM_LOSS_B = b2n s.svr.lossB ∧
        KeepsBut (fun a => ∃ b ∈ [Blk.sup, .supwd, .lsc, .ksu, .mem], blkOf a = some b) s t []) ∧
      (s.svr.rel = 6 → s.pairState 8 = psRun → Answers (.resetReleaseStep obs) s fun t => t.svr.rel = 7 ∧ KeepsQuiet s t []) ∧
      (s.svr.rel = 7 → s.bootAct = 2 → Answers (.resetReleaseStep obs) s fun t => t.svr.rel = 9 ∧ t.svr.boot = 2 ∧ KeepsQuiet s t []) ∧
      (s.svr.rel = 8 → s.serviceDue = true → Answers (.resetReleaseStep obs) s fun t => t.svr.rel = 9 ∧
        t.raw R.WAKE_IN_CFG = BitVec.ofNat 32 (le s.tally 92 2) ∧ Keeps s t [wholeReg R.WAKE_IN_CFG, R.WAKE_EN_EN])) ∧
    (s.svr.holdEnd = none → Answers .holdoffEnd s fun t => t.svr = s.svr ∧ KeepsQuiet s t []) ∧
    (∀ e, s.svr.holdEnd = some e → (∀ c ∈ s.chans, c.delayOn = none) → Answers .holdoffEnd s fun t => t.svr.holdEnd = none ∧
      t.now = max s.now e ∧ KeepsQuiet s t [])

/-- The mode decision (R466), and Update mode (R464): the first row that applies, counted in SUP_STARTS and reported; an image
that fails, or does not come within 10 s, ends in Service mode; a good one is followed by SWR of Module reach. -/
def StartsEndInTheModeOfTheirRow : Prop :=
  ∀ (s : State),
    (s.svr.rel ≠ 9 ∨ s.mode ≠ mdStartup → Answers .modeDecision s fun t => t.svr = s.svr ∧ KeepsQuiet s t []) ∧
    (s.svr.rel = 9 → s.mode = mdStartup →
      (s.svr.boot = 2 → Answers .modeDecision s fun t => t.mode = mdUpdate ∧ t.svr.imageAt = some s.now ∧
        t.rd ⟨R.SUP_STARTS, 31, 0⟩ = (s.rd ⟨R.SUP_STARTS, 31, 0⟩ + 1) % 2 ^ 32 ∧ t.rd R.SUP_STRAP_BOOT_USED = 1 ∧
        Keeps s t [R.SUP_MODE_MODE, ⟨R.SUP_STARTS, 31, 0⟩, R.SUP_STRAP_BOOT_USED]) ∧
      (s.svr.boot ≠ 2 → s.degr.modeRow = none → Answers .modeDecision s fun t => t.mode = mdStartup ∧ KeepsQuiet s t [R.SUP_MODE_DEGR]) ∧
      (s.svr.boot ≠ 2 → ∀ m, s.degr.modeRow = some m → Answers .modeDecision s fun t => t.mode = m ∧
        t.rd ⟨R.SUP_STARTS, 31, 0⟩ = (s.rd ⟨R.SUP_STARTS, 31, 0⟩ + 1) % 2 ^ 32 ∧
        Raised s t 1 (leBytes 1 (s.rd R.SUP_CAUSE_FIRST) ++ leBytes 2 (s.rd R.SUP_CAUSE_SRC) ++ leBytes 1 (s.rd R.SUP_LAST_REACH) ++
          leBytes 1 (s.rd R.SUP_LAST_COLD)) ∧
        (m ∈ [mdLead, mdDegraded, mdCommission, mdSafeHold] →
          Keeps s t [R.SUP_MODE_MODE, R.SUP_MODE_DEGR, ⟨R.SUP_STARTS, 31, 0⟩, R.SUP_STRAP_BOOT_USED]) ∧
        (m = mdService → t.rd R.SIL_STAT_HOLD = 1 ∧ ∀ n : Fin 64, s.rd (R.BOLE_STAT_HOLD (dieOf n)) = 0 → t.rd (R.CHn_CMD_ON n) = 0))) ∧
    (s.mode ≠ mdUpdate → ∀ ans, Answers (.partnerImageServe ans) s fun t => t.svr = s.svr ∧ t.upd = s.upd ∧ KeepsQuiet s t []) ∧
    (s.mode ≠ mdUpdate → Answers .updateImageTimeout s fun t => t.svr = s.svr ∧ KeepsQuiet s t []) ∧
    (s.mode = mdUpdate →
      Answers .updateImageTimeout s (fun t => t.mode = mdService ∧ t.svr.imageAt = none ∧ Keeps s t [R.SUP_MODE_MODE]) ∧
      Answers (.partnerImageServe .refused) s (fun t => t.mode = mdService ∧ t.svr.imageAt = none ∧ t.upd = s.upd ∧ Keeps s t [R.SUP_MODE_MODE]) ∧
      (∀ comps rb, s.bootRec.isSome = true → rb < s.boot.rollback → Answers (.partnerImageServe (.image comps rb)) s fun t =>
        t.mode = mdService ∧ t.upd = s.upd ∧ Keeps s t [R.SUP_MODE_MODE]) ∧
      (∀ rb, s.loading = false → s.boot.rollback ≤ rb → Answers (.partnerImageServe (.image [] rb)) s fun t => ResetTo rsSwr module s t ∧
        t.upd.b0.map (·.active) = some (1 - s.boot.active) ∧ t.upd.b0.map (·.rollback) = some rb))

/-- The service UART (R489): a whole request with its CRC writes or reads words of mailbox 16 and is answered; a bad CRC or an
offset that is no multiple of 4 is answered with a NAK and no effect; 100 ms of silence discard what is held. -/
def TheServiceUartReachesTheForesterMailbox : Prop :=
  ∀ (s : State) (tag off : Nat) (w : Word), s.uart.buf = [] → tag < 256 → off < 0x10000 →
    let reply := fun (t : State) (r : List Byte) => t.uart.replies = [r] ∧ t.uart.buf = []
    let req := uartFrame 1 tag off 4 (leBytes 4 w.toNat)
    let bad := req.take 12 ++ leBytes 4 (crc32c ((req.drop 2).take 10) + 1)
    Answers .svcUartGapTimeout s (fun t => t.uart = {} ∧ KeepsQuiet s t []) ∧
    (off % 4 = 0 → off + 4 ≤ 0x400 → s.rd (R.MBX_STAT_BUSY 16) = 0 → Answers (.svcUartWrite req) s fun t =>
      reply t (uartFrame 0x81 tag off 4 []) ∧ t.raw (mbxBase 16 + off) = w ∧ KeepsQuiet s t [wholeReg (mbxBase 16 + off)]) ∧
    (off % 4 = 0 → off + 4 ≤ 0x800 → Answers (.svcUartRead (uartFrame 2 tag off 4 [])) s fun t =>
      reply t (uartFrame 0x82 tag off 4 (leBytes 4 (s.raw (mbxBase 16 + off)).toNat)) ∧ KeepsQuiet s t []) ∧
    (off % 4 ≠ 0 → Answers (.svcUartWrite req) s fun t => reply t (uartFrame 0xE0 tag off 4 (leBytes 4 nakRange)) ∧ KeepsQuiet s t []) ∧
    Answers (.svcUartWrite bad) s (fun t => reply t (uartFrame 0xE0 tag off 4 (leBytes 4 nakCrc)) ∧ KeepsQuiet s t [])
/-! Rhapol commands (02_rhapol_interface.md and the command tables of each chapter). -/

/-- The Rhapol rows: a mailbox, how the Forester ends the command, and its opcode's row. -/
def RhapolRow (i : Instr) (o : OpSpec) (m : Fin 17) (f : Fate) : Prop :=
  (i = .sysHello m f ∧ o = opSysHello) ∨ (i = .sysInfo m f ∧ o = opSysInfo) ∨ (i = .sysCommit m f ∧ o = opSysCommit) ∨ 
  (i = .sysDiscard m f ∧ o = opSysDiscard) ∨ (i = .sysEvtSub m f ∧ o = opSysEvtSub) ∨ 
  (i = .sysEvtUnsub m f ∧ o = opSysEvtUnsub) ∨ (i = .sysCfgRead m f ∧ o = opSysCfgRead) ∨ 
  (i = .sysCfgWrite m f ∧ o = opSysCfgWrite) ∨ (i = .sysSvcPut m f ∧ o = opSysSvcPut) ∨ (i = .chSet m f ∧ o = opChSet) ∨ 
  (i = .chConfig m f ∧ o = opChConfig) ∨ (i = .chGet m f ∧ o = opChGet) ∨ (i = .chAck m f ∧ o = opChAck) ∨ 
  (i = .chSoGet m f ∧ o = opChSoGet) ∨ (i = .govGet m f ∧ o = opGovGet) ∨ (i = .chMeasGet m f ∧ o = opChMeasGet) ∨ 
  (i = .chWireSet m f ∧ o = opChWireSet) ∨ (i = .chTambSet m f ∧ o = opChTambSet) ∨ (i = .sigConfig m f ∧ o = opSigConfig) ∨ 
  (i = .sigRefSet m f ∧ o = opSigRefSet) ∨ (i = .sigRead m f ∧ o = opSigRead) ∨ (i = .uioConfig m f ∧ o = opUioConfig) ∨ 
  (i = .uioRead m f ∧ o = opUioRead) ∨ (i = .uioOutSet m f ∧ o = opUioOutSet) ∨ (i = .uioStatus m f ∧ o = opUioStatus) ∨ 
  (i = .ssSet m f ∧ o = opSsSet) ∨ (i = .ssGet m f ∧ o = opSsGet) ∨ (i = .ktConfig m f ∧ o = opKtConfig) ∨ 
  (i = .ktDuty m f ∧ o = opKtDuty) ∨ (i = .ktGet m f ∧ o = opKtGet) ∨ (i = .kcConfig m f ∧ o = opKcConfig) ∨ 
  (i = .kcSet m f ∧ o = opKcSet) ∨ (i = .kcGet m f ∧ o = opKcGet) ∨ (i = .extGet m f ∧ o = opExtGet) ∨ 
  (i = .canConfig m f ∧ o = opCanConfig) ∨ (i = .canRun m f ∧ o = opCanRun) ∨ (i = .canFilter m f ∧ o = opCanFilter) ∨ 
  (i = .canFifo m f ∧ o = opCanFifo) ∨ (i = .canSend m f ∧ o = opCanSend) ∨ (i = .canRead m f ∧ o = opCanRead) ∨ 
  (i = .canStatus m f ∧ o = opCanStatus) ∨ (i = .canBoffRelease m f ∧ o = opCanBoffRelease) ∨ 
  (i = .canTrxSet m f ∧ o = opCanTrxSet) ∨ (i = .canTrxGet m f ∧ o = opCanTrxGet) ∨ (i = .tlyStay m f ∧ o = opTlyStay) ∨ 
  (i = .tlyGet m f ∧ o = opTlyGet) ∨ (i = .tlyVetoList m f ∧ o = opTlyVetoList) ∨ (i = .wakeGet m f ∧ o = opWakeGet) ∨ 
  (i = .wakeAlarm m f ∧ o = opWakeAlarm) ∨ (i = .ethPortCfg m f ∧ o = opEthPortCfg) ∨ (i = .ethPortGet m f ∧ o = opEthPortGet) ∨ 
  (i = .ethGclSet m f ∧ o = opEthGclSet) ∨ (i = .ethGclGet m f ∧ o = opEthGclGet) ∨ (i = .ethFdbSet m f ∧ o = opEthFdbSet) ∨ 
  (i = .ethVlanSet m f ∧ o = opEthVlanSet) ∨ (i = .ethQciSet m f ∧ o = opEthQciSet) ∨ (i = .ethQpGet m f ∧ o = opEthQpGet) ∨ 
  (i = .ethTsRead m f ∧ o = opEthTsRead) ∨ (i = .timeGet m f ∧ o = opTimeGet) ∨ (i = .timeDomGet m f ∧ o = opTimeDomGet) ∨ 
  (i = .lgwRouteSet m f ∧ o = opLgwRouteSet) ∨ (i = .lgwImageSet m f ∧ o = opLgwImageSet) ∨ 
  (i = .lgwEnable m f ∧ o = opLgwEnable) ∨ (i = .lgwRead m f ∧ o = opLgwRead) ∨ (i = .lgwStatus m f ∧ o = opLgwStatus) ∨ 
  (i = .gwbStatus m f ∧ o = opGwbStatus) ∨ (i = .partInfo m f ∧ o = opPartInfo) ∨ (i = .partRestart m f ∧ o = opPartRestart) ∨ 
  (i = .partStop m f ∧ o = opPartStop) ∨ (i = .partStart m f ∧ o = opPartStart) ∨ (i = .partGate m f ∧ o = opPartGate) ∨ 
  (i = .partGateGet m f ∧ o = opPartGateGet) ∨ (i = .safeGet m f ∧ o = opSafeGet) ∨ (i = .safeFnGet m f ∧ o = opSafeFnGet) ∨ 
  (i = .safeFaultLog m f ∧ o = opSafeFaultLog) ∨ (i = .safeWrite m f ∧ o = opSafeWrite) ∨ 
  (i = .safeConfirm m f ∧ o = opSafeConfirm) ∨ (i = .safeCheckGet m f ∧ o = opSafeCheckGet) ∨ 
  (i = .pairGet m f ∧ o = opPairGet) ∨ (i = .pairCkptPub m f ∧ o = opPairCkptPub) ∨ 
  (i = .pairCkptInfo m f ∧ o = opPairCkptInfo) ∨ (i = .pairHandover m f ∧ o = opPairHandover) ∨ 
  (i = .keyInfo m f ∧ o = opKeyInfo) ∨ (i = .keyLoad m f ∧ o = opKeyLoad) ∨ (i = .keyUnload m f ∧ o = opKeyUnload) ∨ 
  (i = .keyStore m f ∧ o = opKeyStore) ∨ (i = .keyDelete m f ∧ o = opKeyDelete) ∨ (i = .keyPub m f ∧ o = opKeyPub) ∨ 
  (i = .authChal m f ∧ o = opAuthChal) ∨ (i = .authResp m f ∧ o = opAuthResp) ∨ (i = .authEnd m f ∧ o = opAuthEnd) ∨ 
  (i = .attest m f ∧ o = opAttest) ∨ (i = .lcAdvance m f ∧ o = opLcAdvance) ∨ (i = .updBegin m f ∧ o = opUpdBegin) ∨ 
  (i = .updBillet m f ∧ o = opUpdBillet) ∨ (i = .updStatus m f ∧ o = opUpdStatus) ∨ (i = .updActivate m f ∧ o = opUpdActivate) ∨ 
  (i = .updConfirm m f ∧ o = opUpdConfirm) ∨ (i = .updReject m f ∧ o = opUpdReject) ∨ (i = .updAbort m f ∧ o = opUpdAbort) ∨ 
  (i = .updInfo m f ∧ o = opUpdInfo) ∨ (i = .incLog m f ∧ o = opIncLog) ∨ (i = .incStatus m f ∧ o = opIncStatus) ∨ 
  (i = .incRead m f ∧ o = opIncRead) ∨ (i = .incTrigger m f ∧ o = opIncTrigger) ∨ (i = .incDrops m f ∧ o = opIncDrops) ∨ 
  (i = .incDiagGet m f ∧ o = opIncDiagGet) ∨ (i = .sysModeReq m f ∧ o = opSysModeReq) ∨ 
  (i = .sysOptWrite m f ∧ o = opSysOptWrite) ∨ (i = .sysReset m f ∧ o = opSysReset) ∨ (i = .sysSupGet m f ∧ o = opSysSupGet)

/-- The words and fields of the response of mailbox m. -/
def respWord (m a : Nat) : Prop := mbxBase m + 0x400 ≤ a ∧ a < mbxBase m + 0x800
def respFlds (m : Nat) : List Fld := [R.MBX_STAT_BUSY m, R.MBX_STAT_DONE m, R.MBX_STAT_RESP_TAG m]

/-- The response to the command of a slot (R43, R48): header and result in the response slot, BUSY 0, DONE 1, the tag. -/
def Response (s t : State) (m st detail : Nat) (res : List Byte) : Prop :=
  let c := s.slotCtx m
  t.bytesAt (mbxBase m + 0x400) (16 + res.length) = leBytes 2 c.opcode ++ leBytes 1 c.tag ++ leBytes 1 c.flags ++ leBytes 2 c.gen ++
    leBytes 2 res.length ++ leBytes 2 st ++ leBytes 2 detail ++ leBytes 4 s.frame ++ res ∧
  t.rd (R.MBX_STAT_BUSY m) = 0 ∧ t.rd (R.MBX_STAT_DONE m) = 1 ∧ t.rd (R.MBX_STAT_RESP_TAG m) = c.tag

/-- The Forester takes the command of a slot: it is locked, no RT command goes before it (R52), it has this opcode, and passes
steps 1 to 7 of R56. -/
def Taken (s : State) (m : Fin 17) (o : OpSpec) (code : Nat) : Prop :=
  let c := s.slotCtx m
  s.rd (R.MBX_STAT_BUSY m) = 1 ∧ s.yields m = false ∧ c.opcode = code ∧ s.headBad o c = none ∧ rsvdBad o.bits c.payload = false ∧ o.grant s c = none ∧
  o.need c.payload ≤ c.len

/-- A command that only answers: OK with a result, and nothing else written. -/
def Reads (i : Instr) (s : State) (m : Fin 17) (res : List Byte) : Prop :=
  Answers i s fun t => Response s t m stOk 0 res ∧ KeepsBut (respWord m) s t (respFlds m)

/-- A command refused with a status: nothing else written, what is staged and committed as before. -/
def Refuses (i : Instr) (s : State) (m : Fin 17) (st detail : Nat) : Prop :=
  Answers i s fun t => Response s t m st detail [] ∧ t.staged = s.staged ∧ t.commits = s.commits ∧ KeepsBut (respWord m) s t (respFlds m)

/-- A command with an effect: OK with a result, and a frame of the fields it writes. -/
def Sets (i : Instr) (s : State) (m : Fin 17) (res : List Byte) (written : List Fld) (p : State → Prop) : Prop :=
  Answers i s fun t => Response s t m stOk 0 res ∧ p t ∧ KeepsBut (respWord m) s t (respFlds m ++ written)

/-- The same where the effect raises events, or writes words of some blocks. -/
def Acts (i : Instr) (s : State) (m : Fin 17) (res : List Byte) (bs : List Blk) (p : State → Prop) : Prop :=
  Answers i s fun t => Response s t m stOk 0 res ∧ p t ∧
    KeepsBut (fun a => eventWord a ∨ respWord m a ∨ ∃ b ∈ bs, blkOf a = some b) s t (respFlds m)

/-- A basic command (R60, R63 to R67): CONFLICT where a group already holds staged values; otherwise its values are staged and
committed for the mailbox, the active values unchanged. -/
def Stages (i : Instr) (s : State) (m : Fin 17) (vals : List (Fld × Nat)) (gs : List Nat) : Prop :=
  (∀ g, s.stagedConflict gs = some g → Refuses i s m stConflict g) ∧
  (s.stagedConflict gs = none → Answers i s fun t => Response s t m stOk 0 [] ∧
    (∃ k, t.commits = s.commits ++ [k] ∧ k.issuer = m.val ∧ (∀ g, g ∈ k.groups ↔ g ∈ gs) ∧
      ∀ x ∈ vals, ∃ w, (x.1.addr, w) ∈ k.snap ∧ bitsOf w x.1.hi x.1.lo = x.2 % 2 ^ (x.1.hi + 1 - x.1.lo)) ∧
    t.staged = s.staged ∧ t.rd (R.MBX_CSTAT_PENDING m) = 1 ∧ t.rd (R.MBX_CSTAT_REJECTED m) = 0 ∧
    KeepsBut (respWord m) s t (respFlds m ++ [R.MBX_CSTAT_PENDING m, R.MBX_CSTAT_REJECTED m]))

/-- A LONG command (R53): BUSY with DETAIL 8 for a ninth, else ACCEPTED with the lowest free entry, which is then in use. -/
def Accepts (i : Instr) (s : State) (m : Fin 17) : Prop :=
  (8 ≤ s.longOpen m → Refuses i s m stBusy 8) ∧
  (s.longOpen m < 8 → s.mbxs.length = 17 → ∀ e, (s.mbxs.getD m {}).longUsed.findIdx? (fun b => !b) = some e → e < 8 →
    Answers i s fun t => Response s t m stAccepted e [] ∧ t.longs = s.longs ++ [(s.slotCtx m).toLong (some e)] ∧
      (t.mbxs.getD m {}).longUsed.getD e false = true ∧ KeepsBut (respWord m) s t (R.MBX_STAT_LONG_OPEN m :: respFlds m))

/-- The check order of R56, for every Rhapol row: without a command of its opcode, or while an RT command of another mailbox
goes before it (R52), nothing is taken; the header's checks come
before reserved bits, those before grants, those before the length; INTERNAL replaces any of them and BUSY the effect. -/
def RhapolChecksInOrder : Prop :=
  ∀ (s : State) (i : Instr) (o : OpSpec) (m : Fin 17) (f : Fate), RhapolRow i o m f →
    let c := s.slotCtx m
    (s.rd (R.MBX_STAT_BUSY m) = 0 ∨ c.opcode ≠ o.opcode ∨ s.yields m = true → Answers i s fun t => KeepsQuiet s t []) ∧
    (s.rd (R.MBX_STAT_BUSY m) = 1 → c.opcode = o.opcode → s.yields m = false →
      (∀ k, f = .internal k → Answers i s fun t => Response s t m stInternal k [] ∧ Raised s t 43 (leBytes 2 c.opcode ++ leBytes 2 k) ∧
        KeepsBut (fun a => eventWord a ∨ respWord m a) s t (respFlds m)) ∧
      ((∀ k, f ≠ .internal k) →
        (∀ x, s.headBad o c = some x → Refuses i s m x.1 x.2) ∧
        (s.headBad o c = none →
          (rsvdBad o.bits c.payload = true → Refuses i s m stBadOpcode 2) ∧
          (rsvdBad o.bits c.payload = false →
            (∀ d, o.grant s c = some d → Refuses i s m stNotGranted d) ∧
            (o.grant s c = none → c.len < o.need c.payload → Refuses i s m stRange 0xFFFF)))) ∧
      (f = .busy → Taken s m o o.opcode → (o.body c s).st = stOk → Answers i s fun t => Response s t m stBusy 0 [] ∧
        KeepsBut (fun a => eventWord a ∨ respWord m a) s t (respFlds m)))

/-- The STATUS of the response that mailbox m holds (R48). -/
def statusOf (t : State) (m : Nat) : Nat := le (t.bytesAt (mbxBase m + 0x400) 16) 8 2

/-- No status but OK and ACCEPTED leaves an effect (R51), whatever the row, its class and its operands: registers, memory,
staged values, commits, LONG commands, partitions, controllers, channels, switch, queues and the staged package are as
before, and so are keys and slots but for the mark of a wrong authorization response (R407). -/
def Obligations.RefusedCommandsHaveNoEffect : Prop :=
  ∀ (s : State) (i : Instr) (o : OpSpec) (m : Fin 17) (f : Fate), RhapolRow i o m f → s.rd (R.MBX_STAT_BUSY m) = 1 →
    (s.slotCtx m).opcode = o.opcode → Answers i s fun t => statusOf t m ≠ stOk → statusOf t m ≠ stAccepted →
      t.staged = s.staged ∧ t.commits = s.commits ∧ t.longs = s.longs ∧ t.parts = s.parts ∧ t.cans = s.cans ∧ t.chans = s.chans ∧
      t.eth = s.eth ∧ t.queues = s.queues ∧ t.upd = s.upd ∧ (o.opcode ≠ 0x0911 → t.sec = s.sec) ∧
      KeepsBut (fun a => eventWord a ∨ respWord m a) s t (respFlds m)

/-- A ring with an opcode that no row has (R56 steps 1 and 2) is answered at once: STALE_GENERATION, else BAD_OPCODE with DETAIL 0. -/
def UnknownOpcodesAreAnsweredAtTheRing : Prop :=
  ∀ (s : State) (a : Attr) (m : Fin 17) (v : Word), s.regAdmits a (mbxBase m) true = true → v.getLsbD 0 = true →
    s.rd (R.MBX_STAT_BUSY m) = 0 → s.mbxs.length = 17 → opOf (s.slotCtx m).opcode = none →
      Answers (.regWrite a (mbxBase m + 0xC00) v) s fun t =>
        ((s.slotCtx m).gen ≠ s.gen m → Response s t m stStale (s.gen m) []) ∧ ((s.slotCtx m).gen = s.gen m → Response s t m stBadOpcode 0 []) ∧
        KeepsBut (respWord m) s t (respFlds m)
/-- The system group (R57, R67, R68, R75, R506, R507): SYS_HELLO fixes GRANTED once, SYS_COMMIT takes the snapshot of the
named groups, SYS_DISCARD drops their staged values, subscriptions change as asked, records are read in place and
written by a LONG command, and the service buffer takes what is put. The model's choices in it: log entries 45, 46. -/
def Obligations.SystemCommandsAct : Prop :=
  ∀ (s : State) (m : Fin 17),
    let c := s.slotCtx m
    let q := s.part m
    let named := (s.namedGroups c).filter s.hasStaged
    (Taken s m opSysHello 0x0101 → m.val < 16 → s.parts.length = 16 →
      let g := (offered &&& c.arg 0 16 &&& q.permitted) ||| 2 ^ 64
      (q.granted = none → Sets (.sysHello m .done) s m (leBytes 16 offered ++ leBytes 16 (c.arg 0 16) ++ leBytes 16 g) [R.MBX_STAT_HELLO m] fun t =>
        t.rd (R.MBX_STAT_HELLO m) = 1 ∧ (t.part m).granted = some g ∧ (t.part m).requested = c.arg 0 16 ∧
        (∀ e, e < 512 → q.has offEvt e = true → evKind e = .pub → ∃ x ∈ (t.part m).subs, x.1 = e)) ∧
      (∀ h, q.granted = some h → c.arg 0 16 = q.requested →
        Reads (.sysHello m .done) s m (leBytes 16 offered ++ leBytes 16 q.requested ++ leBytes 16 h)) ∧
      (∀ h, q.granted = some h → c.arg 0 16 ≠ q.requested → Answers (.sysHello m .done) s fun t =>
        Response s t m stConflict 0 (leBytes 16 offered ++ leBytes 16 q.requested ++ leBytes 16 h) ∧ t.parts = s.parts ∧
        KeepsBut (respWord m) s t (respFlds m))) ∧
    (Taken s m opSysHello 0x0101 → m.val = 16 → Reads (.sysHello m .done) s m (leBytes 16 offered ++ leBytes 16 (c.arg 0 16) ++
      leBytes 16 (match c.caller with | some p => ((s.part p).granted).getD 0 | none => offered))) ∧
    (Taken s m opSysInfo 0x0102 → Reads (.sysInfo m .done) s m (orderingCode ++ leBytes 4 s.fwVersion ++ leBytes 4 (s.rd R.KSU_LCS_STATE) ++
      leBytes 1 (s.rd R.SUP_STRAP_ZONE) ++ leBytes 1 (s.rd R.SUP_MODE_MODE) ++ leBytes 2 (s.gen m))) ∧
    (Taken s m opSysCommit 0x0110 →
      (∀ d, c.groupRange = some d → Refuses (.sysCommit m .done) s m stRange d) ∧
      (c.groupRange = none → named = [] → Sets (.sysCommit m .done) s m [] [] fun t => t.commits = s.commits ∧ t.staged = s.staged) ∧
      (c.groupRange = none → named ≠ [] → Sets (.sysCommit m .done) s m [] [R.MBX_CSTAT_PENDING m, R.MBX_CSTAT_REJECTED m] fun t =>
        (∃ k, t.commits = s.commits ++ [k] ∧ k.issuer = m.val ∧ k.instant = none ∧ (∀ g, g ∈ k.groups ↔ g ∈ named) ∧
          ∀ e, e ∈ k.snap ↔ e ∈ s.staged ∧ groupOf e.1 ∈ named) ∧
        t.staged = s.staged.filter (fun e => !named.contains (groupOf e.1)) ∧
        t.stagedTab = (if 0x0560 ∈ named then [] else s.stagedTab) ∧ t.rd (R.MBX_CSTAT_PENDING m) = 1 ∧
        t.rd (R.MBX_CSTAT_REJECTED m) = 0)) ∧
    (Taken s m opSysDiscard 0x0111 → c.groupRange = none →
      (∀ g, (s.namedGroups c).find? (fun g => s.commits.any fun k => k.groups.contains g) = some g →
        Refuses (.sysDiscard m .done) s m stConflict g) ∧
      ((∀ g ∈ s.namedGroups c, ∀ k ∈ s.commits, g ∉ k.groups) → Sets (.sysDiscard m .done) s m [] [] fun t =>
        t.staged = s.staged.filter (fun e => !(s.namedGroups c).contains (groupOf e.1)) ∧
        t.stagedTab = (if 0x0560 ∈ s.namedGroups c then [] else s.stagedTab) ∧ t.commits = s.commits)) ∧
    (Taken s m opSysEvtSub 0x0120 → s.parts.length = 16 → c.arg 0 2 ≤ 511 → c.arg 2 1 ≤ 3 → Sets (.sysEvtSub m .done) s m [] [] fun t =>
      (∀ x, x ∈ (t.part m).subs ↔ x = (c.arg 0 2, c.arg 2 1) ∨ (x ∈ q.subs ∧ x.1 ≠ c.arg 0 2)) ∧
      ∀ p : Fin 16, p.val ≠ m.val → t.part p = s.part p) ∧
    (Taken s m opSysEvtUnsub 0x0121 → s.parts.length = 16 → c.arg 0 2 ≤ 511 → Sets (.sysEvtUnsub m .done) s m [] [] fun t =>
      (∀ x, x ∈ (t.part m).subs ↔ x ∈ q.subs ∧ x.1 ≠ c.arg 0 2) ∧ ∀ p : Fin 16, p.val ≠ m.val → t.part p = s.part p) ∧
    (Taken s m opSysCfgRead 0x0130 → 1 ≤ c.arg 0 2 → c.arg 0 2 ≤ 11 → c.arg 2 1 ≤ 1 → 1 ≤ c.arg 8 2 → c.arg 8 2 ≤ 1008 →
      c.arg 4 4 + c.arg 8 2 ≤ 36 + recMax → Reads (.sysCfgRead m .done) s m
        ((List.range (c.arg 8 2)).map fun i => ((s.record (c.arg 0 2 - 1)).copy (c.arg 2 1)).getD (c.arg 4 4 + i) 0xFF)) ∧
    (Taken s m opSysCfgWrite 0x0131 → 1 ≤ c.arg 0 2 → c.arg 0 2 ≤ 11 → c.arg 4 4 ≤ recMax → s.sourceOk c (c.arg 8 8) (c.arg 4 4) = true →
      (c.arg 0 2 ≠ recSafety + 1 → Accepts (.sysCfgWrite m .done) s m) ∧
      (c.arg 0 2 = recSafety + 1 → Refuses (.sysCfgWrite m .done) s m stSafetyLocked 0)) ∧
    (Taken s m opSysSvcPut 0x0132 → c.arg 0 4 + (c.len - 4) ≤ svcBufSize → Sets (.sysSvcPut m .done) s m [] [] fun t =>
      (∀ i, i < c.len - 4 → sget (fun _ => 0) t.svcBuf (c.arg 0 4 + i) = c.payload.getD (4 + i) 0) ∧
      ∀ a, a < c.arg 0 4 ∨ c.arg 0 4 + (c.len - 4) ≤ a → sget (fun _ => 0) t.svcBuf a = sget (fun _ => 0) s.svcBuf a)

/-- The values of CH_CONFIG, CH_WIRE_SET and SIG_CONFIG, as R109 and R135 place them in the payload. -/
def chConfigVals (c : Ctx) : List (Fld × Nat) :=
  let n := c.arg 0 1
  let b := c.arg 1 1
  [(R.CHn_CFG_SRC n, nbits b 1 0), (R.CHn_CFG_EXTSEL n, nbits b 4 2), (R.CHn_CFG_HOLD_PWM n, nbits b 5 5), (R.CHn_CFG_OLON_EN n, nbits b 6 6),
   (R.CHn_CFG_OLOFF_EN n, nbits b 7 7), (R.CHn_CFG_SLEW n, nbits (c.arg 2 1) 1 0), (R.CHn_LIM_ILIM n, c.arg 4 2), (R.CHn_LIM_IINR n, c.arg 6 2),
   (R.CHn_TIM_TINR n, c.arg 8 1), (R.CHn_TIM_RETRY_MAX n, c.arg 9 1), (R.CHn_TIM_RETRY_DLY n, c.arg 10 1), (R.CHn_TIM_TTRIP n, c.arg 12 2)]
def chWireVals (c : Ctx) : List (Fld × Nat) :=
  let n := c.arg 0 1
  [(R.CHn_WIRE_SIZE n, nbits (c.arg 1 1) 3 0), (R.CHn_WIRE_CLASS n, nbits (c.arg 1 1) 6 4), (R.CHn_WIRE_BUNDLE n, nbits (c.arg 2 1) 1 0),
   (R.CHn_WIRE_AMB_TAMB n, c.arg 3 1), (R.CHn_WIRE_LENGTH n, c.arg 4 2), (R.CHn_IEXP_IEXP n, c.arg 6 2)]
def sigConfigVals (c : Ctx) : List (Fld × Nat) :=
  let n := c.arg 0 1
  [(R.CHn_SIG_CFG_EDGE n, nbits (c.arg 1 1) 1 0), (R.CHn_SIG_CFG_RATE n, nbits (c.arg 1 1) 3 2), (R.CHn_SIG_CFG_CMP_EN n, nbits (c.arg 1 1) 4 4),
   (R.CHn_SIG_CFG_DIV n, c.arg 2 1), (R.CHn_SIG_CFG_DEVN n, c.arg 3 1)]

/-- The channel group (R107 to R109, R134, R135): what is set is staged and committed once the rules of its groups hold, a
PAIRED channel is not turned on without the lease, sticky flags clear where the mask has ones, and the rest is read. -/
def ChannelCommandsAct : Prop :=
  ∀ (s : State) (m : Fin 17),
    let c := s.slotCtx m
    let n := c.arg 0 1
    let ns := maskIdx 64 (c.arg 0 8)
    let bad := fun k => nbit (c.arg 8 8) k && s.isSet (R.CHn_ROLE_PAIRED k)
    (Taken s m opChSet 0x0201 →
      (s.rd R.PAIR_STAT_LEASE_OUT = 0 → ∀ k, ns.find? bad = some k → Refuses (.chSet m .done) s m stNotLeased k) ∧
      (s.rd R.PAIR_STAT_LEASE_OUT = 1 ∨ ns.all (fun k => !bad k) = true → ns ≠ [] →
        Stages (.chSet m .done) s m (ns.map fun k => (R.CHn_CMD_ON k, b2n (nbit (c.arg 8 8) k))) (ns.map (0x0200 + ·)))) ∧
    (Taken s m opChConfig 0x0202 →
      (63 < n → Refuses (.chConfig m .done) s m stRange 0) ∧
      (n ≤ 63 → c.arg 9 1 ≤ 15 →
        let v := s.viewWith (chConfigVals c)
        s.chRules v n { chVals v n with ilim := c.arg 4 2, iinr := c.arg 6 2, tinr := c.arg 8 1, ttrip := c.arg 12 2 } = none →
        s.fieldCheck v [0x0200 + n] = none → Stages (.chConfig m .done) s m (chConfigVals c) [0x0200 + n])) ∧
    (Taken s m opChGet 0x0203 → n ≤ 63 → Reads (.chGet m .done) s m (leBytes 4 (s.raw (R.CHn_STAT n)).toNat ++ leBytes 4 (s.raw (R.CHn_FLT n)).toNat ++
      leBytes 4 (s.raw (R.CHn_CFG n)).toNat ++ leBytes 4 (s.raw (R.CHn_CMD n)).toNat ++ leBytes 2 (s.rd (R.CHn_CNT_TRIPS n)) ++
      leBytes 2 (s.rd (R.CHn_CNT_RESTARTS n)) ++ leBytes 4 (s.raw (R.CHn_ROLE n)).toNat)) ∧
    (Taken s m opChAck 0x0204 → Sets (.chAck m .done) s m [] (ns.map fun k => wholeReg (R.CHn_FLT k)) fun t =>
      ∀ k : Fin 64, t.raw (R.CHn_FLT k) = if nbit (c.arg 0 8) k then s.raw (R.CHn_FLT k) &&& ~~~(BitVec.ofNat 32 (c.arg 8 4)) else s.raw (R.CHn_FLT k)) ∧
    (Taken s m opChSoGet 0x0210 → Reads (.chSoGet m .done) s m ((List.range 4).flatMap fun k =>
      leBytes 4 (s.raw (R.SO_SWA_STAT k)).toNat ++ leBytes 4 (s.raw (R.SO_SWB_STAT ((k + 1) % 4))).toNat)) ∧
    (Taken s m opGovGet 0x0220 → Reads (.govGet m .done) s m (([6, 4, 5, 0, 1, 2, 3, 7].flatMap fun q => leBytes 2 (qUnit q (s.gov.loads.getD q 0))) ++
      leBytes 2 (qUnit 7 s.gov.plim) ++ leBytes 1 (unsigned 8 (s.gov.plate.getD 25)) ++ [0] ++ leBytes 4 s.gov.refusals ++ leBytes 4 s.gov.sheds)) ∧
    (Taken s m opChMeasGet 0x0221 → n ≤ 63 → Reads (.chMeasGet m .done) s m (s.bytesAt (R.CHn_MEAS_I n) 24 ++ leBytes 2 (s.rd (R.CHn_WIRE_TC_TC n)))) ∧
    (Taken s m opChWireSet 0x0222 → n ≤ 63 →
      let v := s.viewWith (chWireVals c)
      s.chRules v n { chVals v n with iexp := c.arg 6 2 } = none → Stages (.chWireSet m .done) s m (chWireVals c) [0x0200 + n]) ∧
    (Taken s m opChTambSet 0x0223 → ns ≠ [] →
      let vals := ns.map fun k => (R.CHn_WIRE_AMB_TAMB k, c.arg 8 1)
      (∀ k ∈ ns, s.chRules (s.viewWith vals) k (chVals (s.viewWith vals) k) = none) →
        Stages (.chTambSet m .done) s m vals (ns.map (0x0200 + ·))) ∧
    (Taken s m opSigConfig 0x0230 → n ≤ 63 → c.arg 3 1 ≤ 15 →
      let v := s.viewWith (sigConfigVals c)
      s.chRules v n (chVals v n) = none → Stages (.sigConfig m .done) s m (sigConfigVals c) [0x0200 + n]) ∧
    (Taken s m opSigRefSet 0x0231 → n ≤ 63 → c.arg 1 1 ≤ 1 → (∀ k, k < 20 → c.arg (4 + 4 * k) 2 ≤ c.arg (6 + 4 * k) 2) →
      Stages (.sigRefSet m .done) s m
        (((List.range 4).flatMap fun f => [(R.CHn_SIG_WIN_MIN n (c.arg 1 1) f, c.arg (4 + 4 * f) 2), (R.CHn_SIG_WIN_MAX n (c.arg 1 1) f, c.arg (6 + 4 * f) 2)]) ++
         ((List.range 16).flatMap fun g => [(R.CHn_SIG_ENV_MIN n (c.arg 1 1) g, c.arg (20 + 4 * g) 2), (R.CHn_SIG_ENV_MAX n (c.arg 1 1) g, c.arg (22 + 4 * g) 2)]))
        [0x0200 + n]) ∧
    (Taken s m opSigRead 0x0232 →
      ((s.chan n).captured = false → Refuses (.sigRead m .done) s m stRange 0) ∧
      (n ≤ 63 → (s.chan n).captured = true → (s.chan n).samples.length ≤ 480 → Reads (.sigRead m .done) s m
        (leBytes 4 (s.raw (R.CHn_SIG_STAT n)).toNat ++ leBytes 4 (s.raw (R.CHn_SIG_F0 n)).toNat ++ leBytes 4 (s.raw (R.CHn_SIG_F1 n)).toNat ++
          leBytes 4 (s.chan n).capFrame ++ (s.chan n).samples.flatMap fun x => leBytes 2 (unsigned 16 x))))
/-- The values of UIO_CONFIG, KT_CONFIG and KC_CONFIG, as R166 places them in the payload. -/
def uioConfigVals (c : Ctx) : List (Fld × Nat) :=
  let p := c.arg 0 1
  let b1 := c.arg 1 1
  let b2 := c.arg 2 1
  [(R.UIOp_CFG_MODE p, nbits b1 3 0), (R.UIOp_CFG_OVS p, nbits b1 5 4), (R.UIOp_CFG_PULL p, nbits b1 7 6), (R.UIOp_CFG_SSSEL p, nbits b2 1 0),
   (R.UIOp_CFG_OUT_SRC p, nbits b2 2 2), (R.UIOp_CFG_OUT_HOLD p, nbits b2 3 3), (R.UIOp_DIG_EDGE p, nbits b2 4 4), (R.UIOp_DIG_HYST p, nbits b2 6 5),
   (R.UIOp_DIG_FILT p, c.arg 3 1), (R.UIOp_DIG_THRESH p, c.arg 4 2), (R.UIOp_DIG_GLITCH p, c.arg 6 1), (R.UIOp_OUT_TMR p, c.arg 7 1)]
def ktConfigVals (c : Ctx) : List (Fld × Nat) :=
  let t := c.arg 0 1
  [(R.KTt_CFG_MODE t, nbits (c.arg 1 1) 2 0), (R.KTt_CFG_SYNC t, nbits (c.arg 1 1) 3 3), (R.KTt_CFG_PIN t, c.arg 2 1), (R.KTt_CFG_WIN t, c.arg 3 1),
   (R.KTt_PER_PERIOD t, c.arg 4 4), (R.KTt_PH_PHASE t, c.arg 8 4), (R.KTt_DUTY_DUTY t, c.arg 12 2)]
/-- The pins that KT_CONFIG takes into the mode of an input timer (R166): its PIN, and the next one for QUAD. -/
def ktConfigPins (c : Ctx) : List Nat :=
  if c.arg 0 1 < 64 then [] else if nbits (c.arg 1 1) 2 0 = tmFreq then [c.arg 2 1] else if nbits (c.arg 1 1) 2 0 = tmQuad then [c.arg 2 1, c.arg 2 1 + 1] else []
def kcConfigVals (c : Ctx) : List (Fld × Nat) :=
  let k := c.arg 0 1
  let ch := c.arg 1 1
  let b := c.arg 2 1
  [(R.KCc_CFG_CH k, ch), (R.KCc_CFG_EN k, nbits b 0 0), (R.KCc_CFG_FF_EN k, nbits b 1 1), (R.KCc_CFG_DWAVE k, nbits b 3 2), (R.KCc_CFG_RFF k, c.arg 4 2),
   (R.KCc_GAIN_KP k, c.arg 6 2), (R.KCc_GAIN_KI k, c.arg 8 2), (R.KCc_LIM_DMIN k, c.arg 10 2), (R.KCc_LIM_DMAX k, c.arg 12 2),
   (R.KCc_DITH_DFREQ k, c.arg 14 2), (R.KCc_DITH_DAMP k, c.arg 16 2), (R.KCc_SET_RAMP k, c.arg 18 2), (R.KCc_SET_SETPOINT k, c.arg 20 2)] ++
  (if nbit b 0 then [(R.KTt_CFG_MODE ch, tmCc), (R.KTt_PER_PERIOD ch, 5000 * c.arg 3 1), (R.KTt_PH_PHASE ch, 5000 * c.arg 22 1)]
   else [(R.KTt_CFG_MODE ch, tmOff)])

/-- The field I/O and Kerf group (R165, R166): pins, timers and controllers are staged and committed once the rules of their
groups hold; supplies change at once, but not their voltage while on; the rest is read. -/
def FieldCommandsAct : Prop :=
  ∀ (s : State) (m : Fin 17),
    let c := s.slotCtx m
    let k := c.arg 0 1
    (Taken s m opUioConfig 0x0301 → k ≤ 95 → nbits (c.arg 1 1) 3 0 ≠ pmFreq → nbits (c.arg 1 1) 3 0 ≠ pmQuad → c.arg 3 1 ≤ 15 → c.arg 4 2 ≤ 511 →
      c.arg 7 1 ≤ 63 → s.fieldCheck (s.viewWith (uioConfigVals c)) [0x0300 + k] = none →
        Stages (.uioConfig m .done) s m (uioConfigVals c) [0x0300 + k]) ∧
    (Taken s m opUioRead 0x0302 → Reads (.uioRead m .done) s m (leBytes 4 s.uioMirror.frm ++
      (maskIdx 96 (c.arg 0 12)).flatMap fun p => leBytes 4 (s.uioMirror.vals.getD p 0).toNat)) ∧
    (Taken s m opUioOutSet 0x0303 → maskIdx 96 (c.arg 0 12) ≠ [] → Stages (.uioOutSet m .done) s m
      ((maskIdx 96 (c.arg 0 12)).map fun p => (R.UIOp_OUT_ON p, b2n (nbit (c.arg 12 12) p))) ((maskIdx 96 (c.arg 0 12)).map (0x0300 + ·))) ∧
    (Taken s m opUioStatus 0x0304 → k ≤ 95 → Sets (.uioStatus m .done) s m (leBytes 4 (s.raw (R.UIOp_STAT k)).toNat ++ leBytes 4 (s.raw (R.UIOp_FLT k)).toNat)
      [wholeReg (R.UIOp_FLT k)] fun t => t.raw (R.UIOp_FLT k) = s.raw (R.UIOp_FLT k) &&& ~~~(BitVec.ofNat 32 (c.arg 1 1))) ∧
    (Taken s m opSsSet 0x0310 → k ≤ 7 →
      let vsel := nbits (c.arg 1 1) 1 1
      (s.rd (R.SSs_CFG_ON k) = 1 → nbit (c.arg 1 1) 0 = true → s.rd (R.SSs_CFG_VSEL k) ≠ vsel → Refuses (.ssSet m .done) s m stConflict 0) ∧
      (s.rd (R.SSs_CFG_ON k) = 0 ∨ nbit (c.arg 1 1) 0 = false ∨ s.rd (R.SSs_CFG_VSEL k) = vsel → Acts (.ssSet m .done) s m [] [.ss] fun t =>
        t.rd (R.SSs_CFG_VSEL k) = vsel ∧ t.rd (R.SSs_CFG_ON k) = nbits (c.arg 1 1) 0 0 ∧
        (nbit (c.arg 1 1) 0 = false → t.rd (R.SSs_STAT_STATE k) = 0) ∧
        (nbit (c.arg 1 1) 0 = true → s.rd (R.SSs_STAT_STATE k) = 0 → t.rd (R.SSs_STAT_STATE k) = 1))) ∧
    (Taken s m opSsGet 0x0311 → k ≤ 7 → Reads (.ssGet m .done) s m (leBytes 4 (s.raw (R.SSs_STAT k)).toNat ++ leBytes 4 (s.raw (R.SSs_FLT k)).toNat)) ∧
    (Taken s m opKtConfig 0x0320 → k ≤ 127 → nbits (c.arg 1 1) 2 0 ≠ tmCc →
      (k ≤ 63 → c.arg 2 1 = 0) → c.arg 2 1 ≤ 95 → c.arg 4 4 < 2 ^ 24 → c.arg 8 4 < 2 ^ 24 →
      let pins := (ktConfigPins c).filter fun p => p < 96 ∧ s.rd (R.UIOp_CFG_MODE p) = pmDigital
      let vals := ktConfigVals c ++ pins.map fun p => (R.UIOp_CFG_MODE p, if nbits (c.arg 1 1) 2 0 = tmFreq then pmFreq else pmQuad)
      let gs := (0x0380 + k) :: pins.map (0x0300 + ·)
      s.fieldCheck (s.viewWith vals) gs = none → Stages (.ktConfig m .done) s m vals gs) ∧
    (Taken s m opKtDuty 0x0321 → 1 ≤ k → k ≤ 32 →
      let es := (List.range k).map fun i => (c.arg (4 + 4 * i) 1, c.arg (6 + 4 * i) 2)
      (es.map (·.1)).Nodup → (∀ e ∈ es, e.1 ≤ 127) →
        Stages (.ktDuty m .done) s m (es.map fun e => (R.KTt_DUTY_DUTY e.1, e.2)) (es.map fun e => 0x0380 + e.1)) ∧
    (Taken s m opKtGet 0x0322 → k ≤ 127 → Reads (.ktGet m .done) s m (s.bytesAt (R.KTt_CFG k) 28)) ∧
    (Taken s m opKcConfig 0x0330 → k ≤ 31 → c.arg 1 1 ≤ 63 →
      s.fieldCheck (s.viewWith (kcConfigVals c)) [0x0360 + k, 0x0380 + c.arg 1 1] = none →
        Stages (.kcConfig m .done) s m (kcConfigVals c) [0x0360 + k, 0x0380 + c.arg 1 1]) ∧
    (Taken s m opKcSet 0x0331 → k ≤ 31 →
      let vals := [(R.KCc_SET_SETPOINT k, c.arg 2 2), (R.KCc_SET_RAMP k, if c.arg 4 2 = 0xFFFF then s.rd (R.KCc_SET_RAMP k) else c.arg 4 2)]
      s.fieldCheck (s.viewWith vals) [0x0360 + k] = none → Stages (.kcSet m .done) s m vals [0x0360 + k]) ∧
    (Taken s m opKcGet 0x0332 → k ≤ 31 → Reads (.kcGet m .done) s m (s.bytesAt (R.KCc_OUT k) 8 ++ leBytes 2 (s.rd (R.KCc_SET_SETPOINT k)) ++
      leBytes 2 (sat 0xFFFF (roundDiv (s.kc k).irefd 1000000).toNat) ++ leBytes 4 (s.raw (R.KCc_CNT k)).toNat)) ∧
    (Taken s m opExtGet 0x0340 → Reads (.extGet m .done) s m (leBytes 4 (s.raw R.EXT_STAT).toNat))
/-- The values of a basic command keep the rules of its groups (R65, R195, R277). -/
def RulesHold (s : State) (vals : List (Fld × Nat)) (gs : List Nat) : Prop :=
  s.ruleCheck (s.viewWith vals) (s.candidates (vals.map fun x => (x.1.addr, (0 : Word)))) [] gs = none

/-- The values of CAN_CONFIG as R195 places them in the payload. -/
def canConfigVals (c : Ctx) : List (Fld × Nat) :=
  let n := c.arg 0 1
  let b := c.arg 1 1
  let o := c.arg 2 1
  let part := fun (f : Fld) (off : Nat) => (f, c.arg off 4 / 2 ^ f.lo)
  [(R.CANn_CTRL_RUN n, nbits b 0 0), (R.CANn_CFG_FD_EN n, nbits b 1 1), (R.CANn_CFG_TDC_EN n, nbits b 2 2), (R.CANn_CFG_PXHD n, nbits b 3 3),
   (R.CANn_CFG_TRIPLE n, nbits b 4 4), (R.CANn_CFG_TXORD n, nbits b 5 5), (R.CANn_CFG_BOFF_HOLD n, nbits b 6 6), (R.CANn_CFG_BOFF_TX n, nbits b 7 7),
   (R.CANn_CFG_OPMODE n, nbits o 1 0), (R.CANn_CFG_DIRECT n, nbits o 4 2), part (R.CANn_NBT_NSJW n) 4, part (R.CANn_NBT_NTSEG2 n) 4,
   part (R.CANn_NBT_NTSEG1 n) 4, part (R.CANn_NBT_NBRP n) 4, part (R.CANn_DBT_DSJW n) 8, part (R.CANn_DBT_DTSEG2 n) 8, part (R.CANn_DBT_DTSEG1 n) 8,
   part (R.CANn_DBT_DBRP n) 8, part (R.CANn_TDC_TDCO n) 12, part (R.CANn_TDC_TDCF n) 12]

/-- The CAN group (R195, R196): the configuration of a controller is staged and committed once its rules hold, a frame goes
into the controller's source queue, an object is read and released under one lock, a controller held after bus-off is
released, a transceiver takes its mode at once unless it would put a ring segment to sleep. -/
def CanCommandsAct : Prop :=
  ∀ (s : State) (m : Fin 17),
    let c := s.slotCtx m
    let n := c.arg 0 1
    let w0 := BitVec.ofNat 32 (c.arg 4 4)
    let w1 := BitVec.ofNat 32 (c.arg 8 4)
    (Taken s m opCanConfig 0x0401 → n ≤ 23 → RulesHold s (canConfigVals c) [0x0400 + n] →
      Stages (.canConfig m .done) s m (canConfigVals c) [0x0400 + n]) ∧
    (Taken s m opCanRun 0x0402 → n ≤ 23 → c.arg 1 1 ≤ 1 → RulesHold s [(R.CANn_CTRL_RUN n, c.arg 1 1)] [0x0400 + n] →
      Stages (.canRun m .done) s m [(R.CANn_CTRL_RUN n, c.arg 1 1)] [0x0400 + n]) ∧
    (Taken s m opCanFilter 0x0403 → n ≤ 23 → c.arg 1 1 ≤ 39 →
      let k := c.arg 1 1
      let at_ := if k < 32 then (R.MOm_FID n k, R.MOm_FMSK n k) else (R.CANn_FFk_ID n (k - 32), R.CANn_FFk_MSK n (k - 32))
      let vals := [((⟨at_.1, 31, 0⟩ : Fld), c.arg 4 4), ((⟨at_.2, 28, 0⟩ : Fld), c.arg 8 4), ((⟨at_.2, 29, 29⟩ : Fld), 0), ((⟨at_.2, 31, 30⟩ : Fld), c.arg 8 4 / 2 ^ 30)]
      RulesHold s [(⟨at_.1, 31, 0⟩, c.arg 4 4), (⟨at_.2, 31, 0⟩, (c.arg 8 4) &&& 0xDFFFFFFF)] [0x0420 + n] →
        Stages (.canFilter m .done) s m vals [0x0420 + n]) ∧
    (Taken s m opCanFifo 0x0404 → n ≤ 23 → c.arg 2 1 ≤ 63 →
      let vals := [(R.CANn_FIFO_CFG_EN n, nbits (c.arg 1 1) 0 0), (R.CANn_FIFO_CFG_ALL n, nbits (c.arg 1 1) 1 1), (R.CANn_FIFO_CFG_QUEUE n, c.arg 2 1)]
      RulesHold s vals [0x0420 + n] → Stages (.canFifo m .done) s m vals [0x0420 + n]) ∧
    (Taken s m opCanSend 0x0405 → n ≤ 23 → s.cans.length = 24 → s.canMalformed n w0 w1 = false → (s.can n).sends.length < 32 →
      Sets (.canSend m .done) s m [] [] fun t =>
        (t.can n).sends = (s.can n).sends ++ [{ src := some 64, msg := ⟨w0, txW1 w0 w1, 0, padTo (frameLen w0 w1) (c.payload.drop 12)⟩ }] ∧
        ∀ k : Fin 24, k.val ≠ n → t.can k = s.can k) ∧
    (Taken s m opCanRead 0x0406 → n ≤ 23 → c.arg 1 1 ≤ 31 →
      let o := c.arg 1 1
      Answers (.canRead m .done) s fun t =>
        Response s t m stOk 0 (leBytes 4 (b2n (s.wordBit (R.CANn_RXNEW n) o) + 2 * b2n (s.wordBit (R.CANn_RXOVR n) o)) ++
          (List.range 19).flatMap fun w => if w ≤ s.moLast n o then leBytes 4 (s.raw (R.MOm_W0 n o + 4 * w)).toNat else [0, 0, 0, 0]) ∧
        t.wordBit (R.CANn_RXLOCK n) o = false ∧
        ((s.can n).shadows.find? (fun x => x.1 = o) = none → t.wordBit (R.CANn_RXNEW n) o = false) ∧
        (nbit (c.arg 2 1) 0 = true → t.wordBit (R.CANn_RXOVR n) o = false) ∧
        (nbit (c.arg 2 1) 0 = false → t.raw (R.CANn_RXOVR n) = s.raw (R.CANn_RXOVR n)) ∧
        KeepsBut (fun a => respWord m a ∨ canPage n a) s t (respFlds m)) ∧
    (Taken s m opCanStatus 0x0407 → n ≤ 23 → Reads (.canStatus m .done) s m (([R.CANn_STAT n, R.CANn_FLT n, R.CANn_CNT_TX n, R.CANn_CNT_RX n,
      R.CANn_CNT_ERR n, R.CANn_CNT_PXH n, R.CANn_CNT_LOST n, R.CANn_TDCV n]).flatMap fun a => leBytes 4 (s.raw a).toNat)) ∧
    (Taken s m opCanBoffRelease 0x0408 → n ≤ 23 →
      (s.canState n ≠ ctHeld → Refuses (.canBoffRelease m .done) s m stConflict 0) ∧
      (s.canState n = ctHeld → Sets (.canBoffRelease m .done) s m [] [R.CANn_STAT_STATE n] fun t => t.canState n = ctRecovering)) ∧
    (Taken s m opCanTrxSet 0x0410 → n ≤ 23 →
      let mode := nbits (c.arg 1 1) 1 0
      let wake := nbits (c.arg 1 1) 2 2
      ((mode = txSleep ∧ ∃ r ∈ s.tly.rings, r.on = true ∧ r.seg = n) → Refuses (.canTrxSet m .done) s m stConflict 0) ∧
      ((mode ≠ txSleep ∨ ∀ r ∈ s.tly.rings, r.on = false ∨ r.seg ≠ n) → s.segUnused n = false →
        Answers (.canTrxSet m .done) s fun t => Response s t m stOk 0 [] ∧ t.rd (R.TRXj_CTRL_MODE n) = mode ∧
          t.rd (R.TRXj_CTRL_WAKE_EN n) = wake ∧ t.rd ⟨R.WAKE_EN, 8 + n, 8 + n⟩ = wake ∧ t.rd (R.TRXj_STAT_STATE n) = mode ∧
          t.rd (R.TRXj_STAT_BIAS n) = b2n (decide (mode ≤ txListen)) ∧
          KeepsBut (fun a => eventWord a ∨ respWord m a ∨ canPage n a) s t (respFlds m ++ [wholeReg (R.TRXj_CTRL n), wholeReg (R.TRXj_STAT n), ⟨R.WAKE_EN, 8 + n, 8 + n⟩]))) ∧
    (Taken s m opCanTrxGet 0x0411 → n ≤ 23 → Reads (.canTrxGet m .done) s m (leBytes 4 (s.raw (R.TRXj_STAT n)).toNat ++ leBytes 4 (s.raw (R.TRXj_FLT n)).toNat))

/-- The Landing group (R277): routes, a route's image and the EN bits of a block are staged and committed once the rules of
the blocks hold; slots, counters and the links' counters are read. -/
def LandingCommandsAct : Prop :=
  ∀ (s : State) (m : Fin 17),
    let c := s.slotCtx m
    let r := c.arg 0 2
    let n := c.arg 2 1
    let entry := fun (q : Nat) (b : List Byte) => (List.range 8).map fun k => ((⟨R.LGW_ROUTE q k, 31, 0⟩ : Fld), le b (4 * k) 4)
    let old := fun (q : Nat) => (List.range 8).flatMap fun k => leBytes 4 (s.view (R.LGW_ROUTE q k)).toNat
    let im := (c.payload.drop 4).take 64
    (Taken s m opLgwRouteSet 0x0601 → r + n ≤ 16384 → 1 ≤ n → n ≤ 31 →
      let vals := (List.range n).flatMap fun i => entry (r + i) ((c.payload.drop (4 + 32 * i)).take 32)
      let gs := ((List.range n).map fun i => 0x0600 + (r + i) / 256).eraseDups
      RulesHold s vals gs → Stages (.lgwRouteSet m .done) s m vals gs) ∧
    (Taken s m opLgwImageSet 0x0602 → r < 16382 → (s.route r).kind = kEmit → r / 256 = (r + 2) / 256 →
      let vals := entry r ((old r).take 16 ++ im.take 16) ++ entry (r + 1) ((old (r + 1)).take 1 ++ (im.drop 16).take 31) ++
        entry (r + 2) ((old (r + 2)).take 1 ++ im.drop 47 ++ (old (r + 2)).drop 18)
      RulesHold s vals [0x0600 + r / 256] → Stages (.lgwImageSet m .done) s m vals [0x0600 + r / 256]) ∧
    (Taken s m opLgwEnable 0x0603 → c.arg 0 1 ≤ 63 →
      let b := c.arg 0 1
      let picked := (List.range 256).filter fun i => bitAt (c.payload.drop 4) i
      let vals := picked.flatMap fun i =>
        let en := fun q => ((⟨R.LGW_ROUTE q 0, 3, 3⟩ : Fld), b2n (bitAt (c.payload.drop 36) i))
        if (s.route (256 * b + i)).kind = kEmit then [en (256 * b + i), en (256 * b + i + 1), en (256 * b + i + 2)] else [en (256 * b + i)]
      (picked = [] → Sets (.lgwEnable m .done) s m [] [] fun t => t.staged = s.staged ∧ t.commits = s.commits) ∧
      (picked ≠ [] → (∀ i ∈ picked, 254 ≤ i → (s.route (256 * b + i)).kind ≠ kEmit) →
        (∀ i ∈ picked, ∀ k ∈ picked, k < i → i ≤ k + 2 → (s.route (256 * b + k)).kind ≠ kEmit) →
        RulesHold s vals [0x0600 + b] → Stages (.lgwEnable m .done) s m vals [0x0600 + b])) ∧
    (Taken s m opLgwRead 0x0604 → r + n ≤ 16384 → 1 ≤ n → n ≤ 62 → Reads (.lgwRead m .done) s m (s.bytesAt (R.LGW_SLOT r 0) (16 * n))) ∧
    (Taken s m opLgwStatus 0x0605 → Reads (.lgwStatus m .done) s m ((([R.LGW_CNT_PEAK, R.LGW_CNT_DROP, R.LGW_CNT_MISFIT, R.LGW_CNT_BADCTN,
      R.FRM_CNT_LGW]).flatMap fun a => leBytes 4 (s.raw a).toNat) ++ List.replicate 12 0)) ∧
    (Taken s m opGwbStatus 0x0610 → c.arg 0 1 ≤ 5 → Reads (.gwbStatus m .done) s m (s.bytesAt (R.GWB_Lg_STAT (c.arg 0 1)) 32))
/-- The ring and wake group (R210 to R214, R200): stays are added, renewed and ended while the caller may hold them, the
sleep state and the vetoes are read, wake latches are read and cleared, and the earliest alarm of all partitions is set. -/
def RingAndWakeCommandsAct : Prop :=
  ∀ (s : State) (m : Fin 17),
    let c := s.slotCtx m
    let p := c.caller.getD 0
    let reason := c.arg 0 2
    let dur := c.arg 4 4
    let mine := s.tly.stays.filter fun x => x.pid = p
    let held := mine.find? fun x => x.reason = reason
    let rest := s.tly.stays.filter fun x => !(x.pid = p ∧ x.reason = reason)
    (Taken s m opTlyStay 0x0440 →
      (reason < 0x100 → Refuses (.tlyStay m .done) s m stRange 0) ∧
      (0x100 ≤ reason → s.maxAwake p < dur → Refuses (.tlyStay m .done) s m stRange 4) ∧
      (0x100 ≤ reason → dur ≤ s.maxAwake p →
        (held = none → dur = 0 → Refuses (.tlyStay m .done) s m stRange 0) ∧
        (held = none → dur ≠ 0 → 8 ≤ mine.length → Refuses (.tlyStay m .done) s m stBusy 8) ∧
        (s.tly.ready = none → s.tly.rings.all (fun r => !r.on) = true → (∀ x ∈ s.tly.stays, x.reason ≠ 0) →
          (held ≠ none ∨ mine.length < 8 → dur ≠ 0 → Acts (.tlyStay m .done) s m [] [] fun t =>
            t.tly.stays = rest ++ [{ pid := p, reason := reason, dur := dur, expiry := s.now + dur * 1000000000, renewals := match held with | some h => h.renewals + 1 | none => 0 }] ∧
            (s.tly.localWait ≠ none → t.tly.localWait = none ∧ ∃ e ∈ t.events, e.num = 213)) ∧
          (held ≠ none → dur = 0 → Acts (.tlyStay m .done) s m [] [] fun t => t.tly.stays = rest)))) ∧
    (Taken s m opTlyGet 0x0441 →
      let seg := c.arg 0 1
      let idx := (List.range 4).find? fun i => ((s.ring i).on || (s.ring i).bad) && decide ((s.ring i).seg = seg)
      (seg = 0xFF → Reads (.tlyGet m .done) s m (leBytes 1 (if s.tly.localWait.isSome then rsWait else if s.tly.rings.any (·.on) then rsReady else rsDisabled) ++
        List.replicate 19 0 ++ leBytes 2 s.veto ++ [0, 0] ++ leBytes 4 (s.waitLeft s.tly.localWait))) ∧
      (seg ≠ 0xFF → idx = none → Refuses (.tlyGet m .done) s m stRange 0) ∧
      (∀ i, seg ≠ 0xFF → idx = some i → Reads (.tlyGet m .done) s m (leBytes 1 (s.ring i).st ++ leBytes 1 (s.ring i).addr ++
        leBytes 1 (masterOf (s.ring i).present) ++ leBytes 1 (s.ring i).round ++ leBytes 8 (s.ring i).present ++ leBytes 8 (s.ring i).lastReady ++
        leBytes 2 s.veto ++ [0, 0] ++ leBytes 4 (s.waitLeft (s.ring i).waitFrom)))) ∧
    (Taken s m opTlyVetoList 0x0442 →
      let l : List (List Byte) := ((s.ownVetoes.map fun v => [0xFF, 0] ++ leBytes 2 v ++ leBytes 4 0xFFFFFFFF) ++
        (s.tly.stays.map fun (x : Stay) => leBytes 1 x.pid ++ [0] ++ leBytes 2 x.reason ++ leBytes 4 ((x.expiry - s.now) / 1000000000))).take 125
      Reads (.tlyVetoList m .done) s m (leBytes 1 l.length ++ [0, 0, 0] ++ l.flatten)) ∧
    (Taken s m opWakeGet 0x0443 → Sets (.wakeGet m .done) s m
      (s.bytesAt R.WAKE_SRC 12 ++ leBytes 4 (s.rd R.WAKE_PEND_PEND ||| s.tly.view) ++ s.bytesAt R.WAKE_CNT 4) [R.WAKE_PEND_PEND] fun t =>
        ∀ k, k < 32 → nbit (t.rd R.WAKE_PEND_PEND) k = (nbit (s.rd R.WAKE_PEND_PEND) k && !nbit (c.arg 0 4) k) ∧
          nbit t.tly.view k = (nbit s.tly.view k && !nbit (c.arg 0 4) k)) ∧
    (Taken s m opWakeAlarm 0x0444 →
      let a := c.arg 0 4
      (a ≠ 0 → a ≤ s.rtc → Refuses (.wakeAlarm m .done) s m stRange 0) ∧
      (a = 0 ∨ s.rtc < a → s.tly.alarms.length = 16 → p < 16 → (∀ x ∈ s.tly.alarms.filterMap id, x < 2 ^ 32) →
        Sets (.wakeAlarm m .done) s m [] [R.WAKE_RTC_ALM_SEC] fun t =>
          t.tly.alarms.getD p none = (if a = 0 then none else some a) ∧
          (∀ q : Fin 16, q.val ≠ p → t.tly.alarms.getD q none = s.tly.alarms.getD q none) ∧
          (∀ x ∈ t.tly.alarms.filterMap id, t.rd R.WAKE_RTC_ALM_SEC ≤ x) ∧
          (t.rd R.WAKE_RTC_ALM_SEC ∈ t.tly.alarms.filterMap id ∨ (t.tly.alarms.filterMap id = [] ∧ t.rd R.WAKE_RTC_ALM_SEC = 0))))

/-- A table entry of ETH_FDB_SET, ETH_VLAN_SET or ETH_QCI_SET (R243, R246): CONFLICT while group 0x0560 holds staged values,
else staged and committed with its bytes. -/
def StagesEntry (i : Instr) (s : State) (m : Fin 17) (e : Nat × List Byte) : Prop :=
  (s.hasStaged 0x0560 = true → Refuses i s m stConflict 0x0560) ∧
  (s.hasStaged 0x0560 = false → Answers i s fun t => Response s t m stOk 0 [] ∧
    (∃ k, t.commits = s.commits ++ [k] ∧ k.issuer = m.val ∧ k.groups = [0x0560] ∧ k.tab = [e]) ∧ t.stagedTab = [] ∧ t.eth = s.eth ∧
    t.rd (R.MBX_CSTAT_PENDING m) = 1 ∧ t.rd (R.MBX_CSTAT_REJECTED m) = 0 ∧
    KeepsBut (respWord m) s t (respFlds m ++ [R.MBX_CSTAT_PENDING m, R.MBX_CSTAT_REJECTED m]))

/-- The values of ETH_PORT_CFG as R245 places them: those of class S, and those that are staged. -/
def portCfgS (c : Ctx) : List (Fld × Nat) :=
  let p := c.arg 0 1
  [(R.ESW_Pp_CFG_ROLE p, nbits (c.arg 1 1) 7 6), (R.ESW_Pp_CFG_SPEED p, c.arg 2 1)] ++
    (if p = 14 ∨ p = 15 then [(R.ESW_Pp_PLCA_ID p, c.arg 6 1), (R.ESW_Pp_PLCA_CNT p, c.arg 7 1)] else [])
def portCfgF (c : Ctx) : List (Fld × Nat) :=
  let p := c.arg 0 1
  let b := c.arg 1 1
  [(R.ESW_Pp_CFG_EN p, nbits b 0 0), (R.ESW_Pp_CFG_PTP_EN p, nbits b 1 1), (R.ESW_Pp_CFG_ACC_TAGGED p, nbits b 2 2),
   (R.ESW_Pp_CFG_DEFPCP p, nbits b 5 3), (R.ESW_Pp_CFG_PVID p, c.arg 4 2), (R.ESW_Pp_ASYM_ASYM p, c.arg 8 4)]

/-- The Ethernet group (R243 to R246): a port's configuration, with class S values at once on a stopped port and a CONFLICT
on a running one; gate lists and table entries are staged and committed; counters, lists, queue pairs and timestamps are read. -/
def EthernetCommandsAct : Prop :=
  ∀ (s : State) (m : Fin 17),
    let c := s.slotCtx m
    let p := c.arg 0 1
    let en := s.rd (R.ESW_Pp_CFG_EN p)
    let same := ∀ x ∈ portCfgS c, s.rd x.1 = x.2
    (Taken s m opEthPortCfg 0x0501 → p ≤ 20 → (p ≤ 1 → c.arg 2 1 ≠ 3) → portRules (s.viewWith (portCfgS c ++ portCfgF c)) p = none → c.arg 4 2 ≤ 4095 →
      (en = 1 → nbit (c.arg 1 1) 0 = true → ¬ same → Refuses (.ethPortCfg m .done) s m stConflict (0x0500 + p)) ∧
      (en = 1 → nbit (c.arg 1 1) 0 = true → same → Stages (.ethPortCfg m .done) s m (portCfgF c) [0x0500 + p]) ∧
      (en = 1 → nbit (c.arg 1 1) 0 = false → Stages (.ethPortCfg m .done) s m (portCfgF c) [0x0500 + p]) ∧
      (en = 0 → (s.hasStaged (0x0500 + p) = true → Refuses (.ethPortCfg m .done) s m stConflict (0x0500 + p)) ∧
        (s.hasStaged (0x0500 + p) = false → Answers (.ethPortCfg m .done) s fun t => Response s t m stOk 0 [] ∧
          (∀ x ∈ portCfgS c, t.rd x.1 = x.2 % 2 ^ (x.1.hi + 1 - x.1.lo)) ∧
          (∃ k, t.commits = s.commits ++ [k] ∧ k.groups = [0x0500 + p] ∧ ∀ x ∈ portCfgF c, ∃ w, (x.1.addr, w) ∈ k.snap ∧
            bitsOf w x.1.hi x.1.lo = x.2 % 2 ^ (x.1.hi + 1 - x.1.lo)) ∧
          KeepsBut (respWord m) s t (respFlds m ++ [R.MBX_CSTAT_PENDING m, R.MBX_CSTAT_REJECTED m] ++ (portCfgS c).map (·.1))))) ∧
    (Taken s m opEthPortGet 0x0502 → p ≤ 20 → Reads (.ethPortGet m .done) s m (([R.ESW_Pp_STAT p, R.ESW_Pp_RX p, R.ESW_Pp_TX p, R.ESW_Pp_DROP p,
      R.ESW_Pp_RXERR p, R.ESW_Pp_QCIDROP p, R.ESW_Pp_TSQ_STAT p]).flatMap fun a => leBytes 4 (s.raw a).toNat)) ∧
    (Taken s m opEthGclSet 0x0510 → p ≤ 20 → gclRules (payloadList c.payload 1 4) 64 = none → Stages (.ethGclSet m .done) s m
      ([(R.ESW_Pp_GCL_CFG_EN p, c.arg 1 1), (R.ESW_Pp_GCL_CFG_K p, c.arg 2 1), (R.ESW_Pp_GCL_CFG_LEN p, c.arg 3 1)] ++
        (List.range (c.arg 3 1)).flatMap fun i => [(R.ESW_Pp_GCLe_G_GATES p i, c.arg (4 + 8 * i) 1), (R.ESW_Pp_GCLe_T_T p i, c.arg (8 + 8 * i) 4)])
      [0x0520 + p]) ∧
    (Taken s m opEthGclGet 0x0511 → p ≤ 20 → c.arg 1 1 ≤ 1 →
      let g := if c.arg 1 1 = 0 then s.adminList p else (s.port p).oper
      g.entries.length ≤ 64 → Reads (.ethGclGet m .done) s m (leBytes 1 p ++ leBytes 1 (b2n g.en) ++ leBytes 1 g.k ++ leBytes 1 g.entries.length ++
        g.entries.flatMap fun e => leBytes 1 e.1 ++ [0, 0, 0] ++ leBytes 4 e.2)) ∧
    (Taken s m opEthFdbSet 0x0520 → s.tabRules [(0x0520, padTo 12 c.payload)] = none →
      StagesEntry (.ethFdbSet m .done) s m (0x0520, padTo 12 c.payload)) ∧
    (Taken s m opEthVlanSet 0x0521 → s.tabRules [(0x0521, padTo 13 c.payload)] = none →
      StagesEntry (.ethVlanSet m .done) s m (0x0521, padTo 13 c.payload)) ∧
    (Taken s m opEthQciSet 0x0530 → p ≤ 3 → (p = 1 → c.arg 1 1 ≤ 63) → (p = 2 → c.arg 1 1 ≤ 127) →
      s.tabRules [(0x0530, padTo 263 c.payload)] = none → StagesEntry (.ethQciSet m .done) s m (0x0530, padTo 263 c.payload)) ∧
    (Taken s m opEthQpGet 0x0540 → p ≤ 31 → Reads (.ethQpGet m .done) s m (([R.ESW_QPk_CFG p, R.ESW_QPk_MAC_LO p, R.ESW_QPk_MAC_HI p,
      R.ESW_QPk_TSIGN p]).flatMap fun a => leBytes 4 (s.raw a).toNat)) ∧
    (Taken s m opEthTsRead 0x0541 → p ≤ 16 → (s.port p).tsq.length ≤ 16 → Sets (.ethTsRead m .done) s m
      (leBytes 1 (s.port p).tsq.length ++ leBytes 1 (s.rd (R.ESW_Pp_TSQ_STAT_OVF p)) ++ [0, 0] ++
        (s.port p).tsq.flatMap fun e => leBytes 2 e.1 ++ [0, 0] ++ leBytes 4 e.2.1 ++ leBytes 4 e.2.2)
      [R.ESW_Pp_TSQ_STAT_COUNT p, R.ESW_Pp_TSQ_STAT_OVF p, R.ESW_Pp_TSQ_ID_SEQID p, R.ESW_Pp_TSQ_S_SEC p, R.ESW_Pp_TSQ_NS_NS p] fun t =>
        (t.port p).tsq = [] ∧ t.rd (R.ESW_Pp_TSQ_STAT_COUNT p) = 0 ∧ t.rd (R.ESW_Pp_TSQ_STAT_OVF p) = 0)

/-- The time commands (R245, R246): TIME_GET answers one latch of the clocks, with 0 for an invalid domain's time;
TIME_DOM_GET latches a domain's page and answers it, and reads TMU_AB for A-B. -/
def TimeCommandsAct : Prop :=
  ∀ (s : State) (m : Fin 17),
    let c := s.slotCtx m
    let x := c.arg 0 1
    (Taken s m opTimeGet 0x0550 → Reads (.timeGet m .done) s m (leBytes 8 s.lc ++ leBytes 1 (s.rd R.TMU_STAT_FOLLOW) ++
      leBytes 1 (s.rd R.FRM_STAT_ALIGNED + 2 * b2n (s.domValid 0) + 4 * b2n (s.domValid 1) + 8 * s.rd R.TMU_STAT_STEPPED + 16 * s.rd R.TMU_STAT_HOLDOVER) ++
      leBytes 1 (s.rd R.FRM_STAT_SLOT) ++ leBytes 1 (s.rd R.TMU_STAT_TOFS) ++ leBytes 8 (if s.domValid 0 then unsigned 64 (s.domTime 0 s.lc) else 0) ++
      leBytes 8 (if s.domValid 1 then unsigned 64 (s.domTime 1 s.lc) else 0) ++ leBytes 4 s.frame ++ leBytes 4 (s.rd R.FRM_OFS_OFS))) ∧
    (Taken s m opTimeDomGet 0x0551 →
      (2 < x → Refuses (.timeDomGet m .done) s m stRange 0) ∧
      (x = 2 → Reads (.timeDomGet m .done) s m ((([R.TMU_AB_OFS_LO, R.TMU_AB_OFS_HI, R.TMU_AB_RATE, R.TMU_AB_STAT]).flatMap fun a =>
        leBytes 4 (s.raw a).toNat) ++ List.replicate 20 0)) ∧
      (x ≤ 1 → Answers (.timeDomGet m .done) s fun t => Response s t m stOk 0 (t.bytesAt (R.TMU_DOMx_STAT x) 36) ∧
        t.raw (R.TMU_DOMx_STAT x) = s.raw (R.TMU_DOMx_STAT x) ∧ t.rd64 (R.TMU_DOMx_OFS_LO x) (R.TMU_DOMx_OFS_HI x) = unsigned 64 (s.dom x).ofs ∧
        t.rd (R.TMU_DOMx_RATE_RATE x) = unsigned 32 (s.dom x).rate ∧ t.rd (R.TMU_DOMx_AGE_AGE x) = s.domAge x ∧
        KeepsBut (fun a => respWord m a ∨ (R.TMU_DOMx_STAT x ≤ a ∧ a < R.TMU_DOMx_STAT x + 36)) s t (respFlds m)))
/-- A command with an effect that raises events: OK with a result, and a frame of the fields it writes. -/
def Works (i : Instr) (s : State) (m : Fin 17) (res : List Byte) (written : List Fld) (p : State → Prop) : Prop :=
  Answers i s fun t => Response s t m stOk 0 res ∧ p t ∧ KeepsBut (fun a => eventWord a ∨ respWord m a) s t (respFlds m ++ written)

/-- The partition group (R328): what a partition is, is read; a restart or a stop quiesces a partition that runs or loads,
without a response where it is the caller's own; a start loads a stopped one; votes gate and hold clock units. -/
def PartitionCommandsAct : Prop :=
  ∀ (s : State) (m : Fin 17),
    let c := s.slotCtx m
    let goes := fun p : Nat => s.partState p = stRunning ∨ s.partState p = stLoading
    let quiesces := fun (i : Instr) (p cause : Nat) =>
      (¬ goes p → Refuses i s m stConflict 0) ∧
      (goes p → p = m.val → Answers i s fun t => Quiesces p cause s t [] ∧ t.rd (R.MBX_STAT_BUSY m) = 0) ∧
      (goes p → p ≠ m.val → Answers i s fun t => Response s t m stOk 0 [] ∧ t.partState p = stQuiescing ∧ t.gen p = nextGen (s.gen p) ∧
        (t.part p).cause = cause ∧ (∀ h ∈ s.hartsOf p, (t.hart h).run = false) ∧
        KeepsBut (fun a => eventWord a ∨ respWord m a ∨ (mbxBase p ≤ a ∧ a < mbxBase p + 0x1000)) s t
          (respFlds m ++ [R.EVR_Pp_FSTAT_STATE p, R.EVR_Pp_FSTAT_TICK_PEND p, R.EVR_Pp_FSTAT_IN_FRAME p, R.SUP_MODE_DEGR, R.SUP_MODE_MODE] ++
            (List.range 8).map R.LSC_Pk_STAT_STATE))
    (∀ p, c.namedPart = some p → p < 16 → s.parts.length = 16 →
      (Taken s m opPartInfo 0x0701 → Reads (.partInfo m .done) s m (leBytes 1 (s.partState p) ++ leBytes 1 (s.part p).flags ++ leBytes 2 (s.gen p) ++
        leBytes 2 (s.part p).cores ++ leBytes 1 (s.part p).lastCause ++ leBytes 1 ((s.part p).chargedIn s.now).length ++ leBytes 4 (s.part p).restarts ++
        leBytes 4 (s.raw (R.EVR_Pp_OVR p)).toNat ++ leBytes 2 (s.rd (R.EVR_Pp_FSTAT_USED p)))) ∧
      (Taken s m opPartRestart 0x0702 → quiesces (.partRestart m .done) p pcRestart) ∧
      (Taken s m opPartStop 0x0703 → quiesces (.partStop m .done) p pcStop) ∧
      (Taken s m opPartStart 0x0704 →
        (s.partState p ≠ stStopped ∨ s.svr.cut = true → Refuses (.partStart m .done) s m stConflict 0) ∧
        (s.partState p = stStopped → s.svr.cut = false → (∀ k ∈ s.pairsOf p, s.pairState k ≠ psFailed) →
          Acts (.partStart m .done) s m [] [.qmg, .evr, .sup] fun t => t.partState p = stLoading ∧ (t.part p).charged = [] ∧ (t.part p).spent = false) ∧
        (s.partState p = stStopped → s.svr.cut = false → (∃ k ∈ s.pairsOf p, s.pairState k = psFailed) →
          Sets (.partStart m .done) s m [] [] fun t => t.partState p = stStopped ∧ (t.part p).charged = [] ∧ (t.part p).spent = false))) ∧
    (c.namedPart = none ∨ (∃ p, c.namedPart = some p ∧ 16 ≤ p) →
      (Taken s m opPartInfo 0x0701 → Refuses (.partInfo m .done) s m stRange 0) ∧ (Taken s m opPartRestart 0x0702 → Refuses (.partRestart m .done) s m stRange 0) ∧
      (Taken s m opPartStop 0x0703 → Refuses (.partStop m .done) s m stRange 0) ∧ (Taken s m opPartStart 0x0704 → Refuses (.partStart m .done) s m stRange 0)) ∧
    (let u := c.arg 0 1
     (Taken s m opPartGate 0x0710 → u ≤ 45 → c.arg 1 1 ≤ 1 →
       let mine := if c.attr.w then R.KSU_GATEu_VOTE_H u else R.KSU_GATEu_VOTE_S u
       let other := if c.attr.w then R.KSU_GATEu_VOTE_S u else R.KSU_GATEu_VOTE_H u
       Works (.partGate m .done) s m [] [mine, R.KSU_GATEu_GATED u, R.KSU_GATEu_HELD u] fun t =>
         t.rd mine = c.arg 1 1 ∧ t.rd other = s.rd other ∧
         t.rd (R.KSU_GATEu_HELD u) = b2n (decide (t.rd (R.KSU_GATEu_VOTE_H u) = 1 ∧ t.rd (R.KSU_GATEu_VOTE_S u) = 0)) ∧
         (t.rd (R.KSU_GATEu_VOTE_H u) = 1 ∨ t.rd (R.KSU_GATEu_VOTE_S u) = 1 → t.rd (R.KSU_GATEu_GATED u) = 0) ∧
         (t.rd (R.KSU_GATEu_VOTE_H u) = 0 → t.rd (R.KSU_GATEu_VOTE_S u) = 0 → s.unitStopped u = true → t.rd (R.KSU_GATEu_GATED u) = 1) ∧
         (t.rd (R.KSU_GATEu_HELD u) = 1 → s.rd (R.KSU_GATEu_HELD u) = 0 → Raised s t 496 (leBytes 1 u))) ∧
     (Taken s m opPartGateGet 0x0711 → u ≤ 45 → Reads (.partGateGet m .done) s m (leBytes 4 (s.raw (R.KSU_GATEu u)).toNat)))

/-- The safety group (R361): the mirror, a function, the fault log and the check words are read; SAFE_WRITE and SAFE_CONFIRM
are LONG, one at a time, the first in COMMISSION or SERVICE alone, the second for the pending value alone. -/
def SafetyCommandsAct : Prop :=
  ∀ (s : State) (m : Fin 17),
    let c := s.slotCtx m
    let word := fun i => (s.sil.mirror.getD i 0).toNat
    let busy := ∃ l ∈ s.longs, l.opcode = 0x0810 ∨ l.opcode = 0x0811
    (Taken s m opSafeGet 0x0801 → s.sil.mirror.length = 11 → Reads (.safeGet m .done) s m (s.sil.mirror.flatMap (fun w => leBytes 4 w.toNat) ++ leBytes 4 s.sil.mirrorFrame)) ∧
    (Taken s m opSafeFnGet 0x0802 →
      let f := c.arg 0 1
      (15 < f → Refuses (.safeFnGet m .done) s m stRange 0) ∧
      (f ≤ 15 → Reads (.safeFnGet m .done) s m (leBytes 1 (nbits (word (4 + f / 8)) (4 * (f % 8) + 3) (4 * (f % 8))) ++ leBytes 1 (le s.ilBody (fnOff f) 1) ++
        leBytes 6 (le s.ilBody (fnOff f + 2) 6) ++ leBytes 2 (match s.sil.offEnd.getD f none with | some t => (t - s.now + 9999999) / 10000000 | none => 0) ++
        [0, 0] ++ leBytes 4 (s.sil.demands.getD f 0)))) ∧
    (Taken s m opSafeFaultLog 0x0803 → s.sil.log.length ≤ 62 → Reads (.safeFaultLog m .done) s m (leBytes 4 s.sil.log.length ++
      s.sil.log.flatMap fun x => leBytes 1 x.1 ++ leBytes 1 x.2.1 ++ [0, 0] ++ leBytes 4 x.2.2.1 ++ leBytes 8 x.2.2.2)) ∧
    (Taken s m opSafeCheckGet 0x0812 → Reads (.safeCheckGet m .done) s m (leBytes 4 (word 1) ++ leBytes 4 (word 2) ++ leBytes 4 (word 3))) ∧
    (Taken s m opSafeWrite 0x0810 → c.arg 0 4 = 384 → s.sourceOk c (c.arg 4 8) 384 = true →
      (s.mode ≠ mdCommission → s.mode ≠ mdService → Refuses (.safeWrite m .done) s m stSafetyLocked 0) ∧
      (s.mode = mdCommission ∨ s.mode = mdService → busy → Refuses (.safeWrite m .done) s m stConflict 0) ∧
      (s.mode = mdCommission ∨ s.mode = mdService → ¬ busy → Accepts (.safeWrite m .done) s m)) ∧
    (Taken s m opSafeConfirm 0x0811 →
      (s.sil.dead = true → Refuses (.safeConfirm m .done) s m stSafetyLocked 0) ∧
      (s.sil.dead = false → (s.sil.pend = [] ∨ c.arg 0 4 ≠ s.rd R.SIL_PEND_VALUE ∨ busy) → Refuses (.safeConfirm m .done) s m stConflict 0) ∧
      (s.sil.dead = false → s.sil.pend ≠ [] → c.arg 0 4 = s.rd R.SIL_PEND_VALUE → ¬ busy → Accepts (.safeConfirm m .done) s m))

/-- The pairing group (R391): the pair's registers are read with ages as time stands, a checkpoint slot is published unless it
is being sent, the checkpoint state is read, and a lead with a synced partner grants the lease. -/
def PairingCommandsAct : Prop :=
  ∀ (s : State) (m : Fin 17),
    let c := s.slotCtx m
    let p := c.caller.getD 16
    (Taken s m opPairGet 0x0B01 → Answers (.pairGet m .done) s fun t => Response s t m stOk 0 (t.bytesAt R.PAIR_CFG 28) ∧
      (s.pairU.renewAt = none → t.rd R.PAIR_AGE_RENEW = 0xFFFF) ∧
      (∀ x, s.pairU.renewAt = some x → t.rd R.PAIR_AGE_RENEW = min 0xFFFF ((s.now - x) / 100000)) ∧
      KeepsBut (respWord m) s t (respFlds m ++ [R.PAIR_AGE_RENEW, R.PAIR_AGE_SIG, R.PAIR_STAT_PL_OK])) ∧
    (Taken s m opPairCkptPub 0x0B02 → p < 16 → s.pairU.pub.length = 16 →
      let k := c.arg 0 1
      (1 < k → Refuses (.pairCkptPub m .done) s m stRange 0) ∧
      (k ≤ 1 → (s.role = roUnpaired ∨ s.pairU.send.getD p none = some k) → Refuses (.pairCkptPub m .done) s m stConflict 0) ∧
      (k ≤ 1 → s.role ≠ roUnpaired → s.pairU.send.getD p none ≠ some k → Sets (.pairCkptPub m .done) s m [] [] fun t =>
        t.pairU.pub.getD p none = some k ∧ ∀ q : Fin 16, q.val ≠ p → t.pairU.pub.getD q none = s.pairU.pub.getD q none)) ∧
    (Taken s m opPairCkptInfo 0x0B03 →
      (s.role = roUnpaired → Refuses (.pairCkptInfo m .done) s m stConflict 0) ∧
      (s.role ≠ roUnpaired → Reads (.pairCkptInfo m .done) s m ([BitVec.ofNat 8 (b2n (s.pairU.restored.getD p none).isSome),
        BitVec.ofNat 8 ((s.pairU.send.getD p none).getD 0xFF), BitVec.ofNat 8 ((s.pairU.pub.getD p none).getD 0xFF), 0] ++
        leBytes 4 ((s.pairU.restored.getD p none).getD 0)))) ∧
    (Taken s m opPairHandover 0x0B04 →
      (s.role ≠ roLead ∨ s.pairU.peerSynced = false → Refuses (.pairHandover m .done) s m stConflict 0) ∧
      (s.role = roLead → s.pairU.peerSynced = true → Works (.pairHandover m .done) s m (leBytes 4 s.turnAfter) [R.PAIR_STAT_ROLE] fun t =>
        t.role = roHanding ∧ t.pairU.handT = some s.turnAfter ∧ Raised s t 416 (leBytes 1 roHanding ++ leBytes 1 roLead ++ leBytes 2 s.epoch) ∧
        t.pairU.sent.map (fun f => (f.type, f.body)) = [(8, 1 :: leBytes 4 s.turnAfter)]))

/-- The supervisor group (R469): mode requests as the mode and the role allow, OPTIONS by a LONG command, a reset 1 ms later
unless a write is outstanding, and the supervisor's registers. -/
def SupervisorCommandsAct : Prop :=
  ∀ (s : State) (m : Fin 17),
    let c := s.slotCtx m
    let w := c.arg 0 1
    let waits := fun (what : Nat) (t : State) => t.svr.swr = some (s.now + 1000000, what)
    (Taken s m opSysModeReq 0x0140 →
      let may := (s.mode = mdLead ∨ s.mode = mdDegraded ∨ s.mode = mdReserve ∨ (s.mode = mdSafeHold ∧ s.sil.dead = false)) ∧
        s.role ≠ roLead ∧ s.role ≠ roTakeover ∧ s.role ≠ roHanding
      (w = mdCommission → ¬ may → Refuses (.sysModeReq m .done) s m stConflict 0) ∧
      (w = mdCommission → may → Works (.sysModeReq m .done) s m [] [R.SUP_MODE_MODE] fun t => t.mode = mdCommission ∧
        Raised s t 0 (leBytes 1 mdCommission ++ leBytes 1 s.mode ++ leBytes 2 (s.rd R.SUP_MODE_DEGR))) ∧
      (w = mdService → Answers (.sysModeReq m .done) s fun t => Response s t m stOk 0 [] ∧ t.mode = mdService ∧ t.rd R.SIL_STAT_HOLD = 1 ∧
        (∀ p : Fin 16, s.partState p = stRunning ∨ s.partState p = stLoading → t.partState p = stQuiescing) ∧
        (∀ n : Fin 64, s.rd (R.BOLE_STAT_HOLD (dieOf n)) = 0 → t.rd (R.CHn_CMD_ON n) = 0) ∧ (∀ a, t.memGet a = s.memGet a)) ∧
      (w = 3 → s.mode = mdCommission ∨ s.mode = mdService → Sets (.sysModeReq m .done) s m [] [] (waits crown)) ∧
      (w = 3 → s.mode ≠ mdCommission → s.mode ≠ mdService → Refuses (.sysModeReq m .done) s m stConflict 0) ∧
      (w = 0 → s.mode = mdService → Sets (.sysModeReq m .done) s m [] [] (waits dormantCode)) ∧
      (w = 0 → s.mode ≠ mdService → Refuses (.sysModeReq m .done) s m stConflict 0) ∧
      (w ≠ mdCommission → w ≠ mdService → w ≠ 3 → w ≠ 0 → Refuses (.sysModeReq m .done) s m stRange 0)) ∧
    (Taken s m opSysOptWrite 0x0141 → s.sourceOk c (c.arg 0 5) 64 = true →
      (s.mode = mdCommission ∨ s.mode = mdService → Accepts (.sysOptWrite m .done) s m) ∧
      (s.mode ≠ mdCommission → s.mode ≠ mdService → Refuses (.sysOptWrite m .done) s m stConflict 0)) ∧
    (Taken s m opSysReset 0x0142 →
      let busy := ∃ l ∈ s.longs, l.opcode ∈ [0x0131, 0x0810, 0x0904, 0x0905, 0x0A04]
      (1 < w → Refuses (.sysReset m .done) s m stRange 0) ∧
      (w ≤ 1 → busy → Refuses (.sysReset m .done) s m stConflict 0) ∧
      (w ≤ 1 → ¬ busy → Sets (.sysReset m .done) s m [] [] (waits (if w = 1 then module else crown)))) ∧
    (Taken s m opSysSupGet 0x0143 → Reads (.sysSupGet m .done) s m (s.bytesAt R.SUP_CAUSE 56))
/-- A command that ends with INTERNAL and its event (R55, R75): nothing else written. -/
def Fails (i : Instr) (s : State) (m : Fin 17) (code : Nat) : Prop :=
  Answers i s fun t => Response s t m stInternal code [] ∧ Raised s t 43 (leBytes 2 (s.slotCtx m).opcode ++ leBytes 2 code) ∧
    KeepsBut (fun a => eventWord a ∨ respWord m a) s t (respFlds m)

/-- Key commands (R413, R414): what is stored is told, a slot is loaded or stored by a LONG command while the root key and
the random generator are good and no life-cycle step is on its way, unloading clears a slot, at once or at the end of the unit
that uses it, a public key is derived. -/
def KeyCommandsAct : Prop :=
  ∀ (s : State) (m : Fin 17),
    let c := s.slotCtx m
    let i := c.arg 0 1
    let kid := c.arg 0 2
    let slot := fun k => s.sec.slots.getD k none
    let adv := ∃ l ∈ s.longs, l.opcode = 0x0930
    let busy := ∃ l ∈ s.longs, (l.opcode = 0x0904 ∨ l.opcode = 0x0905) ∧ le l.payload 0 2 = kid
    (Taken s m opKeyInfo 0x0901 →
      (adv → Refuses (.keyInfo m .done) s m stConflict 0) ∧
      (¬ adv → Reads (.keyInfo m .done) s m (leBytes 4 (s.raw R.KSU_LCS).toNat ++ leBytes 4 (s.raw R.KSU_STAT).toNat ++ leBytes 8 s.sec.uid ++
        leBytes 4 (s.raw R.KSU_AUTH).toNat ++ leBytes 4 s.authLeft ++ leBytes 4 (s.keysOf c.keyOwner)))) ∧
    (Taken s m opKeyLoad 0x0902 →
      (31 < c.arg 2 1 → Refuses (.keyLoad m .done) s m stRange 2) ∧
      (c.arg 2 1 ≤ 31 → adv ∨ slot (c.arg 2 1) ≠ none → Refuses (.keyLoad m .done) s m stConflict 0) ∧
      (c.arg 2 1 ≤ 31 → ¬ adv → slot (c.arg 2 1) = none →
        (s.rd R.KSU_STAT_ROOT_OK = 1 → s.goodKey kid = none → Fails (.keyLoad m .done) s m icBadBlob) ∧
        (s.rd R.KSU_STAT_ROOT_OK = 1 → s.goodKey kid ≠ none → Accepts (.keyLoad m .done) s m))) ∧
    (Taken s m opKeyUnload 0x0903 →
      (31 < i → Refuses (.keyUnload m .done) s m stRange 0) ∧
      (i ≤ 31 → adv → Refuses (.keyUnload m .done) s m stConflict 0) ∧
      (i ≤ 31 → ¬ adv → slot i = none → Sets (.keyUnload m .done) s m [] [] fun t => t.sec = s.sec) ∧
      (i ≤ 31 → ¬ adv → s.sec.slots.length = 32 → (∀ j ∈ s.sec.jobs, le j.desc 8 1 ≠ i) → ∀ b, slot i = some b → Works (.keyUnload m .done) s m [] [wholeReg (R.KSU_SLOTs i), R.KSU_STAT_SLOTS] fun t =>
        t.sec.slots.getD i none = none ∧ (∀ k : Fin 32, k.val ≠ i → t.sec.slots.getD k none = slot k) ∧ t.raw (R.KSU_SLOTs i) = 0 ∧
        Raised s t 132 (leBytes 1 i ++ [0])) ∧
      (i ≤ 31 → ¬ adv → slot i ≠ none → (∃ j ∈ s.sec.jobs, le j.desc 8 1 = i ∧ some j.vq ∈ s.sec.serving) →
        Sets (.keyUnload m .done) s m [] [] fun t => t.sec.slots = s.sec.slots ∧ (i, 0) ∈ t.sec.clearing ∧ t.sec.serving = s.sec.serving ∧
          ∀ j ∈ t.sec.jobs, le j.desc 8 1 = i → j.dead = true)) ∧
    (Taken s m opKeyStore 0x0904 → c.kidRange = true → c.arg 2 1 ≤ 1 → c.arg 3 1 ≤ 2 → c.arg 4 1 ≤ 2 → (c.isService = true → c.arg 4 1 = 0) → c.arg 5 1 ≤ 3 →
      (c.arg 3 1 ≠ 0 → s.sourceOk c (c.arg 8 5) (sourceLen (c.arg 3 1) (c.arg 5 1)) = true) →
      (adv ∨ busy → Refuses (.keyStore m .done) s m stConflict 0) ∧
      (¬ adv → ¬ busy → s.keyExists kid ≠ decide (c.arg 2 1 = 1) → Refuses (.keyStore m .done) s m stConflict 0) ∧
      (¬ adv → ¬ busy → s.keyExists kid = decide (c.arg 2 1 = 1) → (c.arg 2 1 = 0 → (s.sec.dir.filter fun e => s.keyExists e.kid).length < 1024) →
        s.rd R.KSU_STAT_ROOT_OK = 1 → s.rd R.KSU_STAT_DRBG_OK = 1 → Accepts (.keyStore m .done) s m)) ∧
    (Taken s m opKeyDelete 0x0905 → c.kidRange = true →
      (adv ∨ busy ∨ s.keyExists kid = false → Refuses (.keyDelete m .done) s m stConflict 0) ∧
      (¬ adv → ¬ busy → s.keyExists kid = true → Accepts (.keyDelete m .done) s m)) ∧
    (Taken s m opKeyPub 0x0906 →
      (31 < i ∨ slot i = none → Refuses (.keyPub m .done) s m stRange 0) ∧
      (i ≤ 31 → ∀ b, slot i = some b →
        (b.ktype < 2 → Refuses (.keyPub m .done) s m stRange 0) ∧
        (2 ≤ b.ktype → adv → Refuses (.keyPub m .done) s m stConflict 0) ∧
        (2 ≤ b.ktype → ¬ adv → Reads (.keyPub m .done) s m (padTo (2 * keyLen b.ktype) (Config.ecPublic b.ktype (b.key.take (keyLen b.ktype)))))))

/-- Authorization, attestation and the life cycle (R404, R407, R408, R414): a challenge is fresh and remembered with its
request, the response expected for it puts the request in force, a wrong one is counted and the third within 60 s locks,
AUTH_END ends it; ATTEST answers the state block and its code; LC_ADVANCE takes one step or goes to END. -/
def AuthorizationCommandsAct : Prop :=
  ∀ (s : State) (m : Fin 17),
    let c := s.slotCtx m
    let dest := c.arg 0 1
    let recent := s.sec.fails.filter fun t => s.now ≤ t + 60000000000
    (Taken s m opAuthChal 0x0910 →
      (c.arg 2 2 < 1 ∨ 480 < c.arg 2 2 → Refuses (.authChal m .done) s m stRange 2) ∧
      (1 ≤ c.arg 2 2 → c.arg 2 2 ≤ 480 → s.sec.lockEnd ≠ none ∨ s.lcs = lcBlank ∨ s.lcs = lcEnd → Refuses (.authChal m .done) s m stConflict 0) ∧
      (1 ≤ c.arg 2 2 → c.arg 2 2 ≤ 480 → s.sec.lockEnd = none → s.lcs ≠ lcBlank → s.lcs ≠ lcEnd → s.rd R.KSU_STAT_DRBG_OK = 1 →
        Answers (.authChal m .done) s fun t => (∃ ch, ch.length = 32 ∧ Response s t m stOk 0 ch ∧ t.sec.chal = some (ch, s.now, c.payload.take 4)) ∧
          KeepsBut (respWord m) s t (respFlds m))) ∧
    (Taken s m opAuthResp 0x0911 →
      (s.sec.chal = none → Refuses (.authResp m .done) s m stConflict 0) ∧
      (∀ ch at_ req, s.sec.chal = some (ch, at_, req) →
        (at_ + 60000000000 < s.now → Answers (.authResp m .done) s fun t => Response s t m stConflict 0 [] ∧ t.sec.chal = none ∧
          t.sec.authEnd = s.sec.authEnd ∧ KeepsBut (respWord m) s t (respFlds m)) ∧
        (s.now ≤ at_ + 60000000000 → s.expected ch req = some (c.payload.take 32) →
          Works (.authResp m .done) s m [] [R.KSU_AUTH_SCOPE, R.KSU_AUTH_CORES] fun t => t.sec.chal = none ∧
            t.rd R.KSU_AUTH_SCOPE = le req 0 1 % 64 ∧ t.rd R.KSU_AUTH_CORES = le req 1 1 ∧
            t.sec.authEnd = some (s.now + le req 2 2 * 60000000000) ∧ Raised s t 137 req) ∧
        (s.now ≤ at_ + 60000000000 → s.expected ch req ≠ some (c.payload.take 32) → Answers (.authResp m .done) s fun t =>
          Response s t m stConflict 0 [] ∧ t.sec.chal = none ∧ t.sec.fails = recent ++ [s.now] ∧ t.sec.authEnd = s.sec.authEnd ∧
          Raised s t 138 (leBytes 1 (recent.length + 1)) ∧ t.sec.lockEnd = (if recent.length < 2 then s.sec.lockEnd else some (s.now + 60000000000)) ∧
          (2 ≤ recent.length → Raised s t 139 []) ∧ KeepsBut (fun a => eventWord a ∨ respWord m a) s t (respFlds m)))) ∧
    (Taken s m opAuthEnd 0x0912 →
      (s.sec.authEnd = none → Sets (.authEnd m .done) s m [] [] fun t => t.sec = s.sec) ∧
      (∀ x, s.sec.authEnd = some x → Works (.authEnd m .done) s m [] [wholeReg R.KSU_AUTH] fun t => t.sec.authEnd = none ∧ t.raw R.KSU_AUTH = 0 ∧
        Raised s t 140 [1])) ∧
    (Taken s m opAttest 0x0920 → c.len ≤ 32 →
      ((s.lcs ≠ lcField ∧ s.lcs ≠ lcReturn) ∨ s.keyExists 1 = false → Refuses (.attest m .done) s m stConflict 0) ∧
      (s.lcs = lcField ∨ s.lcs = lcReturn → s.keyExists 1 = true → ∀ k, s.goodKey 1 = some k →
        let dsd := padTo 32 (Config.sha256 s.stateBlock)
        Reads (.attest m .done) s m (s.stateBlock ++ dsd ++ padTo 32 (Config.hmac (k.key.take 32) (c.payload.take c.len ++ dsd))))) ∧
    (Taken s m opLcAdvance 0x0930 →
      (¬ (s.lcs < lcEnd ∧ (dest = s.lcs + 1 ∨ dest = lcEnd)) → Refuses (.lcAdvance m .done) s m stRange 0) ∧
      (s.lcs < lcEnd → dest = s.lcs + 1 ∨ dest = lcEnd → (∃ l ∈ s.longs, l.opcode ∈ [0x0902, 0x0904, 0x0905, 0x0930]) →
        Refuses (.lcAdvance m .done) s m stConflict 0) ∧
      (s.lcs < lcEnd → dest = s.lcs + 1 ∨ dest = lcEnd → (∀ l ∈ s.longs, l.opcode ∉ [0x0902, 0x0904, 0x0905, 0x0930]) →
        Accepts (.lcAdvance m .done) s m))

/-- Update commands (R425 to R434): a package begins and takes billets that it names, by LONG commands; its state and slots
are read; a ready component is activated while no trial is on, the component on trial is confirmed or rejected, and a
package is aborted outside a trial. -/
def UpdateCommandsAct : Prop :=
  ∀ (s : State) (m : Fin 17),
    let c := s.slotCtx m
    let k := c.arg 0 4
    let h := s.upd.header
    let b := s.boot
    (Taken s m opUpdBegin 0x0A01 →
      (s.sourceOk c (c.arg 0 5) 4096 = false → Refuses (.updBegin m .done) s m stRange 0) ∧
      (s.sourceOk c (c.arg 0 5) 4096 = true → Accepts (.updBegin m .done) s m)) ∧
    (Taken s m opUpdBillet 0x0A02 →
      (h = [] → Refuses (.updBillet m .done) s m stConflict 0) ∧
      (h ≠ [] → k = hId h → (c.arg 4 4 < 1 ∨ hTotal h ≤ c.arg 4 4) → Refuses (.updBillet m .done) s m stRange 4) ∧
      (h ≠ [] → k = hId h → 1 ≤ c.arg 4 4 → c.arg 4 4 < hTotal h → c.arg 8 4 ≠ billetLen h (c.arg 4 4) → Refuses (.updBillet m .done) s m stRange 8) ∧
      (h ≠ [] → k ≠ hId h → s.sourceOk c (c.arg 12 5) (c.arg 8 4) = true → Refuses (.updBillet m .done) s m stConflict 0) ∧
      (h ≠ [] → k = hId h → 1 ≤ c.arg 4 4 → c.arg 4 4 < hTotal h → c.arg 8 4 = billetLen h (c.arg 4 4) →
        s.sourceOk c (c.arg 12 5) (c.arg 8 4) = true → Accepts (.updBillet m .done) s m)) ∧
    (Taken s m opUpdStatus 0x0A03 → Reads (.updStatus m .done) s m (leBytes 4 (if h = [] then 0 else hId h) ++ leBytes 1 b.trial ++ leBytes 1 b.kind ++
      leBytes 1 b.active ++ [0] ++ leBytes 4 s.held ++ leBytes 4 (hTotal h) ++ leBytes 4 b.comp ++
      leBytes 4 (if s.onTrial then b.tstart + b.window - s.rtc else 0) ++ leBytes 4 b.rollback ++ [0, 0, 0, 0] ++ leBytes 512 s.bits)) ∧
    (Taken s m opUpdActivate 0x0A04 →
      let busy := s.onTrial = true ∨ ∃ l ∈ s.longs, l.opcode = 0x0A04
      (k = 2 → s.safetyRuns = true → Refuses (.updActivate m .done) s m stSafetyLocked 0) ∧
      (k ≠ 2 ∨ s.safetyRuns = false →
        (k ∉ s.upd.ready ∨ kindOf k = none → Refuses (.updActivate m .done) s m stConflict 4) ∧
        (k ∈ s.upd.ready → kindOf k ≠ none → busy → Refuses (.updActivate m .done) s m stConflict 3) ∧
        (k ∈ s.upd.ready → kindOf k ≠ none → ¬ busy → Accepts (.updActivate m .done) s m))) ∧
    (Taken s m opUpdConfirm 0x0A05 →
      (b.trial ≠ trRunning ∨ b.comp ≠ k → Refuses (.updConfirm m .done) s m stConflict 0) ∧
      (b.trial = trRunning → b.comp = k → Accepts (.updConfirm m .done) s m)) ∧
    (Taken s m opUpdReject 0x0A06 →
      (b.trial ≠ trRunning ∨ b.comp ≠ k → Refuses (.updReject m .done) s m stConflict 0) ∧
      (b.trial = trRunning → b.comp = k → Accepts (.updReject m .done) s m)) ∧
    (Taken s m opUpdAbort 0x0A07 →
      let may := s.onTrial = false ∧ (∀ l ∈ s.longs, l.opcode ≠ 0x0A04) ∧ h ≠ [] ∧ k = hId h
      (¬ may → Refuses (.updAbort m .done) s m stConflict 0) ∧
      (may → Sets (.updAbort m .done) s m [] [] fun t => t.upd.header = [] ∧ t.upd.billets = [] ∧ t.upd.ready = [] ∧ t.upd.slots = s.upd.slots)) ∧
    (Taken s m opUpdInfo 0x0A08 →
      (1 < c.arg 0 1 → Refuses (.updInfo m .done) s m stRange 0) ∧
      (c.arg 0 1 ≤ 1 →
        let cs := (sortComps (s.upd.slots.getD (c.arg 0 1) {}).comps).take 22
        Reads (.updInfo m .done) s m (leBytes 1 cs.length ++ [0, 0, 0] ++
          cs.flatMap fun x => leBytes 4 x.num ++ leBytes 4 x.ver ++ leBytes 4 x.data.length ++ padTo 32 x.digest)))

/-- Recorder commands (R436 to R449): an entry of the caller enters the ring with the next SEQ, entries are read in SEQ order,
a freeze is triggered once, drops and totals are read. -/
def RecorderCommandsAct : Prop :=
  ∀ (s : State) (m : Fin 17),
    let c := s.slotCtx m
    let first := c.arg 0 2
    let n := c.arg 2 1
    (Taken s m opIncLog 0x0C01 →
      (48 < c.len → Refuses (.incLog m .done) s m stRange 0xFFFF) ∧
      (c.len ≤ 48 → 2 < c.arg 0 1 → Refuses (.incLog m .done) s m stRange 0) ∧
      (c.len ≤ 48 → c.arg 0 1 ≤ 2 → s.inc.ring = [] → Works (.incLog m .done) s m (leBytes 4 (s.rd R.INR_SEQ_SEQ)) [] fun t =>
        ∃ e, t.inc.ring = [e] ∧ e.source = srcPart (c.caller.getD 0) ∧ e.cls = c.arg 0 1 ∧ e.code = c.arg 1 1 ∧ e.frame = s.frame ∧ e.time = s.lc ∧
          e.seq = s.rd R.INR_SEQ_SEQ ∧ e.data0 = padTo 16 (c.payload.drop 4) ∧ e.data1 = padTo 28 (c.payload.drop 20))) ∧
    (Taken s m opIncStatus 0x0C02 → Reads (.incStatus m .done) s m (s.bytesAt R.INR_FILL 28)) ∧
    (Taken s m opIncRead 0x0C03 →
      (c.arg 4 1 < 1 ∨ 15 < c.arg 4 1 → Refuses (.incRead m .done) s m stRange 4) ∧
      (1 ≤ c.arg 4 1 → c.arg 4 1 ≤ 15 →
        let es := (sortEntries ((s.inc.ring ++ s.inc.alarmArea ++ s.inc.generalArea).filter fun e => c.arg 0 4 ≤ e.seq && s.mayReadInc c e)).take (c.arg 4 1)
        Reads (.incRead m .done) s m (leBytes 1 es.length ++ [0, 0, 0] ++ es.flatMap IncEntry.bytes))) ∧
    (Taken s m opIncTrigger 0x0C04 →
      (s.rd R.INR_FREEZE_ACTIVE = 1 → Refuses (.incTrigger m .done) s m stConflict 0) ∧
      (s.rd R.INR_FREEZE_ACTIVE = 0 → s.inc.freeze = none → Works (.incTrigger m .done) s m (leBytes 1 ((s.inc.nextSlot + s.inc.toWrite.length) % 8))
        [R.INR_FREEZE_ACTIVE] fun t => t.rd R.INR_FREEZE_ACTIVE = 1 ∧ (∃ f, t.inc.freeze = some f ∧ f.ttr = s.lc) ∧
          Raised s t 466 (leBytes 1 ((s.inc.nextSlot + s.inc.toWrite.length) % 8)))) ∧
    (Taken s m opIncDrops 0x0C05 →
      (528 < first → Refuses (.incDrops m .done) s m stRange 0) ∧
      (first ≤ 528 → n < 1 ∨ 250 < n → Refuses (.incDrops m .done) s m stRange 2) ∧
      (first ≤ 528 → 1 ≤ n → n ≤ 250 → Reads (.incDrops m .done) s m ((List.range n).flatMap fun i =>
        match s.inc.srcDrops.find? fun x => x.1 = first + i with
        | some x => leBytes 2 x.2.1 ++ leBytes 2 x.2.2
        | none => [0, 0, 0, 0]))) ∧
    (Taken s m opIncDiagGet 0x0C06 →
      (207 < first → Refuses (.incDiagGet m .done) s m stRange 0) ∧
      (first ≤ 207 → n < 1 ∨ 126 < n ∨ 208 < first + n → Refuses (.incDiagGet m .done) s m stRange 2) ∧
      (first ≤ 207 → 1 ≤ n → n ≤ 126 → first + n ≤ 208 → Reads (.incDiagGet m .done) s m ((List.range n).flatMap fun i =>
        leBytes 8 (s.inc.totals.getD (first + i) 0))))
/-! Accesses that their target turns away (R20, R23, R325). -/

/-- A command that is an access to a register answers an error, reported and without effect, where the register's target
does not admit the requester (R23), and where it admits it but its unit is gated (R325). -/
def TurnsAway (s : State) (a : Attr) (addr : Nat) (w : Bool) (i : Instr) : Prop :=
  (s.regAdmits a addr w = false → Answers i s fun t => t.bus = { err := true } ∧
    Raised s t 487 (leBytes 5 addr ++ [BitVec.ofNat 8 a.pid, BitVec.ofNat 8 a.rqc, BitVec.ofNat 8 (b2n a.w)]) ∧ Keeps s t []) ∧
  (s.regAdmits a addr w = true → s.gated addr = true → Answers i s fun t => t.bus = { err := true } ∧
    Raised s t 497 (BitVec.ofNat 8 ((gateUnit addr).getD 0) :: leBytes 5 addr ++ [BitVec.ofNat 8 a.pid]) ∧ Keeps s t [])

/-- Every command that is an access to one register is turned away so. -/
def RegistersTurnAwayWhoMayNot : Prop :=
  ∀ (s : State) (a : Attr),
    (∀ i ∈ [Instr.isbConfirm a, .isbRestart a, .isbTrialSet a, .isbErase a], TurnsAway s a R.ISB_CTRL true i) ∧
    (∀ v, TurnsAway s a R.ISB_DATA true (.isbProgram a v) ∧ TurnsAway s a R.SUP_SWR true (.swrGo a v)) ∧
    (∀ n, TurnsAway s a R.SUP_BLKRST_CAN true (.blkrstCan a n) ∧ TurnsAway s a R.SUP_BLKRST true (.blkrstCrypto a n) ∧
      TurnsAway s a R.SUP_FWDG true (.fwdgKick a n) ∧ TurnsAway s a R.SUP_FWDG true (.fwdgPeriodWrite a n)) ∧
    (∀ i ∈ [Instr.blkrstInr a, .blkrstLgw a, .blkrstEsw a], TurnsAway s a R.SUP_BLKRST true i) ∧
    TurnsAway s a R.FRM_CTRL true (.frmStart a) ∧ TurnsAway s a R.FRM_NUM_LO false (.frmNumLoRead a) ∧
    TurnsAway s a R.WAKE_CMT true (.sleepCommit a) ∧ TurnsAway s a R.TMU_LC_NS false (.lcReadLatch a) ∧
    (∀ x : Fin 2, TurnsAway s a (R.TMU_DOMx_STAT x) false (.domStatReadLatch a x)) ∧
    (∀ addr, addr % 4 = 0 → isRegSpace addr = true → TurnsAway s a addr false (.counterReadClear a addr)) ∧
    (∀ d : Fin 4, TurnsAway s a (R.BOLE_HOLD d) true (.boleAdopt a d)) ∧ (∀ l : Fin 2, TurnsAway s a (R.LIMB_HOLD l) true (.limbAdopt a l)) ∧
    (∀ (u : Fin 8) on, TurnsAway s a (R.SSs_CFG u) true (.ssOnWrite a u on)) ∧
    (∀ m : Fin 17, TurnsAway s a (R.MBX_COMMIT m) true (.mbxCommitWrite a m) ∧ (∀ e : Fin 8, TurnsAway s a (longEntry m e) true (.longEntryFree a m e)) ∧
      (∀ v, TurnsAway s a (R.MBX_EVT_TAIL m) true (.evtTailWrite a m v))) ∧
    (∀ p : Fin 16, TurnsAway s a (R.EVR_Pp_DONE p) true (.evrDoneWrite a p) ∧ TurnsAway s a (R.EVR_Pp_WDG p) true (.evrWdgKick a p)) ∧
    (∀ k : Fin 8, TurnsAway s a (R.LSC_Pk_CTRL k) true (.pairStart a k) ∧ TurnsAway s a (R.LSC_Pk_CTRL k) true (.pairHalt a k)) ∧
    (∀ p : Fin 21, TurnsAway s a (R.ESW_Pp_TSQ_POP p) true (.tsqPop a p)) ∧
    (∀ n : Fin 24, (∀ (o : Fin 32) (w : Fin 20), TurnsAway s a (R.MOm_W0 n o + 4 * w) false (.canMoRead a n o w)) ∧
      (∀ b, TurnsAway s a (R.CANn_RXUNLOCK n) true (.canRxUnlock a n b) ∧ TurnsAway s a (R.CANn_TXC n) true (.canTxRequest a n b) ∧
        TurnsAway s a (R.CANn_TXC n) true (.canTxAbort a n b)) ∧
      TurnsAway s a (R.CANn_CTRL n) true (.canBoffRelWrite a n) ∧ ∀ v, TurnsAway s a (R.TRXj_CTRL n) true (.trxModeWrite a n v))

/-- Plain accesses that their target turns away, or that no block decodes (R20): an error response, a read of 0, no effect,
FAB_DENY with the address and the three attributes. -/
def PlainAccessesAreDenied : Prop :=
  ∀ (s : State) (a : Attr) (addr : Nat) (v : Word), addr % 4 = 0 →
    let denies := fun i : Instr => Answers i s fun t => t.bus = { err := true } ∧
      Raised s t 487 (leBytes 5 addr ++ [BitVec.ofNat 8 a.pid, BitVec.ofNat 8 a.rqc, BitVec.ofNat 8 (b2n a.w)]) ∧ Keeps s t []
    (isMemory addr = true → s.memAdmits a addr 4 true = false → denies (.regWrite a addr v)) ∧
    (isMemory addr = true → s.memAdmits a addr 4 false = false → denies (.regRead a addr)) ∧
    (isRegSpace addr = true → s.regAdmits a addr true = false → (∀ g : Fin 6, addr ≠ R.GWB_Lg_LOCK g) → denies (.regWrite a addr v)) ∧
    (isRegSpace addr = true → s.regAdmits a addr false = false → denies (.regRead a addr)) ∧
    (isMemory addr = false → isRegSpace addr = false → isRom addr = false ∨ a.isForester = false →
      denies (.regWrite a addr v) ∧ denies (.regRead a addr))

/-! The statements that several of the above make up. -/

/-- The frame generator starts at frame 0, counts each boundary, and judges DEGRADED causes. The model's choices in it:
log entries 26, 32, 34, 194, 225. -/
def Obligations.FrameGeneratorCountsFrames : Prop :=
  FrameStartBeginsAtFrameZero ∧ EachBoundaryCountsOneFrame ∧ BoundariesJudgeDegradedCauses

/-- Register reads and writes follow access code and update class. The model's choices in it: log entries 17, 18, 19. -/
def Obligations.RegistersFollowTheirAccessCodes : Prop :=
  WritesFollowAccessCodes ∧ RejectedWritesKeepTheirRegister ∧ ReadsReturnAndClear

/-- A COMMIT takes a snapshot, and its instant takes or rejects it. The model's choices in it: log entries 27, 180. -/
def Obligations.CommitsSnapshotAndApplyOrReject : Prop :=
  CommitTakesWhatItsOwnerStaged ∧ CommitInstantTakesOrRejects

/-- Mailbox words take only their writes, the ring locks the slot, entries are freed. The model's choices in it: log
entries 36, 40. -/
def Obligations.MailboxesLockAndFree : Prop :=
  MailboxesLockAtTheRing ∧ MailboxEntriesFreeAndAdvance

/-- LONG commands end in their entry; record copies are written and repaired. The model's choices in it: log entries 39,
41, 45, 183, 184. -/
def Obligations.LongCommandsAndRecordsComplete : Prop :=
  LongCommandsEndInTheirEntry ∧ RecordCopiesAreWrittenAndRepaired

/-- Queue indices belong to their sides and queue commands complete. The model's choices in it: log entries 42, 43, 44,
181, 182. -/
def Obligations.QueuesMoveAndComplete : Prop :=
  QueueIndicesBelongToTheirSides ∧ QueueCommandsComplete

/-- Far dies enter hold, and adoption ends it. The model's choices in it: log entries 28, 60, 172. -/
def Obligations.FarDiesHoldAndAdopt : Prop :=
  FarDiesEnterHold ∧ AdoptionEndsHold

/-- Protective turn-offs record their cause; thermal latches set and clear. The model's choices in it: log entries 51,
186. -/
def Obligations.ChannelsTurnOffProtectively : Prop :=
  ProtectiveTurnOffRecordsItsCause ∧ ThermalLatchesSetAndClear

/-- On states follow inrush window and ceiling; supply conditions inhibit channels. The model's choices in it: log entries
51, 52, 53, 55, 59, 188, 197. -/
def Obligations.ChannelsFollowWindowAndSupply : Prop :=
  OnStatesFollowWindowAndCeiling ∧ SupplyConditionsInhibitTheirChannels

/-- Load checks only raise flags; safety switches follow their gates and trip. The model's choices in it: log entries 51,
54, 199. -/
def Obligations.LoadChecksAndSafetySwitches : Prop :=
  LoadChecksOnlyRaiseFlags ∧ SafetySwitchesFollowGateAndTrip

/-- IN_K and EXT-IN edges drive their channels; captures end with a signature. The model's choices in it: log entries 51,
58, 62, 189, 190, 191, 192, 193. -/
def Obligations.EdgesDriveAndSignaturesEnd : Prop :=
  EdgesDriveTheirChannels ∧ CaptureEndsWithItsSignature

/-- UIO outputs trip and lock, inputs set flags, sensor supplies retry and block. The model's choices in it: log entries
57, 63, 64, 196, 198, 199. -/
def Obligations.UioPinsAndSuppliesProtect : Prop :=
  UioOutputsTripAndLock ∧ UioInputsSetTheirFlags ∧ SensorSuppliesRetryAndBlockBackfeed

/-- Kerf edges follow their timers and current controllers bound their duty. The model's choices in it: log entries 65,
198, 202. -/
def Obligations.KerfTimersAndControllersRun : Prop :=
  KerfEdgesFollowTheirTimers ∧ ControllersBoundTheirDuty

/-- CAN frames are stored where they match; objects lock from first to last word. The model's choices in it: log entries
67, 69, 75. -/
def Obligations.CanObjectsReceiveAndLock : Prop :=
  CanFramesAreStoredWhereTheyMatch ∧ ObjectsLockFromFirstToLastWord

/-- CAN buffers pend or fail, are offered, complete and are refilled. The model's choices in it: log entries 68, 204. -/
def Obligations.CanBuffersPendAndSend : Prop :=
  DirectBuffersPendOrFail ∧ TransmissionsOfferCompleteAndRefill

/-- CAN errors move the counters; controllers integrate, stop and recover. The model's choices in it: log entries 70, 71. -/
def Obligations.CanControllersCountErrorsAndRecover : Prop :=
  CanErrorsFollowTheCounters ∧ ControllersIntegrateStopAndRecover

/-- Tally ring messages and timers move their segment. The model's choices in it: log entries 77. -/
def Obligations.RingSegmentsTalkAndTime : Prop :=
  RingMessagesMoveTheirSegment ∧ RingTimersFormAndDriveRounds

/-- Sleep-waits, vetoes, sleep commits and wake sources. The model's choices in it: log entries 76, 78, 79, 154, 155, 156,
157, 158, 203, 205, 206. -/
def Obligations.SleepIsAgreedVetoedAndLeft : Prop :=
  SleepWaitsBeginEndAndAreVetoed ∧ WakeSourcesPendAndLatch ∧ SleepCommitsOrIsRefused

/-- The switch forwards by its tables, sends by gates, and stamps frames. The model's choices in it: log entries 80, 85,
208, 209, 211, 212, 213, 215. -/
def Obligations.SwitchForwardsAndSends : Prop :=
  SwitchForwardsByItsTables ∧ SwitchSendsAndStamps

/-- Ports, gates and tables age; host ports take descriptors. The model's choices in it: log entries 81, 210, 228. -/
def Obligations.PortsTablesAndHostPorts : Prop :=
  PortsGatesAndTablesAge ∧ HostPortsTakeDescriptors

/-- Landing carries, ages and emits routes; containers carry PDUs both ways. The model's choices in it: log entries 87,
88, 89, 91, 93, 214. -/
def Obligations.LandingRoutesAndContainers : Prop :=
  LandingCarriesStalesAndEmits ∧ ContainersCarryPdusBothWays

/-- Gwebry links replay, train and fall; requests complete once or expire; locks end. The model's choices in it: log
entries 28, 94, 95, 96, 98, 218, 219, 220. -/
def Obligations.LinksCarryRequestsOnce : Prop :=
  FarRequestsCompleteOnce ∧ LinksReplayTrainAndFall ∧ LinkRequestsAndLocksExpire

/-- Core pairs halt, test and reset their partition; memory errors count or stop. The model's choices in it: log entries
25, 104, 105, 107, 217. -/
def Obligations.CoresAndMemoryErrors : Prop :=
  PairsHaltTestAndResetTheirPartition ∧ MemoryErrorsAreCountedOrStop

/-- Debug reaches only what it may; worlds switch by call and return. The model's choices in it: log entries 106, 108. -/
def Obligations.DebugAndWorldSwitches : Prop :=
  DebugReachesOnlyWhatItMay ∧ WorldsSwitchByCallAndReturn

/-- Partition frame work ticks and ends; partitions quiesce and load. The model's choices in it: log entries 109, 110,
112. -/
def Obligations.PartitionsRunAndQuiesce : Prop :=
  FrameWorkTicksAndEnds ∧ PartitionsQuiesceAndLoad

/-- Crypto jobs run one at a time; authorizations and randomness end. The model's choices in it: log entries 13, 102, 111,
222. -/
def Obligations.CryptoAndRandomnessRun : Prop :=
  CryptoJobsRunOneAtATime ∧ AuthorizationsAndRandomnessEnd

/-- Safety outputs follow their functions, which move by fault, demand and reset. The model's choices in it: log entries
119. -/
def Obligations.IslandDrivesItsFunctions : Prop :=
  OutputsFollowTheirFunctions ∧ FunctionsMoveByFaultDemandAndReset

/-- Island faults take all lines low; the island starts and is read. The model's choices in it: log entries 118, 122, 123. -/
def Obligations.IslandFaultsAndStarts : Prop :=
  IslandFaultsTakeTheLinesLow ∧ IslandStartsAndIsRead

/-- Island inputs take their checks; the bank port erases, programs and selects. The model's choices in it: log entries
114, 115, 116, 117, 120, 121. -/
def Obligations.IslandInputsAndBanks : Prop :=
  IslandInputsTakeTheirChecks ∧ BankPortErasesProgramsAndSelects

/-- Pairing frames are sent by role, taken from the partner only, and keep the pair together. The model's choices in it:
log entries 124, 125, 126, 133. -/
def Obligations.PairsTalkWithTheirPartner : Prop :=
  PairingSendsWhileItsRoleAllows ∧ PairingDiscardsWhatIsNotItsPartners ∧ RenewalsAndHellosKeepThePairTogether

/-- The reserve holds the image and completes checkpoints. The model's choices in it: log entries 124, 127, 128, 132. -/
def Obligations.TheReserveFollowsItsLead : Prop :=
  TheReserveHoldsTheImage ∧ CheckpointsCompleteWithTheirLastSegment

/-- The lease is acquired, taken and yielded; the release turns PAIRED channels off. The model's choices in it: log
entries 130, 131. -/
def Obligations.TheLeaseTurnsChannels : Prop :=
  TheLeaseIsAcquiredTakenAndYielded ∧ TheReleaseTurnsPairedChannelsOff

/-- A takeover runs in three stages; a handback passes the lease. The model's choices in it: log entries 129, 130, 132,
221. -/
def Obligations.TakeoverAndHandback : Prop :=
  TakeoverRunsInThreeStages ∧ HandbackPassesTheLease

/-- Trials end with their window; the recorder flushes, freezes and exports. The model's choices in it: log entries 147,
149, 152, 153. -/
def Obligations.TrialsAndRecorderWork : Prop :=
  TrialsEndWithTheirWindow ∧ TheRecorderFlushesFreezesAndExports

/-- Reset sources, releases, thresholds and block resets. The model's choices in it: log entries 113, 159, 160, 161, 164,
165. -/
def Obligations.ResetsReachWhatTheyCover : Prop :=
  ResetSourcesResetTheirReach ∧ ReleasesAndSupplyLevelsFollow ∧ ThresholdsAreShownAndReported ∧ BlockResetsReachTheirBlockOnly

/-- Starts run step by step into the mode of their row; the service UART reaches mailbox 16. The model's choices in it:
log entries 168, 169, 170, 171, 173, 174, 175. -/
def Obligations.StartsRunStepByStep : Prop :=
  TheReleaseAdvancesStepByStep ∧ StartsEndInTheModeOfTheirRow ∧ TheServiceUartReachesTheForesterMailbox

/-- Every Rhapol row checks in order and answers with the response header. The model's choices in it: log entries 35, 36,
37, 39, 47, 227. -/
def Obligations.RhapolRowsCheckInOrder : Prop :=
  RhapolChecksInOrder ∧ UnknownOpcodesAreAnsweredAtTheRing

/-- The channel, signature, pin, supply, timer and controller commands. The model's choices in it: log entries 48, 187,
200, 201. -/
def Obligations.ChannelAndFieldCommandsAct : Prop :=
  ChannelCommandsAct ∧ FieldCommandsAct

/-- The CAN, Landing, ring and wake commands. The model's choices in it: log entries 48, 74, 92, 154. -/
def Obligations.CanLandingAndRingCommandsAct : Prop :=
  CanCommandsAct ∧ LandingCommandsAct ∧ RingAndWakeCommandsAct

/-- The Ethernet and time commands. The model's choices in it: log entries 82, 83, 84, 85, 86. -/
def Obligations.EthernetAndTimeCommandsAct : Prop :=
  EthernetCommandsAct ∧ TimeCommandsAct

/-- The partition and supervisor commands. The model's choices in it: log entries 162, 163, 166, 185. -/
def Obligations.PartitionAndSupervisorCommandsAct : Prop :=
  PartitionCommandsAct ∧ SupervisorCommandsAct

/-- The safety and pairing commands. -/
def Obligations.SafetyAndPairingCommandsAct : Prop :=
  SafetyCommandsAct ∧ PairingCommandsAct

/-- The key, authorization, attestation and life-cycle commands. The model's choices in it: log entries 13, 38, 134, 135,
140, 141, 224. -/
def Obligations.KeyAndAuthorizationCommandsAct : Prop :=
  KeyCommandsAct ∧ AuthorizationCommandsAct

/-- The update and recorder commands. The model's choices in it: log entries 145, 151, 223. -/
def Obligations.UpdateAndRecorderCommandsAct : Prop :=
  UpdateCommandsAct ∧ RecorderCommandsAct

/-- A denied access has no effect, reads 0 and is reported. The model's choices in it: log entries 10, 19, 23, 24. -/
def Obligations.DeniedAccessesAreReported : Prop :=
  PlainAccessesAreDenied ∧ RegistersTurnAwayWhoMayNot
end

