-- ==== Sys2Proof/Laws/Operands.lean ====
section
/-! SUPPORT. The laws of sparse lists: a read after a write, and that every operation keeps the canonical form. -/

namespace Sys2Proof

variable {α : Type}

@[simp] theorem sget_nil (d : Nat → α) (a : Nat) : sget d [] a = d a := rfl

theorem sget_sput (d : Nat → α) (l : List (Nat × α)) (a b : Nat) (v : α) :
    sget d (sput l a v) b = if a = b then v else sget d l b := by
  induction l with
  | nil => simp [sput, sget]
  | cons e t ih =>
    obtain ⟨k, w⟩ := e
    simp only [sput]
    split
    · simp [sget]
    · split
      · subst_vars; simp only [sget]; split <;> rfl
      · simp only [sget, ih]
        by_cases h : k = b <;> by_cases h' : a = b <;> simp_all

theorem sget_filter (d : Nat → α) (p : Nat → Bool) (l : List (Nat × α)) (a : Nat) :
    sget d (l.filter fun e => p e.1) a = if p a then sget d l a else d a := by
  induction l with
  | nil => simp
  | cons e t ih =>
    obtain ⟨k, w⟩ := e
    by_cases hk : p k <;> by_cases h : k = a <;> simp_all [sget]

theorem sget_sdel (d : Nat → α) (l : List (Nat × α)) (a b : Nat) :
    sget d (sdel l a) b = if a = b then d b else sget d l b := by
  have h := sget_filter d (fun k => decide (k ≠ a)) l b
  simp only [sdel, h]
  by_cases hab : a = b
  · simp [hab]
  · simp [hab, Ne.symm hab]

/-- A read after a write: the value written at its key, the old value at every other. -/
theorem sget_sset [DecidableEq α] (d : Nat → α) (l : List (Nat × α)) (a b : Nat) (v : α) :
    sget d (sset d l a v) b = if a = b then v else sget d l b := by
  simp only [sset]
  split
  · rw [sget_sdel]; split <;> simp_all
  · exact sget_sput d l a b v

/-- Settling a list changes no value that it gives. -/
@[simp] theorem sget_settle [DecidableEq α] (d : Nat → α) (l : List (Nat × α)) (a : Nat) :
    sget d (settle d l) a = sget d l a := by
  induction l with
  | nil => rfl
  | cons e t ih =>
    have : settle d (e :: t) = sset d (settle d t) e.1 e.2 := rfl
    rw [this, sget_sset, ih]; rfl

/-! The canonical form. -/

/-- Every key of the list is above a bound. -/
def above (a : Nat) (l : List (Nat × α)) : Prop := ∀ e ∈ l, a < e.1

theorem sorted_cons (e : Nat × α) (t : List (Nat × α)) :
    sorted (e :: t) = true ↔ above e.1 t ∧ sorted t = true := by
  induction t generalizing e with
  | nil => simp [sorted, above]
  | cons f t ih =>
    simp only [sorted, Bool.and_eq_true, decide_eq_true_eq, ih f]
    constructor
    · rintro ⟨h, hf, ht⟩
      refine ⟨?_, hf, ht⟩
      intro g hg
      rcases List.mem_cons.1 hg with rfl | hg
      · exact h
      · exact Nat.lt_trans h (hf g hg)
    · rintro ⟨h, hf, ht⟩
      exact ⟨h f (by simp), hf, ht⟩

theorem canon_cons [DecidableEq α] (d : Nat → α) (e : Nat × α) (t : List (Nat × α)) :
    canon d (e :: t) = true ↔ above e.1 t ∧ e.2 ≠ d e.1 ∧ canon d t = true := by
  simp only [canon, Bool.and_eq_true, sorted_cons, List.all_cons, decide_eq_true_eq]
  constructor
  · rintro ⟨⟨ha, hs⟩, hv, hl⟩; exact ⟨ha, hv, hs, hl⟩
  · rintro ⟨ha, hv, hs, hl⟩; exact ⟨⟨ha, hs⟩, hv, hl⟩

theorem above_filter (a : Nat) (p : Nat × α → Bool) (l : List (Nat × α)) (h : above a l) : above a (l.filter p) :=
  fun e he => h e (List.mem_filter.1 he).1

theorem above_sput (a : Nat) (l : List (Nat × α)) (b : Nat) (v : α) (h : above a l) (hb : a < b) :
    above a (sput l b v) := by
  induction l with
  | nil => intro e he; simp [sput] at he; simp [he, hb]
  | cons f t ih =>
    obtain ⟨k, w⟩ := f
    have hk : a < k := h (k, w) (by simp)
    have ht : above a t := fun e he => h e (by simp [he])
    simp only [sput]
    split
    · intro e he; rcases List.mem_cons.1 he with rfl | he
      · exact hb
      · exact h e he
    · split
      · intro e he; rcases List.mem_cons.1 he with rfl | he
        · exact hb
        · exact ht e he
      · intro e he; rcases List.mem_cons.1 he with rfl | he
        · exact hk
        · exact ih ht e he

/-- A list of rising keys stays canonical when entries are dropped. -/
theorem canon_filter [DecidableEq α] (d : Nat → α) (p : Nat × α → Bool) (l : List (Nat × α)) (h : canon d l = true) :
    canon d (l.filter p) = true := by
  induction l with
  | nil => exact h
  | cons e t ih =>
    rw [canon_cons] at h
    simp only [List.filter_cons]
    split
    · rw [canon_cons]; exact ⟨above_filter _ _ _ h.1, h.2.1, ih h.2.2⟩
    · exact ih h.2.2

theorem canon_sput [DecidableEq α] (d : Nat → α) (l : List (Nat × α)) (a : Nat) (v : α) (h : canon d l = true)
    (hv : v ≠ d a) : canon d (sput l a v) = true := by
  induction l with
  | nil => simp [sput, canon, sorted, hv]
  | cons e t ih =>
    obtain ⟨k, w⟩ := e
    have h' := h
    rw [canon_cons] at h
    obtain ⟨hk, hw, ht⟩ := h
    simp only [sput]
    split
    · rename_i hlt
      rw [canon_cons]
      refine ⟨?_, hv, h'⟩
      intro e he; rcases List.mem_cons.1 he with rfl | he
      · exact hlt
      · exact Nat.lt_trans hlt (hk e he)
    · split
      · subst_vars; rw [canon_cons]; exact ⟨hk, hv, ht⟩
      · rw [canon_cons]; exact ⟨above_sput _ _ _ _ hk (by simp_all; omega), hw, ih ht⟩

/-- A write keeps the canonical form. -/
theorem canon_sset [DecidableEq α] (d : Nat → α) (l : List (Nat × α)) (a : Nat) (v : α) (h : canon d l = true) :
    canon d (sset d l a v) = true := by
  simp only [sset]
  split
  · exact canon_filter d _ l h
  · exact canon_sput d l a v h ‹_›

/-- A settled list is canonical, whatever the list was. -/
theorem canon_settle [DecidableEq α] (d : Nat → α) (l : List (Nat × α)) : canon d (settle d l) = true := by
  induction l with
  | nil => rfl
  | cons e t ih => exact canon_sset d _ e.1 e.2 ih

theorem sput_above (l : List (Nat × α)) (a : Nat) (v : α) (h : above a l) : sput l a v = (a, v) :: l := by
  cases l with
  | nil => rfl
  | cons e t => simp [sput, h e (by simp)]

/-- Settling a canonical list changes nothing. -/
theorem settle_canon [DecidableEq α] (d : Nat → α) (l : List (Nat × α)) (h : canon d l = true) : settle d l = l := by
  induction l with
  | nil => rfl
  | cons e t ih =>
    rw [canon_cons] at h
    have : settle d (e :: t) = sset d (settle d t) e.1 e.2 := rfl
    rw [this, ih h.2.2, sset, if_neg h.2.1, sput_above _ _ _ h.1]

end Sys2Proof
end

