-- ==== Sys2Proof/Laws/State.lean ====
section
/-! SUPPORT. One lemma per field per update of State, true by rfl. -/

namespace Sys2Proof.Machine

@[simp] theorem State.onPending_pending (f : List Instr → List Instr) (s : State) : (s.onPending f).pending = f s.pending := rfl
@[simp] theorem State.onPending_now (f : List Instr → List Instr) (s : State) : (s.onPending f).now = s.now := rfl
@[simp] theorem State.onPending_freeCtr (f : List Instr → List Instr) (s : State) : (s.onPending f).freeCtr = s.freeCtr := rfl
@[simp] theorem State.onPending_regs (f : List Instr → List Instr) (s : State) : (s.onPending f).regs = s.regs := rfl
@[simp] theorem State.onPending_staged (f : List Instr → List Instr) (s : State) : (s.onPending f).staged = s.staged := rfl
@[simp] theorem State.onPending_stagedTab (f : List Instr → List Instr) (s : State) : (s.onPending f).stagedTab = s.stagedTab := rfl
@[simp] theorem State.onPending_commits (f : List Instr → List Instr) (s : State) : (s.onPending f).commits = s.commits := rfl
@[simp] theorem State.onPending_mem (f : List Instr → List Instr) (s : State) : (s.onPending f).mem = s.mem := rfl
@[simp] theorem State.onPending_clk (f : List Instr → List Instr) (s : State) : (s.onPending f).clk = s.clk := rfl
@[simp] theorem State.onPending_bus (f : List Instr → List Instr) (s : State) : (s.onPending f).bus = s.bus := rfl
@[simp] theorem State.onPending_events (f : List Instr → List Instr) (s : State) : (s.onPending f).events = s.events := rfl
@[simp] theorem State.onPending_frm (f : List Instr → List Instr) (s : State) : (s.onPending f).frm = s.frm := rfl
@[simp] theorem State.onPending_mbxs (f : List Instr → List Instr) (s : State) : (s.onPending f).mbxs = s.mbxs := rfl
@[simp] theorem State.onPending_longs (f : List Instr → List Instr) (s : State) : (s.onPending f).longs = s.longs := rfl
@[simp] theorem State.onPending_svcBuf (f : List Instr → List Instr) (s : State) : (s.onPending f).svcBuf = s.svcBuf := rfl
@[simp] theorem State.onPending_fwVersion (f : List Instr → List Instr) (s : State) : (s.onPending f).fwVersion = s.fwVersion := rfl
@[simp] theorem State.onPending_records (f : List Instr → List Instr) (s : State) : (s.onPending f).records = s.records := rfl
@[simp] theorem State.onPending_queues (f : List Instr → List Instr) (s : State) : (s.onPending f).queues = s.queues := rfl
@[simp] theorem State.onPending_parts (f : List Instr → List Instr) (s : State) : (s.onPending f).parts = s.parts := rfl
@[simp] theorem State.onPending_inc (f : List Instr → List Instr) (s : State) : (s.onPending f).inc = s.inc := rfl
@[simp] theorem State.onPending_chans (f : List Instr → List Instr) (s : State) : (s.onPending f).chans = s.chans := rfl
@[simp] theorem State.onPending_boles (f : List Instr → List Instr) (s : State) : (s.onPending f).boles = s.boles := rfl
@[simp] theorem State.onPending_dies (f : List Instr → List Instr) (s : State) : (s.onPending f).dies = s.dies := rfl
@[simp] theorem State.onPending_sos (f : List Instr → List Instr) (s : State) : (s.onPending f).sos = s.sos := rfl
@[simp] theorem State.onPending_gov (f : List Instr → List Instr) (s : State) : (s.onPending f).gov = s.gov := rfl
@[simp] theorem State.onPending_pins (f : List Instr → List Instr) (s : State) : (s.onPending f).pins = s.pins := rfl
@[simp] theorem State.onPending_uioMirror (f : List Instr → List Instr) (s : State) : (s.onPending f).uioMirror = s.uioMirror := rfl
@[simp] theorem State.onPending_sups (f : List Instr → List Instr) (s : State) : (s.onPending f).sups = s.sups := rfl
@[simp] theorem State.onPending_extIn (f : List Instr → List Instr) (s : State) : (s.onPending f).extIn = s.extIn := rfl
@[simp] theorem State.onPending_kts (f : List Instr → List Instr) (s : State) : (s.onPending f).kts = s.kts := rfl
@[simp] theorem State.onPending_kcs (f : List Instr → List Instr) (s : State) : (s.onPending f).kcs = s.kcs := rfl
@[simp] theorem State.onPending_sense (f : List Instr → List Instr) (s : State) : (s.onPending f).sense = s.sense := rfl
@[simp] theorem State.onPending_cans (f : List Instr → List Instr) (s : State) : (s.onPending f).cans = s.cans := rfl
@[simp] theorem State.onPending_trxs (f : List Instr → List Instr) (s : State) : (s.onPending f).trxs = s.trxs := rfl
@[simp] theorem State.onPending_sec (f : List Instr → List Instr) (s : State) : (s.onPending f).sec = s.sec := rfl
@[simp] theorem State.onPending_svr (f : List Instr → List Instr) (s : State) : (s.onPending f).svr = s.svr := rfl
@[simp] theorem State.onPending_tly (f : List Instr → List Instr) (s : State) : (s.onPending f).tly = s.tly := rfl
@[simp] theorem State.onPending_doms (f : List Instr → List Instr) (s : State) : (s.onPending f).doms = s.doms := rfl
@[simp] theorem State.onPending_eth (f : List Instr → List Instr) (s : State) : (s.onPending f).eth = s.eth := rfl
@[simp] theorem State.onPending_lgw (f : List Instr → List Instr) (s : State) : (s.onPending f).lgw = s.lgw := rfl
@[simp] theorem State.onPending_gwbs (f : List Instr → List Instr) (s : State) : (s.onPending f).gwbs = s.gwbs := rfl
@[simp] theorem State.onPending_cpx (f : List Instr → List Instr) (s : State) : (s.onPending f).cpx = s.cpx := rfl
@[simp] theorem State.onPending_sil (f : List Instr → List Instr) (s : State) : (s.onPending f).sil = s.sil := rfl
@[simp] theorem State.onPending_pairU (f : List Instr → List Instr) (s : State) : (s.onPending f).pairU = s.pairU := rfl
@[simp] theorem State.onPending_upd (f : List Instr → List Instr) (s : State) : (s.onPending f).upd = s.upd := rfl
@[simp] theorem State.onPending_uart (f : List Instr → List Instr) (s : State) : (s.onPending f).uart = s.uart := rfl
@[simp] theorem State.onNow_pending (f : Nat → Nat) (s : State) : (s.onNow f).pending = s.pending := rfl
@[simp] theorem State.onNow_now (f : Nat → Nat) (s : State) : (s.onNow f).now = f s.now := rfl
@[simp] theorem State.onNow_freeCtr (f : Nat → Nat) (s : State) : (s.onNow f).freeCtr = s.freeCtr := rfl
@[simp] theorem State.onNow_regs (f : Nat → Nat) (s : State) : (s.onNow f).regs = s.regs := rfl
@[simp] theorem State.onNow_staged (f : Nat → Nat) (s : State) : (s.onNow f).staged = s.staged := rfl
@[simp] theorem State.onNow_stagedTab (f : Nat → Nat) (s : State) : (s.onNow f).stagedTab = s.stagedTab := rfl
@[simp] theorem State.onNow_commits (f : Nat → Nat) (s : State) : (s.onNow f).commits = s.commits := rfl
@[simp] theorem State.onNow_mem (f : Nat → Nat) (s : State) : (s.onNow f).mem = s.mem := rfl
@[simp] theorem State.onNow_clk (f : Nat → Nat) (s : State) : (s.onNow f).clk = s.clk := rfl
@[simp] theorem State.onNow_bus (f : Nat → Nat) (s : State) : (s.onNow f).bus = s.bus := rfl
@[simp] theorem State.onNow_events (f : Nat → Nat) (s : State) : (s.onNow f).events = s.events := rfl
@[simp] theorem State.onNow_frm (f : Nat → Nat) (s : State) : (s.onNow f).frm = s.frm := rfl
@[simp] theorem State.onNow_mbxs (f : Nat → Nat) (s : State) : (s.onNow f).mbxs = s.mbxs := rfl
@[simp] theorem State.onNow_longs (f : Nat → Nat) (s : State) : (s.onNow f).longs = s.longs := rfl
@[simp] theorem State.onNow_svcBuf (f : Nat → Nat) (s : State) : (s.onNow f).svcBuf = s.svcBuf := rfl
@[simp] theorem State.onNow_fwVersion (f : Nat → Nat) (s : State) : (s.onNow f).fwVersion = s.fwVersion := rfl
@[simp] theorem State.onNow_records (f : Nat → Nat) (s : State) : (s.onNow f).records = s.records := rfl
@[simp] theorem State.onNow_queues (f : Nat → Nat) (s : State) : (s.onNow f).queues = s.queues := rfl
@[simp] theorem State.onNow_parts (f : Nat → Nat) (s : State) : (s.onNow f).parts = s.parts := rfl
@[simp] theorem State.onNow_inc (f : Nat → Nat) (s : State) : (s.onNow f).inc = s.inc := rfl
@[simp] theorem State.onNow_chans (f : Nat → Nat) (s : State) : (s.onNow f).chans = s.chans := rfl
@[simp] theorem State.onNow_boles (f : Nat → Nat) (s : State) : (s.onNow f).boles = s.boles := rfl
@[simp] theorem State.onNow_dies (f : Nat → Nat) (s : State) : (s.onNow f).dies = s.dies := rfl
@[simp] theorem State.onNow_sos (f : Nat → Nat) (s : State) : (s.onNow f).sos = s.sos := rfl
@[simp] theorem State.onNow_gov (f : Nat → Nat) (s : State) : (s.onNow f).gov = s.gov := rfl
@[simp] theorem State.onNow_pins (f : Nat → Nat) (s : State) : (s.onNow f).pins = s.pins := rfl
@[simp] theorem State.onNow_uioMirror (f : Nat → Nat) (s : State) : (s.onNow f).uioMirror = s.uioMirror := rfl
@[simp] theorem State.onNow_sups (f : Nat → Nat) (s : State) : (s.onNow f).sups = s.sups := rfl
@[simp] theorem State.onNow_extIn (f : Nat → Nat) (s : State) : (s.onNow f).extIn = s.extIn := rfl
@[simp] theorem State.onNow_kts (f : Nat → Nat) (s : State) : (s.onNow f).kts = s.kts := rfl
@[simp] theorem State.onNow_kcs (f : Nat → Nat) (s : State) : (s.onNow f).kcs = s.kcs := rfl
@[simp] theorem State.onNow_sense (f : Nat → Nat) (s : State) : (s.onNow f).sense = s.sense := rfl
@[simp] theorem State.onNow_cans (f : Nat → Nat) (s : State) : (s.onNow f).cans = s.cans := rfl
@[simp] theorem State.onNow_trxs (f : Nat → Nat) (s : State) : (s.onNow f).trxs = s.trxs := rfl
@[simp] theorem State.onNow_sec (f : Nat → Nat) (s : State) : (s.onNow f).sec = s.sec := rfl
@[simp] theorem State.onNow_svr (f : Nat → Nat) (s : State) : (s.onNow f).svr = s.svr := rfl
@[simp] theorem State.onNow_tly (f : Nat → Nat) (s : State) : (s.onNow f).tly = s.tly := rfl
@[simp] theorem State.onNow_doms (f : Nat → Nat) (s : State) : (s.onNow f).doms = s.doms := rfl
@[simp] theorem State.onNow_eth (f : Nat → Nat) (s : State) : (s.onNow f).eth = s.eth := rfl
@[simp] theorem State.onNow_lgw (f : Nat → Nat) (s : State) : (s.onNow f).lgw = s.lgw := rfl
@[simp] theorem State.onNow_gwbs (f : Nat → Nat) (s : State) : (s.onNow f).gwbs = s.gwbs := rfl
@[simp] theorem State.onNow_cpx (f : Nat → Nat) (s : State) : (s.onNow f).cpx = s.cpx := rfl
@[simp] theorem State.onNow_sil (f : Nat → Nat) (s : State) : (s.onNow f).sil = s.sil := rfl
@[simp] theorem State.onNow_pairU (f : Nat → Nat) (s : State) : (s.onNow f).pairU = s.pairU := rfl
@[simp] theorem State.onNow_upd (f : Nat → Nat) (s : State) : (s.onNow f).upd = s.upd := rfl
@[simp] theorem State.onNow_uart (f : Nat → Nat) (s : State) : (s.onNow f).uart = s.uart := rfl
@[simp] theorem State.onFreeCtr_pending (f : Nat → Nat) (s : State) : (s.onFreeCtr f).pending = s.pending := rfl
@[simp] theorem State.onFreeCtr_now (f : Nat → Nat) (s : State) : (s.onFreeCtr f).now = s.now := rfl
@[simp] theorem State.onFreeCtr_freeCtr (f : Nat → Nat) (s : State) : (s.onFreeCtr f).freeCtr = f s.freeCtr := rfl
@[simp] theorem State.onFreeCtr_regs (f : Nat → Nat) (s : State) : (s.onFreeCtr f).regs = s.regs := rfl
@[simp] theorem State.onFreeCtr_staged (f : Nat → Nat) (s : State) : (s.onFreeCtr f).staged = s.staged := rfl
@[simp] theorem State.onFreeCtr_stagedTab (f : Nat → Nat) (s : State) : (s.onFreeCtr f).stagedTab = s.stagedTab := rfl
@[simp] theorem State.onFreeCtr_commits (f : Nat → Nat) (s : State) : (s.onFreeCtr f).commits = s.commits := rfl
@[simp] theorem State.onFreeCtr_mem (f : Nat → Nat) (s : State) : (s.onFreeCtr f).mem = s.mem := rfl
@[simp] theorem State.onFreeCtr_clk (f : Nat → Nat) (s : State) : (s.onFreeCtr f).clk = s.clk := rfl
@[simp] theorem State.onFreeCtr_bus (f : Nat → Nat) (s : State) : (s.onFreeCtr f).bus = s.bus := rfl
@[simp] theorem State.onFreeCtr_events (f : Nat → Nat) (s : State) : (s.onFreeCtr f).events = s.events := rfl
@[simp] theorem State.onFreeCtr_frm (f : Nat → Nat) (s : State) : (s.onFreeCtr f).frm = s.frm := rfl
@[simp] theorem State.onFreeCtr_mbxs (f : Nat → Nat) (s : State) : (s.onFreeCtr f).mbxs = s.mbxs := rfl
@[simp] theorem State.onFreeCtr_longs (f : Nat → Nat) (s : State) : (s.onFreeCtr f).longs = s.longs := rfl
@[simp] theorem State.onFreeCtr_svcBuf (f : Nat → Nat) (s : State) : (s.onFreeCtr f).svcBuf = s.svcBuf := rfl
@[simp] theorem State.onFreeCtr_fwVersion (f : Nat → Nat) (s : State) : (s.onFreeCtr f).fwVersion = s.fwVersion := rfl
@[simp] theorem State.onFreeCtr_records (f : Nat → Nat) (s : State) : (s.onFreeCtr f).records = s.records := rfl
@[simp] theorem State.onFreeCtr_queues (f : Nat → Nat) (s : State) : (s.onFreeCtr f).queues = s.queues := rfl
@[simp] theorem State.onFreeCtr_parts (f : Nat → Nat) (s : State) : (s.onFreeCtr f).parts = s.parts := rfl
@[simp] theorem State.onFreeCtr_inc (f : Nat → Nat) (s : State) : (s.onFreeCtr f).inc = s.inc := rfl
@[simp] theorem State.onFreeCtr_chans (f : Nat → Nat) (s : State) : (s.onFreeCtr f).chans = s.chans := rfl
@[simp] theorem State.onFreeCtr_boles (f : Nat → Nat) (s : State) : (s.onFreeCtr f).boles = s.boles := rfl
@[simp] theorem State.onFreeCtr_dies (f : Nat → Nat) (s : State) : (s.onFreeCtr f).dies = s.dies := rfl
@[simp] theorem State.onFreeCtr_sos (f : Nat → Nat) (s : State) : (s.onFreeCtr f).sos = s.sos := rfl
@[simp] theorem State.onFreeCtr_gov (f : Nat → Nat) (s : State) : (s.onFreeCtr f).gov = s.gov := rfl
@[simp] theorem State.onFreeCtr_pins (f : Nat → Nat) (s : State) : (s.onFreeCtr f).pins = s.pins := rfl
@[simp] theorem State.onFreeCtr_uioMirror (f : Nat → Nat) (s : State) : (s.onFreeCtr f).uioMirror = s.uioMirror := rfl
@[simp] theorem State.onFreeCtr_sups (f : Nat → Nat) (s : State) : (s.onFreeCtr f).sups = s.sups := rfl
@[simp] theorem State.onFreeCtr_extIn (f : Nat → Nat) (s : State) : (s.onFreeCtr f).extIn = s.extIn := rfl
@[simp] theorem State.onFreeCtr_kts (f : Nat → Nat) (s : State) : (s.onFreeCtr f).kts = s.kts := rfl
@[simp] theorem State.onFreeCtr_kcs (f : Nat → Nat) (s : State) : (s.onFreeCtr f).kcs = s.kcs := rfl
@[simp] theorem State.onFreeCtr_sense (f : Nat → Nat) (s : State) : (s.onFreeCtr f).sense = s.sense := rfl
@[simp] theorem State.onFreeCtr_cans (f : Nat → Nat) (s : State) : (s.onFreeCtr f).cans = s.cans := rfl
@[simp] theorem State.onFreeCtr_trxs (f : Nat → Nat) (s : State) : (s.onFreeCtr f).trxs = s.trxs := rfl
@[simp] theorem State.onFreeCtr_sec (f : Nat → Nat) (s : State) : (s.onFreeCtr f).sec = s.sec := rfl
@[simp] theorem State.onFreeCtr_svr (f : Nat → Nat) (s : State) : (s.onFreeCtr f).svr = s.svr := rfl
@[simp] theorem State.onFreeCtr_tly (f : Nat → Nat) (s : State) : (s.onFreeCtr f).tly = s.tly := rfl
@[simp] theorem State.onFreeCtr_doms (f : Nat → Nat) (s : State) : (s.onFreeCtr f).doms = s.doms := rfl
@[simp] theorem State.onFreeCtr_eth (f : Nat → Nat) (s : State) : (s.onFreeCtr f).eth = s.eth := rfl
@[simp] theorem State.onFreeCtr_lgw (f : Nat → Nat) (s : State) : (s.onFreeCtr f).lgw = s.lgw := rfl
@[simp] theorem State.onFreeCtr_gwbs (f : Nat → Nat) (s : State) : (s.onFreeCtr f).gwbs = s.gwbs := rfl
@[simp] theorem State.onFreeCtr_cpx (f : Nat → Nat) (s : State) : (s.onFreeCtr f).cpx = s.cpx := rfl
@[simp] theorem State.onFreeCtr_sil (f : Nat → Nat) (s : State) : (s.onFreeCtr f).sil = s.sil := rfl
@[simp] theorem State.onFreeCtr_pairU (f : Nat → Nat) (s : State) : (s.onFreeCtr f).pairU = s.pairU := rfl
@[simp] theorem State.onFreeCtr_upd (f : Nat → Nat) (s : State) : (s.onFreeCtr f).upd = s.upd := rfl
@[simp] theorem State.onFreeCtr_uart (f : Nat → Nat) (s : State) : (s.onFreeCtr f).uart = s.uart := rfl
@[simp] theorem State.onRegs_pending (f : List (Nat × Word) → List (Nat × Word)) (s : State) : (s.onRegs f).pending = s.pending := rfl
@[simp] theorem State.onRegs_now (f : List (Nat × Word) → List (Nat × Word)) (s : State) : (s.onRegs f).now = s.now := rfl
@[simp] theorem State.onRegs_freeCtr (f : List (Nat × Word) → List (Nat × Word)) (s : State) : (s.onRegs f).freeCtr = s.freeCtr := rfl
@[simp] theorem State.onRegs_regs (f : List (Nat × Word) → List (Nat × Word)) (s : State) : (s.onRegs f).regs = f s.regs := rfl
@[simp] theorem State.onRegs_staged (f : List (Nat × Word) → List (Nat × Word)) (s : State) : (s.onRegs f).staged = s.staged := rfl
@[simp] theorem State.onRegs_stagedTab (f : List (Nat × Word) → List (Nat × Word)) (s : State) : (s.onRegs f).stagedTab = s.stagedTab := rfl
@[simp] theorem State.onRegs_commits (f : List (Nat × Word) → List (Nat × Word)) (s : State) : (s.onRegs f).commits = s.commits := rfl
@[simp] theorem State.onRegs_mem (f : List (Nat × Word) → List (Nat × Word)) (s : State) : (s.onRegs f).mem = s.mem := rfl
@[simp] theorem State.onRegs_clk (f : List (Nat × Word) → List (Nat × Word)) (s : State) : (s.onRegs f).clk = s.clk := rfl
@[simp] theorem State.onRegs_bus (f : List (Nat × Word) → List (Nat × Word)) (s : State) : (s.onRegs f).bus = s.bus := rfl
@[simp] theorem State.onRegs_events (f : List (Nat × Word) → List (Nat × Word)) (s : State) : (s.onRegs f).events = s.events := rfl
@[simp] theorem State.onRegs_frm (f : List (Nat × Word) → List (Nat × Word)) (s : State) : (s.onRegs f).frm = s.frm := rfl
@[simp] theorem State.onRegs_mbxs (f : List (Nat × Word) → List (Nat × Word)) (s : State) : (s.onRegs f).mbxs = s.mbxs := rfl
@[simp] theorem State.onRegs_longs (f : List (Nat × Word) → List (Nat × Word)) (s : State) : (s.onRegs f).longs = s.longs := rfl
@[simp] theorem State.onRegs_svcBuf (f : List (Nat × Word) → List (Nat × Word)) (s : State) : (s.onRegs f).svcBuf = s.svcBuf := rfl
@[simp] theorem State.onRegs_fwVersion (f : List (Nat × Word) → List (Nat × Word)) (s : State) : (s.onRegs f).fwVersion = s.fwVersion := rfl
@[simp] theorem State.onRegs_records (f : List (Nat × Word) → List (Nat × Word)) (s : State) : (s.onRegs f).records = s.records := rfl
@[simp] theorem State.onRegs_queues (f : List (Nat × Word) → List (Nat × Word)) (s : State) : (s.onRegs f).queues = s.queues := rfl
@[simp] theorem State.onRegs_parts (f : List (Nat × Word) → List (Nat × Word)) (s : State) : (s.onRegs f).parts = s.parts := rfl
@[simp] theorem State.onRegs_inc (f : List (Nat × Word) → List (Nat × Word)) (s : State) : (s.onRegs f).inc = s.inc := rfl
@[simp] theorem State.onRegs_chans (f : List (Nat × Word) → List (Nat × Word)) (s : State) : (s.onRegs f).chans = s.chans := rfl
@[simp] theorem State.onRegs_boles (f : List (Nat × Word) → List (Nat × Word)) (s : State) : (s.onRegs f).boles = s.boles := rfl
@[simp] theorem State.onRegs_dies (f : List (Nat × Word) → List (Nat × Word)) (s : State) : (s.onRegs f).dies = s.dies := rfl
@[simp] theorem State.onRegs_sos (f : List (Nat × Word) → List (Nat × Word)) (s : State) : (s.onRegs f).sos = s.sos := rfl
@[simp] theorem State.onRegs_gov (f : List (Nat × Word) → List (Nat × Word)) (s : State) : (s.onRegs f).gov = s.gov := rfl
@[simp] theorem State.onRegs_pins (f : List (Nat × Word) → List (Nat × Word)) (s : State) : (s.onRegs f).pins = s.pins := rfl
@[simp] theorem State.onRegs_uioMirror (f : List (Nat × Word) → List (Nat × Word)) (s : State) : (s.onRegs f).uioMirror = s.uioMirror := rfl
@[simp] theorem State.onRegs_sups (f : List (Nat × Word) → List (Nat × Word)) (s : State) : (s.onRegs f).sups = s.sups := rfl
@[simp] theorem State.onRegs_extIn (f : List (Nat × Word) → List (Nat × Word)) (s : State) : (s.onRegs f).extIn = s.extIn := rfl
@[simp] theorem State.onRegs_kts (f : List (Nat × Word) → List (Nat × Word)) (s : State) : (s.onRegs f).kts = s.kts := rfl
@[simp] theorem State.onRegs_kcs (f : List (Nat × Word) → List (Nat × Word)) (s : State) : (s.onRegs f).kcs = s.kcs := rfl
@[simp] theorem State.onRegs_sense (f : List (Nat × Word) → List (Nat × Word)) (s : State) : (s.onRegs f).sense = s.sense := rfl
@[simp] theorem State.onRegs_cans (f : List (Nat × Word) → List (Nat × Word)) (s : State) : (s.onRegs f).cans = s.cans := rfl
@[simp] theorem State.onRegs_trxs (f : List (Nat × Word) → List (Nat × Word)) (s : State) : (s.onRegs f).trxs = s.trxs := rfl
@[simp] theorem State.onRegs_sec (f : List (Nat × Word) → List (Nat × Word)) (s : State) : (s.onRegs f).sec = s.sec := rfl
@[simp] theorem State.onRegs_svr (f : List (Nat × Word) → List (Nat × Word)) (s : State) : (s.onRegs f).svr = s.svr := rfl
@[simp] theorem State.onRegs_tly (f : List (Nat × Word) → List (Nat × Word)) (s : State) : (s.onRegs f).tly = s.tly := rfl
@[simp] theorem State.onRegs_doms (f : List (Nat × Word) → List (Nat × Word)) (s : State) : (s.onRegs f).doms = s.doms := rfl
@[simp] theorem State.onRegs_eth (f : List (Nat × Word) → List (Nat × Word)) (s : State) : (s.onRegs f).eth = s.eth := rfl
@[simp] theorem State.onRegs_lgw (f : List (Nat × Word) → List (Nat × Word)) (s : State) : (s.onRegs f).lgw = s.lgw := rfl
@[simp] theorem State.onRegs_gwbs (f : List (Nat × Word) → List (Nat × Word)) (s : State) : (s.onRegs f).gwbs = s.gwbs := rfl
@[simp] theorem State.onRegs_cpx (f : List (Nat × Word) → List (Nat × Word)) (s : State) : (s.onRegs f).cpx = s.cpx := rfl
@[simp] theorem State.onRegs_sil (f : List (Nat × Word) → List (Nat × Word)) (s : State) : (s.onRegs f).sil = s.sil := rfl
@[simp] theorem State.onRegs_pairU (f : List (Nat × Word) → List (Nat × Word)) (s : State) : (s.onRegs f).pairU = s.pairU := rfl
@[simp] theorem State.onRegs_upd (f : List (Nat × Word) → List (Nat × Word)) (s : State) : (s.onRegs f).upd = s.upd := rfl
@[simp] theorem State.onRegs_uart (f : List (Nat × Word) → List (Nat × Word)) (s : State) : (s.onRegs f).uart = s.uart := rfl
@[simp] theorem State.onStaged_pending (f : List (Nat × Word) → List (Nat × Word)) (s : State) : (s.onStaged f).pending = s.pending := rfl
@[simp] theorem State.onStaged_now (f : List (Nat × Word) → List (Nat × Word)) (s : State) : (s.onStaged f).now = s.now := rfl
@[simp] theorem State.onStaged_freeCtr (f : List (Nat × Word) → List (Nat × Word)) (s : State) : (s.onStaged f).freeCtr = s.freeCtr := rfl
@[simp] theorem State.onStaged_regs (f : List (Nat × Word) → List (Nat × Word)) (s : State) : (s.onStaged f).regs = s.regs := rfl
@[simp] theorem State.onStaged_staged (f : List (Nat × Word) → List (Nat × Word)) (s : State) : (s.onStaged f).staged = f s.staged := rfl
@[simp] theorem State.onStaged_stagedTab (f : List (Nat × Word) → List (Nat × Word)) (s : State) : (s.onStaged f).stagedTab = s.stagedTab := rfl
@[simp] theorem State.onStaged_commits (f : List (Nat × Word) → List (Nat × Word)) (s : State) : (s.onStaged f).commits = s.commits := rfl
@[simp] theorem State.onStaged_mem (f : List (Nat × Word) → List (Nat × Word)) (s : State) : (s.onStaged f).mem = s.mem := rfl
@[simp] theorem State.onStaged_clk (f : List (Nat × Word) → List (Nat × Word)) (s : State) : (s.onStaged f).clk = s.clk := rfl
@[simp] theorem State.onStaged_bus (f : List (Nat × Word) → List (Nat × Word)) (s : State) : (s.onStaged f).bus = s.bus := rfl
@[simp] theorem State.onStaged_events (f : List (Nat × Word) → List (Nat × Word)) (s : State) : (s.onStaged f).events = s.events := rfl
@[simp] theorem State.onStaged_frm (f : List (Nat × Word) → List (Nat × Word)) (s : State) : (s.onStaged f).frm = s.frm := rfl
@[simp] theorem State.onStaged_mbxs (f : List (Nat × Word) → List (Nat × Word)) (s : State) : (s.onStaged f).mbxs = s.mbxs := rfl
@[simp] theorem State.onStaged_longs (f : List (Nat × Word) → List (Nat × Word)) (s : State) : (s.onStaged f).longs = s.longs := rfl
@[simp] theorem State.onStaged_svcBuf (f : List (Nat × Word) → List (Nat × Word)) (s : State) : (s.onStaged f).svcBuf = s.svcBuf := rfl
@[simp] theorem State.onStaged_fwVersion (f : List (Nat × Word) → List (Nat × Word)) (s : State) : (s.onStaged f).fwVersion = s.fwVersion := rfl
@[simp] theorem State.onStaged_records (f : List (Nat × Word) → List (Nat × Word)) (s : State) : (s.onStaged f).records = s.records := rfl
@[simp] theorem State.onStaged_queues (f : List (Nat × Word) → List (Nat × Word)) (s : State) : (s.onStaged f).queues = s.queues := rfl
@[simp] theorem State.onStaged_parts (f : List (Nat × Word) → List (Nat × Word)) (s : State) : (s.onStaged f).parts = s.parts := rfl
@[simp] theorem State.onStaged_inc (f : List (Nat × Word) → List (Nat × Word)) (s : State) : (s.onStaged f).inc = s.inc := rfl
@[simp] theorem State.onStaged_chans (f : List (Nat × Word) → List (Nat × Word)) (s : State) : (s.onStaged f).chans = s.chans := rfl
@[simp] theorem State.onStaged_boles (f : List (Nat × Word) → List (Nat × Word)) (s : State) : (s.onStaged f).boles = s.boles := rfl
@[simp] theorem State.onStaged_dies (f : List (Nat × Word) → List (Nat × Word)) (s : State) : (s.onStaged f).dies = s.dies := rfl
@[simp] theorem State.onStaged_sos (f : List (Nat × Word) → List (Nat × Word)) (s : State) : (s.onStaged f).sos = s.sos := rfl
@[simp] theorem State.onStaged_gov (f : List (Nat × Word) → List (Nat × Word)) (s : State) : (s.onStaged f).gov = s.gov := rfl
@[simp] theorem State.onStaged_pins (f : List (Nat × Word) → List (Nat × Word)) (s : State) : (s.onStaged f).pins = s.pins := rfl
@[simp] theorem State.onStaged_uioMirror (f : List (Nat × Word) → List (Nat × Word)) (s : State) : (s.onStaged f).uioMirror = s.uioMirror := rfl
@[simp] theorem State.onStaged_sups (f : List (Nat × Word) → List (Nat × Word)) (s : State) : (s.onStaged f).sups = s.sups := rfl
@[simp] theorem State.onStaged_extIn (f : List (Nat × Word) → List (Nat × Word)) (s : State) : (s.onStaged f).extIn = s.extIn := rfl
@[simp] theorem State.onStaged_kts (f : List (Nat × Word) → List (Nat × Word)) (s : State) : (s.onStaged f).kts = s.kts := rfl
@[simp] theorem State.onStaged_kcs (f : List (Nat × Word) → List (Nat × Word)) (s : State) : (s.onStaged f).kcs = s.kcs := rfl
@[simp] theorem State.onStaged_sense (f : List (Nat × Word) → List (Nat × Word)) (s : State) : (s.onStaged f).sense = s.sense := rfl
@[simp] theorem State.onStaged_cans (f : List (Nat × Word) → List (Nat × Word)) (s : State) : (s.onStaged f).cans = s.cans := rfl
@[simp] theorem State.onStaged_trxs (f : List (Nat × Word) → List (Nat × Word)) (s : State) : (s.onStaged f).trxs = s.trxs := rfl
@[simp] theorem State.onStaged_sec (f : List (Nat × Word) → List (Nat × Word)) (s : State) : (s.onStaged f).sec = s.sec := rfl
@[simp] theorem State.onStaged_svr (f : List (Nat × Word) → List (Nat × Word)) (s : State) : (s.onStaged f).svr = s.svr := rfl
@[simp] theorem State.onStaged_tly (f : List (Nat × Word) → List (Nat × Word)) (s : State) : (s.onStaged f).tly = s.tly := rfl
@[simp] theorem State.onStaged_doms (f : List (Nat × Word) → List (Nat × Word)) (s : State) : (s.onStaged f).doms = s.doms := rfl
@[simp] theorem State.onStaged_eth (f : List (Nat × Word) → List (Nat × Word)) (s : State) : (s.onStaged f).eth = s.eth := rfl
@[simp] theorem State.onStaged_lgw (f : List (Nat × Word) → List (Nat × Word)) (s : State) : (s.onStaged f).lgw = s.lgw := rfl
@[simp] theorem State.onStaged_gwbs (f : List (Nat × Word) → List (Nat × Word)) (s : State) : (s.onStaged f).gwbs = s.gwbs := rfl
@[simp] theorem State.onStaged_cpx (f : List (Nat × Word) → List (Nat × Word)) (s : State) : (s.onStaged f).cpx = s.cpx := rfl
@[simp] theorem State.onStaged_sil (f : List (Nat × Word) → List (Nat × Word)) (s : State) : (s.onStaged f).sil = s.sil := rfl
@[simp] theorem State.onStaged_pairU (f : List (Nat × Word) → List (Nat × Word)) (s : State) : (s.onStaged f).pairU = s.pairU := rfl
@[simp] theorem State.onStaged_upd (f : List (Nat × Word) → List (Nat × Word)) (s : State) : (s.onStaged f).upd = s.upd := rfl
@[simp] theorem State.onStaged_uart (f : List (Nat × Word) → List (Nat × Word)) (s : State) : (s.onStaged f).uart = s.uart := rfl
@[simp] theorem State.onStagedTab_pending (f : List (Nat × List Byte) → List (Nat × List Byte)) (s : State) : (s.onStagedTab f).pending = s.pending := rfl
@[simp] theorem State.onStagedTab_now (f : List (Nat × List Byte) → List (Nat × List Byte)) (s : State) : (s.onStagedTab f).now = s.now := rfl
@[simp] theorem State.onStagedTab_freeCtr (f : List (Nat × List Byte) → List (Nat × List Byte)) (s : State) : (s.onStagedTab f).freeCtr = s.freeCtr := rfl
@[simp] theorem State.onStagedTab_regs (f : List (Nat × List Byte) → List (Nat × List Byte)) (s : State) : (s.onStagedTab f).regs = s.regs := rfl
@[simp] theorem State.onStagedTab_staged (f : List (Nat × List Byte) → List (Nat × List Byte)) (s : State) : (s.onStagedTab f).staged = s.staged := rfl
@[simp] theorem State.onStagedTab_stagedTab (f : List (Nat × List Byte) → List (Nat × List Byte)) (s : State) : (s.onStagedTab f).stagedTab = f s.stagedTab := rfl
@[simp] theorem State.onStagedTab_commits (f : List (Nat × List Byte) → List (Nat × List Byte)) (s : State) : (s.onStagedTab f).commits = s.commits := rfl
@[simp] theorem State.onStagedTab_mem (f : List (Nat × List Byte) → List (Nat × List Byte)) (s : State) : (s.onStagedTab f).mem = s.mem := rfl
@[simp] theorem State.onStagedTab_clk (f : List (Nat × List Byte) → List (Nat × List Byte)) (s : State) : (s.onStagedTab f).clk = s.clk := rfl
@[simp] theorem State.onStagedTab_bus (f : List (Nat × List Byte) → List (Nat × List Byte)) (s : State) : (s.onStagedTab f).bus = s.bus := rfl
@[simp] theorem State.onStagedTab_events (f : List (Nat × List Byte) → List (Nat × List Byte)) (s : State) : (s.onStagedTab f).events = s.events := rfl
@[simp] theorem State.onStagedTab_frm (f : List (Nat × List Byte) → List (Nat × List Byte)) (s : State) : (s.onStagedTab f).frm = s.frm := rfl
@[simp] theorem State.onStagedTab_mbxs (f : List (Nat × List Byte) → List (Nat × List Byte)) (s : State) : (s.onStagedTab f).mbxs = s.mbxs := rfl
@[simp] theorem State.onStagedTab_longs (f : List (Nat × List Byte) → List (Nat × List Byte)) (s : State) : (s.onStagedTab f).longs = s.longs := rfl
@[simp] theorem State.onStagedTab_svcBuf (f : List (Nat × List Byte) → List (Nat × List Byte)) (s : State) : (s.onStagedTab f).svcBuf = s.svcBuf := rfl
@[simp] theorem State.onStagedTab_fwVersion (f : List (Nat × List Byte) → List (Nat × List Byte)) (s : State) : (s.onStagedTab f).fwVersion = s.fwVersion := rfl
@[simp] theorem State.onStagedTab_records (f : List (Nat × List Byte) → List (Nat × List Byte)) (s : State) : (s.onStagedTab f).records = s.records := rfl
@[simp] theorem State.onStagedTab_queues (f : List (Nat × List Byte) → List (Nat × List Byte)) (s : State) : (s.onStagedTab f).queues = s.queues := rfl
@[simp] theorem State.onStagedTab_parts (f : List (Nat × List Byte) → List (Nat × List Byte)) (s : State) : (s.onStagedTab f).parts = s.parts := rfl
@[simp] theorem State.onStagedTab_inc (f : List (Nat × List Byte) → List (Nat × List Byte)) (s : State) : (s.onStagedTab f).inc = s.inc := rfl
@[simp] theorem State.onStagedTab_chans (f : List (Nat × List Byte) → List (Nat × List Byte)) (s : State) : (s.onStagedTab f).chans = s.chans := rfl
@[simp] theorem State.onStagedTab_boles (f : List (Nat × List Byte) → List (Nat × List Byte)) (s : State) : (s.onStagedTab f).boles = s.boles := rfl
@[simp] theorem State.onStagedTab_dies (f : List (Nat × List Byte) → List (Nat × List Byte)) (s : State) : (s.onStagedTab f).dies = s.dies := rfl
@[simp] theorem State.onStagedTab_sos (f : List (Nat × List Byte) → List (Nat × List Byte)) (s : State) : (s.onStagedTab f).sos = s.sos := rfl
@[simp] theorem State.onStagedTab_gov (f : List (Nat × List Byte) → List (Nat × List Byte)) (s : State) : (s.onStagedTab f).gov = s.gov := rfl
@[simp] theorem State.onStagedTab_pins (f : List (Nat × List Byte) → List (Nat × List Byte)) (s : State) : (s.onStagedTab f).pins = s.pins := rfl
@[simp] theorem State.onStagedTab_uioMirror (f : List (Nat × List Byte) → List (Nat × List Byte)) (s : State) : (s.onStagedTab f).uioMirror = s.uioMirror := rfl
@[simp] theorem State.onStagedTab_sups (f : List (Nat × List Byte) → List (Nat × List Byte)) (s : State) : (s.onStagedTab f).sups = s.sups := rfl
@[simp] theorem State.onStagedTab_extIn (f : List (Nat × List Byte) → List (Nat × List Byte)) (s : State) : (s.onStagedTab f).extIn = s.extIn := rfl
@[simp] theorem State.onStagedTab_kts (f : List (Nat × List Byte) → List (Nat × List Byte)) (s : State) : (s.onStagedTab f).kts = s.kts := rfl
@[simp] theorem State.onStagedTab_kcs (f : List (Nat × List Byte) → List (Nat × List Byte)) (s : State) : (s.onStagedTab f).kcs = s.kcs := rfl
@[simp] theorem State.onStagedTab_sense (f : List (Nat × List Byte) → List (Nat × List Byte)) (s : State) : (s.onStagedTab f).sense = s.sense := rfl
@[simp] theorem State.onStagedTab_cans (f : List (Nat × List Byte) → List (Nat × List Byte)) (s : State) : (s.onStagedTab f).cans = s.cans := rfl
@[simp] theorem State.onStagedTab_trxs (f : List (Nat × List Byte) → List (Nat × List Byte)) (s : State) : (s.onStagedTab f).trxs = s.trxs := rfl
@[simp] theorem State.onStagedTab_sec (f : List (Nat × List Byte) → List (Nat × List Byte)) (s : State) : (s.onStagedTab f).sec = s.sec := rfl
@[simp] theorem State.onStagedTab_svr (f : List (Nat × List Byte) → List (Nat × List Byte)) (s : State) : (s.onStagedTab f).svr = s.svr := rfl
@[simp] theorem State.onStagedTab_tly (f : List (Nat × List Byte) → List (Nat × List Byte)) (s : State) : (s.onStagedTab f).tly = s.tly := rfl
@[simp] theorem State.onStagedTab_doms (f : List (Nat × List Byte) → List (Nat × List Byte)) (s : State) : (s.onStagedTab f).doms = s.doms := rfl
@[simp] theorem State.onStagedTab_eth (f : List (Nat × List Byte) → List (Nat × List Byte)) (s : State) : (s.onStagedTab f).eth = s.eth := rfl
@[simp] theorem State.onStagedTab_lgw (f : List (Nat × List Byte) → List (Nat × List Byte)) (s : State) : (s.onStagedTab f).lgw = s.lgw := rfl
@[simp] theorem State.onStagedTab_gwbs (f : List (Nat × List Byte) → List (Nat × List Byte)) (s : State) : (s.onStagedTab f).gwbs = s.gwbs := rfl
@[simp] theorem State.onStagedTab_cpx (f : List (Nat × List Byte) → List (Nat × List Byte)) (s : State) : (s.onStagedTab f).cpx = s.cpx := rfl
@[simp] theorem State.onStagedTab_sil (f : List (Nat × List Byte) → List (Nat × List Byte)) (s : State) : (s.onStagedTab f).sil = s.sil := rfl
@[simp] theorem State.onStagedTab_pairU (f : List (Nat × List Byte) → List (Nat × List Byte)) (s : State) : (s.onStagedTab f).pairU = s.pairU := rfl
@[simp] theorem State.onStagedTab_upd (f : List (Nat × List Byte) → List (Nat × List Byte)) (s : State) : (s.onStagedTab f).upd = s.upd := rfl
@[simp] theorem State.onStagedTab_uart (f : List (Nat × List Byte) → List (Nat × List Byte)) (s : State) : (s.onStagedTab f).uart = s.uart := rfl
@[simp] theorem State.onCommits_pending (f : List Commit → List Commit) (s : State) : (s.onCommits f).pending = s.pending := rfl
@[simp] theorem State.onCommits_now (f : List Commit → List Commit) (s : State) : (s.onCommits f).now = s.now := rfl
@[simp] theorem State.onCommits_freeCtr (f : List Commit → List Commit) (s : State) : (s.onCommits f).freeCtr = s.freeCtr := rfl
@[simp] theorem State.onCommits_regs (f : List Commit → List Commit) (s : State) : (s.onCommits f).regs = s.regs := rfl
@[simp] theorem State.onCommits_staged (f : List Commit → List Commit) (s : State) : (s.onCommits f).staged = s.staged := rfl
@[simp] theorem State.onCommits_stagedTab (f : List Commit → List Commit) (s : State) : (s.onCommits f).stagedTab = s.stagedTab := rfl
@[simp] theorem State.onCommits_commits (f : List Commit → List Commit) (s : State) : (s.onCommits f).commits = f s.commits := rfl
@[simp] theorem State.onCommits_mem (f : List Commit → List Commit) (s : State) : (s.onCommits f).mem = s.mem := rfl
@[simp] theorem State.onCommits_clk (f : List Commit → List Commit) (s : State) : (s.onCommits f).clk = s.clk := rfl
@[simp] theorem State.onCommits_bus (f : List Commit → List Commit) (s : State) : (s.onCommits f).bus = s.bus := rfl
@[simp] theorem State.onCommits_events (f : List Commit → List Commit) (s : State) : (s.onCommits f).events = s.events := rfl
@[simp] theorem State.onCommits_frm (f : List Commit → List Commit) (s : State) : (s.onCommits f).frm = s.frm := rfl
@[simp] theorem State.onCommits_mbxs (f : List Commit → List Commit) (s : State) : (s.onCommits f).mbxs = s.mbxs := rfl
@[simp] theorem State.onCommits_longs (f : List Commit → List Commit) (s : State) : (s.onCommits f).longs = s.longs := rfl
@[simp] theorem State.onCommits_svcBuf (f : List Commit → List Commit) (s : State) : (s.onCommits f).svcBuf = s.svcBuf := rfl
@[simp] theorem State.onCommits_fwVersion (f : List Commit → List Commit) (s : State) : (s.onCommits f).fwVersion = s.fwVersion := rfl
@[simp] theorem State.onCommits_records (f : List Commit → List Commit) (s : State) : (s.onCommits f).records = s.records := rfl
@[simp] theorem State.onCommits_queues (f : List Commit → List Commit) (s : State) : (s.onCommits f).queues = s.queues := rfl
@[simp] theorem State.onCommits_parts (f : List Commit → List Commit) (s : State) : (s.onCommits f).parts = s.parts := rfl
@[simp] theorem State.onCommits_inc (f : List Commit → List Commit) (s : State) : (s.onCommits f).inc = s.inc := rfl
@[simp] theorem State.onCommits_chans (f : List Commit → List Commit) (s : State) : (s.onCommits f).chans = s.chans := rfl
@[simp] theorem State.onCommits_boles (f : List Commit → List Commit) (s : State) : (s.onCommits f).boles = s.boles := rfl
@[simp] theorem State.onCommits_dies (f : List Commit → List Commit) (s : State) : (s.onCommits f).dies = s.dies := rfl
@[simp] theorem State.onCommits_sos (f : List Commit → List Commit) (s : State) : (s.onCommits f).sos = s.sos := rfl
@[simp] theorem State.onCommits_gov (f : List Commit → List Commit) (s : State) : (s.onCommits f).gov = s.gov := rfl
@[simp] theorem State.onCommits_pins (f : List Commit → List Commit) (s : State) : (s.onCommits f).pins = s.pins := rfl
@[simp] theorem State.onCommits_uioMirror (f : List Commit → List Commit) (s : State) : (s.onCommits f).uioMirror = s.uioMirror := rfl
@[simp] theorem State.onCommits_sups (f : List Commit → List Commit) (s : State) : (s.onCommits f).sups = s.sups := rfl
@[simp] theorem State.onCommits_extIn (f : List Commit → List Commit) (s : State) : (s.onCommits f).extIn = s.extIn := rfl
@[simp] theorem State.onCommits_kts (f : List Commit → List Commit) (s : State) : (s.onCommits f).kts = s.kts := rfl
@[simp] theorem State.onCommits_kcs (f : List Commit → List Commit) (s : State) : (s.onCommits f).kcs = s.kcs := rfl
@[simp] theorem State.onCommits_sense (f : List Commit → List Commit) (s : State) : (s.onCommits f).sense = s.sense := rfl
@[simp] theorem State.onCommits_cans (f : List Commit → List Commit) (s : State) : (s.onCommits f).cans = s.cans := rfl
@[simp] theorem State.onCommits_trxs (f : List Commit → List Commit) (s : State) : (s.onCommits f).trxs = s.trxs := rfl
@[simp] theorem State.onCommits_sec (f : List Commit → List Commit) (s : State) : (s.onCommits f).sec = s.sec := rfl
@[simp] theorem State.onCommits_svr (f : List Commit → List Commit) (s : State) : (s.onCommits f).svr = s.svr := rfl
@[simp] theorem State.onCommits_tly (f : List Commit → List Commit) (s : State) : (s.onCommits f).tly = s.tly := rfl
@[simp] theorem State.onCommits_doms (f : List Commit → List Commit) (s : State) : (s.onCommits f).doms = s.doms := rfl
@[simp] theorem State.onCommits_eth (f : List Commit → List Commit) (s : State) : (s.onCommits f).eth = s.eth := rfl
@[simp] theorem State.onCommits_lgw (f : List Commit → List Commit) (s : State) : (s.onCommits f).lgw = s.lgw := rfl
@[simp] theorem State.onCommits_gwbs (f : List Commit → List Commit) (s : State) : (s.onCommits f).gwbs = s.gwbs := rfl
@[simp] theorem State.onCommits_cpx (f : List Commit → List Commit) (s : State) : (s.onCommits f).cpx = s.cpx := rfl
@[simp] theorem State.onCommits_sil (f : List Commit → List Commit) (s : State) : (s.onCommits f).sil = s.sil := rfl
@[simp] theorem State.onCommits_pairU (f : List Commit → List Commit) (s : State) : (s.onCommits f).pairU = s.pairU := rfl
@[simp] theorem State.onCommits_upd (f : List Commit → List Commit) (s : State) : (s.onCommits f).upd = s.upd := rfl
@[simp] theorem State.onCommits_uart (f : List Commit → List Commit) (s : State) : (s.onCommits f).uart = s.uart := rfl
@[simp] theorem State.onMem_pending (f : List Host.Cell → List Host.Cell) (s : State) : (s.onMem f).pending = s.pending := rfl
@[simp] theorem State.onMem_now (f : List Host.Cell → List Host.Cell) (s : State) : (s.onMem f).now = s.now := rfl
@[simp] theorem State.onMem_freeCtr (f : List Host.Cell → List Host.Cell) (s : State) : (s.onMem f).freeCtr = s.freeCtr := rfl
@[simp] theorem State.onMem_regs (f : List Host.Cell → List Host.Cell) (s : State) : (s.onMem f).regs = s.regs := rfl
@[simp] theorem State.onMem_staged (f : List Host.Cell → List Host.Cell) (s : State) : (s.onMem f).staged = s.staged := rfl
@[simp] theorem State.onMem_stagedTab (f : List Host.Cell → List Host.Cell) (s : State) : (s.onMem f).stagedTab = s.stagedTab := rfl
@[simp] theorem State.onMem_commits (f : List Host.Cell → List Host.Cell) (s : State) : (s.onMem f).commits = s.commits := rfl
@[simp] theorem State.onMem_mem (f : List Host.Cell → List Host.Cell) (s : State) : (s.onMem f).mem = f s.mem := rfl
@[simp] theorem State.onMem_clk (f : List Host.Cell → List Host.Cell) (s : State) : (s.onMem f).clk = s.clk := rfl
@[simp] theorem State.onMem_bus (f : List Host.Cell → List Host.Cell) (s : State) : (s.onMem f).bus = s.bus := rfl
@[simp] theorem State.onMem_events (f : List Host.Cell → List Host.Cell) (s : State) : (s.onMem f).events = s.events := rfl
@[simp] theorem State.onMem_frm (f : List Host.Cell → List Host.Cell) (s : State) : (s.onMem f).frm = s.frm := rfl
@[simp] theorem State.onMem_mbxs (f : List Host.Cell → List Host.Cell) (s : State) : (s.onMem f).mbxs = s.mbxs := rfl
@[simp] theorem State.onMem_longs (f : List Host.Cell → List Host.Cell) (s : State) : (s.onMem f).longs = s.longs := rfl
@[simp] theorem State.onMem_svcBuf (f : List Host.Cell → List Host.Cell) (s : State) : (s.onMem f).svcBuf = s.svcBuf := rfl
@[simp] theorem State.onMem_fwVersion (f : List Host.Cell → List Host.Cell) (s : State) : (s.onMem f).fwVersion = s.fwVersion := rfl
@[simp] theorem State.onMem_records (f : List Host.Cell → List Host.Cell) (s : State) : (s.onMem f).records = s.records := rfl
@[simp] theorem State.onMem_queues (f : List Host.Cell → List Host.Cell) (s : State) : (s.onMem f).queues = s.queues := rfl
@[simp] theorem State.onMem_parts (f : List Host.Cell → List Host.Cell) (s : State) : (s.onMem f).parts = s.parts := rfl
@[simp] theorem State.onMem_inc (f : List Host.Cell → List Host.Cell) (s : State) : (s.onMem f).inc = s.inc := rfl
@[simp] theorem State.onMem_chans (f : List Host.Cell → List Host.Cell) (s : State) : (s.onMem f).chans = s.chans := rfl
@[simp] theorem State.onMem_boles (f : List Host.Cell → List Host.Cell) (s : State) : (s.onMem f).boles = s.boles := rfl
@[simp] theorem State.onMem_dies (f : List Host.Cell → List Host.Cell) (s : State) : (s.onMem f).dies = s.dies := rfl
@[simp] theorem State.onMem_sos (f : List Host.Cell → List Host.Cell) (s : State) : (s.onMem f).sos = s.sos := rfl
@[simp] theorem State.onMem_gov (f : List Host.Cell → List Host.Cell) (s : State) : (s.onMem f).gov = s.gov := rfl
@[simp] theorem State.onMem_pins (f : List Host.Cell → List Host.Cell) (s : State) : (s.onMem f).pins = s.pins := rfl
@[simp] theorem State.onMem_uioMirror (f : List Host.Cell → List Host.Cell) (s : State) : (s.onMem f).uioMirror = s.uioMirror := rfl
@[simp] theorem State.onMem_sups (f : List Host.Cell → List Host.Cell) (s : State) : (s.onMem f).sups = s.sups := rfl
@[simp] theorem State.onMem_extIn (f : List Host.Cell → List Host.Cell) (s : State) : (s.onMem f).extIn = s.extIn := rfl
@[simp] theorem State.onMem_kts (f : List Host.Cell → List Host.Cell) (s : State) : (s.onMem f).kts = s.kts := rfl
@[simp] theorem State.onMem_kcs (f : List Host.Cell → List Host.Cell) (s : State) : (s.onMem f).kcs = s.kcs := rfl
@[simp] theorem State.onMem_sense (f : List Host.Cell → List Host.Cell) (s : State) : (s.onMem f).sense = s.sense := rfl
@[simp] theorem State.onMem_cans (f : List Host.Cell → List Host.Cell) (s : State) : (s.onMem f).cans = s.cans := rfl
@[simp] theorem State.onMem_trxs (f : List Host.Cell → List Host.Cell) (s : State) : (s.onMem f).trxs = s.trxs := rfl
@[simp] theorem State.onMem_sec (f : List Host.Cell → List Host.Cell) (s : State) : (s.onMem f).sec = s.sec := rfl
@[simp] theorem State.onMem_svr (f : List Host.Cell → List Host.Cell) (s : State) : (s.onMem f).svr = s.svr := rfl
@[simp] theorem State.onMem_tly (f : List Host.Cell → List Host.Cell) (s : State) : (s.onMem f).tly = s.tly := rfl
@[simp] theorem State.onMem_doms (f : List Host.Cell → List Host.Cell) (s : State) : (s.onMem f).doms = s.doms := rfl
@[simp] theorem State.onMem_eth (f : List Host.Cell → List Host.Cell) (s : State) : (s.onMem f).eth = s.eth := rfl
@[simp] theorem State.onMem_lgw (f : List Host.Cell → List Host.Cell) (s : State) : (s.onMem f).lgw = s.lgw := rfl
@[simp] theorem State.onMem_gwbs (f : List Host.Cell → List Host.Cell) (s : State) : (s.onMem f).gwbs = s.gwbs := rfl
@[simp] theorem State.onMem_cpx (f : List Host.Cell → List Host.Cell) (s : State) : (s.onMem f).cpx = s.cpx := rfl
@[simp] theorem State.onMem_sil (f : List Host.Cell → List Host.Cell) (s : State) : (s.onMem f).sil = s.sil := rfl
@[simp] theorem State.onMem_pairU (f : List Host.Cell → List Host.Cell) (s : State) : (s.onMem f).pairU = s.pairU := rfl
@[simp] theorem State.onMem_upd (f : List Host.Cell → List Host.Cell) (s : State) : (s.onMem f).upd = s.upd := rfl
@[simp] theorem State.onMem_uart (f : List Host.Cell → List Host.Cell) (s : State) : (s.onMem f).uart = s.uart := rfl
@[simp] theorem State.onClk_pending (f : Clock → Clock) (s : State) : (s.onClk f).pending = s.pending := rfl
@[simp] theorem State.onClk_now (f : Clock → Clock) (s : State) : (s.onClk f).now = s.now := rfl
@[simp] theorem State.onClk_freeCtr (f : Clock → Clock) (s : State) : (s.onClk f).freeCtr = s.freeCtr := rfl
@[simp] theorem State.onClk_regs (f : Clock → Clock) (s : State) : (s.onClk f).regs = s.regs := rfl
@[simp] theorem State.onClk_staged (f : Clock → Clock) (s : State) : (s.onClk f).staged = s.staged := rfl
@[simp] theorem State.onClk_stagedTab (f : Clock → Clock) (s : State) : (s.onClk f).stagedTab = s.stagedTab := rfl
@[simp] theorem State.onClk_commits (f : Clock → Clock) (s : State) : (s.onClk f).commits = s.commits := rfl
@[simp] theorem State.onClk_mem (f : Clock → Clock) (s : State) : (s.onClk f).mem = s.mem := rfl
@[simp] theorem State.onClk_clk (f : Clock → Clock) (s : State) : (s.onClk f).clk = f s.clk := rfl
@[simp] theorem State.onClk_bus (f : Clock → Clock) (s : State) : (s.onClk f).bus = s.bus := rfl
@[simp] theorem State.onClk_events (f : Clock → Clock) (s : State) : (s.onClk f).events = s.events := rfl
@[simp] theorem State.onClk_frm (f : Clock → Clock) (s : State) : (s.onClk f).frm = s.frm := rfl
@[simp] theorem State.onClk_mbxs (f : Clock → Clock) (s : State) : (s.onClk f).mbxs = s.mbxs := rfl
@[simp] theorem State.onClk_longs (f : Clock → Clock) (s : State) : (s.onClk f).longs = s.longs := rfl
@[simp] theorem State.onClk_svcBuf (f : Clock → Clock) (s : State) : (s.onClk f).svcBuf = s.svcBuf := rfl
@[simp] theorem State.onClk_fwVersion (f : Clock → Clock) (s : State) : (s.onClk f).fwVersion = s.fwVersion := rfl
@[simp] theorem State.onClk_records (f : Clock → Clock) (s : State) : (s.onClk f).records = s.records := rfl
@[simp] theorem State.onClk_queues (f : Clock → Clock) (s : State) : (s.onClk f).queues = s.queues := rfl
@[simp] theorem State.onClk_parts (f : Clock → Clock) (s : State) : (s.onClk f).parts = s.parts := rfl
@[simp] theorem State.onClk_inc (f : Clock → Clock) (s : State) : (s.onClk f).inc = s.inc := rfl
@[simp] theorem State.onClk_chans (f : Clock → Clock) (s : State) : (s.onClk f).chans = s.chans := rfl
@[simp] theorem State.onClk_boles (f : Clock → Clock) (s : State) : (s.onClk f).boles = s.boles := rfl
@[simp] theorem State.onClk_dies (f : Clock → Clock) (s : State) : (s.onClk f).dies = s.dies := rfl
@[simp] theorem State.onClk_sos (f : Clock → Clock) (s : State) : (s.onClk f).sos = s.sos := rfl
@[simp] theorem State.onClk_gov (f : Clock → Clock) (s : State) : (s.onClk f).gov = s.gov := rfl
@[simp] theorem State.onClk_pins (f : Clock → Clock) (s : State) : (s.onClk f).pins = s.pins := rfl
@[simp] theorem State.onClk_uioMirror (f : Clock → Clock) (s : State) : (s.onClk f).uioMirror = s.uioMirror := rfl
@[simp] theorem State.onClk_sups (f : Clock → Clock) (s : State) : (s.onClk f).sups = s.sups := rfl
@[simp] theorem State.onClk_extIn (f : Clock → Clock) (s : State) : (s.onClk f).extIn = s.extIn := rfl
@[simp] theorem State.onClk_kts (f : Clock → Clock) (s : State) : (s.onClk f).kts = s.kts := rfl
@[simp] theorem State.onClk_kcs (f : Clock → Clock) (s : State) : (s.onClk f).kcs = s.kcs := rfl
@[simp] theorem State.onClk_sense (f : Clock → Clock) (s : State) : (s.onClk f).sense = s.sense := rfl
@[simp] theorem State.onClk_cans (f : Clock → Clock) (s : State) : (s.onClk f).cans = s.cans := rfl
@[simp] theorem State.onClk_trxs (f : Clock → Clock) (s : State) : (s.onClk f).trxs = s.trxs := rfl
@[simp] theorem State.onClk_sec (f : Clock → Clock) (s : State) : (s.onClk f).sec = s.sec := rfl
@[simp] theorem State.onClk_svr (f : Clock → Clock) (s : State) : (s.onClk f).svr = s.svr := rfl
@[simp] theorem State.onClk_tly (f : Clock → Clock) (s : State) : (s.onClk f).tly = s.tly := rfl
@[simp] theorem State.onClk_doms (f : Clock → Clock) (s : State) : (s.onClk f).doms = s.doms := rfl
@[simp] theorem State.onClk_eth (f : Clock → Clock) (s : State) : (s.onClk f).eth = s.eth := rfl
@[simp] theorem State.onClk_lgw (f : Clock → Clock) (s : State) : (s.onClk f).lgw = s.lgw := rfl
@[simp] theorem State.onClk_gwbs (f : Clock → Clock) (s : State) : (s.onClk f).gwbs = s.gwbs := rfl
@[simp] theorem State.onClk_cpx (f : Clock → Clock) (s : State) : (s.onClk f).cpx = s.cpx := rfl
@[simp] theorem State.onClk_sil (f : Clock → Clock) (s : State) : (s.onClk f).sil = s.sil := rfl
@[simp] theorem State.onClk_pairU (f : Clock → Clock) (s : State) : (s.onClk f).pairU = s.pairU := rfl
@[simp] theorem State.onClk_upd (f : Clock → Clock) (s : State) : (s.onClk f).upd = s.upd := rfl
@[simp] theorem State.onClk_uart (f : Clock → Clock) (s : State) : (s.onClk f).uart = s.uart := rfl
@[simp] theorem State.onBus_pending (f : BusResp → BusResp) (s : State) : (s.onBus f).pending = s.pending := rfl
@[simp] theorem State.onBus_now (f : BusResp → BusResp) (s : State) : (s.onBus f).now = s.now := rfl
@[simp] theorem State.onBus_freeCtr (f : BusResp → BusResp) (s : State) : (s.onBus f).freeCtr = s.freeCtr := rfl
@[simp] theorem State.onBus_regs (f : BusResp → BusResp) (s : State) : (s.onBus f).regs = s.regs := rfl
@[simp] theorem State.onBus_staged (f : BusResp → BusResp) (s : State) : (s.onBus f).staged = s.staged := rfl
@[simp] theorem State.onBus_stagedTab (f : BusResp → BusResp) (s : State) : (s.onBus f).stagedTab = s.stagedTab := rfl
@[simp] theorem State.onBus_commits (f : BusResp → BusResp) (s : State) : (s.onBus f).commits = s.commits := rfl
@[simp] theorem State.onBus_mem (f : BusResp → BusResp) (s : State) : (s.onBus f).mem = s.mem := rfl
@[simp] theorem State.onBus_clk (f : BusResp → BusResp) (s : State) : (s.onBus f).clk = s.clk := rfl
@[simp] theorem State.onBus_bus (f : BusResp → BusResp) (s : State) : (s.onBus f).bus = f s.bus := rfl
@[simp] theorem State.onBus_events (f : BusResp → BusResp) (s : State) : (s.onBus f).events = s.events := rfl
@[simp] theorem State.onBus_frm (f : BusResp → BusResp) (s : State) : (s.onBus f).frm = s.frm := rfl
@[simp] theorem State.onBus_mbxs (f : BusResp → BusResp) (s : State) : (s.onBus f).mbxs = s.mbxs := rfl
@[simp] theorem State.onBus_longs (f : BusResp → BusResp) (s : State) : (s.onBus f).longs = s.longs := rfl
@[simp] theorem State.onBus_svcBuf (f : BusResp → BusResp) (s : State) : (s.onBus f).svcBuf = s.svcBuf := rfl
@[simp] theorem State.onBus_fwVersion (f : BusResp → BusResp) (s : State) : (s.onBus f).fwVersion = s.fwVersion := rfl
@[simp] theorem State.onBus_records (f : BusResp → BusResp) (s : State) : (s.onBus f).records = s.records := rfl
@[simp] theorem State.onBus_queues (f : BusResp → BusResp) (s : State) : (s.onBus f).queues = s.queues := rfl
@[simp] theorem State.onBus_parts (f : BusResp → BusResp) (s : State) : (s.onBus f).parts = s.parts := rfl
@[simp] theorem State.onBus_inc (f : BusResp → BusResp) (s : State) : (s.onBus f).inc = s.inc := rfl
@[simp] theorem State.onBus_chans (f : BusResp → BusResp) (s : State) : (s.onBus f).chans = s.chans := rfl
@[simp] theorem State.onBus_boles (f : BusResp → BusResp) (s : State) : (s.onBus f).boles = s.boles := rfl
@[simp] theorem State.onBus_dies (f : BusResp → BusResp) (s : State) : (s.onBus f).dies = s.dies := rfl
@[simp] theorem State.onBus_sos (f : BusResp → BusResp) (s : State) : (s.onBus f).sos = s.sos := rfl
@[simp] theorem State.onBus_gov (f : BusResp → BusResp) (s : State) : (s.onBus f).gov = s.gov := rfl
@[simp] theorem State.onBus_pins (f : BusResp → BusResp) (s : State) : (s.onBus f).pins = s.pins := rfl
@[simp] theorem State.onBus_uioMirror (f : BusResp → BusResp) (s : State) : (s.onBus f).uioMirror = s.uioMirror := rfl
@[simp] theorem State.onBus_sups (f : BusResp → BusResp) (s : State) : (s.onBus f).sups = s.sups := rfl
@[simp] theorem State.onBus_extIn (f : BusResp → BusResp) (s : State) : (s.onBus f).extIn = s.extIn := rfl
@[simp] theorem State.onBus_kts (f : BusResp → BusResp) (s : State) : (s.onBus f).kts = s.kts := rfl
@[simp] theorem State.onBus_kcs (f : BusResp → BusResp) (s : State) : (s.onBus f).kcs = s.kcs := rfl
@[simp] theorem State.onBus_sense (f : BusResp → BusResp) (s : State) : (s.onBus f).sense = s.sense := rfl
@[simp] theorem State.onBus_cans (f : BusResp → BusResp) (s : State) : (s.onBus f).cans = s.cans := rfl
@[simp] theorem State.onBus_trxs (f : BusResp → BusResp) (s : State) : (s.onBus f).trxs = s.trxs := rfl
@[simp] theorem State.onBus_sec (f : BusResp → BusResp) (s : State) : (s.onBus f).sec = s.sec := rfl
@[simp] theorem State.onBus_svr (f : BusResp → BusResp) (s : State) : (s.onBus f).svr = s.svr := rfl
@[simp] theorem State.onBus_tly (f : BusResp → BusResp) (s : State) : (s.onBus f).tly = s.tly := rfl
@[simp] theorem State.onBus_doms (f : BusResp → BusResp) (s : State) : (s.onBus f).doms = s.doms := rfl
@[simp] theorem State.onBus_eth (f : BusResp → BusResp) (s : State) : (s.onBus f).eth = s.eth := rfl
@[simp] theorem State.onBus_lgw (f : BusResp → BusResp) (s : State) : (s.onBus f).lgw = s.lgw := rfl
@[simp] theorem State.onBus_gwbs (f : BusResp → BusResp) (s : State) : (s.onBus f).gwbs = s.gwbs := rfl
@[simp] theorem State.onBus_cpx (f : BusResp → BusResp) (s : State) : (s.onBus f).cpx = s.cpx := rfl
@[simp] theorem State.onBus_sil (f : BusResp → BusResp) (s : State) : (s.onBus f).sil = s.sil := rfl
@[simp] theorem State.onBus_pairU (f : BusResp → BusResp) (s : State) : (s.onBus f).pairU = s.pairU := rfl
@[simp] theorem State.onBus_upd (f : BusResp → BusResp) (s : State) : (s.onBus f).upd = s.upd := rfl
@[simp] theorem State.onBus_uart (f : BusResp → BusResp) (s : State) : (s.onBus f).uart = s.uart := rfl
@[simp] theorem State.onEvents_pending (f : List EvRec → List EvRec) (s : State) : (s.onEvents f).pending = s.pending := rfl
@[simp] theorem State.onEvents_now (f : List EvRec → List EvRec) (s : State) : (s.onEvents f).now = s.now := rfl
@[simp] theorem State.onEvents_freeCtr (f : List EvRec → List EvRec) (s : State) : (s.onEvents f).freeCtr = s.freeCtr := rfl
@[simp] theorem State.onEvents_regs (f : List EvRec → List EvRec) (s : State) : (s.onEvents f).regs = s.regs := rfl
@[simp] theorem State.onEvents_staged (f : List EvRec → List EvRec) (s : State) : (s.onEvents f).staged = s.staged := rfl
@[simp] theorem State.onEvents_stagedTab (f : List EvRec → List EvRec) (s : State) : (s.onEvents f).stagedTab = s.stagedTab := rfl
@[simp] theorem State.onEvents_commits (f : List EvRec → List EvRec) (s : State) : (s.onEvents f).commits = s.commits := rfl
@[simp] theorem State.onEvents_mem (f : List EvRec → List EvRec) (s : State) : (s.onEvents f).mem = s.mem := rfl
@[simp] theorem State.onEvents_clk (f : List EvRec → List EvRec) (s : State) : (s.onEvents f).clk = s.clk := rfl
@[simp] theorem State.onEvents_bus (f : List EvRec → List EvRec) (s : State) : (s.onEvents f).bus = s.bus := rfl
@[simp] theorem State.onEvents_events (f : List EvRec → List EvRec) (s : State) : (s.onEvents f).events = f s.events := rfl
@[simp] theorem State.onEvents_frm (f : List EvRec → List EvRec) (s : State) : (s.onEvents f).frm = s.frm := rfl
@[simp] theorem State.onEvents_mbxs (f : List EvRec → List EvRec) (s : State) : (s.onEvents f).mbxs = s.mbxs := rfl
@[simp] theorem State.onEvents_longs (f : List EvRec → List EvRec) (s : State) : (s.onEvents f).longs = s.longs := rfl
@[simp] theorem State.onEvents_svcBuf (f : List EvRec → List EvRec) (s : State) : (s.onEvents f).svcBuf = s.svcBuf := rfl
@[simp] theorem State.onEvents_fwVersion (f : List EvRec → List EvRec) (s : State) : (s.onEvents f).fwVersion = s.fwVersion := rfl
@[simp] theorem State.onEvents_records (f : List EvRec → List EvRec) (s : State) : (s.onEvents f).records = s.records := rfl
@[simp] theorem State.onEvents_queues (f : List EvRec → List EvRec) (s : State) : (s.onEvents f).queues = s.queues := rfl
@[simp] theorem State.onEvents_parts (f : List EvRec → List EvRec) (s : State) : (s.onEvents f).parts = s.parts := rfl
@[simp] theorem State.onEvents_inc (f : List EvRec → List EvRec) (s : State) : (s.onEvents f).inc = s.inc := rfl
@[simp] theorem State.onEvents_chans (f : List EvRec → List EvRec) (s : State) : (s.onEvents f).chans = s.chans := rfl
@[simp] theorem State.onEvents_boles (f : List EvRec → List EvRec) (s : State) : (s.onEvents f).boles = s.boles := rfl
@[simp] theorem State.onEvents_dies (f : List EvRec → List EvRec) (s : State) : (s.onEvents f).dies = s.dies := rfl
@[simp] theorem State.onEvents_sos (f : List EvRec → List EvRec) (s : State) : (s.onEvents f).sos = s.sos := rfl
@[simp] theorem State.onEvents_gov (f : List EvRec → List EvRec) (s : State) : (s.onEvents f).gov = s.gov := rfl
@[simp] theorem State.onEvents_pins (f : List EvRec → List EvRec) (s : State) : (s.onEvents f).pins = s.pins := rfl
@[simp] theorem State.onEvents_uioMirror (f : List EvRec → List EvRec) (s : State) : (s.onEvents f).uioMirror = s.uioMirror := rfl
@[simp] theorem State.onEvents_sups (f : List EvRec → List EvRec) (s : State) : (s.onEvents f).sups = s.sups := rfl
@[simp] theorem State.onEvents_extIn (f : List EvRec → List EvRec) (s : State) : (s.onEvents f).extIn = s.extIn := rfl
@[simp] theorem State.onEvents_kts (f : List EvRec → List EvRec) (s : State) : (s.onEvents f).kts = s.kts := rfl
@[simp] theorem State.onEvents_kcs (f : List EvRec → List EvRec) (s : State) : (s.onEvents f).kcs = s.kcs := rfl
@[simp] theorem State.onEvents_sense (f : List EvRec → List EvRec) (s : State) : (s.onEvents f).sense = s.sense := rfl
@[simp] theorem State.onEvents_cans (f : List EvRec → List EvRec) (s : State) : (s.onEvents f).cans = s.cans := rfl
@[simp] theorem State.onEvents_trxs (f : List EvRec → List EvRec) (s : State) : (s.onEvents f).trxs = s.trxs := rfl
@[simp] theorem State.onEvents_sec (f : List EvRec → List EvRec) (s : State) : (s.onEvents f).sec = s.sec := rfl
@[simp] theorem State.onEvents_svr (f : List EvRec → List EvRec) (s : State) : (s.onEvents f).svr = s.svr := rfl
@[simp] theorem State.onEvents_tly (f : List EvRec → List EvRec) (s : State) : (s.onEvents f).tly = s.tly := rfl
@[simp] theorem State.onEvents_doms (f : List EvRec → List EvRec) (s : State) : (s.onEvents f).doms = s.doms := rfl
@[simp] theorem State.onEvents_eth (f : List EvRec → List EvRec) (s : State) : (s.onEvents f).eth = s.eth := rfl
@[simp] theorem State.onEvents_lgw (f : List EvRec → List EvRec) (s : State) : (s.onEvents f).lgw = s.lgw := rfl
@[simp] theorem State.onEvents_gwbs (f : List EvRec → List EvRec) (s : State) : (s.onEvents f).gwbs = s.gwbs := rfl
@[simp] theorem State.onEvents_cpx (f : List EvRec → List EvRec) (s : State) : (s.onEvents f).cpx = s.cpx := rfl
@[simp] theorem State.onEvents_sil (f : List EvRec → List EvRec) (s : State) : (s.onEvents f).sil = s.sil := rfl
@[simp] theorem State.onEvents_pairU (f : List EvRec → List EvRec) (s : State) : (s.onEvents f).pairU = s.pairU := rfl
@[simp] theorem State.onEvents_upd (f : List EvRec → List EvRec) (s : State) : (s.onEvents f).upd = s.upd := rfl
@[simp] theorem State.onEvents_uart (f : List EvRec → List EvRec) (s : State) : (s.onEvents f).uart = s.uart := rfl
@[simp] theorem State.onFrm_pending (f : FrameGen → FrameGen) (s : State) : (s.onFrm f).pending = s.pending := rfl
@[simp] theorem State.onFrm_now (f : FrameGen → FrameGen) (s : State) : (s.onFrm f).now = s.now := rfl
@[simp] theorem State.onFrm_freeCtr (f : FrameGen → FrameGen) (s : State) : (s.onFrm f).freeCtr = s.freeCtr := rfl
@[simp] theorem State.onFrm_regs (f : FrameGen → FrameGen) (s : State) : (s.onFrm f).regs = s.regs := rfl
@[simp] theorem State.onFrm_staged (f : FrameGen → FrameGen) (s : State) : (s.onFrm f).staged = s.staged := rfl
@[simp] theorem State.onFrm_stagedTab (f : FrameGen → FrameGen) (s : State) : (s.onFrm f).stagedTab = s.stagedTab := rfl
@[simp] theorem State.onFrm_commits (f : FrameGen → FrameGen) (s : State) : (s.onFrm f).commits = s.commits := rfl
@[simp] theorem State.onFrm_mem (f : FrameGen → FrameGen) (s : State) : (s.onFrm f).mem = s.mem := rfl
@[simp] theorem State.onFrm_clk (f : FrameGen → FrameGen) (s : State) : (s.onFrm f).clk = s.clk := rfl
@[simp] theorem State.onFrm_bus (f : FrameGen → FrameGen) (s : State) : (s.onFrm f).bus = s.bus := rfl
@[simp] theorem State.onFrm_events (f : FrameGen → FrameGen) (s : State) : (s.onFrm f).events = s.events := rfl
@[simp] theorem State.onFrm_frm (f : FrameGen → FrameGen) (s : State) : (s.onFrm f).frm = f s.frm := rfl
@[simp] theorem State.onFrm_mbxs (f : FrameGen → FrameGen) (s : State) : (s.onFrm f).mbxs = s.mbxs := rfl
@[simp] theorem State.onFrm_longs (f : FrameGen → FrameGen) (s : State) : (s.onFrm f).longs = s.longs := rfl
@[simp] theorem State.onFrm_svcBuf (f : FrameGen → FrameGen) (s : State) : (s.onFrm f).svcBuf = s.svcBuf := rfl
@[simp] theorem State.onFrm_fwVersion (f : FrameGen → FrameGen) (s : State) : (s.onFrm f).fwVersion = s.fwVersion := rfl
@[simp] theorem State.onFrm_records (f : FrameGen → FrameGen) (s : State) : (s.onFrm f).records = s.records := rfl
@[simp] theorem State.onFrm_queues (f : FrameGen → FrameGen) (s : State) : (s.onFrm f).queues = s.queues := rfl
@[simp] theorem State.onFrm_parts (f : FrameGen → FrameGen) (s : State) : (s.onFrm f).parts = s.parts := rfl
@[simp] theorem State.onFrm_inc (f : FrameGen → FrameGen) (s : State) : (s.onFrm f).inc = s.inc := rfl
@[simp] theorem State.onFrm_chans (f : FrameGen → FrameGen) (s : State) : (s.onFrm f).chans = s.chans := rfl
@[simp] theorem State.onFrm_boles (f : FrameGen → FrameGen) (s : State) : (s.onFrm f).boles = s.boles := rfl
@[simp] theorem State.onFrm_dies (f : FrameGen → FrameGen) (s : State) : (s.onFrm f).dies = s.dies := rfl
@[simp] theorem State.onFrm_sos (f : FrameGen → FrameGen) (s : State) : (s.onFrm f).sos = s.sos := rfl
@[simp] theorem State.onFrm_gov (f : FrameGen → FrameGen) (s : State) : (s.onFrm f).gov = s.gov := rfl
@[simp] theorem State.onFrm_pins (f : FrameGen → FrameGen) (s : State) : (s.onFrm f).pins = s.pins := rfl
@[simp] theorem State.onFrm_uioMirror (f : FrameGen → FrameGen) (s : State) : (s.onFrm f).uioMirror = s.uioMirror := rfl
@[simp] theorem State.onFrm_sups (f : FrameGen → FrameGen) (s : State) : (s.onFrm f).sups = s.sups := rfl
@[simp] theorem State.onFrm_extIn (f : FrameGen → FrameGen) (s : State) : (s.onFrm f).extIn = s.extIn := rfl
@[simp] theorem State.onFrm_kts (f : FrameGen → FrameGen) (s : State) : (s.onFrm f).kts = s.kts := rfl
@[simp] theorem State.onFrm_kcs (f : FrameGen → FrameGen) (s : State) : (s.onFrm f).kcs = s.kcs := rfl
@[simp] theorem State.onFrm_sense (f : FrameGen → FrameGen) (s : State) : (s.onFrm f).sense = s.sense := rfl
@[simp] theorem State.onFrm_cans (f : FrameGen → FrameGen) (s : State) : (s.onFrm f).cans = s.cans := rfl
@[simp] theorem State.onFrm_trxs (f : FrameGen → FrameGen) (s : State) : (s.onFrm f).trxs = s.trxs := rfl
@[simp] theorem State.onFrm_sec (f : FrameGen → FrameGen) (s : State) : (s.onFrm f).sec = s.sec := rfl
@[simp] theorem State.onFrm_svr (f : FrameGen → FrameGen) (s : State) : (s.onFrm f).svr = s.svr := rfl
@[simp] theorem State.onFrm_tly (f : FrameGen → FrameGen) (s : State) : (s.onFrm f).tly = s.tly := rfl
@[simp] theorem State.onFrm_doms (f : FrameGen → FrameGen) (s : State) : (s.onFrm f).doms = s.doms := rfl
@[simp] theorem State.onFrm_eth (f : FrameGen → FrameGen) (s : State) : (s.onFrm f).eth = s.eth := rfl
@[simp] theorem State.onFrm_lgw (f : FrameGen → FrameGen) (s : State) : (s.onFrm f).lgw = s.lgw := rfl
@[simp] theorem State.onFrm_gwbs (f : FrameGen → FrameGen) (s : State) : (s.onFrm f).gwbs = s.gwbs := rfl
@[simp] theorem State.onFrm_cpx (f : FrameGen → FrameGen) (s : State) : (s.onFrm f).cpx = s.cpx := rfl
@[simp] theorem State.onFrm_sil (f : FrameGen → FrameGen) (s : State) : (s.onFrm f).sil = s.sil := rfl
@[simp] theorem State.onFrm_pairU (f : FrameGen → FrameGen) (s : State) : (s.onFrm f).pairU = s.pairU := rfl
@[simp] theorem State.onFrm_upd (f : FrameGen → FrameGen) (s : State) : (s.onFrm f).upd = s.upd := rfl
@[simp] theorem State.onFrm_uart (f : FrameGen → FrameGen) (s : State) : (s.onFrm f).uart = s.uart := rfl
@[simp] theorem State.onMbxs_pending (f : List Mbx → List Mbx) (s : State) : (s.onMbxs f).pending = s.pending := rfl
@[simp] theorem State.onMbxs_now (f : List Mbx → List Mbx) (s : State) : (s.onMbxs f).now = s.now := rfl
@[simp] theorem State.onMbxs_freeCtr (f : List Mbx → List Mbx) (s : State) : (s.onMbxs f).freeCtr = s.freeCtr := rfl
@[simp] theorem State.onMbxs_regs (f : List Mbx → List Mbx) (s : State) : (s.onMbxs f).regs = s.regs := rfl
@[simp] theorem State.onMbxs_staged (f : List Mbx → List Mbx) (s : State) : (s.onMbxs f).staged = s.staged := rfl
@[simp] theorem State.onMbxs_stagedTab (f : List Mbx → List Mbx) (s : State) : (s.onMbxs f).stagedTab = s.stagedTab := rfl
@[simp] theorem State.onMbxs_commits (f : List Mbx → List Mbx) (s : State) : (s.onMbxs f).commits = s.commits := rfl
@[simp] theorem State.onMbxs_mem (f : List Mbx → List Mbx) (s : State) : (s.onMbxs f).mem = s.mem := rfl
@[simp] theorem State.onMbxs_clk (f : List Mbx → List Mbx) (s : State) : (s.onMbxs f).clk = s.clk := rfl
@[simp] theorem State.onMbxs_bus (f : List Mbx → List Mbx) (s : State) : (s.onMbxs f).bus = s.bus := rfl
@[simp] theorem State.onMbxs_events (f : List Mbx → List Mbx) (s : State) : (s.onMbxs f).events = s.events := rfl
@[simp] theorem State.onMbxs_frm (f : List Mbx → List Mbx) (s : State) : (s.onMbxs f).frm = s.frm := rfl
@[simp] theorem State.onMbxs_mbxs (f : List Mbx → List Mbx) (s : State) : (s.onMbxs f).mbxs = f s.mbxs := rfl
@[simp] theorem State.onMbxs_longs (f : List Mbx → List Mbx) (s : State) : (s.onMbxs f).longs = s.longs := rfl
@[simp] theorem State.onMbxs_svcBuf (f : List Mbx → List Mbx) (s : State) : (s.onMbxs f).svcBuf = s.svcBuf := rfl
@[simp] theorem State.onMbxs_fwVersion (f : List Mbx → List Mbx) (s : State) : (s.onMbxs f).fwVersion = s.fwVersion := rfl
@[simp] theorem State.onMbxs_records (f : List Mbx → List Mbx) (s : State) : (s.onMbxs f).records = s.records := rfl
@[simp] theorem State.onMbxs_queues (f : List Mbx → List Mbx) (s : State) : (s.onMbxs f).queues = s.queues := rfl
@[simp] theorem State.onMbxs_parts (f : List Mbx → List Mbx) (s : State) : (s.onMbxs f).parts = s.parts := rfl
@[simp] theorem State.onMbxs_inc (f : List Mbx → List Mbx) (s : State) : (s.onMbxs f).inc = s.inc := rfl
@[simp] theorem State.onMbxs_chans (f : List Mbx → List Mbx) (s : State) : (s.onMbxs f).chans = s.chans := rfl
@[simp] theorem State.onMbxs_boles (f : List Mbx → List Mbx) (s : State) : (s.onMbxs f).boles = s.boles := rfl
@[simp] theorem State.onMbxs_dies (f : List Mbx → List Mbx) (s : State) : (s.onMbxs f).dies = s.dies := rfl
@[simp] theorem State.onMbxs_sos (f : List Mbx → List Mbx) (s : State) : (s.onMbxs f).sos = s.sos := rfl
@[simp] theorem State.onMbxs_gov (f : List Mbx → List Mbx) (s : State) : (s.onMbxs f).gov = s.gov := rfl
@[simp] theorem State.onMbxs_pins (f : List Mbx → List Mbx) (s : State) : (s.onMbxs f).pins = s.pins := rfl
@[simp] theorem State.onMbxs_uioMirror (f : List Mbx → List Mbx) (s : State) : (s.onMbxs f).uioMirror = s.uioMirror := rfl
@[simp] theorem State.onMbxs_sups (f : List Mbx → List Mbx) (s : State) : (s.onMbxs f).sups = s.sups := rfl
@[simp] theorem State.onMbxs_extIn (f : List Mbx → List Mbx) (s : State) : (s.onMbxs f).extIn = s.extIn := rfl
@[simp] theorem State.onMbxs_kts (f : List Mbx → List Mbx) (s : State) : (s.onMbxs f).kts = s.kts := rfl
@[simp] theorem State.onMbxs_kcs (f : List Mbx → List Mbx) (s : State) : (s.onMbxs f).kcs = s.kcs := rfl
@[simp] theorem State.onMbxs_sense (f : List Mbx → List Mbx) (s : State) : (s.onMbxs f).sense = s.sense := rfl
@[simp] theorem State.onMbxs_cans (f : List Mbx → List Mbx) (s : State) : (s.onMbxs f).cans = s.cans := rfl
@[simp] theorem State.onMbxs_trxs (f : List Mbx → List Mbx) (s : State) : (s.onMbxs f).trxs = s.trxs := rfl
@[simp] theorem State.onMbxs_sec (f : List Mbx → List Mbx) (s : State) : (s.onMbxs f).sec = s.sec := rfl
@[simp] theorem State.onMbxs_svr (f : List Mbx → List Mbx) (s : State) : (s.onMbxs f).svr = s.svr := rfl
@[simp] theorem State.onMbxs_tly (f : List Mbx → List Mbx) (s : State) : (s.onMbxs f).tly = s.tly := rfl
@[simp] theorem State.onMbxs_doms (f : List Mbx → List Mbx) (s : State) : (s.onMbxs f).doms = s.doms := rfl
@[simp] theorem State.onMbxs_eth (f : List Mbx → List Mbx) (s : State) : (s.onMbxs f).eth = s.eth := rfl
@[simp] theorem State.onMbxs_lgw (f : List Mbx → List Mbx) (s : State) : (s.onMbxs f).lgw = s.lgw := rfl
@[simp] theorem State.onMbxs_gwbs (f : List Mbx → List Mbx) (s : State) : (s.onMbxs f).gwbs = s.gwbs := rfl
@[simp] theorem State.onMbxs_cpx (f : List Mbx → List Mbx) (s : State) : (s.onMbxs f).cpx = s.cpx := rfl
@[simp] theorem State.onMbxs_sil (f : List Mbx → List Mbx) (s : State) : (s.onMbxs f).sil = s.sil := rfl
@[simp] theorem State.onMbxs_pairU (f : List Mbx → List Mbx) (s : State) : (s.onMbxs f).pairU = s.pairU := rfl
@[simp] theorem State.onMbxs_upd (f : List Mbx → List Mbx) (s : State) : (s.onMbxs f).upd = s.upd := rfl
@[simp] theorem State.onMbxs_uart (f : List Mbx → List Mbx) (s : State) : (s.onMbxs f).uart = s.uart := rfl
@[simp] theorem State.onLongs_pending (f : List LongCmd → List LongCmd) (s : State) : (s.onLongs f).pending = s.pending := rfl
@[simp] theorem State.onLongs_now (f : List LongCmd → List LongCmd) (s : State) : (s.onLongs f).now = s.now := rfl
@[simp] theorem State.onLongs_freeCtr (f : List LongCmd → List LongCmd) (s : State) : (s.onLongs f).freeCtr = s.freeCtr := rfl
@[simp] theorem State.onLongs_regs (f : List LongCmd → List LongCmd) (s : State) : (s.onLongs f).regs = s.regs := rfl
@[simp] theorem State.onLongs_staged (f : List LongCmd → List LongCmd) (s : State) : (s.onLongs f).staged = s.staged := rfl
@[simp] theorem State.onLongs_stagedTab (f : List LongCmd → List LongCmd) (s : State) : (s.onLongs f).stagedTab = s.stagedTab := rfl
@[simp] theorem State.onLongs_commits (f : List LongCmd → List LongCmd) (s : State) : (s.onLongs f).commits = s.commits := rfl
@[simp] theorem State.onLongs_mem (f : List LongCmd → List LongCmd) (s : State) : (s.onLongs f).mem = s.mem := rfl
@[simp] theorem State.onLongs_clk (f : List LongCmd → List LongCmd) (s : State) : (s.onLongs f).clk = s.clk := rfl
@[simp] theorem State.onLongs_bus (f : List LongCmd → List LongCmd) (s : State) : (s.onLongs f).bus = s.bus := rfl
@[simp] theorem State.onLongs_events (f : List LongCmd → List LongCmd) (s : State) : (s.onLongs f).events = s.events := rfl
@[simp] theorem State.onLongs_frm (f : List LongCmd → List LongCmd) (s : State) : (s.onLongs f).frm = s.frm := rfl
@[simp] theorem State.onLongs_mbxs (f : List LongCmd → List LongCmd) (s : State) : (s.onLongs f).mbxs = s.mbxs := rfl
@[simp] theorem State.onLongs_longs (f : List LongCmd → List LongCmd) (s : State) : (s.onLongs f).longs = f s.longs := rfl
@[simp] theorem State.onLongs_svcBuf (f : List LongCmd → List LongCmd) (s : State) : (s.onLongs f).svcBuf = s.svcBuf := rfl
@[simp] theorem State.onLongs_fwVersion (f : List LongCmd → List LongCmd) (s : State) : (s.onLongs f).fwVersion = s.fwVersion := rfl
@[simp] theorem State.onLongs_records (f : List LongCmd → List LongCmd) (s : State) : (s.onLongs f).records = s.records := rfl
@[simp] theorem State.onLongs_queues (f : List LongCmd → List LongCmd) (s : State) : (s.onLongs f).queues = s.queues := rfl
@[simp] theorem State.onLongs_parts (f : List LongCmd → List LongCmd) (s : State) : (s.onLongs f).parts = s.parts := rfl
@[simp] theorem State.onLongs_inc (f : List LongCmd → List LongCmd) (s : State) : (s.onLongs f).inc = s.inc := rfl
@[simp] theorem State.onLongs_chans (f : List LongCmd → List LongCmd) (s : State) : (s.onLongs f).chans = s.chans := rfl
@[simp] theorem State.onLongs_boles (f : List LongCmd → List LongCmd) (s : State) : (s.onLongs f).boles = s.boles := rfl
@[simp] theorem State.onLongs_dies (f : List LongCmd → List LongCmd) (s : State) : (s.onLongs f).dies = s.dies := rfl
@[simp] theorem State.onLongs_sos (f : List LongCmd → List LongCmd) (s : State) : (s.onLongs f).sos = s.sos := rfl
@[simp] theorem State.onLongs_gov (f : List LongCmd → List LongCmd) (s : State) : (s.onLongs f).gov = s.gov := rfl
@[simp] theorem State.onLongs_pins (f : List LongCmd → List LongCmd) (s : State) : (s.onLongs f).pins = s.pins := rfl
@[simp] theorem State.onLongs_uioMirror (f : List LongCmd → List LongCmd) (s : State) : (s.onLongs f).uioMirror = s.uioMirror := rfl
@[simp] theorem State.onLongs_sups (f : List LongCmd → List LongCmd) (s : State) : (s.onLongs f).sups = s.sups := rfl
@[simp] theorem State.onLongs_extIn (f : List LongCmd → List LongCmd) (s : State) : (s.onLongs f).extIn = s.extIn := rfl
@[simp] theorem State.onLongs_kts (f : List LongCmd → List LongCmd) (s : State) : (s.onLongs f).kts = s.kts := rfl
@[simp] theorem State.onLongs_kcs (f : List LongCmd → List LongCmd) (s : State) : (s.onLongs f).kcs = s.kcs := rfl
@[simp] theorem State.onLongs_sense (f : List LongCmd → List LongCmd) (s : State) : (s.onLongs f).sense = s.sense := rfl
@[simp] theorem State.onLongs_cans (f : List LongCmd → List LongCmd) (s : State) : (s.onLongs f).cans = s.cans := rfl
@[simp] theorem State.onLongs_trxs (f : List LongCmd → List LongCmd) (s : State) : (s.onLongs f).trxs = s.trxs := rfl
@[simp] theorem State.onLongs_sec (f : List LongCmd → List LongCmd) (s : State) : (s.onLongs f).sec = s.sec := rfl
@[simp] theorem State.onLongs_svr (f : List LongCmd → List LongCmd) (s : State) : (s.onLongs f).svr = s.svr := rfl
@[simp] theorem State.onLongs_tly (f : List LongCmd → List LongCmd) (s : State) : (s.onLongs f).tly = s.tly := rfl
@[simp] theorem State.onLongs_doms (f : List LongCmd → List LongCmd) (s : State) : (s.onLongs f).doms = s.doms := rfl
@[simp] theorem State.onLongs_eth (f : List LongCmd → List LongCmd) (s : State) : (s.onLongs f).eth = s.eth := rfl
@[simp] theorem State.onLongs_lgw (f : List LongCmd → List LongCmd) (s : State) : (s.onLongs f).lgw = s.lgw := rfl
@[simp] theorem State.onLongs_gwbs (f : List LongCmd → List LongCmd) (s : State) : (s.onLongs f).gwbs = s.gwbs := rfl
@[simp] theorem State.onLongs_cpx (f : List LongCmd → List LongCmd) (s : State) : (s.onLongs f).cpx = s.cpx := rfl
@[simp] theorem State.onLongs_sil (f : List LongCmd → List LongCmd) (s : State) : (s.onLongs f).sil = s.sil := rfl
@[simp] theorem State.onLongs_pairU (f : List LongCmd → List LongCmd) (s : State) : (s.onLongs f).pairU = s.pairU := rfl
@[simp] theorem State.onLongs_upd (f : List LongCmd → List LongCmd) (s : State) : (s.onLongs f).upd = s.upd := rfl
@[simp] theorem State.onLongs_uart (f : List LongCmd → List LongCmd) (s : State) : (s.onLongs f).uart = s.uart := rfl
@[simp] theorem State.onSvcBuf_pending (f : List (Nat × Byte) → List (Nat × Byte)) (s : State) : (s.onSvcBuf f).pending = s.pending := rfl
@[simp] theorem State.onSvcBuf_now (f : List (Nat × Byte) → List (Nat × Byte)) (s : State) : (s.onSvcBuf f).now = s.now := rfl
@[simp] theorem State.onSvcBuf_freeCtr (f : List (Nat × Byte) → List (Nat × Byte)) (s : State) : (s.onSvcBuf f).freeCtr = s.freeCtr := rfl
@[simp] theorem State.onSvcBuf_regs (f : List (Nat × Byte) → List (Nat × Byte)) (s : State) : (s.onSvcBuf f).regs = s.regs := rfl
@[simp] theorem State.onSvcBuf_staged (f : List (Nat × Byte) → List (Nat × Byte)) (s : State) : (s.onSvcBuf f).staged = s.staged := rfl
@[simp] theorem State.onSvcBuf_stagedTab (f : List (Nat × Byte) → List (Nat × Byte)) (s : State) : (s.onSvcBuf f).stagedTab = s.stagedTab := rfl
@[simp] theorem State.onSvcBuf_commits (f : List (Nat × Byte) → List (Nat × Byte)) (s : State) : (s.onSvcBuf f).commits = s.commits := rfl
@[simp] theorem State.onSvcBuf_mem (f : List (Nat × Byte) → List (Nat × Byte)) (s : State) : (s.onSvcBuf f).mem = s.mem := rfl
@[simp] theorem State.onSvcBuf_clk (f : List (Nat × Byte) → List (Nat × Byte)) (s : State) : (s.onSvcBuf f).clk = s.clk := rfl
@[simp] theorem State.onSvcBuf_bus (f : List (Nat × Byte) → List (Nat × Byte)) (s : State) : (s.onSvcBuf f).bus = s.bus := rfl
@[simp] theorem State.onSvcBuf_events (f : List (Nat × Byte) → List (Nat × Byte)) (s : State) : (s.onSvcBuf f).events = s.events := rfl
@[simp] theorem State.onSvcBuf_frm (f : List (Nat × Byte) → List (Nat × Byte)) (s : State) : (s.onSvcBuf f).frm = s.frm := rfl
@[simp] theorem State.onSvcBuf_mbxs (f : List (Nat × Byte) → List (Nat × Byte)) (s : State) : (s.onSvcBuf f).mbxs = s.mbxs := rfl
@[simp] theorem State.onSvcBuf_longs (f : List (Nat × Byte) → List (Nat × Byte)) (s : State) : (s.onSvcBuf f).longs = s.longs := rfl
@[simp] theorem State.onSvcBuf_svcBuf (f : List (Nat × Byte) → List (Nat × Byte)) (s : State) : (s.onSvcBuf f).svcBuf = f s.svcBuf := rfl
@[simp] theorem State.onSvcBuf_fwVersion (f : List (Nat × Byte) → List (Nat × Byte)) (s : State) : (s.onSvcBuf f).fwVersion = s.fwVersion := rfl
@[simp] theorem State.onSvcBuf_records (f : List (Nat × Byte) → List (Nat × Byte)) (s : State) : (s.onSvcBuf f).records = s.records := rfl
@[simp] theorem State.onSvcBuf_queues (f : List (Nat × Byte) → List (Nat × Byte)) (s : State) : (s.onSvcBuf f).queues = s.queues := rfl
@[simp] theorem State.onSvcBuf_parts (f : List (Nat × Byte) → List (Nat × Byte)) (s : State) : (s.onSvcBuf f).parts = s.parts := rfl
@[simp] theorem State.onSvcBuf_inc (f : List (Nat × Byte) → List (Nat × Byte)) (s : State) : (s.onSvcBuf f).inc = s.inc := rfl
@[simp] theorem State.onSvcBuf_chans (f : List (Nat × Byte) → List (Nat × Byte)) (s : State) : (s.onSvcBuf f).chans = s.chans := rfl
@[simp] theorem State.onSvcBuf_boles (f : List (Nat × Byte) → List (Nat × Byte)) (s : State) : (s.onSvcBuf f).boles = s.boles := rfl
@[simp] theorem State.onSvcBuf_dies (f : List (Nat × Byte) → List (Nat × Byte)) (s : State) : (s.onSvcBuf f).dies = s.dies := rfl
@[simp] theorem State.onSvcBuf_sos (f : List (Nat × Byte) → List (Nat × Byte)) (s : State) : (s.onSvcBuf f).sos = s.sos := rfl
@[simp] theorem State.onSvcBuf_gov (f : List (Nat × Byte) → List (Nat × Byte)) (s : State) : (s.onSvcBuf f).gov = s.gov := rfl
@[simp] theorem State.onSvcBuf_pins (f : List (Nat × Byte) → List (Nat × Byte)) (s : State) : (s.onSvcBuf f).pins = s.pins := rfl
@[simp] theorem State.onSvcBuf_uioMirror (f : List (Nat × Byte) → List (Nat × Byte)) (s : State) : (s.onSvcBuf f).uioMirror = s.uioMirror := rfl
@[simp] theorem State.onSvcBuf_sups (f : List (Nat × Byte) → List (Nat × Byte)) (s : State) : (s.onSvcBuf f).sups = s.sups := rfl
@[simp] theorem State.onSvcBuf_extIn (f : List (Nat × Byte) → List (Nat × Byte)) (s : State) : (s.onSvcBuf f).extIn = s.extIn := rfl
@[simp] theorem State.onSvcBuf_kts (f : List (Nat × Byte) → List (Nat × Byte)) (s : State) : (s.onSvcBuf f).kts = s.kts := rfl
@[simp] theorem State.onSvcBuf_kcs (f : List (Nat × Byte) → List (Nat × Byte)) (s : State) : (s.onSvcBuf f).kcs = s.kcs := rfl
@[simp] theorem State.onSvcBuf_sense (f : List (Nat × Byte) → List (Nat × Byte)) (s : State) : (s.onSvcBuf f).sense = s.sense := rfl
@[simp] theorem State.onSvcBuf_cans (f : List (Nat × Byte) → List (Nat × Byte)) (s : State) : (s.onSvcBuf f).cans = s.cans := rfl
@[simp] theorem State.onSvcBuf_trxs (f : List (Nat × Byte) → List (Nat × Byte)) (s : State) : (s.onSvcBuf f).trxs = s.trxs := rfl
@[simp] theorem State.onSvcBuf_sec (f : List (Nat × Byte) → List (Nat × Byte)) (s : State) : (s.onSvcBuf f).sec = s.sec := rfl
@[simp] theorem State.onSvcBuf_svr (f : List (Nat × Byte) → List (Nat × Byte)) (s : State) : (s.onSvcBuf f).svr = s.svr := rfl
@[simp] theorem State.onSvcBuf_tly (f : List (Nat × Byte) → List (Nat × Byte)) (s : State) : (s.onSvcBuf f).tly = s.tly := rfl
@[simp] theorem State.onSvcBuf_doms (f : List (Nat × Byte) → List (Nat × Byte)) (s : State) : (s.onSvcBuf f).doms = s.doms := rfl
@[simp] theorem State.onSvcBuf_eth (f : List (Nat × Byte) → List (Nat × Byte)) (s : State) : (s.onSvcBuf f).eth = s.eth := rfl
@[simp] theorem State.onSvcBuf_lgw (f : List (Nat × Byte) → List (Nat × Byte)) (s : State) : (s.onSvcBuf f).lgw = s.lgw := rfl
@[simp] theorem State.onSvcBuf_gwbs (f : List (Nat × Byte) → List (Nat × Byte)) (s : State) : (s.onSvcBuf f).gwbs = s.gwbs := rfl
@[simp] theorem State.onSvcBuf_cpx (f : List (Nat × Byte) → List (Nat × Byte)) (s : State) : (s.onSvcBuf f).cpx = s.cpx := rfl
@[simp] theorem State.onSvcBuf_sil (f : List (Nat × Byte) → List (Nat × Byte)) (s : State) : (s.onSvcBuf f).sil = s.sil := rfl
@[simp] theorem State.onSvcBuf_pairU (f : List (Nat × Byte) → List (Nat × Byte)) (s : State) : (s.onSvcBuf f).pairU = s.pairU := rfl
@[simp] theorem State.onSvcBuf_upd (f : List (Nat × Byte) → List (Nat × Byte)) (s : State) : (s.onSvcBuf f).upd = s.upd := rfl
@[simp] theorem State.onSvcBuf_uart (f : List (Nat × Byte) → List (Nat × Byte)) (s : State) : (s.onSvcBuf f).uart = s.uart := rfl
@[simp] theorem State.onFwVersion_pending (f : Nat → Nat) (s : State) : (s.onFwVersion f).pending = s.pending := rfl
@[simp] theorem State.onFwVersion_now (f : Nat → Nat) (s : State) : (s.onFwVersion f).now = s.now := rfl
@[simp] theorem State.onFwVersion_freeCtr (f : Nat → Nat) (s : State) : (s.onFwVersion f).freeCtr = s.freeCtr := rfl
@[simp] theorem State.onFwVersion_regs (f : Nat → Nat) (s : State) : (s.onFwVersion f).regs = s.regs := rfl
@[simp] theorem State.onFwVersion_staged (f : Nat → Nat) (s : State) : (s.onFwVersion f).staged = s.staged := rfl
@[simp] theorem State.onFwVersion_stagedTab (f : Nat → Nat) (s : State) : (s.onFwVersion f).stagedTab = s.stagedTab := rfl
@[simp] theorem State.onFwVersion_commits (f : Nat → Nat) (s : State) : (s.onFwVersion f).commits = s.commits := rfl
@[simp] theorem State.onFwVersion_mem (f : Nat → Nat) (s : State) : (s.onFwVersion f).mem = s.mem := rfl
@[simp] theorem State.onFwVersion_clk (f : Nat → Nat) (s : State) : (s.onFwVersion f).clk = s.clk := rfl
@[simp] theorem State.onFwVersion_bus (f : Nat → Nat) (s : State) : (s.onFwVersion f).bus = s.bus := rfl
@[simp] theorem State.onFwVersion_events (f : Nat → Nat) (s : State) : (s.onFwVersion f).events = s.events := rfl
@[simp] theorem State.onFwVersion_frm (f : Nat → Nat) (s : State) : (s.onFwVersion f).frm = s.frm := rfl
@[simp] theorem State.onFwVersion_mbxs (f : Nat → Nat) (s : State) : (s.onFwVersion f).mbxs = s.mbxs := rfl
@[simp] theorem State.onFwVersion_longs (f : Nat → Nat) (s : State) : (s.onFwVersion f).longs = s.longs := rfl
@[simp] theorem State.onFwVersion_svcBuf (f : Nat → Nat) (s : State) : (s.onFwVersion f).svcBuf = s.svcBuf := rfl
@[simp] theorem State.onFwVersion_fwVersion (f : Nat → Nat) (s : State) : (s.onFwVersion f).fwVersion = f s.fwVersion := rfl
@[simp] theorem State.onFwVersion_records (f : Nat → Nat) (s : State) : (s.onFwVersion f).records = s.records := rfl
@[simp] theorem State.onFwVersion_queues (f : Nat → Nat) (s : State) : (s.onFwVersion f).queues = s.queues := rfl
@[simp] theorem State.onFwVersion_parts (f : Nat → Nat) (s : State) : (s.onFwVersion f).parts = s.parts := rfl
@[simp] theorem State.onFwVersion_inc (f : Nat → Nat) (s : State) : (s.onFwVersion f).inc = s.inc := rfl
@[simp] theorem State.onFwVersion_chans (f : Nat → Nat) (s : State) : (s.onFwVersion f).chans = s.chans := rfl
@[simp] theorem State.onFwVersion_boles (f : Nat → Nat) (s : State) : (s.onFwVersion f).boles = s.boles := rfl
@[simp] theorem State.onFwVersion_dies (f : Nat → Nat) (s : State) : (s.onFwVersion f).dies = s.dies := rfl
@[simp] theorem State.onFwVersion_sos (f : Nat → Nat) (s : State) : (s.onFwVersion f).sos = s.sos := rfl
@[simp] theorem State.onFwVersion_gov (f : Nat → Nat) (s : State) : (s.onFwVersion f).gov = s.gov := rfl
@[simp] theorem State.onFwVersion_pins (f : Nat → Nat) (s : State) : (s.onFwVersion f).pins = s.pins := rfl
@[simp] theorem State.onFwVersion_uioMirror (f : Nat → Nat) (s : State) : (s.onFwVersion f).uioMirror = s.uioMirror := rfl
@[simp] theorem State.onFwVersion_sups (f : Nat → Nat) (s : State) : (s.onFwVersion f).sups = s.sups := rfl
@[simp] theorem State.onFwVersion_extIn (f : Nat → Nat) (s : State) : (s.onFwVersion f).extIn = s.extIn := rfl
@[simp] theorem State.onFwVersion_kts (f : Nat → Nat) (s : State) : (s.onFwVersion f).kts = s.kts := rfl
@[simp] theorem State.onFwVersion_kcs (f : Nat → Nat) (s : State) : (s.onFwVersion f).kcs = s.kcs := rfl
@[simp] theorem State.onFwVersion_sense (f : Nat → Nat) (s : State) : (s.onFwVersion f).sense = s.sense := rfl
@[simp] theorem State.onFwVersion_cans (f : Nat → Nat) (s : State) : (s.onFwVersion f).cans = s.cans := rfl
@[simp] theorem State.onFwVersion_trxs (f : Nat → Nat) (s : State) : (s.onFwVersion f).trxs = s.trxs := rfl
@[simp] theorem State.onFwVersion_sec (f : Nat → Nat) (s : State) : (s.onFwVersion f).sec = s.sec := rfl
@[simp] theorem State.onFwVersion_svr (f : Nat → Nat) (s : State) : (s.onFwVersion f).svr = s.svr := rfl
@[simp] theorem State.onFwVersion_tly (f : Nat → Nat) (s : State) : (s.onFwVersion f).tly = s.tly := rfl
@[simp] theorem State.onFwVersion_doms (f : Nat → Nat) (s : State) : (s.onFwVersion f).doms = s.doms := rfl
@[simp] theorem State.onFwVersion_eth (f : Nat → Nat) (s : State) : (s.onFwVersion f).eth = s.eth := rfl
@[simp] theorem State.onFwVersion_lgw (f : Nat → Nat) (s : State) : (s.onFwVersion f).lgw = s.lgw := rfl
@[simp] theorem State.onFwVersion_gwbs (f : Nat → Nat) (s : State) : (s.onFwVersion f).gwbs = s.gwbs := rfl
@[simp] theorem State.onFwVersion_cpx (f : Nat → Nat) (s : State) : (s.onFwVersion f).cpx = s.cpx := rfl
@[simp] theorem State.onFwVersion_sil (f : Nat → Nat) (s : State) : (s.onFwVersion f).sil = s.sil := rfl
@[simp] theorem State.onFwVersion_pairU (f : Nat → Nat) (s : State) : (s.onFwVersion f).pairU = s.pairU := rfl
@[simp] theorem State.onFwVersion_upd (f : Nat → Nat) (s : State) : (s.onFwVersion f).upd = s.upd := rfl
@[simp] theorem State.onFwVersion_uart (f : Nat → Nat) (s : State) : (s.onFwVersion f).uart = s.uart := rfl
@[simp] theorem State.onRecords_pending (f : List Record → List Record) (s : State) : (s.onRecords f).pending = s.pending := rfl
@[simp] theorem State.onRecords_now (f : List Record → List Record) (s : State) : (s.onRecords f).now = s.now := rfl
@[simp] theorem State.onRecords_freeCtr (f : List Record → List Record) (s : State) : (s.onRecords f).freeCtr = s.freeCtr := rfl
@[simp] theorem State.onRecords_regs (f : List Record → List Record) (s : State) : (s.onRecords f).regs = s.regs := rfl
@[simp] theorem State.onRecords_staged (f : List Record → List Record) (s : State) : (s.onRecords f).staged = s.staged := rfl
@[simp] theorem State.onRecords_stagedTab (f : List Record → List Record) (s : State) : (s.onRecords f).stagedTab = s.stagedTab := rfl
@[simp] theorem State.onRecords_commits (f : List Record → List Record) (s : State) : (s.onRecords f).commits = s.commits := rfl
@[simp] theorem State.onRecords_mem (f : List Record → List Record) (s : State) : (s.onRecords f).mem = s.mem := rfl
@[simp] theorem State.onRecords_clk (f : List Record → List Record) (s : State) : (s.onRecords f).clk = s.clk := rfl
@[simp] theorem State.onRecords_bus (f : List Record → List Record) (s : State) : (s.onRecords f).bus = s.bus := rfl
@[simp] theorem State.onRecords_events (f : List Record → List Record) (s : State) : (s.onRecords f).events = s.events := rfl
@[simp] theorem State.onRecords_frm (f : List Record → List Record) (s : State) : (s.onRecords f).frm = s.frm := rfl
@[simp] theorem State.onRecords_mbxs (f : List Record → List Record) (s : State) : (s.onRecords f).mbxs = s.mbxs := rfl
@[simp] theorem State.onRecords_longs (f : List Record → List Record) (s : State) : (s.onRecords f).longs = s.longs := rfl
@[simp] theorem State.onRecords_svcBuf (f : List Record → List Record) (s : State) : (s.onRecords f).svcBuf = s.svcBuf := rfl
@[simp] theorem State.onRecords_fwVersion (f : List Record → List Record) (s : State) : (s.onRecords f).fwVersion = s.fwVersion := rfl
@[simp] theorem State.onRecords_records (f : List Record → List Record) (s : State) : (s.onRecords f).records = f s.records := rfl
@[simp] theorem State.onRecords_queues (f : List Record → List Record) (s : State) : (s.onRecords f).queues = s.queues := rfl
@[simp] theorem State.onRecords_parts (f : List Record → List Record) (s : State) : (s.onRecords f).parts = s.parts := rfl
@[simp] theorem State.onRecords_inc (f : List Record → List Record) (s : State) : (s.onRecords f).inc = s.inc := rfl
@[simp] theorem State.onRecords_chans (f : List Record → List Record) (s : State) : (s.onRecords f).chans = s.chans := rfl
@[simp] theorem State.onRecords_boles (f : List Record → List Record) (s : State) : (s.onRecords f).boles = s.boles := rfl
@[simp] theorem State.onRecords_dies (f : List Record → List Record) (s : State) : (s.onRecords f).dies = s.dies := rfl
@[simp] theorem State.onRecords_sos (f : List Record → List Record) (s : State) : (s.onRecords f).sos = s.sos := rfl
@[simp] theorem State.onRecords_gov (f : List Record → List Record) (s : State) : (s.onRecords f).gov = s.gov := rfl
@[simp] theorem State.onRecords_pins (f : List Record → List Record) (s : State) : (s.onRecords f).pins = s.pins := rfl
@[simp] theorem State.onRecords_uioMirror (f : List Record → List Record) (s : State) : (s.onRecords f).uioMirror = s.uioMirror := rfl
@[simp] theorem State.onRecords_sups (f : List Record → List Record) (s : State) : (s.onRecords f).sups = s.sups := rfl
@[simp] theorem State.onRecords_extIn (f : List Record → List Record) (s : State) : (s.onRecords f).extIn = s.extIn := rfl
@[simp] theorem State.onRecords_kts (f : List Record → List Record) (s : State) : (s.onRecords f).kts = s.kts := rfl
@[simp] theorem State.onRecords_kcs (f : List Record → List Record) (s : State) : (s.onRecords f).kcs = s.kcs := rfl
@[simp] theorem State.onRecords_sense (f : List Record → List Record) (s : State) : (s.onRecords f).sense = s.sense := rfl
@[simp] theorem State.onRecords_cans (f : List Record → List Record) (s : State) : (s.onRecords f).cans = s.cans := rfl
@[simp] theorem State.onRecords_trxs (f : List Record → List Record) (s : State) : (s.onRecords f).trxs = s.trxs := rfl
@[simp] theorem State.onRecords_sec (f : List Record → List Record) (s : State) : (s.onRecords f).sec = s.sec := rfl
@[simp] theorem State.onRecords_svr (f : List Record → List Record) (s : State) : (s.onRecords f).svr = s.svr := rfl
@[simp] theorem State.onRecords_tly (f : List Record → List Record) (s : State) : (s.onRecords f).tly = s.tly := rfl
@[simp] theorem State.onRecords_doms (f : List Record → List Record) (s : State) : (s.onRecords f).doms = s.doms := rfl
@[simp] theorem State.onRecords_eth (f : List Record → List Record) (s : State) : (s.onRecords f).eth = s.eth := rfl
@[simp] theorem State.onRecords_lgw (f : List Record → List Record) (s : State) : (s.onRecords f).lgw = s.lgw := rfl
@[simp] theorem State.onRecords_gwbs (f : List Record → List Record) (s : State) : (s.onRecords f).gwbs = s.gwbs := rfl
@[simp] theorem State.onRecords_cpx (f : List Record → List Record) (s : State) : (s.onRecords f).cpx = s.cpx := rfl
@[simp] theorem State.onRecords_sil (f : List Record → List Record) (s : State) : (s.onRecords f).sil = s.sil := rfl
@[simp] theorem State.onRecords_pairU (f : List Record → List Record) (s : State) : (s.onRecords f).pairU = s.pairU := rfl
@[simp] theorem State.onRecords_upd (f : List Record → List Record) (s : State) : (s.onRecords f).upd = s.upd := rfl
@[simp] theorem State.onRecords_uart (f : List Record → List Record) (s : State) : (s.onRecords f).uart = s.uart := rfl
@[simp] theorem State.onQueues_pending (f : List QState → List QState) (s : State) : (s.onQueues f).pending = s.pending := rfl
@[simp] theorem State.onQueues_now (f : List QState → List QState) (s : State) : (s.onQueues f).now = s.now := rfl
@[simp] theorem State.onQueues_freeCtr (f : List QState → List QState) (s : State) : (s.onQueues f).freeCtr = s.freeCtr := rfl
@[simp] theorem State.onQueues_regs (f : List QState → List QState) (s : State) : (s.onQueues f).regs = s.regs := rfl
@[simp] theorem State.onQueues_staged (f : List QState → List QState) (s : State) : (s.onQueues f).staged = s.staged := rfl
@[simp] theorem State.onQueues_stagedTab (f : List QState → List QState) (s : State) : (s.onQueues f).stagedTab = s.stagedTab := rfl
@[simp] theorem State.onQueues_commits (f : List QState → List QState) (s : State) : (s.onQueues f).commits = s.commits := rfl
@[simp] theorem State.onQueues_mem (f : List QState → List QState) (s : State) : (s.onQueues f).mem = s.mem := rfl
@[simp] theorem State.onQueues_clk (f : List QState → List QState) (s : State) : (s.onQueues f).clk = s.clk := rfl
@[simp] theorem State.onQueues_bus (f : List QState → List QState) (s : State) : (s.onQueues f).bus = s.bus := rfl
@[simp] theorem State.onQueues_events (f : List QState → List QState) (s : State) : (s.onQueues f).events = s.events := rfl
@[simp] theorem State.onQueues_frm (f : List QState → List QState) (s : State) : (s.onQueues f).frm = s.frm := rfl
@[simp] theorem State.onQueues_mbxs (f : List QState → List QState) (s : State) : (s.onQueues f).mbxs = s.mbxs := rfl
@[simp] theorem State.onQueues_longs (f : List QState → List QState) (s : State) : (s.onQueues f).longs = s.longs := rfl
@[simp] theorem State.onQueues_svcBuf (f : List QState → List QState) (s : State) : (s.onQueues f).svcBuf = s.svcBuf := rfl
@[simp] theorem State.onQueues_fwVersion (f : List QState → List QState) (s : State) : (s.onQueues f).fwVersion = s.fwVersion := rfl
@[simp] theorem State.onQueues_records (f : List QState → List QState) (s : State) : (s.onQueues f).records = s.records := rfl
@[simp] theorem State.onQueues_queues (f : List QState → List QState) (s : State) : (s.onQueues f).queues = f s.queues := rfl
@[simp] theorem State.onQueues_parts (f : List QState → List QState) (s : State) : (s.onQueues f).parts = s.parts := rfl
@[simp] theorem State.onQueues_inc (f : List QState → List QState) (s : State) : (s.onQueues f).inc = s.inc := rfl
@[simp] theorem State.onQueues_chans (f : List QState → List QState) (s : State) : (s.onQueues f).chans = s.chans := rfl
@[simp] theorem State.onQueues_boles (f : List QState → List QState) (s : State) : (s.onQueues f).boles = s.boles := rfl
@[simp] theorem State.onQueues_dies (f : List QState → List QState) (s : State) : (s.onQueues f).dies = s.dies := rfl
@[simp] theorem State.onQueues_sos (f : List QState → List QState) (s : State) : (s.onQueues f).sos = s.sos := rfl
@[simp] theorem State.onQueues_gov (f : List QState → List QState) (s : State) : (s.onQueues f).gov = s.gov := rfl
@[simp] theorem State.onQueues_pins (f : List QState → List QState) (s : State) : (s.onQueues f).pins = s.pins := rfl
@[simp] theorem State.onQueues_uioMirror (f : List QState → List QState) (s : State) : (s.onQueues f).uioMirror = s.uioMirror := rfl
@[simp] theorem State.onQueues_sups (f : List QState → List QState) (s : State) : (s.onQueues f).sups = s.sups := rfl
@[simp] theorem State.onQueues_extIn (f : List QState → List QState) (s : State) : (s.onQueues f).extIn = s.extIn := rfl
@[simp] theorem State.onQueues_kts (f : List QState → List QState) (s : State) : (s.onQueues f).kts = s.kts := rfl
@[simp] theorem State.onQueues_kcs (f : List QState → List QState) (s : State) : (s.onQueues f).kcs = s.kcs := rfl
@[simp] theorem State.onQueues_sense (f : List QState → List QState) (s : State) : (s.onQueues f).sense = s.sense := rfl
@[simp] theorem State.onQueues_cans (f : List QState → List QState) (s : State) : (s.onQueues f).cans = s.cans := rfl
@[simp] theorem State.onQueues_trxs (f : List QState → List QState) (s : State) : (s.onQueues f).trxs = s.trxs := rfl
@[simp] theorem State.onQueues_sec (f : List QState → List QState) (s : State) : (s.onQueues f).sec = s.sec := rfl
@[simp] theorem State.onQueues_svr (f : List QState → List QState) (s : State) : (s.onQueues f).svr = s.svr := rfl
@[simp] theorem State.onQueues_tly (f : List QState → List QState) (s : State) : (s.onQueues f).tly = s.tly := rfl
@[simp] theorem State.onQueues_doms (f : List QState → List QState) (s : State) : (s.onQueues f).doms = s.doms := rfl
@[simp] theorem State.onQueues_eth (f : List QState → List QState) (s : State) : (s.onQueues f).eth = s.eth := rfl
@[simp] theorem State.onQueues_lgw (f : List QState → List QState) (s : State) : (s.onQueues f).lgw = s.lgw := rfl
@[simp] theorem State.onQueues_gwbs (f : List QState → List QState) (s : State) : (s.onQueues f).gwbs = s.gwbs := rfl
@[simp] theorem State.onQueues_cpx (f : List QState → List QState) (s : State) : (s.onQueues f).cpx = s.cpx := rfl
@[simp] theorem State.onQueues_sil (f : List QState → List QState) (s : State) : (s.onQueues f).sil = s.sil := rfl
@[simp] theorem State.onQueues_pairU (f : List QState → List QState) (s : State) : (s.onQueues f).pairU = s.pairU := rfl
@[simp] theorem State.onQueues_upd (f : List QState → List QState) (s : State) : (s.onQueues f).upd = s.upd := rfl
@[simp] theorem State.onQueues_uart (f : List QState → List QState) (s : State) : (s.onQueues f).uart = s.uart := rfl
@[simp] theorem State.onParts_pending (f : List Part → List Part) (s : State) : (s.onParts f).pending = s.pending := rfl
@[simp] theorem State.onParts_now (f : List Part → List Part) (s : State) : (s.onParts f).now = s.now := rfl
@[simp] theorem State.onParts_freeCtr (f : List Part → List Part) (s : State) : (s.onParts f).freeCtr = s.freeCtr := rfl
@[simp] theorem State.onParts_regs (f : List Part → List Part) (s : State) : (s.onParts f).regs = s.regs := rfl
@[simp] theorem State.onParts_staged (f : List Part → List Part) (s : State) : (s.onParts f).staged = s.staged := rfl
@[simp] theorem State.onParts_stagedTab (f : List Part → List Part) (s : State) : (s.onParts f).stagedTab = s.stagedTab := rfl
@[simp] theorem State.onParts_commits (f : List Part → List Part) (s : State) : (s.onParts f).commits = s.commits := rfl
@[simp] theorem State.onParts_mem (f : List Part → List Part) (s : State) : (s.onParts f).mem = s.mem := rfl
@[simp] theorem State.onParts_clk (f : List Part → List Part) (s : State) : (s.onParts f).clk = s.clk := rfl
@[simp] theorem State.onParts_bus (f : List Part → List Part) (s : State) : (s.onParts f).bus = s.bus := rfl
@[simp] theorem State.onParts_events (f : List Part → List Part) (s : State) : (s.onParts f).events = s.events := rfl
@[simp] theorem State.onParts_frm (f : List Part → List Part) (s : State) : (s.onParts f).frm = s.frm := rfl
@[simp] theorem State.onParts_mbxs (f : List Part → List Part) (s : State) : (s.onParts f).mbxs = s.mbxs := rfl
@[simp] theorem State.onParts_longs (f : List Part → List Part) (s : State) : (s.onParts f).longs = s.longs := rfl
@[simp] theorem State.onParts_svcBuf (f : List Part → List Part) (s : State) : (s.onParts f).svcBuf = s.svcBuf := rfl
@[simp] theorem State.onParts_fwVersion (f : List Part → List Part) (s : State) : (s.onParts f).fwVersion = s.fwVersion := rfl
@[simp] theorem State.onParts_records (f : List Part → List Part) (s : State) : (s.onParts f).records = s.records := rfl
@[simp] theorem State.onParts_queues (f : List Part → List Part) (s : State) : (s.onParts f).queues = s.queues := rfl
@[simp] theorem State.onParts_parts (f : List Part → List Part) (s : State) : (s.onParts f).parts = f s.parts := rfl
@[simp] theorem State.onParts_inc (f : List Part → List Part) (s : State) : (s.onParts f).inc = s.inc := rfl
@[simp] theorem State.onParts_chans (f : List Part → List Part) (s : State) : (s.onParts f).chans = s.chans := rfl
@[simp] theorem State.onParts_boles (f : List Part → List Part) (s : State) : (s.onParts f).boles = s.boles := rfl
@[simp] theorem State.onParts_dies (f : List Part → List Part) (s : State) : (s.onParts f).dies = s.dies := rfl
@[simp] theorem State.onParts_sos (f : List Part → List Part) (s : State) : (s.onParts f).sos = s.sos := rfl
@[simp] theorem State.onParts_gov (f : List Part → List Part) (s : State) : (s.onParts f).gov = s.gov := rfl
@[simp] theorem State.onParts_pins (f : List Part → List Part) (s : State) : (s.onParts f).pins = s.pins := rfl
@[simp] theorem State.onParts_uioMirror (f : List Part → List Part) (s : State) : (s.onParts f).uioMirror = s.uioMirror := rfl
@[simp] theorem State.onParts_sups (f : List Part → List Part) (s : State) : (s.onParts f).sups = s.sups := rfl
@[simp] theorem State.onParts_extIn (f : List Part → List Part) (s : State) : (s.onParts f).extIn = s.extIn := rfl
@[simp] theorem State.onParts_kts (f : List Part → List Part) (s : State) : (s.onParts f).kts = s.kts := rfl
@[simp] theorem State.onParts_kcs (f : List Part → List Part) (s : State) : (s.onParts f).kcs = s.kcs := rfl
@[simp] theorem State.onParts_sense (f : List Part → List Part) (s : State) : (s.onParts f).sense = s.sense := rfl
@[simp] theorem State.onParts_cans (f : List Part → List Part) (s : State) : (s.onParts f).cans = s.cans := rfl
@[simp] theorem State.onParts_trxs (f : List Part → List Part) (s : State) : (s.onParts f).trxs = s.trxs := rfl
@[simp] theorem State.onParts_sec (f : List Part → List Part) (s : State) : (s.onParts f).sec = s.sec := rfl
@[simp] theorem State.onParts_svr (f : List Part → List Part) (s : State) : (s.onParts f).svr = s.svr := rfl
@[simp] theorem State.onParts_tly (f : List Part → List Part) (s : State) : (s.onParts f).tly = s.tly := rfl
@[simp] theorem State.onParts_doms (f : List Part → List Part) (s : State) : (s.onParts f).doms = s.doms := rfl
@[simp] theorem State.onParts_eth (f : List Part → List Part) (s : State) : (s.onParts f).eth = s.eth := rfl
@[simp] theorem State.onParts_lgw (f : List Part → List Part) (s : State) : (s.onParts f).lgw = s.lgw := rfl
@[simp] theorem State.onParts_gwbs (f : List Part → List Part) (s : State) : (s.onParts f).gwbs = s.gwbs := rfl
@[simp] theorem State.onParts_cpx (f : List Part → List Part) (s : State) : (s.onParts f).cpx = s.cpx := rfl
@[simp] theorem State.onParts_sil (f : List Part → List Part) (s : State) : (s.onParts f).sil = s.sil := rfl
@[simp] theorem State.onParts_pairU (f : List Part → List Part) (s : State) : (s.onParts f).pairU = s.pairU := rfl
@[simp] theorem State.onParts_upd (f : List Part → List Part) (s : State) : (s.onParts f).upd = s.upd := rfl
@[simp] theorem State.onParts_uart (f : List Part → List Part) (s : State) : (s.onParts f).uart = s.uart := rfl
@[simp] theorem State.onInc_pending (f : Recorder → Recorder) (s : State) : (s.onInc f).pending = s.pending := rfl
@[simp] theorem State.onInc_now (f : Recorder → Recorder) (s : State) : (s.onInc f).now = s.now := rfl
@[simp] theorem State.onInc_freeCtr (f : Recorder → Recorder) (s : State) : (s.onInc f).freeCtr = s.freeCtr := rfl
@[simp] theorem State.onInc_regs (f : Recorder → Recorder) (s : State) : (s.onInc f).regs = s.regs := rfl
@[simp] theorem State.onInc_staged (f : Recorder → Recorder) (s : State) : (s.onInc f).staged = s.staged := rfl
@[simp] theorem State.onInc_stagedTab (f : Recorder → Recorder) (s : State) : (s.onInc f).stagedTab = s.stagedTab := rfl
@[simp] theorem State.onInc_commits (f : Recorder → Recorder) (s : State) : (s.onInc f).commits = s.commits := rfl
@[simp] theorem State.onInc_mem (f : Recorder → Recorder) (s : State) : (s.onInc f).mem = s.mem := rfl
@[simp] theorem State.onInc_clk (f : Recorder → Recorder) (s : State) : (s.onInc f).clk = s.clk := rfl
@[simp] theorem State.onInc_bus (f : Recorder → Recorder) (s : State) : (s.onInc f).bus = s.bus := rfl
@[simp] theorem State.onInc_events (f : Recorder → Recorder) (s : State) : (s.onInc f).events = s.events := rfl
@[simp] theorem State.onInc_frm (f : Recorder → Recorder) (s : State) : (s.onInc f).frm = s.frm := rfl
@[simp] theorem State.onInc_mbxs (f : Recorder → Recorder) (s : State) : (s.onInc f).mbxs = s.mbxs := rfl
@[simp] theorem State.onInc_longs (f : Recorder → Recorder) (s : State) : (s.onInc f).longs = s.longs := rfl
@[simp] theorem State.onInc_svcBuf (f : Recorder → Recorder) (s : State) : (s.onInc f).svcBuf = s.svcBuf := rfl
@[simp] theorem State.onInc_fwVersion (f : Recorder → Recorder) (s : State) : (s.onInc f).fwVersion = s.fwVersion := rfl
@[simp] theorem State.onInc_records (f : Recorder → Recorder) (s : State) : (s.onInc f).records = s.records := rfl
@[simp] theorem State.onInc_queues (f : Recorder → Recorder) (s : State) : (s.onInc f).queues = s.queues := rfl
@[simp] theorem State.onInc_parts (f : Recorder → Recorder) (s : State) : (s.onInc f).parts = s.parts := rfl
@[simp] theorem State.onInc_inc (f : Recorder → Recorder) (s : State) : (s.onInc f).inc = f s.inc := rfl
@[simp] theorem State.onInc_chans (f : Recorder → Recorder) (s : State) : (s.onInc f).chans = s.chans := rfl
@[simp] theorem State.onInc_boles (f : Recorder → Recorder) (s : State) : (s.onInc f).boles = s.boles := rfl
@[simp] theorem State.onInc_dies (f : Recorder → Recorder) (s : State) : (s.onInc f).dies = s.dies := rfl
@[simp] theorem State.onInc_sos (f : Recorder → Recorder) (s : State) : (s.onInc f).sos = s.sos := rfl
@[simp] theorem State.onInc_gov (f : Recorder → Recorder) (s : State) : (s.onInc f).gov = s.gov := rfl
@[simp] theorem State.onInc_pins (f : Recorder → Recorder) (s : State) : (s.onInc f).pins = s.pins := rfl
@[simp] theorem State.onInc_uioMirror (f : Recorder → Recorder) (s : State) : (s.onInc f).uioMirror = s.uioMirror := rfl
@[simp] theorem State.onInc_sups (f : Recorder → Recorder) (s : State) : (s.onInc f).sups = s.sups := rfl
@[simp] theorem State.onInc_extIn (f : Recorder → Recorder) (s : State) : (s.onInc f).extIn = s.extIn := rfl
@[simp] theorem State.onInc_kts (f : Recorder → Recorder) (s : State) : (s.onInc f).kts = s.kts := rfl
@[simp] theorem State.onInc_kcs (f : Recorder → Recorder) (s : State) : (s.onInc f).kcs = s.kcs := rfl
@[simp] theorem State.onInc_sense (f : Recorder → Recorder) (s : State) : (s.onInc f).sense = s.sense := rfl
@[simp] theorem State.onInc_cans (f : Recorder → Recorder) (s : State) : (s.onInc f).cans = s.cans := rfl
@[simp] theorem State.onInc_trxs (f : Recorder → Recorder) (s : State) : (s.onInc f).trxs = s.trxs := rfl
@[simp] theorem State.onInc_sec (f : Recorder → Recorder) (s : State) : (s.onInc f).sec = s.sec := rfl
@[simp] theorem State.onInc_svr (f : Recorder → Recorder) (s : State) : (s.onInc f).svr = s.svr := rfl
@[simp] theorem State.onInc_tly (f : Recorder → Recorder) (s : State) : (s.onInc f).tly = s.tly := rfl
@[simp] theorem State.onInc_doms (f : Recorder → Recorder) (s : State) : (s.onInc f).doms = s.doms := rfl
@[simp] theorem State.onInc_eth (f : Recorder → Recorder) (s : State) : (s.onInc f).eth = s.eth := rfl
@[simp] theorem State.onInc_lgw (f : Recorder → Recorder) (s : State) : (s.onInc f).lgw = s.lgw := rfl
@[simp] theorem State.onInc_gwbs (f : Recorder → Recorder) (s : State) : (s.onInc f).gwbs = s.gwbs := rfl
@[simp] theorem State.onInc_cpx (f : Recorder → Recorder) (s : State) : (s.onInc f).cpx = s.cpx := rfl
@[simp] theorem State.onInc_sil (f : Recorder → Recorder) (s : State) : (s.onInc f).sil = s.sil := rfl
@[simp] theorem State.onInc_pairU (f : Recorder → Recorder) (s : State) : (s.onInc f).pairU = s.pairU := rfl
@[simp] theorem State.onInc_upd (f : Recorder → Recorder) (s : State) : (s.onInc f).upd = s.upd := rfl
@[simp] theorem State.onInc_uart (f : Recorder → Recorder) (s : State) : (s.onInc f).uart = s.uart := rfl
@[simp] theorem State.onChans_pending (f : List Chan → List Chan) (s : State) : (s.onChans f).pending = s.pending := rfl
@[simp] theorem State.onChans_now (f : List Chan → List Chan) (s : State) : (s.onChans f).now = s.now := rfl
@[simp] theorem State.onChans_freeCtr (f : List Chan → List Chan) (s : State) : (s.onChans f).freeCtr = s.freeCtr := rfl
@[simp] theorem State.onChans_regs (f : List Chan → List Chan) (s : State) : (s.onChans f).regs = s.regs := rfl
@[simp] theorem State.onChans_staged (f : List Chan → List Chan) (s : State) : (s.onChans f).staged = s.staged := rfl
@[simp] theorem State.onChans_stagedTab (f : List Chan → List Chan) (s : State) : (s.onChans f).stagedTab = s.stagedTab := rfl
@[simp] theorem State.onChans_commits (f : List Chan → List Chan) (s : State) : (s.onChans f).commits = s.commits := rfl
@[simp] theorem State.onChans_mem (f : List Chan → List Chan) (s : State) : (s.onChans f).mem = s.mem := rfl
@[simp] theorem State.onChans_clk (f : List Chan → List Chan) (s : State) : (s.onChans f).clk = s.clk := rfl
@[simp] theorem State.onChans_bus (f : List Chan → List Chan) (s : State) : (s.onChans f).bus = s.bus := rfl
@[simp] theorem State.onChans_events (f : List Chan → List Chan) (s : State) : (s.onChans f).events = s.events := rfl
@[simp] theorem State.onChans_frm (f : List Chan → List Chan) (s : State) : (s.onChans f).frm = s.frm := rfl
@[simp] theorem State.onChans_mbxs (f : List Chan → List Chan) (s : State) : (s.onChans f).mbxs = s.mbxs := rfl
@[simp] theorem State.onChans_longs (f : List Chan → List Chan) (s : State) : (s.onChans f).longs = s.longs := rfl
@[simp] theorem State.onChans_svcBuf (f : List Chan → List Chan) (s : State) : (s.onChans f).svcBuf = s.svcBuf := rfl
@[simp] theorem State.onChans_fwVersion (f : List Chan → List Chan) (s : State) : (s.onChans f).fwVersion = s.fwVersion := rfl
@[simp] theorem State.onChans_records (f : List Chan → List Chan) (s : State) : (s.onChans f).records = s.records := rfl
@[simp] theorem State.onChans_queues (f : List Chan → List Chan) (s : State) : (s.onChans f).queues = s.queues := rfl
@[simp] theorem State.onChans_parts (f : List Chan → List Chan) (s : State) : (s.onChans f).parts = s.parts := rfl
@[simp] theorem State.onChans_inc (f : List Chan → List Chan) (s : State) : (s.onChans f).inc = s.inc := rfl
@[simp] theorem State.onChans_chans (f : List Chan → List Chan) (s : State) : (s.onChans f).chans = f s.chans := rfl
@[simp] theorem State.onChans_boles (f : List Chan → List Chan) (s : State) : (s.onChans f).boles = s.boles := rfl
@[simp] theorem State.onChans_dies (f : List Chan → List Chan) (s : State) : (s.onChans f).dies = s.dies := rfl
@[simp] theorem State.onChans_sos (f : List Chan → List Chan) (s : State) : (s.onChans f).sos = s.sos := rfl
@[simp] theorem State.onChans_gov (f : List Chan → List Chan) (s : State) : (s.onChans f).gov = s.gov := rfl
@[simp] theorem State.onChans_pins (f : List Chan → List Chan) (s : State) : (s.onChans f).pins = s.pins := rfl
@[simp] theorem State.onChans_uioMirror (f : List Chan → List Chan) (s : State) : (s.onChans f).uioMirror = s.uioMirror := rfl
@[simp] theorem State.onChans_sups (f : List Chan → List Chan) (s : State) : (s.onChans f).sups = s.sups := rfl
@[simp] theorem State.onChans_extIn (f : List Chan → List Chan) (s : State) : (s.onChans f).extIn = s.extIn := rfl
@[simp] theorem State.onChans_kts (f : List Chan → List Chan) (s : State) : (s.onChans f).kts = s.kts := rfl
@[simp] theorem State.onChans_kcs (f : List Chan → List Chan) (s : State) : (s.onChans f).kcs = s.kcs := rfl
@[simp] theorem State.onChans_sense (f : List Chan → List Chan) (s : State) : (s.onChans f).sense = s.sense := rfl
@[simp] theorem State.onChans_cans (f : List Chan → List Chan) (s : State) : (s.onChans f).cans = s.cans := rfl
@[simp] theorem State.onChans_trxs (f : List Chan → List Chan) (s : State) : (s.onChans f).trxs = s.trxs := rfl
@[simp] theorem State.onChans_sec (f : List Chan → List Chan) (s : State) : (s.onChans f).sec = s.sec := rfl
@[simp] theorem State.onChans_svr (f : List Chan → List Chan) (s : State) : (s.onChans f).svr = s.svr := rfl
@[simp] theorem State.onChans_tly (f : List Chan → List Chan) (s : State) : (s.onChans f).tly = s.tly := rfl
@[simp] theorem State.onChans_doms (f : List Chan → List Chan) (s : State) : (s.onChans f).doms = s.doms := rfl
@[simp] theorem State.onChans_eth (f : List Chan → List Chan) (s : State) : (s.onChans f).eth = s.eth := rfl
@[simp] theorem State.onChans_lgw (f : List Chan → List Chan) (s : State) : (s.onChans f).lgw = s.lgw := rfl
@[simp] theorem State.onChans_gwbs (f : List Chan → List Chan) (s : State) : (s.onChans f).gwbs = s.gwbs := rfl
@[simp] theorem State.onChans_cpx (f : List Chan → List Chan) (s : State) : (s.onChans f).cpx = s.cpx := rfl
@[simp] theorem State.onChans_sil (f : List Chan → List Chan) (s : State) : (s.onChans f).sil = s.sil := rfl
@[simp] theorem State.onChans_pairU (f : List Chan → List Chan) (s : State) : (s.onChans f).pairU = s.pairU := rfl
@[simp] theorem State.onChans_upd (f : List Chan → List Chan) (s : State) : (s.onChans f).upd = s.upd := rfl
@[simp] theorem State.onChans_uart (f : List Chan → List Chan) (s : State) : (s.onChans f).uart = s.uart := rfl
@[simp] theorem State.onBoles_pending (f : List Bole → List Bole) (s : State) : (s.onBoles f).pending = s.pending := rfl
@[simp] theorem State.onBoles_now (f : List Bole → List Bole) (s : State) : (s.onBoles f).now = s.now := rfl
@[simp] theorem State.onBoles_freeCtr (f : List Bole → List Bole) (s : State) : (s.onBoles f).freeCtr = s.freeCtr := rfl
@[simp] theorem State.onBoles_regs (f : List Bole → List Bole) (s : State) : (s.onBoles f).regs = s.regs := rfl
@[simp] theorem State.onBoles_staged (f : List Bole → List Bole) (s : State) : (s.onBoles f).staged = s.staged := rfl
@[simp] theorem State.onBoles_stagedTab (f : List Bole → List Bole) (s : State) : (s.onBoles f).stagedTab = s.stagedTab := rfl
@[simp] theorem State.onBoles_commits (f : List Bole → List Bole) (s : State) : (s.onBoles f).commits = s.commits := rfl
@[simp] theorem State.onBoles_mem (f : List Bole → List Bole) (s : State) : (s.onBoles f).mem = s.mem := rfl
@[simp] theorem State.onBoles_clk (f : List Bole → List Bole) (s : State) : (s.onBoles f).clk = s.clk := rfl
@[simp] theorem State.onBoles_bus (f : List Bole → List Bole) (s : State) : (s.onBoles f).bus = s.bus := rfl
@[simp] theorem State.onBoles_events (f : List Bole → List Bole) (s : State) : (s.onBoles f).events = s.events := rfl
@[simp] theorem State.onBoles_frm (f : List Bole → List Bole) (s : State) : (s.onBoles f).frm = s.frm := rfl
@[simp] theorem State.onBoles_mbxs (f : List Bole → List Bole) (s : State) : (s.onBoles f).mbxs = s.mbxs := rfl
@[simp] theorem State.onBoles_longs (f : List Bole → List Bole) (s : State) : (s.onBoles f).longs = s.longs := rfl
@[simp] theorem State.onBoles_svcBuf (f : List Bole → List Bole) (s : State) : (s.onBoles f).svcBuf = s.svcBuf := rfl
@[simp] theorem State.onBoles_fwVersion (f : List Bole → List Bole) (s : State) : (s.onBoles f).fwVersion = s.fwVersion := rfl
@[simp] theorem State.onBoles_records (f : List Bole → List Bole) (s : State) : (s.onBoles f).records = s.records := rfl
@[simp] theorem State.onBoles_queues (f : List Bole → List Bole) (s : State) : (s.onBoles f).queues = s.queues := rfl
@[simp] theorem State.onBoles_parts (f : List Bole → List Bole) (s : State) : (s.onBoles f).parts = s.parts := rfl
@[simp] theorem State.onBoles_inc (f : List Bole → List Bole) (s : State) : (s.onBoles f).inc = s.inc := rfl
@[simp] theorem State.onBoles_chans (f : List Bole → List Bole) (s : State) : (s.onBoles f).chans = s.chans := rfl
@[simp] theorem State.onBoles_boles (f : List Bole → List Bole) (s : State) : (s.onBoles f).boles = f s.boles := rfl
@[simp] theorem State.onBoles_dies (f : List Bole → List Bole) (s : State) : (s.onBoles f).dies = s.dies := rfl
@[simp] theorem State.onBoles_sos (f : List Bole → List Bole) (s : State) : (s.onBoles f).sos = s.sos := rfl
@[simp] theorem State.onBoles_gov (f : List Bole → List Bole) (s : State) : (s.onBoles f).gov = s.gov := rfl
@[simp] theorem State.onBoles_pins (f : List Bole → List Bole) (s : State) : (s.onBoles f).pins = s.pins := rfl
@[simp] theorem State.onBoles_uioMirror (f : List Bole → List Bole) (s : State) : (s.onBoles f).uioMirror = s.uioMirror := rfl
@[simp] theorem State.onBoles_sups (f : List Bole → List Bole) (s : State) : (s.onBoles f).sups = s.sups := rfl
@[simp] theorem State.onBoles_extIn (f : List Bole → List Bole) (s : State) : (s.onBoles f).extIn = s.extIn := rfl
@[simp] theorem State.onBoles_kts (f : List Bole → List Bole) (s : State) : (s.onBoles f).kts = s.kts := rfl
@[simp] theorem State.onBoles_kcs (f : List Bole → List Bole) (s : State) : (s.onBoles f).kcs = s.kcs := rfl
@[simp] theorem State.onBoles_sense (f : List Bole → List Bole) (s : State) : (s.onBoles f).sense = s.sense := rfl
@[simp] theorem State.onBoles_cans (f : List Bole → List Bole) (s : State) : (s.onBoles f).cans = s.cans := rfl
@[simp] theorem State.onBoles_trxs (f : List Bole → List Bole) (s : State) : (s.onBoles f).trxs = s.trxs := rfl
@[simp] theorem State.onBoles_sec (f : List Bole → List Bole) (s : State) : (s.onBoles f).sec = s.sec := rfl
@[simp] theorem State.onBoles_svr (f : List Bole → List Bole) (s : State) : (s.onBoles f).svr = s.svr := rfl
@[simp] theorem State.onBoles_tly (f : List Bole → List Bole) (s : State) : (s.onBoles f).tly = s.tly := rfl
@[simp] theorem State.onBoles_doms (f : List Bole → List Bole) (s : State) : (s.onBoles f).doms = s.doms := rfl
@[simp] theorem State.onBoles_eth (f : List Bole → List Bole) (s : State) : (s.onBoles f).eth = s.eth := rfl
@[simp] theorem State.onBoles_lgw (f : List Bole → List Bole) (s : State) : (s.onBoles f).lgw = s.lgw := rfl
@[simp] theorem State.onBoles_gwbs (f : List Bole → List Bole) (s : State) : (s.onBoles f).gwbs = s.gwbs := rfl
@[simp] theorem State.onBoles_cpx (f : List Bole → List Bole) (s : State) : (s.onBoles f).cpx = s.cpx := rfl
@[simp] theorem State.onBoles_sil (f : List Bole → List Bole) (s : State) : (s.onBoles f).sil = s.sil := rfl
@[simp] theorem State.onBoles_pairU (f : List Bole → List Bole) (s : State) : (s.onBoles f).pairU = s.pairU := rfl
@[simp] theorem State.onBoles_upd (f : List Bole → List Bole) (s : State) : (s.onBoles f).upd = s.upd := rfl
@[simp] theorem State.onBoles_uart (f : List Bole → List Bole) (s : State) : (s.onBoles f).uart = s.uart := rfl
@[simp] theorem State.onDies_pending (f : List FarDie → List FarDie) (s : State) : (s.onDies f).pending = s.pending := rfl
@[simp] theorem State.onDies_now (f : List FarDie → List FarDie) (s : State) : (s.onDies f).now = s.now := rfl
@[simp] theorem State.onDies_freeCtr (f : List FarDie → List FarDie) (s : State) : (s.onDies f).freeCtr = s.freeCtr := rfl
@[simp] theorem State.onDies_regs (f : List FarDie → List FarDie) (s : State) : (s.onDies f).regs = s.regs := rfl
@[simp] theorem State.onDies_staged (f : List FarDie → List FarDie) (s : State) : (s.onDies f).staged = s.staged := rfl
@[simp] theorem State.onDies_stagedTab (f : List FarDie → List FarDie) (s : State) : (s.onDies f).stagedTab = s.stagedTab := rfl
@[simp] theorem State.onDies_commits (f : List FarDie → List FarDie) (s : State) : (s.onDies f).commits = s.commits := rfl
@[simp] theorem State.onDies_mem (f : List FarDie → List FarDie) (s : State) : (s.onDies f).mem = s.mem := rfl
@[simp] theorem State.onDies_clk (f : List FarDie → List FarDie) (s : State) : (s.onDies f).clk = s.clk := rfl
@[simp] theorem State.onDies_bus (f : List FarDie → List FarDie) (s : State) : (s.onDies f).bus = s.bus := rfl
@[simp] theorem State.onDies_events (f : List FarDie → List FarDie) (s : State) : (s.onDies f).events = s.events := rfl
@[simp] theorem State.onDies_frm (f : List FarDie → List FarDie) (s : State) : (s.onDies f).frm = s.frm := rfl
@[simp] theorem State.onDies_mbxs (f : List FarDie → List FarDie) (s : State) : (s.onDies f).mbxs = s.mbxs := rfl
@[simp] theorem State.onDies_longs (f : List FarDie → List FarDie) (s : State) : (s.onDies f).longs = s.longs := rfl
@[simp] theorem State.onDies_svcBuf (f : List FarDie → List FarDie) (s : State) : (s.onDies f).svcBuf = s.svcBuf := rfl
@[simp] theorem State.onDies_fwVersion (f : List FarDie → List FarDie) (s : State) : (s.onDies f).fwVersion = s.fwVersion := rfl
@[simp] theorem State.onDies_records (f : List FarDie → List FarDie) (s : State) : (s.onDies f).records = s.records := rfl
@[simp] theorem State.onDies_queues (f : List FarDie → List FarDie) (s : State) : (s.onDies f).queues = s.queues := rfl
@[simp] theorem State.onDies_parts (f : List FarDie → List FarDie) (s : State) : (s.onDies f).parts = s.parts := rfl
@[simp] theorem State.onDies_inc (f : List FarDie → List FarDie) (s : State) : (s.onDies f).inc = s.inc := rfl
@[simp] theorem State.onDies_chans (f : List FarDie → List FarDie) (s : State) : (s.onDies f).chans = s.chans := rfl
@[simp] theorem State.onDies_boles (f : List FarDie → List FarDie) (s : State) : (s.onDies f).boles = s.boles := rfl
@[simp] theorem State.onDies_dies (f : List FarDie → List FarDie) (s : State) : (s.onDies f).dies = f s.dies := rfl
@[simp] theorem State.onDies_sos (f : List FarDie → List FarDie) (s : State) : (s.onDies f).sos = s.sos := rfl
@[simp] theorem State.onDies_gov (f : List FarDie → List FarDie) (s : State) : (s.onDies f).gov = s.gov := rfl
@[simp] theorem State.onDies_pins (f : List FarDie → List FarDie) (s : State) : (s.onDies f).pins = s.pins := rfl
@[simp] theorem State.onDies_uioMirror (f : List FarDie → List FarDie) (s : State) : (s.onDies f).uioMirror = s.uioMirror := rfl
@[simp] theorem State.onDies_sups (f : List FarDie → List FarDie) (s : State) : (s.onDies f).sups = s.sups := rfl
@[simp] theorem State.onDies_extIn (f : List FarDie → List FarDie) (s : State) : (s.onDies f).extIn = s.extIn := rfl
@[simp] theorem State.onDies_kts (f : List FarDie → List FarDie) (s : State) : (s.onDies f).kts = s.kts := rfl
@[simp] theorem State.onDies_kcs (f : List FarDie → List FarDie) (s : State) : (s.onDies f).kcs = s.kcs := rfl
@[simp] theorem State.onDies_sense (f : List FarDie → List FarDie) (s : State) : (s.onDies f).sense = s.sense := rfl
@[simp] theorem State.onDies_cans (f : List FarDie → List FarDie) (s : State) : (s.onDies f).cans = s.cans := rfl
@[simp] theorem State.onDies_trxs (f : List FarDie → List FarDie) (s : State) : (s.onDies f).trxs = s.trxs := rfl
@[simp] theorem State.onDies_sec (f : List FarDie → List FarDie) (s : State) : (s.onDies f).sec = s.sec := rfl
@[simp] theorem State.onDies_svr (f : List FarDie → List FarDie) (s : State) : (s.onDies f).svr = s.svr := rfl
@[simp] theorem State.onDies_tly (f : List FarDie → List FarDie) (s : State) : (s.onDies f).tly = s.tly := rfl
@[simp] theorem State.onDies_doms (f : List FarDie → List FarDie) (s : State) : (s.onDies f).doms = s.doms := rfl
@[simp] theorem State.onDies_eth (f : List FarDie → List FarDie) (s : State) : (s.onDies f).eth = s.eth := rfl
@[simp] theorem State.onDies_lgw (f : List FarDie → List FarDie) (s : State) : (s.onDies f).lgw = s.lgw := rfl
@[simp] theorem State.onDies_gwbs (f : List FarDie → List FarDie) (s : State) : (s.onDies f).gwbs = s.gwbs := rfl
@[simp] theorem State.onDies_cpx (f : List FarDie → List FarDie) (s : State) : (s.onDies f).cpx = s.cpx := rfl
@[simp] theorem State.onDies_sil (f : List FarDie → List FarDie) (s : State) : (s.onDies f).sil = s.sil := rfl
@[simp] theorem State.onDies_pairU (f : List FarDie → List FarDie) (s : State) : (s.onDies f).pairU = s.pairU := rfl
@[simp] theorem State.onDies_upd (f : List FarDie → List FarDie) (s : State) : (s.onDies f).upd = s.upd := rfl
@[simp] theorem State.onDies_uart (f : List FarDie → List FarDie) (s : State) : (s.onDies f).uart = s.uart := rfl
@[simp] theorem State.onSos_pending (f : List SoSw → List SoSw) (s : State) : (s.onSos f).pending = s.pending := rfl
@[simp] theorem State.onSos_now (f : List SoSw → List SoSw) (s : State) : (s.onSos f).now = s.now := rfl
@[simp] theorem State.onSos_freeCtr (f : List SoSw → List SoSw) (s : State) : (s.onSos f).freeCtr = s.freeCtr := rfl
@[simp] theorem State.onSos_regs (f : List SoSw → List SoSw) (s : State) : (s.onSos f).regs = s.regs := rfl
@[simp] theorem State.onSos_staged (f : List SoSw → List SoSw) (s : State) : (s.onSos f).staged = s.staged := rfl
@[simp] theorem State.onSos_stagedTab (f : List SoSw → List SoSw) (s : State) : (s.onSos f).stagedTab = s.stagedTab := rfl
@[simp] theorem State.onSos_commits (f : List SoSw → List SoSw) (s : State) : (s.onSos f).commits = s.commits := rfl
@[simp] theorem State.onSos_mem (f : List SoSw → List SoSw) (s : State) : (s.onSos f).mem = s.mem := rfl
@[simp] theorem State.onSos_clk (f : List SoSw → List SoSw) (s : State) : (s.onSos f).clk = s.clk := rfl
@[simp] theorem State.onSos_bus (f : List SoSw → List SoSw) (s : State) : (s.onSos f).bus = s.bus := rfl
@[simp] theorem State.onSos_events (f : List SoSw → List SoSw) (s : State) : (s.onSos f).events = s.events := rfl
@[simp] theorem State.onSos_frm (f : List SoSw → List SoSw) (s : State) : (s.onSos f).frm = s.frm := rfl
@[simp] theorem State.onSos_mbxs (f : List SoSw → List SoSw) (s : State) : (s.onSos f).mbxs = s.mbxs := rfl
@[simp] theorem State.onSos_longs (f : List SoSw → List SoSw) (s : State) : (s.onSos f).longs = s.longs := rfl
@[simp] theorem State.onSos_svcBuf (f : List SoSw → List SoSw) (s : State) : (s.onSos f).svcBuf = s.svcBuf := rfl
@[simp] theorem State.onSos_fwVersion (f : List SoSw → List SoSw) (s : State) : (s.onSos f).fwVersion = s.fwVersion := rfl
@[simp] theorem State.onSos_records (f : List SoSw → List SoSw) (s : State) : (s.onSos f).records = s.records := rfl
@[simp] theorem State.onSos_queues (f : List SoSw → List SoSw) (s : State) : (s.onSos f).queues = s.queues := rfl
@[simp] theorem State.onSos_parts (f : List SoSw → List SoSw) (s : State) : (s.onSos f).parts = s.parts := rfl
@[simp] theorem State.onSos_inc (f : List SoSw → List SoSw) (s : State) : (s.onSos f).inc = s.inc := rfl
@[simp] theorem State.onSos_chans (f : List SoSw → List SoSw) (s : State) : (s.onSos f).chans = s.chans := rfl
@[simp] theorem State.onSos_boles (f : List SoSw → List SoSw) (s : State) : (s.onSos f).boles = s.boles := rfl
@[simp] theorem State.onSos_dies (f : List SoSw → List SoSw) (s : State) : (s.onSos f).dies = s.dies := rfl
@[simp] theorem State.onSos_sos (f : List SoSw → List SoSw) (s : State) : (s.onSos f).sos = f s.sos := rfl
@[simp] theorem State.onSos_gov (f : List SoSw → List SoSw) (s : State) : (s.onSos f).gov = s.gov := rfl
@[simp] theorem State.onSos_pins (f : List SoSw → List SoSw) (s : State) : (s.onSos f).pins = s.pins := rfl
@[simp] theorem State.onSos_uioMirror (f : List SoSw → List SoSw) (s : State) : (s.onSos f).uioMirror = s.uioMirror := rfl
@[simp] theorem State.onSos_sups (f : List SoSw → List SoSw) (s : State) : (s.onSos f).sups = s.sups := rfl
@[simp] theorem State.onSos_extIn (f : List SoSw → List SoSw) (s : State) : (s.onSos f).extIn = s.extIn := rfl
@[simp] theorem State.onSos_kts (f : List SoSw → List SoSw) (s : State) : (s.onSos f).kts = s.kts := rfl
@[simp] theorem State.onSos_kcs (f : List SoSw → List SoSw) (s : State) : (s.onSos f).kcs = s.kcs := rfl
@[simp] theorem State.onSos_sense (f : List SoSw → List SoSw) (s : State) : (s.onSos f).sense = s.sense := rfl
@[simp] theorem State.onSos_cans (f : List SoSw → List SoSw) (s : State) : (s.onSos f).cans = s.cans := rfl
@[simp] theorem State.onSos_trxs (f : List SoSw → List SoSw) (s : State) : (s.onSos f).trxs = s.trxs := rfl
@[simp] theorem State.onSos_sec (f : List SoSw → List SoSw) (s : State) : (s.onSos f).sec = s.sec := rfl
@[simp] theorem State.onSos_svr (f : List SoSw → List SoSw) (s : State) : (s.onSos f).svr = s.svr := rfl
@[simp] theorem State.onSos_tly (f : List SoSw → List SoSw) (s : State) : (s.onSos f).tly = s.tly := rfl
@[simp] theorem State.onSos_doms (f : List SoSw → List SoSw) (s : State) : (s.onSos f).doms = s.doms := rfl
@[simp] theorem State.onSos_eth (f : List SoSw → List SoSw) (s : State) : (s.onSos f).eth = s.eth := rfl
@[simp] theorem State.onSos_lgw (f : List SoSw → List SoSw) (s : State) : (s.onSos f).lgw = s.lgw := rfl
@[simp] theorem State.onSos_gwbs (f : List SoSw → List SoSw) (s : State) : (s.onSos f).gwbs = s.gwbs := rfl
@[simp] theorem State.onSos_cpx (f : List SoSw → List SoSw) (s : State) : (s.onSos f).cpx = s.cpx := rfl
@[simp] theorem State.onSos_sil (f : List SoSw → List SoSw) (s : State) : (s.onSos f).sil = s.sil := rfl
@[simp] theorem State.onSos_pairU (f : List SoSw → List SoSw) (s : State) : (s.onSos f).pairU = s.pairU := rfl
@[simp] theorem State.onSos_upd (f : List SoSw → List SoSw) (s : State) : (s.onSos f).upd = s.upd := rfl
@[simp] theorem State.onSos_uart (f : List SoSw → List SoSw) (s : State) : (s.onSos f).uart = s.uart := rfl
@[simp] theorem State.onGov_pending (f : Gov → Gov) (s : State) : (s.onGov f).pending = s.pending := rfl
@[simp] theorem State.onGov_now (f : Gov → Gov) (s : State) : (s.onGov f).now = s.now := rfl
@[simp] theorem State.onGov_freeCtr (f : Gov → Gov) (s : State) : (s.onGov f).freeCtr = s.freeCtr := rfl
@[simp] theorem State.onGov_regs (f : Gov → Gov) (s : State) : (s.onGov f).regs = s.regs := rfl
@[simp] theorem State.onGov_staged (f : Gov → Gov) (s : State) : (s.onGov f).staged = s.staged := rfl
@[simp] theorem State.onGov_stagedTab (f : Gov → Gov) (s : State) : (s.onGov f).stagedTab = s.stagedTab := rfl
@[simp] theorem State.onGov_commits (f : Gov → Gov) (s : State) : (s.onGov f).commits = s.commits := rfl
@[simp] theorem State.onGov_mem (f : Gov → Gov) (s : State) : (s.onGov f).mem = s.mem := rfl
@[simp] theorem State.onGov_clk (f : Gov → Gov) (s : State) : (s.onGov f).clk = s.clk := rfl
@[simp] theorem State.onGov_bus (f : Gov → Gov) (s : State) : (s.onGov f).bus = s.bus := rfl
@[simp] theorem State.onGov_events (f : Gov → Gov) (s : State) : (s.onGov f).events = s.events := rfl
@[simp] theorem State.onGov_frm (f : Gov → Gov) (s : State) : (s.onGov f).frm = s.frm := rfl
@[simp] theorem State.onGov_mbxs (f : Gov → Gov) (s : State) : (s.onGov f).mbxs = s.mbxs := rfl
@[simp] theorem State.onGov_longs (f : Gov → Gov) (s : State) : (s.onGov f).longs = s.longs := rfl
@[simp] theorem State.onGov_svcBuf (f : Gov → Gov) (s : State) : (s.onGov f).svcBuf = s.svcBuf := rfl
@[simp] theorem State.onGov_fwVersion (f : Gov → Gov) (s : State) : (s.onGov f).fwVersion = s.fwVersion := rfl
@[simp] theorem State.onGov_records (f : Gov → Gov) (s : State) : (s.onGov f).records = s.records := rfl
@[simp] theorem State.onGov_queues (f : Gov → Gov) (s : State) : (s.onGov f).queues = s.queues := rfl
@[simp] theorem State.onGov_parts (f : Gov → Gov) (s : State) : (s.onGov f).parts = s.parts := rfl
@[simp] theorem State.onGov_inc (f : Gov → Gov) (s : State) : (s.onGov f).inc = s.inc := rfl
@[simp] theorem State.onGov_chans (f : Gov → Gov) (s : State) : (s.onGov f).chans = s.chans := rfl
@[simp] theorem State.onGov_boles (f : Gov → Gov) (s : State) : (s.onGov f).boles = s.boles := rfl
@[simp] theorem State.onGov_dies (f : Gov → Gov) (s : State) : (s.onGov f).dies = s.dies := rfl
@[simp] theorem State.onGov_sos (f : Gov → Gov) (s : State) : (s.onGov f).sos = s.sos := rfl
@[simp] theorem State.onGov_gov (f : Gov → Gov) (s : State) : (s.onGov f).gov = f s.gov := rfl
@[simp] theorem State.onGov_pins (f : Gov → Gov) (s : State) : (s.onGov f).pins = s.pins := rfl
@[simp] theorem State.onGov_uioMirror (f : Gov → Gov) (s : State) : (s.onGov f).uioMirror = s.uioMirror := rfl
@[simp] theorem State.onGov_sups (f : Gov → Gov) (s : State) : (s.onGov f).sups = s.sups := rfl
@[simp] theorem State.onGov_extIn (f : Gov → Gov) (s : State) : (s.onGov f).extIn = s.extIn := rfl
@[simp] theorem State.onGov_kts (f : Gov → Gov) (s : State) : (s.onGov f).kts = s.kts := rfl
@[simp] theorem State.onGov_kcs (f : Gov → Gov) (s : State) : (s.onGov f).kcs = s.kcs := rfl
@[simp] theorem State.onGov_sense (f : Gov → Gov) (s : State) : (s.onGov f).sense = s.sense := rfl
@[simp] theorem State.onGov_cans (f : Gov → Gov) (s : State) : (s.onGov f).cans = s.cans := rfl
@[simp] theorem State.onGov_trxs (f : Gov → Gov) (s : State) : (s.onGov f).trxs = s.trxs := rfl
@[simp] theorem State.onGov_sec (f : Gov → Gov) (s : State) : (s.onGov f).sec = s.sec := rfl
@[simp] theorem State.onGov_svr (f : Gov → Gov) (s : State) : (s.onGov f).svr = s.svr := rfl
@[simp] theorem State.onGov_tly (f : Gov → Gov) (s : State) : (s.onGov f).tly = s.tly := rfl
@[simp] theorem State.onGov_doms (f : Gov → Gov) (s : State) : (s.onGov f).doms = s.doms := rfl
@[simp] theorem State.onGov_eth (f : Gov → Gov) (s : State) : (s.onGov f).eth = s.eth := rfl
@[simp] theorem State.onGov_lgw (f : Gov → Gov) (s : State) : (s.onGov f).lgw = s.lgw := rfl
@[simp] theorem State.onGov_gwbs (f : Gov → Gov) (s : State) : (s.onGov f).gwbs = s.gwbs := rfl
@[simp] theorem State.onGov_cpx (f : Gov → Gov) (s : State) : (s.onGov f).cpx = s.cpx := rfl
@[simp] theorem State.onGov_sil (f : Gov → Gov) (s : State) : (s.onGov f).sil = s.sil := rfl
@[simp] theorem State.onGov_pairU (f : Gov → Gov) (s : State) : (s.onGov f).pairU = s.pairU := rfl
@[simp] theorem State.onGov_upd (f : Gov → Gov) (s : State) : (s.onGov f).upd = s.upd := rfl
@[simp] theorem State.onGov_uart (f : Gov → Gov) (s : State) : (s.onGov f).uart = s.uart := rfl
@[simp] theorem State.onPins_pending (f : List Pin → List Pin) (s : State) : (s.onPins f).pending = s.pending := rfl
@[simp] theorem State.onPins_now (f : List Pin → List Pin) (s : State) : (s.onPins f).now = s.now := rfl
@[simp] theorem State.onPins_freeCtr (f : List Pin → List Pin) (s : State) : (s.onPins f).freeCtr = s.freeCtr := rfl
@[simp] theorem State.onPins_regs (f : List Pin → List Pin) (s : State) : (s.onPins f).regs = s.regs := rfl
@[simp] theorem State.onPins_staged (f : List Pin → List Pin) (s : State) : (s.onPins f).staged = s.staged := rfl
@[simp] theorem State.onPins_stagedTab (f : List Pin → List Pin) (s : State) : (s.onPins f).stagedTab = s.stagedTab := rfl
@[simp] theorem State.onPins_commits (f : List Pin → List Pin) (s : State) : (s.onPins f).commits = s.commits := rfl
@[simp] theorem State.onPins_mem (f : List Pin → List Pin) (s : State) : (s.onPins f).mem = s.mem := rfl
@[simp] theorem State.onPins_clk (f : List Pin → List Pin) (s : State) : (s.onPins f).clk = s.clk := rfl
@[simp] theorem State.onPins_bus (f : List Pin → List Pin) (s : State) : (s.onPins f).bus = s.bus := rfl
@[simp] theorem State.onPins_events (f : List Pin → List Pin) (s : State) : (s.onPins f).events = s.events := rfl
@[simp] theorem State.onPins_frm (f : List Pin → List Pin) (s : State) : (s.onPins f).frm = s.frm := rfl
@[simp] theorem State.onPins_mbxs (f : List Pin → List Pin) (s : State) : (s.onPins f).mbxs = s.mbxs := rfl
@[simp] theorem State.onPins_longs (f : List Pin → List Pin) (s : State) : (s.onPins f).longs = s.longs := rfl
@[simp] theorem State.onPins_svcBuf (f : List Pin → List Pin) (s : State) : (s.onPins f).svcBuf = s.svcBuf := rfl
@[simp] theorem State.onPins_fwVersion (f : List Pin → List Pin) (s : State) : (s.onPins f).fwVersion = s.fwVersion := rfl
@[simp] theorem State.onPins_records (f : List Pin → List Pin) (s : State) : (s.onPins f).records = s.records := rfl
@[simp] theorem State.onPins_queues (f : List Pin → List Pin) (s : State) : (s.onPins f).queues = s.queues := rfl
@[simp] theorem State.onPins_parts (f : List Pin → List Pin) (s : State) : (s.onPins f).parts = s.parts := rfl
@[simp] theorem State.onPins_inc (f : List Pin → List Pin) (s : State) : (s.onPins f).inc = s.inc := rfl
@[simp] theorem State.onPins_chans (f : List Pin → List Pin) (s : State) : (s.onPins f).chans = s.chans := rfl
@[simp] theorem State.onPins_boles (f : List Pin → List Pin) (s : State) : (s.onPins f).boles = s.boles := rfl
@[simp] theorem State.onPins_dies (f : List Pin → List Pin) (s : State) : (s.onPins f).dies = s.dies := rfl
@[simp] theorem State.onPins_sos (f : List Pin → List Pin) (s : State) : (s.onPins f).sos = s.sos := rfl
@[simp] theorem State.onPins_gov (f : List Pin → List Pin) (s : State) : (s.onPins f).gov = s.gov := rfl
@[simp] theorem State.onPins_pins (f : List Pin → List Pin) (s : State) : (s.onPins f).pins = f s.pins := rfl
@[simp] theorem State.onPins_uioMirror (f : List Pin → List Pin) (s : State) : (s.onPins f).uioMirror = s.uioMirror := rfl
@[simp] theorem State.onPins_sups (f : List Pin → List Pin) (s : State) : (s.onPins f).sups = s.sups := rfl
@[simp] theorem State.onPins_extIn (f : List Pin → List Pin) (s : State) : (s.onPins f).extIn = s.extIn := rfl
@[simp] theorem State.onPins_kts (f : List Pin → List Pin) (s : State) : (s.onPins f).kts = s.kts := rfl
@[simp] theorem State.onPins_kcs (f : List Pin → List Pin) (s : State) : (s.onPins f).kcs = s.kcs := rfl
@[simp] theorem State.onPins_sense (f : List Pin → List Pin) (s : State) : (s.onPins f).sense = s.sense := rfl
@[simp] theorem State.onPins_cans (f : List Pin → List Pin) (s : State) : (s.onPins f).cans = s.cans := rfl
@[simp] theorem State.onPins_trxs (f : List Pin → List Pin) (s : State) : (s.onPins f).trxs = s.trxs := rfl
@[simp] theorem State.onPins_sec (f : List Pin → List Pin) (s : State) : (s.onPins f).sec = s.sec := rfl
@[simp] theorem State.onPins_svr (f : List Pin → List Pin) (s : State) : (s.onPins f).svr = s.svr := rfl
@[simp] theorem State.onPins_tly (f : List Pin → List Pin) (s : State) : (s.onPins f).tly = s.tly := rfl
@[simp] theorem State.onPins_doms (f : List Pin → List Pin) (s : State) : (s.onPins f).doms = s.doms := rfl
@[simp] theorem State.onPins_eth (f : List Pin → List Pin) (s : State) : (s.onPins f).eth = s.eth := rfl
@[simp] theorem State.onPins_lgw (f : List Pin → List Pin) (s : State) : (s.onPins f).lgw = s.lgw := rfl
@[simp] theorem State.onPins_gwbs (f : List Pin → List Pin) (s : State) : (s.onPins f).gwbs = s.gwbs := rfl
@[simp] theorem State.onPins_cpx (f : List Pin → List Pin) (s : State) : (s.onPins f).cpx = s.cpx := rfl
@[simp] theorem State.onPins_sil (f : List Pin → List Pin) (s : State) : (s.onPins f).sil = s.sil := rfl
@[simp] theorem State.onPins_pairU (f : List Pin → List Pin) (s : State) : (s.onPins f).pairU = s.pairU := rfl
@[simp] theorem State.onPins_upd (f : List Pin → List Pin) (s : State) : (s.onPins f).upd = s.upd := rfl
@[simp] theorem State.onPins_uart (f : List Pin → List Pin) (s : State) : (s.onPins f).uart = s.uart := rfl
@[simp] theorem State.onUioMirror_pending (f : UioMirror → UioMirror) (s : State) : (s.onUioMirror f).pending = s.pending := rfl
@[simp] theorem State.onUioMirror_now (f : UioMirror → UioMirror) (s : State) : (s.onUioMirror f).now = s.now := rfl
@[simp] theorem State.onUioMirror_freeCtr (f : UioMirror → UioMirror) (s : State) : (s.onUioMirror f).freeCtr = s.freeCtr := rfl
@[simp] theorem State.onUioMirror_regs (f : UioMirror → UioMirror) (s : State) : (s.onUioMirror f).regs = s.regs := rfl
@[simp] theorem State.onUioMirror_staged (f : UioMirror → UioMirror) (s : State) : (s.onUioMirror f).staged = s.staged := rfl
@[simp] theorem State.onUioMirror_stagedTab (f : UioMirror → UioMirror) (s : State) : (s.onUioMirror f).stagedTab = s.stagedTab := rfl
@[simp] theorem State.onUioMirror_commits (f : UioMirror → UioMirror) (s : State) : (s.onUioMirror f).commits = s.commits := rfl
@[simp] theorem State.onUioMirror_mem (f : UioMirror → UioMirror) (s : State) : (s.onUioMirror f).mem = s.mem := rfl
@[simp] theorem State.onUioMirror_clk (f : UioMirror → UioMirror) (s : State) : (s.onUioMirror f).clk = s.clk := rfl
@[simp] theorem State.onUioMirror_bus (f : UioMirror → UioMirror) (s : State) : (s.onUioMirror f).bus = s.bus := rfl
@[simp] theorem State.onUioMirror_events (f : UioMirror → UioMirror) (s : State) : (s.onUioMirror f).events = s.events := rfl
@[simp] theorem State.onUioMirror_frm (f : UioMirror → UioMirror) (s : State) : (s.onUioMirror f).frm = s.frm := rfl
@[simp] theorem State.onUioMirror_mbxs (f : UioMirror → UioMirror) (s : State) : (s.onUioMirror f).mbxs = s.mbxs := rfl
@[simp] theorem State.onUioMirror_longs (f : UioMirror → UioMirror) (s : State) : (s.onUioMirror f).longs = s.longs := rfl
@[simp] theorem State.onUioMirror_svcBuf (f : UioMirror → UioMirror) (s : State) : (s.onUioMirror f).svcBuf = s.svcBuf := rfl
@[simp] theorem State.onUioMirror_fwVersion (f : UioMirror → UioMirror) (s : State) : (s.onUioMirror f).fwVersion = s.fwVersion := rfl
@[simp] theorem State.onUioMirror_records (f : UioMirror → UioMirror) (s : State) : (s.onUioMirror f).records = s.records := rfl
@[simp] theorem State.onUioMirror_queues (f : UioMirror → UioMirror) (s : State) : (s.onUioMirror f).queues = s.queues := rfl
@[simp] theorem State.onUioMirror_parts (f : UioMirror → UioMirror) (s : State) : (s.onUioMirror f).parts = s.parts := rfl
@[simp] theorem State.onUioMirror_inc (f : UioMirror → UioMirror) (s : State) : (s.onUioMirror f).inc = s.inc := rfl
@[simp] theorem State.onUioMirror_chans (f : UioMirror → UioMirror) (s : State) : (s.onUioMirror f).chans = s.chans := rfl
@[simp] theorem State.onUioMirror_boles (f : UioMirror → UioMirror) (s : State) : (s.onUioMirror f).boles = s.boles := rfl
@[simp] theorem State.onUioMirror_dies (f : UioMirror → UioMirror) (s : State) : (s.onUioMirror f).dies = s.dies := rfl
@[simp] theorem State.onUioMirror_sos (f : UioMirror → UioMirror) (s : State) : (s.onUioMirror f).sos = s.sos := rfl
@[simp] theorem State.onUioMirror_gov (f : UioMirror → UioMirror) (s : State) : (s.onUioMirror f).gov = s.gov := rfl
@[simp] theorem State.onUioMirror_pins (f : UioMirror → UioMirror) (s : State) : (s.onUioMirror f).pins = s.pins := rfl
@[simp] theorem State.onUioMirror_uioMirror (f : UioMirror → UioMirror) (s : State) : (s.onUioMirror f).uioMirror = f s.uioMirror := rfl
@[simp] theorem State.onUioMirror_sups (f : UioMirror → UioMirror) (s : State) : (s.onUioMirror f).sups = s.sups := rfl
@[simp] theorem State.onUioMirror_extIn (f : UioMirror → UioMirror) (s : State) : (s.onUioMirror f).extIn = s.extIn := rfl
@[simp] theorem State.onUioMirror_kts (f : UioMirror → UioMirror) (s : State) : (s.onUioMirror f).kts = s.kts := rfl
@[simp] theorem State.onUioMirror_kcs (f : UioMirror → UioMirror) (s : State) : (s.onUioMirror f).kcs = s.kcs := rfl
@[simp] theorem State.onUioMirror_sense (f : UioMirror → UioMirror) (s : State) : (s.onUioMirror f).sense = s.sense := rfl
@[simp] theorem State.onUioMirror_cans (f : UioMirror → UioMirror) (s : State) : (s.onUioMirror f).cans = s.cans := rfl
@[simp] theorem State.onUioMirror_trxs (f : UioMirror → UioMirror) (s : State) : (s.onUioMirror f).trxs = s.trxs := rfl
@[simp] theorem State.onUioMirror_sec (f : UioMirror → UioMirror) (s : State) : (s.onUioMirror f).sec = s.sec := rfl
@[simp] theorem State.onUioMirror_svr (f : UioMirror → UioMirror) (s : State) : (s.onUioMirror f).svr = s.svr := rfl
@[simp] theorem State.onUioMirror_tly (f : UioMirror → UioMirror) (s : State) : (s.onUioMirror f).tly = s.tly := rfl
@[simp] theorem State.onUioMirror_doms (f : UioMirror → UioMirror) (s : State) : (s.onUioMirror f).doms = s.doms := rfl
@[simp] theorem State.onUioMirror_eth (f : UioMirror → UioMirror) (s : State) : (s.onUioMirror f).eth = s.eth := rfl
@[simp] theorem State.onUioMirror_lgw (f : UioMirror → UioMirror) (s : State) : (s.onUioMirror f).lgw = s.lgw := rfl
@[simp] theorem State.onUioMirror_gwbs (f : UioMirror → UioMirror) (s : State) : (s.onUioMirror f).gwbs = s.gwbs := rfl
@[simp] theorem State.onUioMirror_cpx (f : UioMirror → UioMirror) (s : State) : (s.onUioMirror f).cpx = s.cpx := rfl
@[simp] theorem State.onUioMirror_sil (f : UioMirror → UioMirror) (s : State) : (s.onUioMirror f).sil = s.sil := rfl
@[simp] theorem State.onUioMirror_pairU (f : UioMirror → UioMirror) (s : State) : (s.onUioMirror f).pairU = s.pairU := rfl
@[simp] theorem State.onUioMirror_upd (f : UioMirror → UioMirror) (s : State) : (s.onUioMirror f).upd = s.upd := rfl
@[simp] theorem State.onUioMirror_uart (f : UioMirror → UioMirror) (s : State) : (s.onUioMirror f).uart = s.uart := rfl
@[simp] theorem State.onSups_pending (f : List SenSup → List SenSup) (s : State) : (s.onSups f).pending = s.pending := rfl
@[simp] theorem State.onSups_now (f : List SenSup → List SenSup) (s : State) : (s.onSups f).now = s.now := rfl
@[simp] theorem State.onSups_freeCtr (f : List SenSup → List SenSup) (s : State) : (s.onSups f).freeCtr = s.freeCtr := rfl
@[simp] theorem State.onSups_regs (f : List SenSup → List SenSup) (s : State) : (s.onSups f).regs = s.regs := rfl
@[simp] theorem State.onSups_staged (f : List SenSup → List SenSup) (s : State) : (s.onSups f).staged = s.staged := rfl
@[simp] theorem State.onSups_stagedTab (f : List SenSup → List SenSup) (s : State) : (s.onSups f).stagedTab = s.stagedTab := rfl
@[simp] theorem State.onSups_commits (f : List SenSup → List SenSup) (s : State) : (s.onSups f).commits = s.commits := rfl
@[simp] theorem State.onSups_mem (f : List SenSup → List SenSup) (s : State) : (s.onSups f).mem = s.mem := rfl
@[simp] theorem State.onSups_clk (f : List SenSup → List SenSup) (s : State) : (s.onSups f).clk = s.clk := rfl
@[simp] theorem State.onSups_bus (f : List SenSup → List SenSup) (s : State) : (s.onSups f).bus = s.bus := rfl
@[simp] theorem State.onSups_events (f : List SenSup → List SenSup) (s : State) : (s.onSups f).events = s.events := rfl
@[simp] theorem State.onSups_frm (f : List SenSup → List SenSup) (s : State) : (s.onSups f).frm = s.frm := rfl
@[simp] theorem State.onSups_mbxs (f : List SenSup → List SenSup) (s : State) : (s.onSups f).mbxs = s.mbxs := rfl
@[simp] theorem State.onSups_longs (f : List SenSup → List SenSup) (s : State) : (s.onSups f).longs = s.longs := rfl
@[simp] theorem State.onSups_svcBuf (f : List SenSup → List SenSup) (s : State) : (s.onSups f).svcBuf = s.svcBuf := rfl
@[simp] theorem State.onSups_fwVersion (f : List SenSup → List SenSup) (s : State) : (s.onSups f).fwVersion = s.fwVersion := rfl
@[simp] theorem State.onSups_records (f : List SenSup → List SenSup) (s : State) : (s.onSups f).records = s.records := rfl
@[simp] theorem State.onSups_queues (f : List SenSup → List SenSup) (s : State) : (s.onSups f).queues = s.queues := rfl
@[simp] theorem State.onSups_parts (f : List SenSup → List SenSup) (s : State) : (s.onSups f).parts = s.parts := rfl
@[simp] theorem State.onSups_inc (f : List SenSup → List SenSup) (s : State) : (s.onSups f).inc = s.inc := rfl
@[simp] theorem State.onSups_chans (f : List SenSup → List SenSup) (s : State) : (s.onSups f).chans = s.chans := rfl
@[simp] theorem State.onSups_boles (f : List SenSup → List SenSup) (s : State) : (s.onSups f).boles = s.boles := rfl
@[simp] theorem State.onSups_dies (f : List SenSup → List SenSup) (s : State) : (s.onSups f).dies = s.dies := rfl
@[simp] theorem State.onSups_sos (f : List SenSup → List SenSup) (s : State) : (s.onSups f).sos = s.sos := rfl
@[simp] theorem State.onSups_gov (f : List SenSup → List SenSup) (s : State) : (s.onSups f).gov = s.gov := rfl
@[simp] theorem State.onSups_pins (f : List SenSup → List SenSup) (s : State) : (s.onSups f).pins = s.pins := rfl
@[simp] theorem State.onSups_uioMirror (f : List SenSup → List SenSup) (s : State) : (s.onSups f).uioMirror = s.uioMirror := rfl
@[simp] theorem State.onSups_sups (f : List SenSup → List SenSup) (s : State) : (s.onSups f).sups = f s.sups := rfl
@[simp] theorem State.onSups_extIn (f : List SenSup → List SenSup) (s : State) : (s.onSups f).extIn = s.extIn := rfl
@[simp] theorem State.onSups_kts (f : List SenSup → List SenSup) (s : State) : (s.onSups f).kts = s.kts := rfl
@[simp] theorem State.onSups_kcs (f : List SenSup → List SenSup) (s : State) : (s.onSups f).kcs = s.kcs := rfl
@[simp] theorem State.onSups_sense (f : List SenSup → List SenSup) (s : State) : (s.onSups f).sense = s.sense := rfl
@[simp] theorem State.onSups_cans (f : List SenSup → List SenSup) (s : State) : (s.onSups f).cans = s.cans := rfl
@[simp] theorem State.onSups_trxs (f : List SenSup → List SenSup) (s : State) : (s.onSups f).trxs = s.trxs := rfl
@[simp] theorem State.onSups_sec (f : List SenSup → List SenSup) (s : State) : (s.onSups f).sec = s.sec := rfl
@[simp] theorem State.onSups_svr (f : List SenSup → List SenSup) (s : State) : (s.onSups f).svr = s.svr := rfl
@[simp] theorem State.onSups_tly (f : List SenSup → List SenSup) (s : State) : (s.onSups f).tly = s.tly := rfl
@[simp] theorem State.onSups_doms (f : List SenSup → List SenSup) (s : State) : (s.onSups f).doms = s.doms := rfl
@[simp] theorem State.onSups_eth (f : List SenSup → List SenSup) (s : State) : (s.onSups f).eth = s.eth := rfl
@[simp] theorem State.onSups_lgw (f : List SenSup → List SenSup) (s : State) : (s.onSups f).lgw = s.lgw := rfl
@[simp] theorem State.onSups_gwbs (f : List SenSup → List SenSup) (s : State) : (s.onSups f).gwbs = s.gwbs := rfl
@[simp] theorem State.onSups_cpx (f : List SenSup → List SenSup) (s : State) : (s.onSups f).cpx = s.cpx := rfl
@[simp] theorem State.onSups_sil (f : List SenSup → List SenSup) (s : State) : (s.onSups f).sil = s.sil := rfl
@[simp] theorem State.onSups_pairU (f : List SenSup → List SenSup) (s : State) : (s.onSups f).pairU = s.pairU := rfl
@[simp] theorem State.onSups_upd (f : List SenSup → List SenSup) (s : State) : (s.onSups f).upd = s.upd := rfl
@[simp] theorem State.onSups_uart (f : List SenSup → List SenSup) (s : State) : (s.onSups f).uart = s.uart := rfl
@[simp] theorem State.onExtIn_pending (f : List (Bool × Bool) → List (Bool × Bool)) (s : State) : (s.onExtIn f).pending = s.pending := rfl
@[simp] theorem State.onExtIn_now (f : List (Bool × Bool) → List (Bool × Bool)) (s : State) : (s.onExtIn f).now = s.now := rfl
@[simp] theorem State.onExtIn_freeCtr (f : List (Bool × Bool) → List (Bool × Bool)) (s : State) : (s.onExtIn f).freeCtr = s.freeCtr := rfl
@[simp] theorem State.onExtIn_regs (f : List (Bool × Bool) → List (Bool × Bool)) (s : State) : (s.onExtIn f).regs = s.regs := rfl
@[simp] theorem State.onExtIn_staged (f : List (Bool × Bool) → List (Bool × Bool)) (s : State) : (s.onExtIn f).staged = s.staged := rfl
@[simp] theorem State.onExtIn_stagedTab (f : List (Bool × Bool) → List (Bool × Bool)) (s : State) : (s.onExtIn f).stagedTab = s.stagedTab := rfl
@[simp] theorem State.onExtIn_commits (f : List (Bool × Bool) → List (Bool × Bool)) (s : State) : (s.onExtIn f).commits = s.commits := rfl
@[simp] theorem State.onExtIn_mem (f : List (Bool × Bool) → List (Bool × Bool)) (s : State) : (s.onExtIn f).mem = s.mem := rfl
@[simp] theorem State.onExtIn_clk (f : List (Bool × Bool) → List (Bool × Bool)) (s : State) : (s.onExtIn f).clk = s.clk := rfl
@[simp] theorem State.onExtIn_bus (f : List (Bool × Bool) → List (Bool × Bool)) (s : State) : (s.onExtIn f).bus = s.bus := rfl
@[simp] theorem State.onExtIn_events (f : List (Bool × Bool) → List (Bool × Bool)) (s : State) : (s.onExtIn f).events = s.events := rfl
@[simp] theorem State.onExtIn_frm (f : List (Bool × Bool) → List (Bool × Bool)) (s : State) : (s.onExtIn f).frm = s.frm := rfl
@[simp] theorem State.onExtIn_mbxs (f : List (Bool × Bool) → List (Bool × Bool)) (s : State) : (s.onExtIn f).mbxs = s.mbxs := rfl
@[simp] theorem State.onExtIn_longs (f : List (Bool × Bool) → List (Bool × Bool)) (s : State) : (s.onExtIn f).longs = s.longs := rfl
@[simp] theorem State.onExtIn_svcBuf (f : List (Bool × Bool) → List (Bool × Bool)) (s : State) : (s.onExtIn f).svcBuf = s.svcBuf := rfl
@[simp] theorem State.onExtIn_fwVersion (f : List (Bool × Bool) → List (Bool × Bool)) (s : State) : (s.onExtIn f).fwVersion = s.fwVersion := rfl
@[simp] theorem State.onExtIn_records (f : List (Bool × Bool) → List (Bool × Bool)) (s : State) : (s.onExtIn f).records = s.records := rfl
@[simp] theorem State.onExtIn_queues (f : List (Bool × Bool) → List (Bool × Bool)) (s : State) : (s.onExtIn f).queues = s.queues := rfl
@[simp] theorem State.onExtIn_parts (f : List (Bool × Bool) → List (Bool × Bool)) (s : State) : (s.onExtIn f).parts = s.parts := rfl
@[simp] theorem State.onExtIn_inc (f : List (Bool × Bool) → List (Bool × Bool)) (s : State) : (s.onExtIn f).inc = s.inc := rfl
@[simp] theorem State.onExtIn_chans (f : List (Bool × Bool) → List (Bool × Bool)) (s : State) : (s.onExtIn f).chans = s.chans := rfl
@[simp] theorem State.onExtIn_boles (f : List (Bool × Bool) → List (Bool × Bool)) (s : State) : (s.onExtIn f).boles = s.boles := rfl
@[simp] theorem State.onExtIn_dies (f : List (Bool × Bool) → List (Bool × Bool)) (s : State) : (s.onExtIn f).dies = s.dies := rfl
@[simp] theorem State.onExtIn_sos (f : List (Bool × Bool) → List (Bool × Bool)) (s : State) : (s.onExtIn f).sos = s.sos := rfl
@[simp] theorem State.onExtIn_gov (f : List (Bool × Bool) → List (Bool × Bool)) (s : State) : (s.onExtIn f).gov = s.gov := rfl
@[simp] theorem State.onExtIn_pins (f : List (Bool × Bool) → List (Bool × Bool)) (s : State) : (s.onExtIn f).pins = s.pins := rfl
@[simp] theorem State.onExtIn_uioMirror (f : List (Bool × Bool) → List (Bool × Bool)) (s : State) : (s.onExtIn f).uioMirror = s.uioMirror := rfl
@[simp] theorem State.onExtIn_sups (f : List (Bool × Bool) → List (Bool × Bool)) (s : State) : (s.onExtIn f).sups = s.sups := rfl
@[simp] theorem State.onExtIn_extIn (f : List (Bool × Bool) → List (Bool × Bool)) (s : State) : (s.onExtIn f).extIn = f s.extIn := rfl
@[simp] theorem State.onExtIn_kts (f : List (Bool × Bool) → List (Bool × Bool)) (s : State) : (s.onExtIn f).kts = s.kts := rfl
@[simp] theorem State.onExtIn_kcs (f : List (Bool × Bool) → List (Bool × Bool)) (s : State) : (s.onExtIn f).kcs = s.kcs := rfl
@[simp] theorem State.onExtIn_sense (f : List (Bool × Bool) → List (Bool × Bool)) (s : State) : (s.onExtIn f).sense = s.sense := rfl
@[simp] theorem State.onExtIn_cans (f : List (Bool × Bool) → List (Bool × Bool)) (s : State) : (s.onExtIn f).cans = s.cans := rfl
@[simp] theorem State.onExtIn_trxs (f : List (Bool × Bool) → List (Bool × Bool)) (s : State) : (s.onExtIn f).trxs = s.trxs := rfl
@[simp] theorem State.onExtIn_sec (f : List (Bool × Bool) → List (Bool × Bool)) (s : State) : (s.onExtIn f).sec = s.sec := rfl
@[simp] theorem State.onExtIn_svr (f : List (Bool × Bool) → List (Bool × Bool)) (s : State) : (s.onExtIn f).svr = s.svr := rfl
@[simp] theorem State.onExtIn_tly (f : List (Bool × Bool) → List (Bool × Bool)) (s : State) : (s.onExtIn f).tly = s.tly := rfl
@[simp] theorem State.onExtIn_doms (f : List (Bool × Bool) → List (Bool × Bool)) (s : State) : (s.onExtIn f).doms = s.doms := rfl
@[simp] theorem State.onExtIn_eth (f : List (Bool × Bool) → List (Bool × Bool)) (s : State) : (s.onExtIn f).eth = s.eth := rfl
@[simp] theorem State.onExtIn_lgw (f : List (Bool × Bool) → List (Bool × Bool)) (s : State) : (s.onExtIn f).lgw = s.lgw := rfl
@[simp] theorem State.onExtIn_gwbs (f : List (Bool × Bool) → List (Bool × Bool)) (s : State) : (s.onExtIn f).gwbs = s.gwbs := rfl
@[simp] theorem State.onExtIn_cpx (f : List (Bool × Bool) → List (Bool × Bool)) (s : State) : (s.onExtIn f).cpx = s.cpx := rfl
@[simp] theorem State.onExtIn_sil (f : List (Bool × Bool) → List (Bool × Bool)) (s : State) : (s.onExtIn f).sil = s.sil := rfl
@[simp] theorem State.onExtIn_pairU (f : List (Bool × Bool) → List (Bool × Bool)) (s : State) : (s.onExtIn f).pairU = s.pairU := rfl
@[simp] theorem State.onExtIn_upd (f : List (Bool × Bool) → List (Bool × Bool)) (s : State) : (s.onExtIn f).upd = s.upd := rfl
@[simp] theorem State.onExtIn_uart (f : List (Bool × Bool) → List (Bool × Bool)) (s : State) : (s.onExtIn f).uart = s.uart := rfl
@[simp] theorem State.onKts_pending (f : List Kt → List Kt) (s : State) : (s.onKts f).pending = s.pending := rfl
@[simp] theorem State.onKts_now (f : List Kt → List Kt) (s : State) : (s.onKts f).now = s.now := rfl
@[simp] theorem State.onKts_freeCtr (f : List Kt → List Kt) (s : State) : (s.onKts f).freeCtr = s.freeCtr := rfl
@[simp] theorem State.onKts_regs (f : List Kt → List Kt) (s : State) : (s.onKts f).regs = s.regs := rfl
@[simp] theorem State.onKts_staged (f : List Kt → List Kt) (s : State) : (s.onKts f).staged = s.staged := rfl
@[simp] theorem State.onKts_stagedTab (f : List Kt → List Kt) (s : State) : (s.onKts f).stagedTab = s.stagedTab := rfl
@[simp] theorem State.onKts_commits (f : List Kt → List Kt) (s : State) : (s.onKts f).commits = s.commits := rfl
@[simp] theorem State.onKts_mem (f : List Kt → List Kt) (s : State) : (s.onKts f).mem = s.mem := rfl
@[simp] theorem State.onKts_clk (f : List Kt → List Kt) (s : State) : (s.onKts f).clk = s.clk := rfl
@[simp] theorem State.onKts_bus (f : List Kt → List Kt) (s : State) : (s.onKts f).bus = s.bus := rfl
@[simp] theorem State.onKts_events (f : List Kt → List Kt) (s : State) : (s.onKts f).events = s.events := rfl
@[simp] theorem State.onKts_frm (f : List Kt → List Kt) (s : State) : (s.onKts f).frm = s.frm := rfl
@[simp] theorem State.onKts_mbxs (f : List Kt → List Kt) (s : State) : (s.onKts f).mbxs = s.mbxs := rfl
@[simp] theorem State.onKts_longs (f : List Kt → List Kt) (s : State) : (s.onKts f).longs = s.longs := rfl
@[simp] theorem State.onKts_svcBuf (f : List Kt → List Kt) (s : State) : (s.onKts f).svcBuf = s.svcBuf := rfl
@[simp] theorem State.onKts_fwVersion (f : List Kt → List Kt) (s : State) : (s.onKts f).fwVersion = s.fwVersion := rfl
@[simp] theorem State.onKts_records (f : List Kt → List Kt) (s : State) : (s.onKts f).records = s.records := rfl
@[simp] theorem State.onKts_queues (f : List Kt → List Kt) (s : State) : (s.onKts f).queues = s.queues := rfl
@[simp] theorem State.onKts_parts (f : List Kt → List Kt) (s : State) : (s.onKts f).parts = s.parts := rfl
@[simp] theorem State.onKts_inc (f : List Kt → List Kt) (s : State) : (s.onKts f).inc = s.inc := rfl
@[simp] theorem State.onKts_chans (f : List Kt → List Kt) (s : State) : (s.onKts f).chans = s.chans := rfl
@[simp] theorem State.onKts_boles (f : List Kt → List Kt) (s : State) : (s.onKts f).boles = s.boles := rfl
@[simp] theorem State.onKts_dies (f : List Kt → List Kt) (s : State) : (s.onKts f).dies = s.dies := rfl
@[simp] theorem State.onKts_sos (f : List Kt → List Kt) (s : State) : (s.onKts f).sos = s.sos := rfl
@[simp] theorem State.onKts_gov (f : List Kt → List Kt) (s : State) : (s.onKts f).gov = s.gov := rfl
@[simp] theorem State.onKts_pins (f : List Kt → List Kt) (s : State) : (s.onKts f).pins = s.pins := rfl
@[simp] theorem State.onKts_uioMirror (f : List Kt → List Kt) (s : State) : (s.onKts f).uioMirror = s.uioMirror := rfl
@[simp] theorem State.onKts_sups (f : List Kt → List Kt) (s : State) : (s.onKts f).sups = s.sups := rfl
@[simp] theorem State.onKts_extIn (f : List Kt → List Kt) (s : State) : (s.onKts f).extIn = s.extIn := rfl
@[simp] theorem State.onKts_kts (f : List Kt → List Kt) (s : State) : (s.onKts f).kts = f s.kts := rfl
@[simp] theorem State.onKts_kcs (f : List Kt → List Kt) (s : State) : (s.onKts f).kcs = s.kcs := rfl
@[simp] theorem State.onKts_sense (f : List Kt → List Kt) (s : State) : (s.onKts f).sense = s.sense := rfl
@[simp] theorem State.onKts_cans (f : List Kt → List Kt) (s : State) : (s.onKts f).cans = s.cans := rfl
@[simp] theorem State.onKts_trxs (f : List Kt → List Kt) (s : State) : (s.onKts f).trxs = s.trxs := rfl
@[simp] theorem State.onKts_sec (f : List Kt → List Kt) (s : State) : (s.onKts f).sec = s.sec := rfl
@[simp] theorem State.onKts_svr (f : List Kt → List Kt) (s : State) : (s.onKts f).svr = s.svr := rfl
@[simp] theorem State.onKts_tly (f : List Kt → List Kt) (s : State) : (s.onKts f).tly = s.tly := rfl
@[simp] theorem State.onKts_doms (f : List Kt → List Kt) (s : State) : (s.onKts f).doms = s.doms := rfl
@[simp] theorem State.onKts_eth (f : List Kt → List Kt) (s : State) : (s.onKts f).eth = s.eth := rfl
@[simp] theorem State.onKts_lgw (f : List Kt → List Kt) (s : State) : (s.onKts f).lgw = s.lgw := rfl
@[simp] theorem State.onKts_gwbs (f : List Kt → List Kt) (s : State) : (s.onKts f).gwbs = s.gwbs := rfl
@[simp] theorem State.onKts_cpx (f : List Kt → List Kt) (s : State) : (s.onKts f).cpx = s.cpx := rfl
@[simp] theorem State.onKts_sil (f : List Kt → List Kt) (s : State) : (s.onKts f).sil = s.sil := rfl
@[simp] theorem State.onKts_pairU (f : List Kt → List Kt) (s : State) : (s.onKts f).pairU = s.pairU := rfl
@[simp] theorem State.onKts_upd (f : List Kt → List Kt) (s : State) : (s.onKts f).upd = s.upd := rfl
@[simp] theorem State.onKts_uart (f : List Kt → List Kt) (s : State) : (s.onKts f).uart = s.uart := rfl
@[simp] theorem State.onKcs_pending (f : List Kc → List Kc) (s : State) : (s.onKcs f).pending = s.pending := rfl
@[simp] theorem State.onKcs_now (f : List Kc → List Kc) (s : State) : (s.onKcs f).now = s.now := rfl
@[simp] theorem State.onKcs_freeCtr (f : List Kc → List Kc) (s : State) : (s.onKcs f).freeCtr = s.freeCtr := rfl
@[simp] theorem State.onKcs_regs (f : List Kc → List Kc) (s : State) : (s.onKcs f).regs = s.regs := rfl
@[simp] theorem State.onKcs_staged (f : List Kc → List Kc) (s : State) : (s.onKcs f).staged = s.staged := rfl
@[simp] theorem State.onKcs_stagedTab (f : List Kc → List Kc) (s : State) : (s.onKcs f).stagedTab = s.stagedTab := rfl
@[simp] theorem State.onKcs_commits (f : List Kc → List Kc) (s : State) : (s.onKcs f).commits = s.commits := rfl
@[simp] theorem State.onKcs_mem (f : List Kc → List Kc) (s : State) : (s.onKcs f).mem = s.mem := rfl
@[simp] theorem State.onKcs_clk (f : List Kc → List Kc) (s : State) : (s.onKcs f).clk = s.clk := rfl
@[simp] theorem State.onKcs_bus (f : List Kc → List Kc) (s : State) : (s.onKcs f).bus = s.bus := rfl
@[simp] theorem State.onKcs_events (f : List Kc → List Kc) (s : State) : (s.onKcs f).events = s.events := rfl
@[simp] theorem State.onKcs_frm (f : List Kc → List Kc) (s : State) : (s.onKcs f).frm = s.frm := rfl
@[simp] theorem State.onKcs_mbxs (f : List Kc → List Kc) (s : State) : (s.onKcs f).mbxs = s.mbxs := rfl
@[simp] theorem State.onKcs_longs (f : List Kc → List Kc) (s : State) : (s.onKcs f).longs = s.longs := rfl
@[simp] theorem State.onKcs_svcBuf (f : List Kc → List Kc) (s : State) : (s.onKcs f).svcBuf = s.svcBuf := rfl
@[simp] theorem State.onKcs_fwVersion (f : List Kc → List Kc) (s : State) : (s.onKcs f).fwVersion = s.fwVersion := rfl
@[simp] theorem State.onKcs_records (f : List Kc → List Kc) (s : State) : (s.onKcs f).records = s.records := rfl
@[simp] theorem State.onKcs_queues (f : List Kc → List Kc) (s : State) : (s.onKcs f).queues = s.queues := rfl
@[simp] theorem State.onKcs_parts (f : List Kc → List Kc) (s : State) : (s.onKcs f).parts = s.parts := rfl
@[simp] theorem State.onKcs_inc (f : List Kc → List Kc) (s : State) : (s.onKcs f).inc = s.inc := rfl
@[simp] theorem State.onKcs_chans (f : List Kc → List Kc) (s : State) : (s.onKcs f).chans = s.chans := rfl
@[simp] theorem State.onKcs_boles (f : List Kc → List Kc) (s : State) : (s.onKcs f).boles = s.boles := rfl
@[simp] theorem State.onKcs_dies (f : List Kc → List Kc) (s : State) : (s.onKcs f).dies = s.dies := rfl
@[simp] theorem State.onKcs_sos (f : List Kc → List Kc) (s : State) : (s.onKcs f).sos = s.sos := rfl
@[simp] theorem State.onKcs_gov (f : List Kc → List Kc) (s : State) : (s.onKcs f).gov = s.gov := rfl
@[simp] theorem State.onKcs_pins (f : List Kc → List Kc) (s : State) : (s.onKcs f).pins = s.pins := rfl
@[simp] theorem State.onKcs_uioMirror (f : List Kc → List Kc) (s : State) : (s.onKcs f).uioMirror = s.uioMirror := rfl
@[simp] theorem State.onKcs_sups (f : List Kc → List Kc) (s : State) : (s.onKcs f).sups = s.sups := rfl
@[simp] theorem State.onKcs_extIn (f : List Kc → List Kc) (s : State) : (s.onKcs f).extIn = s.extIn := rfl
@[simp] theorem State.onKcs_kts (f : List Kc → List Kc) (s : State) : (s.onKcs f).kts = s.kts := rfl
@[simp] theorem State.onKcs_kcs (f : List Kc → List Kc) (s : State) : (s.onKcs f).kcs = f s.kcs := rfl
@[simp] theorem State.onKcs_sense (f : List Kc → List Kc) (s : State) : (s.onKcs f).sense = s.sense := rfl
@[simp] theorem State.onKcs_cans (f : List Kc → List Kc) (s : State) : (s.onKcs f).cans = s.cans := rfl
@[simp] theorem State.onKcs_trxs (f : List Kc → List Kc) (s : State) : (s.onKcs f).trxs = s.trxs := rfl
@[simp] theorem State.onKcs_sec (f : List Kc → List Kc) (s : State) : (s.onKcs f).sec = s.sec := rfl
@[simp] theorem State.onKcs_svr (f : List Kc → List Kc) (s : State) : (s.onKcs f).svr = s.svr := rfl
@[simp] theorem State.onKcs_tly (f : List Kc → List Kc) (s : State) : (s.onKcs f).tly = s.tly := rfl
@[simp] theorem State.onKcs_doms (f : List Kc → List Kc) (s : State) : (s.onKcs f).doms = s.doms := rfl
@[simp] theorem State.onKcs_eth (f : List Kc → List Kc) (s : State) : (s.onKcs f).eth = s.eth := rfl
@[simp] theorem State.onKcs_lgw (f : List Kc → List Kc) (s : State) : (s.onKcs f).lgw = s.lgw := rfl
@[simp] theorem State.onKcs_gwbs (f : List Kc → List Kc) (s : State) : (s.onKcs f).gwbs = s.gwbs := rfl
@[simp] theorem State.onKcs_cpx (f : List Kc → List Kc) (s : State) : (s.onKcs f).cpx = s.cpx := rfl
@[simp] theorem State.onKcs_sil (f : List Kc → List Kc) (s : State) : (s.onKcs f).sil = s.sil := rfl
@[simp] theorem State.onKcs_pairU (f : List Kc → List Kc) (s : State) : (s.onKcs f).pairU = s.pairU := rfl
@[simp] theorem State.onKcs_upd (f : List Kc → List Kc) (s : State) : (s.onKcs f).upd = s.upd := rfl
@[simp] theorem State.onKcs_uart (f : List Kc → List Kc) (s : State) : (s.onKcs f).uart = s.uart := rfl
@[simp] theorem State.onSense_pending (f : List (Option SenseRx) → List (Option SenseRx)) (s : State) : (s.onSense f).pending = s.pending := rfl
@[simp] theorem State.onSense_now (f : List (Option SenseRx) → List (Option SenseRx)) (s : State) : (s.onSense f).now = s.now := rfl
@[simp] theorem State.onSense_freeCtr (f : List (Option SenseRx) → List (Option SenseRx)) (s : State) : (s.onSense f).freeCtr = s.freeCtr := rfl
@[simp] theorem State.onSense_regs (f : List (Option SenseRx) → List (Option SenseRx)) (s : State) : (s.onSense f).regs = s.regs := rfl
@[simp] theorem State.onSense_staged (f : List (Option SenseRx) → List (Option SenseRx)) (s : State) : (s.onSense f).staged = s.staged := rfl
@[simp] theorem State.onSense_stagedTab (f : List (Option SenseRx) → List (Option SenseRx)) (s : State) : (s.onSense f).stagedTab = s.stagedTab := rfl
@[simp] theorem State.onSense_commits (f : List (Option SenseRx) → List (Option SenseRx)) (s : State) : (s.onSense f).commits = s.commits := rfl
@[simp] theorem State.onSense_mem (f : List (Option SenseRx) → List (Option SenseRx)) (s : State) : (s.onSense f).mem = s.mem := rfl
@[simp] theorem State.onSense_clk (f : List (Option SenseRx) → List (Option SenseRx)) (s : State) : (s.onSense f).clk = s.clk := rfl
@[simp] theorem State.onSense_bus (f : List (Option SenseRx) → List (Option SenseRx)) (s : State) : (s.onSense f).bus = s.bus := rfl
@[simp] theorem State.onSense_events (f : List (Option SenseRx) → List (Option SenseRx)) (s : State) : (s.onSense f).events = s.events := rfl
@[simp] theorem State.onSense_frm (f : List (Option SenseRx) → List (Option SenseRx)) (s : State) : (s.onSense f).frm = s.frm := rfl
@[simp] theorem State.onSense_mbxs (f : List (Option SenseRx) → List (Option SenseRx)) (s : State) : (s.onSense f).mbxs = s.mbxs := rfl
@[simp] theorem State.onSense_longs (f : List (Option SenseRx) → List (Option SenseRx)) (s : State) : (s.onSense f).longs = s.longs := rfl
@[simp] theorem State.onSense_svcBuf (f : List (Option SenseRx) → List (Option SenseRx)) (s : State) : (s.onSense f).svcBuf = s.svcBuf := rfl
@[simp] theorem State.onSense_fwVersion (f : List (Option SenseRx) → List (Option SenseRx)) (s : State) : (s.onSense f).fwVersion = s.fwVersion := rfl
@[simp] theorem State.onSense_records (f : List (Option SenseRx) → List (Option SenseRx)) (s : State) : (s.onSense f).records = s.records := rfl
@[simp] theorem State.onSense_queues (f : List (Option SenseRx) → List (Option SenseRx)) (s : State) : (s.onSense f).queues = s.queues := rfl
@[simp] theorem State.onSense_parts (f : List (Option SenseRx) → List (Option SenseRx)) (s : State) : (s.onSense f).parts = s.parts := rfl
@[simp] theorem State.onSense_inc (f : List (Option SenseRx) → List (Option SenseRx)) (s : State) : (s.onSense f).inc = s.inc := rfl
@[simp] theorem State.onSense_chans (f : List (Option SenseRx) → List (Option SenseRx)) (s : State) : (s.onSense f).chans = s.chans := rfl
@[simp] theorem State.onSense_boles (f : List (Option SenseRx) → List (Option SenseRx)) (s : State) : (s.onSense f).boles = s.boles := rfl
@[simp] theorem State.onSense_dies (f : List (Option SenseRx) → List (Option SenseRx)) (s : State) : (s.onSense f).dies = s.dies := rfl
@[simp] theorem State.onSense_sos (f : List (Option SenseRx) → List (Option SenseRx)) (s : State) : (s.onSense f).sos = s.sos := rfl
@[simp] theorem State.onSense_gov (f : List (Option SenseRx) → List (Option SenseRx)) (s : State) : (s.onSense f).gov = s.gov := rfl
@[simp] theorem State.onSense_pins (f : List (Option SenseRx) → List (Option SenseRx)) (s : State) : (s.onSense f).pins = s.pins := rfl
@[simp] theorem State.onSense_uioMirror (f : List (Option SenseRx) → List (Option SenseRx)) (s : State) : (s.onSense f).uioMirror = s.uioMirror := rfl
@[simp] theorem State.onSense_sups (f : List (Option SenseRx) → List (Option SenseRx)) (s : State) : (s.onSense f).sups = s.sups := rfl
@[simp] theorem State.onSense_extIn (f : List (Option SenseRx) → List (Option SenseRx)) (s : State) : (s.onSense f).extIn = s.extIn := rfl
@[simp] theorem State.onSense_kts (f : List (Option SenseRx) → List (Option SenseRx)) (s : State) : (s.onSense f).kts = s.kts := rfl
@[simp] theorem State.onSense_kcs (f : List (Option SenseRx) → List (Option SenseRx)) (s : State) : (s.onSense f).kcs = s.kcs := rfl
@[simp] theorem State.onSense_sense (f : List (Option SenseRx) → List (Option SenseRx)) (s : State) : (s.onSense f).sense = f s.sense := rfl
@[simp] theorem State.onSense_cans (f : List (Option SenseRx) → List (Option SenseRx)) (s : State) : (s.onSense f).cans = s.cans := rfl
@[simp] theorem State.onSense_trxs (f : List (Option SenseRx) → List (Option SenseRx)) (s : State) : (s.onSense f).trxs = s.trxs := rfl
@[simp] theorem State.onSense_sec (f : List (Option SenseRx) → List (Option SenseRx)) (s : State) : (s.onSense f).sec = s.sec := rfl
@[simp] theorem State.onSense_svr (f : List (Option SenseRx) → List (Option SenseRx)) (s : State) : (s.onSense f).svr = s.svr := rfl
@[simp] theorem State.onSense_tly (f : List (Option SenseRx) → List (Option SenseRx)) (s : State) : (s.onSense f).tly = s.tly := rfl
@[simp] theorem State.onSense_doms (f : List (Option SenseRx) → List (Option SenseRx)) (s : State) : (s.onSense f).doms = s.doms := rfl
@[simp] theorem State.onSense_eth (f : List (Option SenseRx) → List (Option SenseRx)) (s : State) : (s.onSense f).eth = s.eth := rfl
@[simp] theorem State.onSense_lgw (f : List (Option SenseRx) → List (Option SenseRx)) (s : State) : (s.onSense f).lgw = s.lgw := rfl
@[simp] theorem State.onSense_gwbs (f : List (Option SenseRx) → List (Option SenseRx)) (s : State) : (s.onSense f).gwbs = s.gwbs := rfl
@[simp] theorem State.onSense_cpx (f : List (Option SenseRx) → List (Option SenseRx)) (s : State) : (s.onSense f).cpx = s.cpx := rfl
@[simp] theorem State.onSense_sil (f : List (Option SenseRx) → List (Option SenseRx)) (s : State) : (s.onSense f).sil = s.sil := rfl
@[simp] theorem State.onSense_pairU (f : List (Option SenseRx) → List (Option SenseRx)) (s : State) : (s.onSense f).pairU = s.pairU := rfl
@[simp] theorem State.onSense_upd (f : List (Option SenseRx) → List (Option SenseRx)) (s : State) : (s.onSense f).upd = s.upd := rfl
@[simp] theorem State.onSense_uart (f : List (Option SenseRx) → List (Option SenseRx)) (s : State) : (s.onSense f).uart = s.uart := rfl
@[simp] theorem State.onCans_pending (f : List Can → List Can) (s : State) : (s.onCans f).pending = s.pending := rfl
@[simp] theorem State.onCans_now (f : List Can → List Can) (s : State) : (s.onCans f).now = s.now := rfl
@[simp] theorem State.onCans_freeCtr (f : List Can → List Can) (s : State) : (s.onCans f).freeCtr = s.freeCtr := rfl
@[simp] theorem State.onCans_regs (f : List Can → List Can) (s : State) : (s.onCans f).regs = s.regs := rfl
@[simp] theorem State.onCans_staged (f : List Can → List Can) (s : State) : (s.onCans f).staged = s.staged := rfl
@[simp] theorem State.onCans_stagedTab (f : List Can → List Can) (s : State) : (s.onCans f).stagedTab = s.stagedTab := rfl
@[simp] theorem State.onCans_commits (f : List Can → List Can) (s : State) : (s.onCans f).commits = s.commits := rfl
@[simp] theorem State.onCans_mem (f : List Can → List Can) (s : State) : (s.onCans f).mem = s.mem := rfl
@[simp] theorem State.onCans_clk (f : List Can → List Can) (s : State) : (s.onCans f).clk = s.clk := rfl
@[simp] theorem State.onCans_bus (f : List Can → List Can) (s : State) : (s.onCans f).bus = s.bus := rfl
@[simp] theorem State.onCans_events (f : List Can → List Can) (s : State) : (s.onCans f).events = s.events := rfl
@[simp] theorem State.onCans_frm (f : List Can → List Can) (s : State) : (s.onCans f).frm = s.frm := rfl
@[simp] theorem State.onCans_mbxs (f : List Can → List Can) (s : State) : (s.onCans f).mbxs = s.mbxs := rfl
@[simp] theorem State.onCans_longs (f : List Can → List Can) (s : State) : (s.onCans f).longs = s.longs := rfl
@[simp] theorem State.onCans_svcBuf (f : List Can → List Can) (s : State) : (s.onCans f).svcBuf = s.svcBuf := rfl
@[simp] theorem State.onCans_fwVersion (f : List Can → List Can) (s : State) : (s.onCans f).fwVersion = s.fwVersion := rfl
@[simp] theorem State.onCans_records (f : List Can → List Can) (s : State) : (s.onCans f).records = s.records := rfl
@[simp] theorem State.onCans_queues (f : List Can → List Can) (s : State) : (s.onCans f).queues = s.queues := rfl
@[simp] theorem State.onCans_parts (f : List Can → List Can) (s : State) : (s.onCans f).parts = s.parts := rfl
@[simp] theorem State.onCans_inc (f : List Can → List Can) (s : State) : (s.onCans f).inc = s.inc := rfl
@[simp] theorem State.onCans_chans (f : List Can → List Can) (s : State) : (s.onCans f).chans = s.chans := rfl
@[simp] theorem State.onCans_boles (f : List Can → List Can) (s : State) : (s.onCans f).boles = s.boles := rfl
@[simp] theorem State.onCans_dies (f : List Can → List Can) (s : State) : (s.onCans f).dies = s.dies := rfl
@[simp] theorem State.onCans_sos (f : List Can → List Can) (s : State) : (s.onCans f).sos = s.sos := rfl
@[simp] theorem State.onCans_gov (f : List Can → List Can) (s : State) : (s.onCans f).gov = s.gov := rfl
@[simp] theorem State.onCans_pins (f : List Can → List Can) (s : State) : (s.onCans f).pins = s.pins := rfl
@[simp] theorem State.onCans_uioMirror (f : List Can → List Can) (s : State) : (s.onCans f).uioMirror = s.uioMirror := rfl
@[simp] theorem State.onCans_sups (f : List Can → List Can) (s : State) : (s.onCans f).sups = s.sups := rfl
@[simp] theorem State.onCans_extIn (f : List Can → List Can) (s : State) : (s.onCans f).extIn = s.extIn := rfl
@[simp] theorem State.onCans_kts (f : List Can → List Can) (s : State) : (s.onCans f).kts = s.kts := rfl
@[simp] theorem State.onCans_kcs (f : List Can → List Can) (s : State) : (s.onCans f).kcs = s.kcs := rfl
@[simp] theorem State.onCans_sense (f : List Can → List Can) (s : State) : (s.onCans f).sense = s.sense := rfl
@[simp] theorem State.onCans_cans (f : List Can → List Can) (s : State) : (s.onCans f).cans = f s.cans := rfl
@[simp] theorem State.onCans_trxs (f : List Can → List Can) (s : State) : (s.onCans f).trxs = s.trxs := rfl
@[simp] theorem State.onCans_sec (f : List Can → List Can) (s : State) : (s.onCans f).sec = s.sec := rfl
@[simp] theorem State.onCans_svr (f : List Can → List Can) (s : State) : (s.onCans f).svr = s.svr := rfl
@[simp] theorem State.onCans_tly (f : List Can → List Can) (s : State) : (s.onCans f).tly = s.tly := rfl
@[simp] theorem State.onCans_doms (f : List Can → List Can) (s : State) : (s.onCans f).doms = s.doms := rfl
@[simp] theorem State.onCans_eth (f : List Can → List Can) (s : State) : (s.onCans f).eth = s.eth := rfl
@[simp] theorem State.onCans_lgw (f : List Can → List Can) (s : State) : (s.onCans f).lgw = s.lgw := rfl
@[simp] theorem State.onCans_gwbs (f : List Can → List Can) (s : State) : (s.onCans f).gwbs = s.gwbs := rfl
@[simp] theorem State.onCans_cpx (f : List Can → List Can) (s : State) : (s.onCans f).cpx = s.cpx := rfl
@[simp] theorem State.onCans_sil (f : List Can → List Can) (s : State) : (s.onCans f).sil = s.sil := rfl
@[simp] theorem State.onCans_pairU (f : List Can → List Can) (s : State) : (s.onCans f).pairU = s.pairU := rfl
@[simp] theorem State.onCans_upd (f : List Can → List Can) (s : State) : (s.onCans f).upd = s.upd := rfl
@[simp] theorem State.onCans_uart (f : List Can → List Can) (s : State) : (s.onCans f).uart = s.uart := rfl
@[simp] theorem State.onTrxs_pending (f : List Trx → List Trx) (s : State) : (s.onTrxs f).pending = s.pending := rfl
@[simp] theorem State.onTrxs_now (f : List Trx → List Trx) (s : State) : (s.onTrxs f).now = s.now := rfl
@[simp] theorem State.onTrxs_freeCtr (f : List Trx → List Trx) (s : State) : (s.onTrxs f).freeCtr = s.freeCtr := rfl
@[simp] theorem State.onTrxs_regs (f : List Trx → List Trx) (s : State) : (s.onTrxs f).regs = s.regs := rfl
@[simp] theorem State.onTrxs_staged (f : List Trx → List Trx) (s : State) : (s.onTrxs f).staged = s.staged := rfl
@[simp] theorem State.onTrxs_stagedTab (f : List Trx → List Trx) (s : State) : (s.onTrxs f).stagedTab = s.stagedTab := rfl
@[simp] theorem State.onTrxs_commits (f : List Trx → List Trx) (s : State) : (s.onTrxs f).commits = s.commits := rfl
@[simp] theorem State.onTrxs_mem (f : List Trx → List Trx) (s : State) : (s.onTrxs f).mem = s.mem := rfl
@[simp] theorem State.onTrxs_clk (f : List Trx → List Trx) (s : State) : (s.onTrxs f).clk = s.clk := rfl
@[simp] theorem State.onTrxs_bus (f : List Trx → List Trx) (s : State) : (s.onTrxs f).bus = s.bus := rfl
@[simp] theorem State.onTrxs_events (f : List Trx → List Trx) (s : State) : (s.onTrxs f).events = s.events := rfl
@[simp] theorem State.onTrxs_frm (f : List Trx → List Trx) (s : State) : (s.onTrxs f).frm = s.frm := rfl
@[simp] theorem State.onTrxs_mbxs (f : List Trx → List Trx) (s : State) : (s.onTrxs f).mbxs = s.mbxs := rfl
@[simp] theorem State.onTrxs_longs (f : List Trx → List Trx) (s : State) : (s.onTrxs f).longs = s.longs := rfl
@[simp] theorem State.onTrxs_svcBuf (f : List Trx → List Trx) (s : State) : (s.onTrxs f).svcBuf = s.svcBuf := rfl
@[simp] theorem State.onTrxs_fwVersion (f : List Trx → List Trx) (s : State) : (s.onTrxs f).fwVersion = s.fwVersion := rfl
@[simp] theorem State.onTrxs_records (f : List Trx → List Trx) (s : State) : (s.onTrxs f).records = s.records := rfl
@[simp] theorem State.onTrxs_queues (f : List Trx → List Trx) (s : State) : (s.onTrxs f).queues = s.queues := rfl
@[simp] theorem State.onTrxs_parts (f : List Trx → List Trx) (s : State) : (s.onTrxs f).parts = s.parts := rfl
@[simp] theorem State.onTrxs_inc (f : List Trx → List Trx) (s : State) : (s.onTrxs f).inc = s.inc := rfl
@[simp] theorem State.onTrxs_chans (f : List Trx → List Trx) (s : State) : (s.onTrxs f).chans = s.chans := rfl
@[simp] theorem State.onTrxs_boles (f : List Trx → List Trx) (s : State) : (s.onTrxs f).boles = s.boles := rfl
@[simp] theorem State.onTrxs_dies (f : List Trx → List Trx) (s : State) : (s.onTrxs f).dies = s.dies := rfl
@[simp] theorem State.onTrxs_sos (f : List Trx → List Trx) (s : State) : (s.onTrxs f).sos = s.sos := rfl
@[simp] theorem State.onTrxs_gov (f : List Trx → List Trx) (s : State) : (s.onTrxs f).gov = s.gov := rfl
@[simp] theorem State.onTrxs_pins (f : List Trx → List Trx) (s : State) : (s.onTrxs f).pins = s.pins := rfl
@[simp] theorem State.onTrxs_uioMirror (f : List Trx → List Trx) (s : State) : (s.onTrxs f).uioMirror = s.uioMirror := rfl
@[simp] theorem State.onTrxs_sups (f : List Trx → List Trx) (s : State) : (s.onTrxs f).sups = s.sups := rfl
@[simp] theorem State.onTrxs_extIn (f : List Trx → List Trx) (s : State) : (s.onTrxs f).extIn = s.extIn := rfl
@[simp] theorem State.onTrxs_kts (f : List Trx → List Trx) (s : State) : (s.onTrxs f).kts = s.kts := rfl
@[simp] theorem State.onTrxs_kcs (f : List Trx → List Trx) (s : State) : (s.onTrxs f).kcs = s.kcs := rfl
@[simp] theorem State.onTrxs_sense (f : List Trx → List Trx) (s : State) : (s.onTrxs f).sense = s.sense := rfl
@[simp] theorem State.onTrxs_cans (f : List Trx → List Trx) (s : State) : (s.onTrxs f).cans = s.cans := rfl
@[simp] theorem State.onTrxs_trxs (f : List Trx → List Trx) (s : State) : (s.onTrxs f).trxs = f s.trxs := rfl
@[simp] theorem State.onTrxs_sec (f : List Trx → List Trx) (s : State) : (s.onTrxs f).sec = s.sec := rfl
@[simp] theorem State.onTrxs_svr (f : List Trx → List Trx) (s : State) : (s.onTrxs f).svr = s.svr := rfl
@[simp] theorem State.onTrxs_tly (f : List Trx → List Trx) (s : State) : (s.onTrxs f).tly = s.tly := rfl
@[simp] theorem State.onTrxs_doms (f : List Trx → List Trx) (s : State) : (s.onTrxs f).doms = s.doms := rfl
@[simp] theorem State.onTrxs_eth (f : List Trx → List Trx) (s : State) : (s.onTrxs f).eth = s.eth := rfl
@[simp] theorem State.onTrxs_lgw (f : List Trx → List Trx) (s : State) : (s.onTrxs f).lgw = s.lgw := rfl
@[simp] theorem State.onTrxs_gwbs (f : List Trx → List Trx) (s : State) : (s.onTrxs f).gwbs = s.gwbs := rfl
@[simp] theorem State.onTrxs_cpx (f : List Trx → List Trx) (s : State) : (s.onTrxs f).cpx = s.cpx := rfl
@[simp] theorem State.onTrxs_sil (f : List Trx → List Trx) (s : State) : (s.onTrxs f).sil = s.sil := rfl
@[simp] theorem State.onTrxs_pairU (f : List Trx → List Trx) (s : State) : (s.onTrxs f).pairU = s.pairU := rfl
@[simp] theorem State.onTrxs_upd (f : List Trx → List Trx) (s : State) : (s.onTrxs f).upd = s.upd := rfl
@[simp] theorem State.onTrxs_uart (f : List Trx → List Trx) (s : State) : (s.onTrxs f).uart = s.uart := rfl
@[simp] theorem State.onSec_pending (f : Sec → Sec) (s : State) : (s.onSec f).pending = s.pending := rfl
@[simp] theorem State.onSec_now (f : Sec → Sec) (s : State) : (s.onSec f).now = s.now := rfl
@[simp] theorem State.onSec_freeCtr (f : Sec → Sec) (s : State) : (s.onSec f).freeCtr = s.freeCtr := rfl
@[simp] theorem State.onSec_regs (f : Sec → Sec) (s : State) : (s.onSec f).regs = s.regs := rfl
@[simp] theorem State.onSec_staged (f : Sec → Sec) (s : State) : (s.onSec f).staged = s.staged := rfl
@[simp] theorem State.onSec_stagedTab (f : Sec → Sec) (s : State) : (s.onSec f).stagedTab = s.stagedTab := rfl
@[simp] theorem State.onSec_commits (f : Sec → Sec) (s : State) : (s.onSec f).commits = s.commits := rfl
@[simp] theorem State.onSec_mem (f : Sec → Sec) (s : State) : (s.onSec f).mem = s.mem := rfl
@[simp] theorem State.onSec_clk (f : Sec → Sec) (s : State) : (s.onSec f).clk = s.clk := rfl
@[simp] theorem State.onSec_bus (f : Sec → Sec) (s : State) : (s.onSec f).bus = s.bus := rfl
@[simp] theorem State.onSec_events (f : Sec → Sec) (s : State) : (s.onSec f).events = s.events := rfl
@[simp] theorem State.onSec_frm (f : Sec → Sec) (s : State) : (s.onSec f).frm = s.frm := rfl
@[simp] theorem State.onSec_mbxs (f : Sec → Sec) (s : State) : (s.onSec f).mbxs = s.mbxs := rfl
@[simp] theorem State.onSec_longs (f : Sec → Sec) (s : State) : (s.onSec f).longs = s.longs := rfl
@[simp] theorem State.onSec_svcBuf (f : Sec → Sec) (s : State) : (s.onSec f).svcBuf = s.svcBuf := rfl
@[simp] theorem State.onSec_fwVersion (f : Sec → Sec) (s : State) : (s.onSec f).fwVersion = s.fwVersion := rfl
@[simp] theorem State.onSec_records (f : Sec → Sec) (s : State) : (s.onSec f).records = s.records := rfl
@[simp] theorem State.onSec_queues (f : Sec → Sec) (s : State) : (s.onSec f).queues = s.queues := rfl
@[simp] theorem State.onSec_parts (f : Sec → Sec) (s : State) : (s.onSec f).parts = s.parts := rfl
@[simp] theorem State.onSec_inc (f : Sec → Sec) (s : State) : (s.onSec f).inc = s.inc := rfl
@[simp] theorem State.onSec_chans (f : Sec → Sec) (s : State) : (s.onSec f).chans = s.chans := rfl
@[simp] theorem State.onSec_boles (f : Sec → Sec) (s : State) : (s.onSec f).boles = s.boles := rfl
@[simp] theorem State.onSec_dies (f : Sec → Sec) (s : State) : (s.onSec f).dies = s.dies := rfl
@[simp] theorem State.onSec_sos (f : Sec → Sec) (s : State) : (s.onSec f).sos = s.sos := rfl
@[simp] theorem State.onSec_gov (f : Sec → Sec) (s : State) : (s.onSec f).gov = s.gov := rfl
@[simp] theorem State.onSec_pins (f : Sec → Sec) (s : State) : (s.onSec f).pins = s.pins := rfl
@[simp] theorem State.onSec_uioMirror (f : Sec → Sec) (s : State) : (s.onSec f).uioMirror = s.uioMirror := rfl
@[simp] theorem State.onSec_sups (f : Sec → Sec) (s : State) : (s.onSec f).sups = s.sups := rfl
@[simp] theorem State.onSec_extIn (f : Sec → Sec) (s : State) : (s.onSec f).extIn = s.extIn := rfl
@[simp] theorem State.onSec_kts (f : Sec → Sec) (s : State) : (s.onSec f).kts = s.kts := rfl
@[simp] theorem State.onSec_kcs (f : Sec → Sec) (s : State) : (s.onSec f).kcs = s.kcs := rfl
@[simp] theorem State.onSec_sense (f : Sec → Sec) (s : State) : (s.onSec f).sense = s.sense := rfl
@[simp] theorem State.onSec_cans (f : Sec → Sec) (s : State) : (s.onSec f).cans = s.cans := rfl
@[simp] theorem State.onSec_trxs (f : Sec → Sec) (s : State) : (s.onSec f).trxs = s.trxs := rfl
@[simp] theorem State.onSec_sec (f : Sec → Sec) (s : State) : (s.onSec f).sec = f s.sec := rfl
@[simp] theorem State.onSec_svr (f : Sec → Sec) (s : State) : (s.onSec f).svr = s.svr := rfl
@[simp] theorem State.onSec_tly (f : Sec → Sec) (s : State) : (s.onSec f).tly = s.tly := rfl
@[simp] theorem State.onSec_doms (f : Sec → Sec) (s : State) : (s.onSec f).doms = s.doms := rfl
@[simp] theorem State.onSec_eth (f : Sec → Sec) (s : State) : (s.onSec f).eth = s.eth := rfl
@[simp] theorem State.onSec_lgw (f : Sec → Sec) (s : State) : (s.onSec f).lgw = s.lgw := rfl
@[simp] theorem State.onSec_gwbs (f : Sec → Sec) (s : State) : (s.onSec f).gwbs = s.gwbs := rfl
@[simp] theorem State.onSec_cpx (f : Sec → Sec) (s : State) : (s.onSec f).cpx = s.cpx := rfl
@[simp] theorem State.onSec_sil (f : Sec → Sec) (s : State) : (s.onSec f).sil = s.sil := rfl
@[simp] theorem State.onSec_pairU (f : Sec → Sec) (s : State) : (s.onSec f).pairU = s.pairU := rfl
@[simp] theorem State.onSec_upd (f : Sec → Sec) (s : State) : (s.onSec f).upd = s.upd := rfl
@[simp] theorem State.onSec_uart (f : Sec → Sec) (s : State) : (s.onSec f).uart = s.uart := rfl
@[simp] theorem State.onSvr_pending (f : Sup → Sup) (s : State) : (s.onSvr f).pending = s.pending := rfl
@[simp] theorem State.onSvr_now (f : Sup → Sup) (s : State) : (s.onSvr f).now = s.now := rfl
@[simp] theorem State.onSvr_freeCtr (f : Sup → Sup) (s : State) : (s.onSvr f).freeCtr = s.freeCtr := rfl
@[simp] theorem State.onSvr_regs (f : Sup → Sup) (s : State) : (s.onSvr f).regs = s.regs := rfl
@[simp] theorem State.onSvr_staged (f : Sup → Sup) (s : State) : (s.onSvr f).staged = s.staged := rfl
@[simp] theorem State.onSvr_stagedTab (f : Sup → Sup) (s : State) : (s.onSvr f).stagedTab = s.stagedTab := rfl
@[simp] theorem State.onSvr_commits (f : Sup → Sup) (s : State) : (s.onSvr f).commits = s.commits := rfl
@[simp] theorem State.onSvr_mem (f : Sup → Sup) (s : State) : (s.onSvr f).mem = s.mem := rfl
@[simp] theorem State.onSvr_clk (f : Sup → Sup) (s : State) : (s.onSvr f).clk = s.clk := rfl
@[simp] theorem State.onSvr_bus (f : Sup → Sup) (s : State) : (s.onSvr f).bus = s.bus := rfl
@[simp] theorem State.onSvr_events (f : Sup → Sup) (s : State) : (s.onSvr f).events = s.events := rfl
@[simp] theorem State.onSvr_frm (f : Sup → Sup) (s : State) : (s.onSvr f).frm = s.frm := rfl
@[simp] theorem State.onSvr_mbxs (f : Sup → Sup) (s : State) : (s.onSvr f).mbxs = s.mbxs := rfl
@[simp] theorem State.onSvr_longs (f : Sup → Sup) (s : State) : (s.onSvr f).longs = s.longs := rfl
@[simp] theorem State.onSvr_svcBuf (f : Sup → Sup) (s : State) : (s.onSvr f).svcBuf = s.svcBuf := rfl
@[simp] theorem State.onSvr_fwVersion (f : Sup → Sup) (s : State) : (s.onSvr f).fwVersion = s.fwVersion := rfl
@[simp] theorem State.onSvr_records (f : Sup → Sup) (s : State) : (s.onSvr f).records = s.records := rfl
@[simp] theorem State.onSvr_queues (f : Sup → Sup) (s : State) : (s.onSvr f).queues = s.queues := rfl
@[simp] theorem State.onSvr_parts (f : Sup → Sup) (s : State) : (s.onSvr f).parts = s.parts := rfl
@[simp] theorem State.onSvr_inc (f : Sup → Sup) (s : State) : (s.onSvr f).inc = s.inc := rfl
@[simp] theorem State.onSvr_chans (f : Sup → Sup) (s : State) : (s.onSvr f).chans = s.chans := rfl
@[simp] theorem State.onSvr_boles (f : Sup → Sup) (s : State) : (s.onSvr f).boles = s.boles := rfl
@[simp] theorem State.onSvr_dies (f : Sup → Sup) (s : State) : (s.onSvr f).dies = s.dies := rfl
@[simp] theorem State.onSvr_sos (f : Sup → Sup) (s : State) : (s.onSvr f).sos = s.sos := rfl
@[simp] theorem State.onSvr_gov (f : Sup → Sup) (s : State) : (s.onSvr f).gov = s.gov := rfl
@[simp] theorem State.onSvr_pins (f : Sup → Sup) (s : State) : (s.onSvr f).pins = s.pins := rfl
@[simp] theorem State.onSvr_uioMirror (f : Sup → Sup) (s : State) : (s.onSvr f).uioMirror = s.uioMirror := rfl
@[simp] theorem State.onSvr_sups (f : Sup → Sup) (s : State) : (s.onSvr f).sups = s.sups := rfl
@[simp] theorem State.onSvr_extIn (f : Sup → Sup) (s : State) : (s.onSvr f).extIn = s.extIn := rfl
@[simp] theorem State.onSvr_kts (f : Sup → Sup) (s : State) : (s.onSvr f).kts = s.kts := rfl
@[simp] theorem State.onSvr_kcs (f : Sup → Sup) (s : State) : (s.onSvr f).kcs = s.kcs := rfl
@[simp] theorem State.onSvr_sense (f : Sup → Sup) (s : State) : (s.onSvr f).sense = s.sense := rfl
@[simp] theorem State.onSvr_cans (f : Sup → Sup) (s : State) : (s.onSvr f).cans = s.cans := rfl
@[simp] theorem State.onSvr_trxs (f : Sup → Sup) (s : State) : (s.onSvr f).trxs = s.trxs := rfl
@[simp] theorem State.onSvr_sec (f : Sup → Sup) (s : State) : (s.onSvr f).sec = s.sec := rfl
@[simp] theorem State.onSvr_svr (f : Sup → Sup) (s : State) : (s.onSvr f).svr = f s.svr := rfl
@[simp] theorem State.onSvr_tly (f : Sup → Sup) (s : State) : (s.onSvr f).tly = s.tly := rfl
@[simp] theorem State.onSvr_doms (f : Sup → Sup) (s : State) : (s.onSvr f).doms = s.doms := rfl
@[simp] theorem State.onSvr_eth (f : Sup → Sup) (s : State) : (s.onSvr f).eth = s.eth := rfl
@[simp] theorem State.onSvr_lgw (f : Sup → Sup) (s : State) : (s.onSvr f).lgw = s.lgw := rfl
@[simp] theorem State.onSvr_gwbs (f : Sup → Sup) (s : State) : (s.onSvr f).gwbs = s.gwbs := rfl
@[simp] theorem State.onSvr_cpx (f : Sup → Sup) (s : State) : (s.onSvr f).cpx = s.cpx := rfl
@[simp] theorem State.onSvr_sil (f : Sup → Sup) (s : State) : (s.onSvr f).sil = s.sil := rfl
@[simp] theorem State.onSvr_pairU (f : Sup → Sup) (s : State) : (s.onSvr f).pairU = s.pairU := rfl
@[simp] theorem State.onSvr_upd (f : Sup → Sup) (s : State) : (s.onSvr f).upd = s.upd := rfl
@[simp] theorem State.onSvr_uart (f : Sup → Sup) (s : State) : (s.onSvr f).uart = s.uart := rfl
@[simp] theorem State.onTly_pending (f : Tally → Tally) (s : State) : (s.onTly f).pending = s.pending := rfl
@[simp] theorem State.onTly_now (f : Tally → Tally) (s : State) : (s.onTly f).now = s.now := rfl
@[simp] theorem State.onTly_freeCtr (f : Tally → Tally) (s : State) : (s.onTly f).freeCtr = s.freeCtr := rfl
@[simp] theorem State.onTly_regs (f : Tally → Tally) (s : State) : (s.onTly f).regs = s.regs := rfl
@[simp] theorem State.onTly_staged (f : Tally → Tally) (s : State) : (s.onTly f).staged = s.staged := rfl
@[simp] theorem State.onTly_stagedTab (f : Tally → Tally) (s : State) : (s.onTly f).stagedTab = s.stagedTab := rfl
@[simp] theorem State.onTly_commits (f : Tally → Tally) (s : State) : (s.onTly f).commits = s.commits := rfl
@[simp] theorem State.onTly_mem (f : Tally → Tally) (s : State) : (s.onTly f).mem = s.mem := rfl
@[simp] theorem State.onTly_clk (f : Tally → Tally) (s : State) : (s.onTly f).clk = s.clk := rfl
@[simp] theorem State.onTly_bus (f : Tally → Tally) (s : State) : (s.onTly f).bus = s.bus := rfl
@[simp] theorem State.onTly_events (f : Tally → Tally) (s : State) : (s.onTly f).events = s.events := rfl
@[simp] theorem State.onTly_frm (f : Tally → Tally) (s : State) : (s.onTly f).frm = s.frm := rfl
@[simp] theorem State.onTly_mbxs (f : Tally → Tally) (s : State) : (s.onTly f).mbxs = s.mbxs := rfl
@[simp] theorem State.onTly_longs (f : Tally → Tally) (s : State) : (s.onTly f).longs = s.longs := rfl
@[simp] theorem State.onTly_svcBuf (f : Tally → Tally) (s : State) : (s.onTly f).svcBuf = s.svcBuf := rfl
@[simp] theorem State.onTly_fwVersion (f : Tally → Tally) (s : State) : (s.onTly f).fwVersion = s.fwVersion := rfl
@[simp] theorem State.onTly_records (f : Tally → Tally) (s : State) : (s.onTly f).records = s.records := rfl
@[simp] theorem State.onTly_queues (f : Tally → Tally) (s : State) : (s.onTly f).queues = s.queues := rfl
@[simp] theorem State.onTly_parts (f : Tally → Tally) (s : State) : (s.onTly f).parts = s.parts := rfl
@[simp] theorem State.onTly_inc (f : Tally → Tally) (s : State) : (s.onTly f).inc = s.inc := rfl
@[simp] theorem State.onTly_chans (f : Tally → Tally) (s : State) : (s.onTly f).chans = s.chans := rfl
@[simp] theorem State.onTly_boles (f : Tally → Tally) (s : State) : (s.onTly f).boles = s.boles := rfl
@[simp] theorem State.onTly_dies (f : Tally → Tally) (s : State) : (s.onTly f).dies = s.dies := rfl
@[simp] theorem State.onTly_sos (f : Tally → Tally) (s : State) : (s.onTly f).sos = s.sos := rfl
@[simp] theorem State.onTly_gov (f : Tally → Tally) (s : State) : (s.onTly f).gov = s.gov := rfl
@[simp] theorem State.onTly_pins (f : Tally → Tally) (s : State) : (s.onTly f).pins = s.pins := rfl
@[simp] theorem State.onTly_uioMirror (f : Tally → Tally) (s : State) : (s.onTly f).uioMirror = s.uioMirror := rfl
@[simp] theorem State.onTly_sups (f : Tally → Tally) (s : State) : (s.onTly f).sups = s.sups := rfl
@[simp] theorem State.onTly_extIn (f : Tally → Tally) (s : State) : (s.onTly f).extIn = s.extIn := rfl
@[simp] theorem State.onTly_kts (f : Tally → Tally) (s : State) : (s.onTly f).kts = s.kts := rfl
@[simp] theorem State.onTly_kcs (f : Tally → Tally) (s : State) : (s.onTly f).kcs = s.kcs := rfl
@[simp] theorem State.onTly_sense (f : Tally → Tally) (s : State) : (s.onTly f).sense = s.sense := rfl
@[simp] theorem State.onTly_cans (f : Tally → Tally) (s : State) : (s.onTly f).cans = s.cans := rfl
@[simp] theorem State.onTly_trxs (f : Tally → Tally) (s : State) : (s.onTly f).trxs = s.trxs := rfl
@[simp] theorem State.onTly_sec (f : Tally → Tally) (s : State) : (s.onTly f).sec = s.sec := rfl
@[simp] theorem State.onTly_svr (f : Tally → Tally) (s : State) : (s.onTly f).svr = s.svr := rfl
@[simp] theorem State.onTly_tly (f : Tally → Tally) (s : State) : (s.onTly f).tly = f s.tly := rfl
@[simp] theorem State.onTly_doms (f : Tally → Tally) (s : State) : (s.onTly f).doms = s.doms := rfl
@[simp] theorem State.onTly_eth (f : Tally → Tally) (s : State) : (s.onTly f).eth = s.eth := rfl
@[simp] theorem State.onTly_lgw (f : Tally → Tally) (s : State) : (s.onTly f).lgw = s.lgw := rfl
@[simp] theorem State.onTly_gwbs (f : Tally → Tally) (s : State) : (s.onTly f).gwbs = s.gwbs := rfl
@[simp] theorem State.onTly_cpx (f : Tally → Tally) (s : State) : (s.onTly f).cpx = s.cpx := rfl
@[simp] theorem State.onTly_sil (f : Tally → Tally) (s : State) : (s.onTly f).sil = s.sil := rfl
@[simp] theorem State.onTly_pairU (f : Tally → Tally) (s : State) : (s.onTly f).pairU = s.pairU := rfl
@[simp] theorem State.onTly_upd (f : Tally → Tally) (s : State) : (s.onTly f).upd = s.upd := rfl
@[simp] theorem State.onTly_uart (f : Tally → Tally) (s : State) : (s.onTly f).uart = s.uart := rfl
@[simp] theorem State.onDoms_pending (f : List Dom → List Dom) (s : State) : (s.onDoms f).pending = s.pending := rfl
@[simp] theorem State.onDoms_now (f : List Dom → List Dom) (s : State) : (s.onDoms f).now = s.now := rfl
@[simp] theorem State.onDoms_freeCtr (f : List Dom → List Dom) (s : State) : (s.onDoms f).freeCtr = s.freeCtr := rfl
@[simp] theorem State.onDoms_regs (f : List Dom → List Dom) (s : State) : (s.onDoms f).regs = s.regs := rfl
@[simp] theorem State.onDoms_staged (f : List Dom → List Dom) (s : State) : (s.onDoms f).staged = s.staged := rfl
@[simp] theorem State.onDoms_stagedTab (f : List Dom → List Dom) (s : State) : (s.onDoms f).stagedTab = s.stagedTab := rfl
@[simp] theorem State.onDoms_commits (f : List Dom → List Dom) (s : State) : (s.onDoms f).commits = s.commits := rfl
@[simp] theorem State.onDoms_mem (f : List Dom → List Dom) (s : State) : (s.onDoms f).mem = s.mem := rfl
@[simp] theorem State.onDoms_clk (f : List Dom → List Dom) (s : State) : (s.onDoms f).clk = s.clk := rfl
@[simp] theorem State.onDoms_bus (f : List Dom → List Dom) (s : State) : (s.onDoms f).bus = s.bus := rfl
@[simp] theorem State.onDoms_events (f : List Dom → List Dom) (s : State) : (s.onDoms f).events = s.events := rfl
@[simp] theorem State.onDoms_frm (f : List Dom → List Dom) (s : State) : (s.onDoms f).frm = s.frm := rfl
@[simp] theorem State.onDoms_mbxs (f : List Dom → List Dom) (s : State) : (s.onDoms f).mbxs = s.mbxs := rfl
@[simp] theorem State.onDoms_longs (f : List Dom → List Dom) (s : State) : (s.onDoms f).longs = s.longs := rfl
@[simp] theorem State.onDoms_svcBuf (f : List Dom → List Dom) (s : State) : (s.onDoms f).svcBuf = s.svcBuf := rfl
@[simp] theorem State.onDoms_fwVersion (f : List Dom → List Dom) (s : State) : (s.onDoms f).fwVersion = s.fwVersion := rfl
@[simp] theorem State.onDoms_records (f : List Dom → List Dom) (s : State) : (s.onDoms f).records = s.records := rfl
@[simp] theorem State.onDoms_queues (f : List Dom → List Dom) (s : State) : (s.onDoms f).queues = s.queues := rfl
@[simp] theorem State.onDoms_parts (f : List Dom → List Dom) (s : State) : (s.onDoms f).parts = s.parts := rfl
@[simp] theorem State.onDoms_inc (f : List Dom → List Dom) (s : State) : (s.onDoms f).inc = s.inc := rfl
@[simp] theorem State.onDoms_chans (f : List Dom → List Dom) (s : State) : (s.onDoms f).chans = s.chans := rfl
@[simp] theorem State.onDoms_boles (f : List Dom → List Dom) (s : State) : (s.onDoms f).boles = s.boles := rfl
@[simp] theorem State.onDoms_dies (f : List Dom → List Dom) (s : State) : (s.onDoms f).dies = s.dies := rfl
@[simp] theorem State.onDoms_sos (f : List Dom → List Dom) (s : State) : (s.onDoms f).sos = s.sos := rfl
@[simp] theorem State.onDoms_gov (f : List Dom → List Dom) (s : State) : (s.onDoms f).gov = s.gov := rfl
@[simp] theorem State.onDoms_pins (f : List Dom → List Dom) (s : State) : (s.onDoms f).pins = s.pins := rfl
@[simp] theorem State.onDoms_uioMirror (f : List Dom → List Dom) (s : State) : (s.onDoms f).uioMirror = s.uioMirror := rfl
@[simp] theorem State.onDoms_sups (f : List Dom → List Dom) (s : State) : (s.onDoms f).sups = s.sups := rfl
@[simp] theorem State.onDoms_extIn (f : List Dom → List Dom) (s : State) : (s.onDoms f).extIn = s.extIn := rfl
@[simp] theorem State.onDoms_kts (f : List Dom → List Dom) (s : State) : (s.onDoms f).kts = s.kts := rfl
@[simp] theorem State.onDoms_kcs (f : List Dom → List Dom) (s : State) : (s.onDoms f).kcs = s.kcs := rfl
@[simp] theorem State.onDoms_sense (f : List Dom → List Dom) (s : State) : (s.onDoms f).sense = s.sense := rfl
@[simp] theorem State.onDoms_cans (f : List Dom → List Dom) (s : State) : (s.onDoms f).cans = s.cans := rfl
@[simp] theorem State.onDoms_trxs (f : List Dom → List Dom) (s : State) : (s.onDoms f).trxs = s.trxs := rfl
@[simp] theorem State.onDoms_sec (f : List Dom → List Dom) (s : State) : (s.onDoms f).sec = s.sec := rfl
@[simp] theorem State.onDoms_svr (f : List Dom → List Dom) (s : State) : (s.onDoms f).svr = s.svr := rfl
@[simp] theorem State.onDoms_tly (f : List Dom → List Dom) (s : State) : (s.onDoms f).tly = s.tly := rfl
@[simp] theorem State.onDoms_doms (f : List Dom → List Dom) (s : State) : (s.onDoms f).doms = f s.doms := rfl
@[simp] theorem State.onDoms_eth (f : List Dom → List Dom) (s : State) : (s.onDoms f).eth = s.eth := rfl
@[simp] theorem State.onDoms_lgw (f : List Dom → List Dom) (s : State) : (s.onDoms f).lgw = s.lgw := rfl
@[simp] theorem State.onDoms_gwbs (f : List Dom → List Dom) (s : State) : (s.onDoms f).gwbs = s.gwbs := rfl
@[simp] theorem State.onDoms_cpx (f : List Dom → List Dom) (s : State) : (s.onDoms f).cpx = s.cpx := rfl
@[simp] theorem State.onDoms_sil (f : List Dom → List Dom) (s : State) : (s.onDoms f).sil = s.sil := rfl
@[simp] theorem State.onDoms_pairU (f : List Dom → List Dom) (s : State) : (s.onDoms f).pairU = s.pairU := rfl
@[simp] theorem State.onDoms_upd (f : List Dom → List Dom) (s : State) : (s.onDoms f).upd = s.upd := rfl
@[simp] theorem State.onDoms_uart (f : List Dom → List Dom) (s : State) : (s.onDoms f).uart = s.uart := rfl
@[simp] theorem State.onEth_pending (f : Eth → Eth) (s : State) : (s.onEth f).pending = s.pending := rfl
@[simp] theorem State.onEth_now (f : Eth → Eth) (s : State) : (s.onEth f).now = s.now := rfl
@[simp] theorem State.onEth_freeCtr (f : Eth → Eth) (s : State) : (s.onEth f).freeCtr = s.freeCtr := rfl
@[simp] theorem State.onEth_regs (f : Eth → Eth) (s : State) : (s.onEth f).regs = s.regs := rfl
@[simp] theorem State.onEth_staged (f : Eth → Eth) (s : State) : (s.onEth f).staged = s.staged := rfl
@[simp] theorem State.onEth_stagedTab (f : Eth → Eth) (s : State) : (s.onEth f).stagedTab = s.stagedTab := rfl
@[simp] theorem State.onEth_commits (f : Eth → Eth) (s : State) : (s.onEth f).commits = s.commits := rfl
@[simp] theorem State.onEth_mem (f : Eth → Eth) (s : State) : (s.onEth f).mem = s.mem := rfl
@[simp] theorem State.onEth_clk (f : Eth → Eth) (s : State) : (s.onEth f).clk = s.clk := rfl
@[simp] theorem State.onEth_bus (f : Eth → Eth) (s : State) : (s.onEth f).bus = s.bus := rfl
@[simp] theorem State.onEth_events (f : Eth → Eth) (s : State) : (s.onEth f).events = s.events := rfl
@[simp] theorem State.onEth_frm (f : Eth → Eth) (s : State) : (s.onEth f).frm = s.frm := rfl
@[simp] theorem State.onEth_mbxs (f : Eth → Eth) (s : State) : (s.onEth f).mbxs = s.mbxs := rfl
@[simp] theorem State.onEth_longs (f : Eth → Eth) (s : State) : (s.onEth f).longs = s.longs := rfl
@[simp] theorem State.onEth_svcBuf (f : Eth → Eth) (s : State) : (s.onEth f).svcBuf = s.svcBuf := rfl
@[simp] theorem State.onEth_fwVersion (f : Eth → Eth) (s : State) : (s.onEth f).fwVersion = s.fwVersion := rfl
@[simp] theorem State.onEth_records (f : Eth → Eth) (s : State) : (s.onEth f).records = s.records := rfl
@[simp] theorem State.onEth_queues (f : Eth → Eth) (s : State) : (s.onEth f).queues = s.queues := rfl
@[simp] theorem State.onEth_parts (f : Eth → Eth) (s : State) : (s.onEth f).parts = s.parts := rfl
@[simp] theorem State.onEth_inc (f : Eth → Eth) (s : State) : (s.onEth f).inc = s.inc := rfl
@[simp] theorem State.onEth_chans (f : Eth → Eth) (s : State) : (s.onEth f).chans = s.chans := rfl
@[simp] theorem State.onEth_boles (f : Eth → Eth) (s : State) : (s.onEth f).boles = s.boles := rfl
@[simp] theorem State.onEth_dies (f : Eth → Eth) (s : State) : (s.onEth f).dies = s.dies := rfl
@[simp] theorem State.onEth_sos (f : Eth → Eth) (s : State) : (s.onEth f).sos = s.sos := rfl
@[simp] theorem State.onEth_gov (f : Eth → Eth) (s : State) : (s.onEth f).gov = s.gov := rfl
@[simp] theorem State.onEth_pins (f : Eth → Eth) (s : State) : (s.onEth f).pins = s.pins := rfl
@[simp] theorem State.onEth_uioMirror (f : Eth → Eth) (s : State) : (s.onEth f).uioMirror = s.uioMirror := rfl
@[simp] theorem State.onEth_sups (f : Eth → Eth) (s : State) : (s.onEth f).sups = s.sups := rfl
@[simp] theorem State.onEth_extIn (f : Eth → Eth) (s : State) : (s.onEth f).extIn = s.extIn := rfl
@[simp] theorem State.onEth_kts (f : Eth → Eth) (s : State) : (s.onEth f).kts = s.kts := rfl
@[simp] theorem State.onEth_kcs (f : Eth → Eth) (s : State) : (s.onEth f).kcs = s.kcs := rfl
@[simp] theorem State.onEth_sense (f : Eth → Eth) (s : State) : (s.onEth f).sense = s.sense := rfl
@[simp] theorem State.onEth_cans (f : Eth → Eth) (s : State) : (s.onEth f).cans = s.cans := rfl
@[simp] theorem State.onEth_trxs (f : Eth → Eth) (s : State) : (s.onEth f).trxs = s.trxs := rfl
@[simp] theorem State.onEth_sec (f : Eth → Eth) (s : State) : (s.onEth f).sec = s.sec := rfl
@[simp] theorem State.onEth_svr (f : Eth → Eth) (s : State) : (s.onEth f).svr = s.svr := rfl
@[simp] theorem State.onEth_tly (f : Eth → Eth) (s : State) : (s.onEth f).tly = s.tly := rfl
@[simp] theorem State.onEth_doms (f : Eth → Eth) (s : State) : (s.onEth f).doms = s.doms := rfl
@[simp] theorem State.onEth_eth (f : Eth → Eth) (s : State) : (s.onEth f).eth = f s.eth := rfl
@[simp] theorem State.onEth_lgw (f : Eth → Eth) (s : State) : (s.onEth f).lgw = s.lgw := rfl
@[simp] theorem State.onEth_gwbs (f : Eth → Eth) (s : State) : (s.onEth f).gwbs = s.gwbs := rfl
@[simp] theorem State.onEth_cpx (f : Eth → Eth) (s : State) : (s.onEth f).cpx = s.cpx := rfl
@[simp] theorem State.onEth_sil (f : Eth → Eth) (s : State) : (s.onEth f).sil = s.sil := rfl
@[simp] theorem State.onEth_pairU (f : Eth → Eth) (s : State) : (s.onEth f).pairU = s.pairU := rfl
@[simp] theorem State.onEth_upd (f : Eth → Eth) (s : State) : (s.onEth f).upd = s.upd := rfl
@[simp] theorem State.onEth_uart (f : Eth → Eth) (s : State) : (s.onEth f).uart = s.uart := rfl
@[simp] theorem State.onLgw_pending (f : Lgw → Lgw) (s : State) : (s.onLgw f).pending = s.pending := rfl
@[simp] theorem State.onLgw_now (f : Lgw → Lgw) (s : State) : (s.onLgw f).now = s.now := rfl
@[simp] theorem State.onLgw_freeCtr (f : Lgw → Lgw) (s : State) : (s.onLgw f).freeCtr = s.freeCtr := rfl
@[simp] theorem State.onLgw_regs (f : Lgw → Lgw) (s : State) : (s.onLgw f).regs = s.regs := rfl
@[simp] theorem State.onLgw_staged (f : Lgw → Lgw) (s : State) : (s.onLgw f).staged = s.staged := rfl
@[simp] theorem State.onLgw_stagedTab (f : Lgw → Lgw) (s : State) : (s.onLgw f).stagedTab = s.stagedTab := rfl
@[simp] theorem State.onLgw_commits (f : Lgw → Lgw) (s : State) : (s.onLgw f).commits = s.commits := rfl
@[simp] theorem State.onLgw_mem (f : Lgw → Lgw) (s : State) : (s.onLgw f).mem = s.mem := rfl
@[simp] theorem State.onLgw_clk (f : Lgw → Lgw) (s : State) : (s.onLgw f).clk = s.clk := rfl
@[simp] theorem State.onLgw_bus (f : Lgw → Lgw) (s : State) : (s.onLgw f).bus = s.bus := rfl
@[simp] theorem State.onLgw_events (f : Lgw → Lgw) (s : State) : (s.onLgw f).events = s.events := rfl
@[simp] theorem State.onLgw_frm (f : Lgw → Lgw) (s : State) : (s.onLgw f).frm = s.frm := rfl
@[simp] theorem State.onLgw_mbxs (f : Lgw → Lgw) (s : State) : (s.onLgw f).mbxs = s.mbxs := rfl
@[simp] theorem State.onLgw_longs (f : Lgw → Lgw) (s : State) : (s.onLgw f).longs = s.longs := rfl
@[simp] theorem State.onLgw_svcBuf (f : Lgw → Lgw) (s : State) : (s.onLgw f).svcBuf = s.svcBuf := rfl
@[simp] theorem State.onLgw_fwVersion (f : Lgw → Lgw) (s : State) : (s.onLgw f).fwVersion = s.fwVersion := rfl
@[simp] theorem State.onLgw_records (f : Lgw → Lgw) (s : State) : (s.onLgw f).records = s.records := rfl
@[simp] theorem State.onLgw_queues (f : Lgw → Lgw) (s : State) : (s.onLgw f).queues = s.queues := rfl
@[simp] theorem State.onLgw_parts (f : Lgw → Lgw) (s : State) : (s.onLgw f).parts = s.parts := rfl
@[simp] theorem State.onLgw_inc (f : Lgw → Lgw) (s : State) : (s.onLgw f).inc = s.inc := rfl
@[simp] theorem State.onLgw_chans (f : Lgw → Lgw) (s : State) : (s.onLgw f).chans = s.chans := rfl
@[simp] theorem State.onLgw_boles (f : Lgw → Lgw) (s : State) : (s.onLgw f).boles = s.boles := rfl
@[simp] theorem State.onLgw_dies (f : Lgw → Lgw) (s : State) : (s.onLgw f).dies = s.dies := rfl
@[simp] theorem State.onLgw_sos (f : Lgw → Lgw) (s : State) : (s.onLgw f).sos = s.sos := rfl
@[simp] theorem State.onLgw_gov (f : Lgw → Lgw) (s : State) : (s.onLgw f).gov = s.gov := rfl
@[simp] theorem State.onLgw_pins (f : Lgw → Lgw) (s : State) : (s.onLgw f).pins = s.pins := rfl
@[simp] theorem State.onLgw_uioMirror (f : Lgw → Lgw) (s : State) : (s.onLgw f).uioMirror = s.uioMirror := rfl
@[simp] theorem State.onLgw_sups (f : Lgw → Lgw) (s : State) : (s.onLgw f).sups = s.sups := rfl
@[simp] theorem State.onLgw_extIn (f : Lgw → Lgw) (s : State) : (s.onLgw f).extIn = s.extIn := rfl
@[simp] theorem State.onLgw_kts (f : Lgw → Lgw) (s : State) : (s.onLgw f).kts = s.kts := rfl
@[simp] theorem State.onLgw_kcs (f : Lgw → Lgw) (s : State) : (s.onLgw f).kcs = s.kcs := rfl
@[simp] theorem State.onLgw_sense (f : Lgw → Lgw) (s : State) : (s.onLgw f).sense = s.sense := rfl
@[simp] theorem State.onLgw_cans (f : Lgw → Lgw) (s : State) : (s.onLgw f).cans = s.cans := rfl
@[simp] theorem State.onLgw_trxs (f : Lgw → Lgw) (s : State) : (s.onLgw f).trxs = s.trxs := rfl
@[simp] theorem State.onLgw_sec (f : Lgw → Lgw) (s : State) : (s.onLgw f).sec = s.sec := rfl
@[simp] theorem State.onLgw_svr (f : Lgw → Lgw) (s : State) : (s.onLgw f).svr = s.svr := rfl
@[simp] theorem State.onLgw_tly (f : Lgw → Lgw) (s : State) : (s.onLgw f).tly = s.tly := rfl
@[simp] theorem State.onLgw_doms (f : Lgw → Lgw) (s : State) : (s.onLgw f).doms = s.doms := rfl
@[simp] theorem State.onLgw_eth (f : Lgw → Lgw) (s : State) : (s.onLgw f).eth = s.eth := rfl
@[simp] theorem State.onLgw_lgw (f : Lgw → Lgw) (s : State) : (s.onLgw f).lgw = f s.lgw := rfl
@[simp] theorem State.onLgw_gwbs (f : Lgw → Lgw) (s : State) : (s.onLgw f).gwbs = s.gwbs := rfl
@[simp] theorem State.onLgw_cpx (f : Lgw → Lgw) (s : State) : (s.onLgw f).cpx = s.cpx := rfl
@[simp] theorem State.onLgw_sil (f : Lgw → Lgw) (s : State) : (s.onLgw f).sil = s.sil := rfl
@[simp] theorem State.onLgw_pairU (f : Lgw → Lgw) (s : State) : (s.onLgw f).pairU = s.pairU := rfl
@[simp] theorem State.onLgw_upd (f : Lgw → Lgw) (s : State) : (s.onLgw f).upd = s.upd := rfl
@[simp] theorem State.onLgw_uart (f : Lgw → Lgw) (s : State) : (s.onLgw f).uart = s.uart := rfl
@[simp] theorem State.onGwbs_pending (f : List Gwb → List Gwb) (s : State) : (s.onGwbs f).pending = s.pending := rfl
@[simp] theorem State.onGwbs_now (f : List Gwb → List Gwb) (s : State) : (s.onGwbs f).now = s.now := rfl
@[simp] theorem State.onGwbs_freeCtr (f : List Gwb → List Gwb) (s : State) : (s.onGwbs f).freeCtr = s.freeCtr := rfl
@[simp] theorem State.onGwbs_regs (f : List Gwb → List Gwb) (s : State) : (s.onGwbs f).regs = s.regs := rfl
@[simp] theorem State.onGwbs_staged (f : List Gwb → List Gwb) (s : State) : (s.onGwbs f).staged = s.staged := rfl
@[simp] theorem State.onGwbs_stagedTab (f : List Gwb → List Gwb) (s : State) : (s.onGwbs f).stagedTab = s.stagedTab := rfl
@[simp] theorem State.onGwbs_commits (f : List Gwb → List Gwb) (s : State) : (s.onGwbs f).commits = s.commits := rfl
@[simp] theorem State.onGwbs_mem (f : List Gwb → List Gwb) (s : State) : (s.onGwbs f).mem = s.mem := rfl
@[simp] theorem State.onGwbs_clk (f : List Gwb → List Gwb) (s : State) : (s.onGwbs f).clk = s.clk := rfl
@[simp] theorem State.onGwbs_bus (f : List Gwb → List Gwb) (s : State) : (s.onGwbs f).bus = s.bus := rfl
@[simp] theorem State.onGwbs_events (f : List Gwb → List Gwb) (s : State) : (s.onGwbs f).events = s.events := rfl
@[simp] theorem State.onGwbs_frm (f : List Gwb → List Gwb) (s : State) : (s.onGwbs f).frm = s.frm := rfl
@[simp] theorem State.onGwbs_mbxs (f : List Gwb → List Gwb) (s : State) : (s.onGwbs f).mbxs = s.mbxs := rfl
@[simp] theorem State.onGwbs_longs (f : List Gwb → List Gwb) (s : State) : (s.onGwbs f).longs = s.longs := rfl
@[simp] theorem State.onGwbs_svcBuf (f : List Gwb → List Gwb) (s : State) : (s.onGwbs f).svcBuf = s.svcBuf := rfl
@[simp] theorem State.onGwbs_fwVersion (f : List Gwb → List Gwb) (s : State) : (s.onGwbs f).fwVersion = s.fwVersion := rfl
@[simp] theorem State.onGwbs_records (f : List Gwb → List Gwb) (s : State) : (s.onGwbs f).records = s.records := rfl
@[simp] theorem State.onGwbs_queues (f : List Gwb → List Gwb) (s : State) : (s.onGwbs f).queues = s.queues := rfl
@[simp] theorem State.onGwbs_parts (f : List Gwb → List Gwb) (s : State) : (s.onGwbs f).parts = s.parts := rfl
@[simp] theorem State.onGwbs_inc (f : List Gwb → List Gwb) (s : State) : (s.onGwbs f).inc = s.inc := rfl
@[simp] theorem State.onGwbs_chans (f : List Gwb → List Gwb) (s : State) : (s.onGwbs f).chans = s.chans := rfl
@[simp] theorem State.onGwbs_boles (f : List Gwb → List Gwb) (s : State) : (s.onGwbs f).boles = s.boles := rfl
@[simp] theorem State.onGwbs_dies (f : List Gwb → List Gwb) (s : State) : (s.onGwbs f).dies = s.dies := rfl
@[simp] theorem State.onGwbs_sos (f : List Gwb → List Gwb) (s : State) : (s.onGwbs f).sos = s.sos := rfl
@[simp] theorem State.onGwbs_gov (f : List Gwb → List Gwb) (s : State) : (s.onGwbs f).gov = s.gov := rfl
@[simp] theorem State.onGwbs_pins (f : List Gwb → List Gwb) (s : State) : (s.onGwbs f).pins = s.pins := rfl
@[simp] theorem State.onGwbs_uioMirror (f : List Gwb → List Gwb) (s : State) : (s.onGwbs f).uioMirror = s.uioMirror := rfl
@[simp] theorem State.onGwbs_sups (f : List Gwb → List Gwb) (s : State) : (s.onGwbs f).sups = s.sups := rfl
@[simp] theorem State.onGwbs_extIn (f : List Gwb → List Gwb) (s : State) : (s.onGwbs f).extIn = s.extIn := rfl
@[simp] theorem State.onGwbs_kts (f : List Gwb → List Gwb) (s : State) : (s.onGwbs f).kts = s.kts := rfl
@[simp] theorem State.onGwbs_kcs (f : List Gwb → List Gwb) (s : State) : (s.onGwbs f).kcs = s.kcs := rfl
@[simp] theorem State.onGwbs_sense (f : List Gwb → List Gwb) (s : State) : (s.onGwbs f).sense = s.sense := rfl
@[simp] theorem State.onGwbs_cans (f : List Gwb → List Gwb) (s : State) : (s.onGwbs f).cans = s.cans := rfl
@[simp] theorem State.onGwbs_trxs (f : List Gwb → List Gwb) (s : State) : (s.onGwbs f).trxs = s.trxs := rfl
@[simp] theorem State.onGwbs_sec (f : List Gwb → List Gwb) (s : State) : (s.onGwbs f).sec = s.sec := rfl
@[simp] theorem State.onGwbs_svr (f : List Gwb → List Gwb) (s : State) : (s.onGwbs f).svr = s.svr := rfl
@[simp] theorem State.onGwbs_tly (f : List Gwb → List Gwb) (s : State) : (s.onGwbs f).tly = s.tly := rfl
@[simp] theorem State.onGwbs_doms (f : List Gwb → List Gwb) (s : State) : (s.onGwbs f).doms = s.doms := rfl
@[simp] theorem State.onGwbs_eth (f : List Gwb → List Gwb) (s : State) : (s.onGwbs f).eth = s.eth := rfl
@[simp] theorem State.onGwbs_lgw (f : List Gwb → List Gwb) (s : State) : (s.onGwbs f).lgw = s.lgw := rfl
@[simp] theorem State.onGwbs_gwbs (f : List Gwb → List Gwb) (s : State) : (s.onGwbs f).gwbs = f s.gwbs := rfl
@[simp] theorem State.onGwbs_cpx (f : List Gwb → List Gwb) (s : State) : (s.onGwbs f).cpx = s.cpx := rfl
@[simp] theorem State.onGwbs_sil (f : List Gwb → List Gwb) (s : State) : (s.onGwbs f).sil = s.sil := rfl
@[simp] theorem State.onGwbs_pairU (f : List Gwb → List Gwb) (s : State) : (s.onGwbs f).pairU = s.pairU := rfl
@[simp] theorem State.onGwbs_upd (f : List Gwb → List Gwb) (s : State) : (s.onGwbs f).upd = s.upd := rfl
@[simp] theorem State.onGwbs_uart (f : List Gwb → List Gwb) (s : State) : (s.onGwbs f).uart = s.uart := rfl
@[simp] theorem State.onCpx_pending (f : Cpx → Cpx) (s : State) : (s.onCpx f).pending = s.pending := rfl
@[simp] theorem State.onCpx_now (f : Cpx → Cpx) (s : State) : (s.onCpx f).now = s.now := rfl
@[simp] theorem State.onCpx_freeCtr (f : Cpx → Cpx) (s : State) : (s.onCpx f).freeCtr = s.freeCtr := rfl
@[simp] theorem State.onCpx_regs (f : Cpx → Cpx) (s : State) : (s.onCpx f).regs = s.regs := rfl
@[simp] theorem State.onCpx_staged (f : Cpx → Cpx) (s : State) : (s.onCpx f).staged = s.staged := rfl
@[simp] theorem State.onCpx_stagedTab (f : Cpx → Cpx) (s : State) : (s.onCpx f).stagedTab = s.stagedTab := rfl
@[simp] theorem State.onCpx_commits (f : Cpx → Cpx) (s : State) : (s.onCpx f).commits = s.commits := rfl
@[simp] theorem State.onCpx_mem (f : Cpx → Cpx) (s : State) : (s.onCpx f).mem = s.mem := rfl
@[simp] theorem State.onCpx_clk (f : Cpx → Cpx) (s : State) : (s.onCpx f).clk = s.clk := rfl
@[simp] theorem State.onCpx_bus (f : Cpx → Cpx) (s : State) : (s.onCpx f).bus = s.bus := rfl
@[simp] theorem State.onCpx_events (f : Cpx → Cpx) (s : State) : (s.onCpx f).events = s.events := rfl
@[simp] theorem State.onCpx_frm (f : Cpx → Cpx) (s : State) : (s.onCpx f).frm = s.frm := rfl
@[simp] theorem State.onCpx_mbxs (f : Cpx → Cpx) (s : State) : (s.onCpx f).mbxs = s.mbxs := rfl
@[simp] theorem State.onCpx_longs (f : Cpx → Cpx) (s : State) : (s.onCpx f).longs = s.longs := rfl
@[simp] theorem State.onCpx_svcBuf (f : Cpx → Cpx) (s : State) : (s.onCpx f).svcBuf = s.svcBuf := rfl
@[simp] theorem State.onCpx_fwVersion (f : Cpx → Cpx) (s : State) : (s.onCpx f).fwVersion = s.fwVersion := rfl
@[simp] theorem State.onCpx_records (f : Cpx → Cpx) (s : State) : (s.onCpx f).records = s.records := rfl
@[simp] theorem State.onCpx_queues (f : Cpx → Cpx) (s : State) : (s.onCpx f).queues = s.queues := rfl
@[simp] theorem State.onCpx_parts (f : Cpx → Cpx) (s : State) : (s.onCpx f).parts = s.parts := rfl
@[simp] theorem State.onCpx_inc (f : Cpx → Cpx) (s : State) : (s.onCpx f).inc = s.inc := rfl
@[simp] theorem State.onCpx_chans (f : Cpx → Cpx) (s : State) : (s.onCpx f).chans = s.chans := rfl
@[simp] theorem State.onCpx_boles (f : Cpx → Cpx) (s : State) : (s.onCpx f).boles = s.boles := rfl
@[simp] theorem State.onCpx_dies (f : Cpx → Cpx) (s : State) : (s.onCpx f).dies = s.dies := rfl
@[simp] theorem State.onCpx_sos (f : Cpx → Cpx) (s : State) : (s.onCpx f).sos = s.sos := rfl
@[simp] theorem State.onCpx_gov (f : Cpx → Cpx) (s : State) : (s.onCpx f).gov = s.gov := rfl
@[simp] theorem State.onCpx_pins (f : Cpx → Cpx) (s : State) : (s.onCpx f).pins = s.pins := rfl
@[simp] theorem State.onCpx_uioMirror (f : Cpx → Cpx) (s : State) : (s.onCpx f).uioMirror = s.uioMirror := rfl
@[simp] theorem State.onCpx_sups (f : Cpx → Cpx) (s : State) : (s.onCpx f).sups = s.sups := rfl
@[simp] theorem State.onCpx_extIn (f : Cpx → Cpx) (s : State) : (s.onCpx f).extIn = s.extIn := rfl
@[simp] theorem State.onCpx_kts (f : Cpx → Cpx) (s : State) : (s.onCpx f).kts = s.kts := rfl
@[simp] theorem State.onCpx_kcs (f : Cpx → Cpx) (s : State) : (s.onCpx f).kcs = s.kcs := rfl
@[simp] theorem State.onCpx_sense (f : Cpx → Cpx) (s : State) : (s.onCpx f).sense = s.sense := rfl
@[simp] theorem State.onCpx_cans (f : Cpx → Cpx) (s : State) : (s.onCpx f).cans = s.cans := rfl
@[simp] theorem State.onCpx_trxs (f : Cpx → Cpx) (s : State) : (s.onCpx f).trxs = s.trxs := rfl
@[simp] theorem State.onCpx_sec (f : Cpx → Cpx) (s : State) : (s.onCpx f).sec = s.sec := rfl
@[simp] theorem State.onCpx_svr (f : Cpx → Cpx) (s : State) : (s.onCpx f).svr = s.svr := rfl
@[simp] theorem State.onCpx_tly (f : Cpx → Cpx) (s : State) : (s.onCpx f).tly = s.tly := rfl
@[simp] theorem State.onCpx_doms (f : Cpx → Cpx) (s : State) : (s.onCpx f).doms = s.doms := rfl
@[simp] theorem State.onCpx_eth (f : Cpx → Cpx) (s : State) : (s.onCpx f).eth = s.eth := rfl
@[simp] theorem State.onCpx_lgw (f : Cpx → Cpx) (s : State) : (s.onCpx f).lgw = s.lgw := rfl
@[simp] theorem State.onCpx_gwbs (f : Cpx → Cpx) (s : State) : (s.onCpx f).gwbs = s.gwbs := rfl
@[simp] theorem State.onCpx_cpx (f : Cpx → Cpx) (s : State) : (s.onCpx f).cpx = f s.cpx := rfl
@[simp] theorem State.onCpx_sil (f : Cpx → Cpx) (s : State) : (s.onCpx f).sil = s.sil := rfl
@[simp] theorem State.onCpx_pairU (f : Cpx → Cpx) (s : State) : (s.onCpx f).pairU = s.pairU := rfl
@[simp] theorem State.onCpx_upd (f : Cpx → Cpx) (s : State) : (s.onCpx f).upd = s.upd := rfl
@[simp] theorem State.onCpx_uart (f : Cpx → Cpx) (s : State) : (s.onCpx f).uart = s.uart := rfl
@[simp] theorem State.onSil_pending (f : Sil → Sil) (s : State) : (s.onSil f).pending = s.pending := rfl
@[simp] theorem State.onSil_now (f : Sil → Sil) (s : State) : (s.onSil f).now = s.now := rfl
@[simp] theorem State.onSil_freeCtr (f : Sil → Sil) (s : State) : (s.onSil f).freeCtr = s.freeCtr := rfl
@[simp] theorem State.onSil_regs (f : Sil → Sil) (s : State) : (s.onSil f).regs = s.regs := rfl
@[simp] theorem State.onSil_staged (f : Sil → Sil) (s : State) : (s.onSil f).staged = s.staged := rfl
@[simp] theorem State.onSil_stagedTab (f : Sil → Sil) (s : State) : (s.onSil f).stagedTab = s.stagedTab := rfl
@[simp] theorem State.onSil_commits (f : Sil → Sil) (s : State) : (s.onSil f).commits = s.commits := rfl
@[simp] theorem State.onSil_mem (f : Sil → Sil) (s : State) : (s.onSil f).mem = s.mem := rfl
@[simp] theorem State.onSil_clk (f : Sil → Sil) (s : State) : (s.onSil f).clk = s.clk := rfl
@[simp] theorem State.onSil_bus (f : Sil → Sil) (s : State) : (s.onSil f).bus = s.bus := rfl
@[simp] theorem State.onSil_events (f : Sil → Sil) (s : State) : (s.onSil f).events = s.events := rfl
@[simp] theorem State.onSil_frm (f : Sil → Sil) (s : State) : (s.onSil f).frm = s.frm := rfl
@[simp] theorem State.onSil_mbxs (f : Sil → Sil) (s : State) : (s.onSil f).mbxs = s.mbxs := rfl
@[simp] theorem State.onSil_longs (f : Sil → Sil) (s : State) : (s.onSil f).longs = s.longs := rfl
@[simp] theorem State.onSil_svcBuf (f : Sil → Sil) (s : State) : (s.onSil f).svcBuf = s.svcBuf := rfl
@[simp] theorem State.onSil_fwVersion (f : Sil → Sil) (s : State) : (s.onSil f).fwVersion = s.fwVersion := rfl
@[simp] theorem State.onSil_records (f : Sil → Sil) (s : State) : (s.onSil f).records = s.records := rfl
@[simp] theorem State.onSil_queues (f : Sil → Sil) (s : State) : (s.onSil f).queues = s.queues := rfl
@[simp] theorem State.onSil_parts (f : Sil → Sil) (s : State) : (s.onSil f).parts = s.parts := rfl
@[simp] theorem State.onSil_inc (f : Sil → Sil) (s : State) : (s.onSil f).inc = s.inc := rfl
@[simp] theorem State.onSil_chans (f : Sil → Sil) (s : State) : (s.onSil f).chans = s.chans := rfl
@[simp] theorem State.onSil_boles (f : Sil → Sil) (s : State) : (s.onSil f).boles = s.boles := rfl
@[simp] theorem State.onSil_dies (f : Sil → Sil) (s : State) : (s.onSil f).dies = s.dies := rfl
@[simp] theorem State.onSil_sos (f : Sil → Sil) (s : State) : (s.onSil f).sos = s.sos := rfl
@[simp] theorem State.onSil_gov (f : Sil → Sil) (s : State) : (s.onSil f).gov = s.gov := rfl
@[simp] theorem State.onSil_pins (f : Sil → Sil) (s : State) : (s.onSil f).pins = s.pins := rfl
@[simp] theorem State.onSil_uioMirror (f : Sil → Sil) (s : State) : (s.onSil f).uioMirror = s.uioMirror := rfl
@[simp] theorem State.onSil_sups (f : Sil → Sil) (s : State) : (s.onSil f).sups = s.sups := rfl
@[simp] theorem State.onSil_extIn (f : Sil → Sil) (s : State) : (s.onSil f).extIn = s.extIn := rfl
@[simp] theorem State.onSil_kts (f : Sil → Sil) (s : State) : (s.onSil f).kts = s.kts := rfl
@[simp] theorem State.onSil_kcs (f : Sil → Sil) (s : State) : (s.onSil f).kcs = s.kcs := rfl
@[simp] theorem State.onSil_sense (f : Sil → Sil) (s : State) : (s.onSil f).sense = s.sense := rfl
@[simp] theorem State.onSil_cans (f : Sil → Sil) (s : State) : (s.onSil f).cans = s.cans := rfl
@[simp] theorem State.onSil_trxs (f : Sil → Sil) (s : State) : (s.onSil f).trxs = s.trxs := rfl
@[simp] theorem State.onSil_sec (f : Sil → Sil) (s : State) : (s.onSil f).sec = s.sec := rfl
@[simp] theorem State.onSil_svr (f : Sil → Sil) (s : State) : (s.onSil f).svr = s.svr := rfl
@[simp] theorem State.onSil_tly (f : Sil → Sil) (s : State) : (s.onSil f).tly = s.tly := rfl
@[simp] theorem State.onSil_doms (f : Sil → Sil) (s : State) : (s.onSil f).doms = s.doms := rfl
@[simp] theorem State.onSil_eth (f : Sil → Sil) (s : State) : (s.onSil f).eth = s.eth := rfl
@[simp] theorem State.onSil_lgw (f : Sil → Sil) (s : State) : (s.onSil f).lgw = s.lgw := rfl
@[simp] theorem State.onSil_gwbs (f : Sil → Sil) (s : State) : (s.onSil f).gwbs = s.gwbs := rfl
@[simp] theorem State.onSil_cpx (f : Sil → Sil) (s : State) : (s.onSil f).cpx = s.cpx := rfl
@[simp] theorem State.onSil_sil (f : Sil → Sil) (s : State) : (s.onSil f).sil = f s.sil := rfl
@[simp] theorem State.onSil_pairU (f : Sil → Sil) (s : State) : (s.onSil f).pairU = s.pairU := rfl
@[simp] theorem State.onSil_upd (f : Sil → Sil) (s : State) : (s.onSil f).upd = s.upd := rfl
@[simp] theorem State.onSil_uart (f : Sil → Sil) (s : State) : (s.onSil f).uart = s.uart := rfl
@[simp] theorem State.onPairU_pending (f : PairU → PairU) (s : State) : (s.onPairU f).pending = s.pending := rfl
@[simp] theorem State.onPairU_now (f : PairU → PairU) (s : State) : (s.onPairU f).now = s.now := rfl
@[simp] theorem State.onPairU_freeCtr (f : PairU → PairU) (s : State) : (s.onPairU f).freeCtr = s.freeCtr := rfl
@[simp] theorem State.onPairU_regs (f : PairU → PairU) (s : State) : (s.onPairU f).regs = s.regs := rfl
@[simp] theorem State.onPairU_staged (f : PairU → PairU) (s : State) : (s.onPairU f).staged = s.staged := rfl
@[simp] theorem State.onPairU_stagedTab (f : PairU → PairU) (s : State) : (s.onPairU f).stagedTab = s.stagedTab := rfl
@[simp] theorem State.onPairU_commits (f : PairU → PairU) (s : State) : (s.onPairU f).commits = s.commits := rfl
@[simp] theorem State.onPairU_mem (f : PairU → PairU) (s : State) : (s.onPairU f).mem = s.mem := rfl
@[simp] theorem State.onPairU_clk (f : PairU → PairU) (s : State) : (s.onPairU f).clk = s.clk := rfl
@[simp] theorem State.onPairU_bus (f : PairU → PairU) (s : State) : (s.onPairU f).bus = s.bus := rfl
@[simp] theorem State.onPairU_events (f : PairU → PairU) (s : State) : (s.onPairU f).events = s.events := rfl
@[simp] theorem State.onPairU_frm (f : PairU → PairU) (s : State) : (s.onPairU f).frm = s.frm := rfl
@[simp] theorem State.onPairU_mbxs (f : PairU → PairU) (s : State) : (s.onPairU f).mbxs = s.mbxs := rfl
@[simp] theorem State.onPairU_longs (f : PairU → PairU) (s : State) : (s.onPairU f).longs = s.longs := rfl
@[simp] theorem State.onPairU_svcBuf (f : PairU → PairU) (s : State) : (s.onPairU f).svcBuf = s.svcBuf := rfl
@[simp] theorem State.onPairU_fwVersion (f : PairU → PairU) (s : State) : (s.onPairU f).fwVersion = s.fwVersion := rfl
@[simp] theorem State.onPairU_records (f : PairU → PairU) (s : State) : (s.onPairU f).records = s.records := rfl
@[simp] theorem State.onPairU_queues (f : PairU → PairU) (s : State) : (s.onPairU f).queues = s.queues := rfl
@[simp] theorem State.onPairU_parts (f : PairU → PairU) (s : State) : (s.onPairU f).parts = s.parts := rfl
@[simp] theorem State.onPairU_inc (f : PairU → PairU) (s : State) : (s.onPairU f).inc = s.inc := rfl
@[simp] theorem State.onPairU_chans (f : PairU → PairU) (s : State) : (s.onPairU f).chans = s.chans := rfl
@[simp] theorem State.onPairU_boles (f : PairU → PairU) (s : State) : (s.onPairU f).boles = s.boles := rfl
@[simp] theorem State.onPairU_dies (f : PairU → PairU) (s : State) : (s.onPairU f).dies = s.dies := rfl
@[simp] theorem State.onPairU_sos (f : PairU → PairU) (s : State) : (s.onPairU f).sos = s.sos := rfl
@[simp] theorem State.onPairU_gov (f : PairU → PairU) (s : State) : (s.onPairU f).gov = s.gov := rfl
@[simp] theorem State.onPairU_pins (f : PairU → PairU) (s : State) : (s.onPairU f).pins = s.pins := rfl
@[simp] theorem State.onPairU_uioMirror (f : PairU → PairU) (s : State) : (s.onPairU f).uioMirror = s.uioMirror := rfl
@[simp] theorem State.onPairU_sups (f : PairU → PairU) (s : State) : (s.onPairU f).sups = s.sups := rfl
@[simp] theorem State.onPairU_extIn (f : PairU → PairU) (s : State) : (s.onPairU f).extIn = s.extIn := rfl
@[simp] theorem State.onPairU_kts (f : PairU → PairU) (s : State) : (s.onPairU f).kts = s.kts := rfl
@[simp] theorem State.onPairU_kcs (f : PairU → PairU) (s : State) : (s.onPairU f).kcs = s.kcs := rfl
@[simp] theorem State.onPairU_sense (f : PairU → PairU) (s : State) : (s.onPairU f).sense = s.sense := rfl
@[simp] theorem State.onPairU_cans (f : PairU → PairU) (s : State) : (s.onPairU f).cans = s.cans := rfl
@[simp] theorem State.onPairU_trxs (f : PairU → PairU) (s : State) : (s.onPairU f).trxs = s.trxs := rfl
@[simp] theorem State.onPairU_sec (f : PairU → PairU) (s : State) : (s.onPairU f).sec = s.sec := rfl
@[simp] theorem State.onPairU_svr (f : PairU → PairU) (s : State) : (s.onPairU f).svr = s.svr := rfl
@[simp] theorem State.onPairU_tly (f : PairU → PairU) (s : State) : (s.onPairU f).tly = s.tly := rfl
@[simp] theorem State.onPairU_doms (f : PairU → PairU) (s : State) : (s.onPairU f).doms = s.doms := rfl
@[simp] theorem State.onPairU_eth (f : PairU → PairU) (s : State) : (s.onPairU f).eth = s.eth := rfl
@[simp] theorem State.onPairU_lgw (f : PairU → PairU) (s : State) : (s.onPairU f).lgw = s.lgw := rfl
@[simp] theorem State.onPairU_gwbs (f : PairU → PairU) (s : State) : (s.onPairU f).gwbs = s.gwbs := rfl
@[simp] theorem State.onPairU_cpx (f : PairU → PairU) (s : State) : (s.onPairU f).cpx = s.cpx := rfl
@[simp] theorem State.onPairU_sil (f : PairU → PairU) (s : State) : (s.onPairU f).sil = s.sil := rfl
@[simp] theorem State.onPairU_pairU (f : PairU → PairU) (s : State) : (s.onPairU f).pairU = f s.pairU := rfl
@[simp] theorem State.onPairU_upd (f : PairU → PairU) (s : State) : (s.onPairU f).upd = s.upd := rfl
@[simp] theorem State.onPairU_uart (f : PairU → PairU) (s : State) : (s.onPairU f).uart = s.uart := rfl
@[simp] theorem State.onUpd_pending (f : Updater → Updater) (s : State) : (s.onUpd f).pending = s.pending := rfl
@[simp] theorem State.onUpd_now (f : Updater → Updater) (s : State) : (s.onUpd f).now = s.now := rfl
@[simp] theorem State.onUpd_freeCtr (f : Updater → Updater) (s : State) : (s.onUpd f).freeCtr = s.freeCtr := rfl
@[simp] theorem State.onUpd_regs (f : Updater → Updater) (s : State) : (s.onUpd f).regs = s.regs := rfl
@[simp] theorem State.onUpd_staged (f : Updater → Updater) (s : State) : (s.onUpd f).staged = s.staged := rfl
@[simp] theorem State.onUpd_stagedTab (f : Updater → Updater) (s : State) : (s.onUpd f).stagedTab = s.stagedTab := rfl
@[simp] theorem State.onUpd_commits (f : Updater → Updater) (s : State) : (s.onUpd f).commits = s.commits := rfl
@[simp] theorem State.onUpd_mem (f : Updater → Updater) (s : State) : (s.onUpd f).mem = s.mem := rfl
@[simp] theorem State.onUpd_clk (f : Updater → Updater) (s : State) : (s.onUpd f).clk = s.clk := rfl
@[simp] theorem State.onUpd_bus (f : Updater → Updater) (s : State) : (s.onUpd f).bus = s.bus := rfl
@[simp] theorem State.onUpd_events (f : Updater → Updater) (s : State) : (s.onUpd f).events = s.events := rfl
@[simp] theorem State.onUpd_frm (f : Updater → Updater) (s : State) : (s.onUpd f).frm = s.frm := rfl
@[simp] theorem State.onUpd_mbxs (f : Updater → Updater) (s : State) : (s.onUpd f).mbxs = s.mbxs := rfl
@[simp] theorem State.onUpd_longs (f : Updater → Updater) (s : State) : (s.onUpd f).longs = s.longs := rfl
@[simp] theorem State.onUpd_svcBuf (f : Updater → Updater) (s : State) : (s.onUpd f).svcBuf = s.svcBuf := rfl
@[simp] theorem State.onUpd_fwVersion (f : Updater → Updater) (s : State) : (s.onUpd f).fwVersion = s.fwVersion := rfl
@[simp] theorem State.onUpd_records (f : Updater → Updater) (s : State) : (s.onUpd f).records = s.records := rfl
@[simp] theorem State.onUpd_queues (f : Updater → Updater) (s : State) : (s.onUpd f).queues = s.queues := rfl
@[simp] theorem State.onUpd_parts (f : Updater → Updater) (s : State) : (s.onUpd f).parts = s.parts := rfl
@[simp] theorem State.onUpd_inc (f : Updater → Updater) (s : State) : (s.onUpd f).inc = s.inc := rfl
@[simp] theorem State.onUpd_chans (f : Updater → Updater) (s : State) : (s.onUpd f).chans = s.chans := rfl
@[simp] theorem State.onUpd_boles (f : Updater → Updater) (s : State) : (s.onUpd f).boles = s.boles := rfl
@[simp] theorem State.onUpd_dies (f : Updater → Updater) (s : State) : (s.onUpd f).dies = s.dies := rfl
@[simp] theorem State.onUpd_sos (f : Updater → Updater) (s : State) : (s.onUpd f).sos = s.sos := rfl
@[simp] theorem State.onUpd_gov (f : Updater → Updater) (s : State) : (s.onUpd f).gov = s.gov := rfl
@[simp] theorem State.onUpd_pins (f : Updater → Updater) (s : State) : (s.onUpd f).pins = s.pins := rfl
@[simp] theorem State.onUpd_uioMirror (f : Updater → Updater) (s : State) : (s.onUpd f).uioMirror = s.uioMirror := rfl
@[simp] theorem State.onUpd_sups (f : Updater → Updater) (s : State) : (s.onUpd f).sups = s.sups := rfl
@[simp] theorem State.onUpd_extIn (f : Updater → Updater) (s : State) : (s.onUpd f).extIn = s.extIn := rfl
@[simp] theorem State.onUpd_kts (f : Updater → Updater) (s : State) : (s.onUpd f).kts = s.kts := rfl
@[simp] theorem State.onUpd_kcs (f : Updater → Updater) (s : State) : (s.onUpd f).kcs = s.kcs := rfl
@[simp] theorem State.onUpd_sense (f : Updater → Updater) (s : State) : (s.onUpd f).sense = s.sense := rfl
@[simp] theorem State.onUpd_cans (f : Updater → Updater) (s : State) : (s.onUpd f).cans = s.cans := rfl
@[simp] theorem State.onUpd_trxs (f : Updater → Updater) (s : State) : (s.onUpd f).trxs = s.trxs := rfl
@[simp] theorem State.onUpd_sec (f : Updater → Updater) (s : State) : (s.onUpd f).sec = s.sec := rfl
@[simp] theorem State.onUpd_svr (f : Updater → Updater) (s : State) : (s.onUpd f).svr = s.svr := rfl
@[simp] theorem State.onUpd_tly (f : Updater → Updater) (s : State) : (s.onUpd f).tly = s.tly := rfl
@[simp] theorem State.onUpd_doms (f : Updater → Updater) (s : State) : (s.onUpd f).doms = s.doms := rfl
@[simp] theorem State.onUpd_eth (f : Updater → Updater) (s : State) : (s.onUpd f).eth = s.eth := rfl
@[simp] theorem State.onUpd_lgw (f : Updater → Updater) (s : State) : (s.onUpd f).lgw = s.lgw := rfl
@[simp] theorem State.onUpd_gwbs (f : Updater → Updater) (s : State) : (s.onUpd f).gwbs = s.gwbs := rfl
@[simp] theorem State.onUpd_cpx (f : Updater → Updater) (s : State) : (s.onUpd f).cpx = s.cpx := rfl
@[simp] theorem State.onUpd_sil (f : Updater → Updater) (s : State) : (s.onUpd f).sil = s.sil := rfl
@[simp] theorem State.onUpd_pairU (f : Updater → Updater) (s : State) : (s.onUpd f).pairU = s.pairU := rfl
@[simp] theorem State.onUpd_upd (f : Updater → Updater) (s : State) : (s.onUpd f).upd = f s.upd := rfl
@[simp] theorem State.onUpd_uart (f : Updater → Updater) (s : State) : (s.onUpd f).uart = s.uart := rfl
@[simp] theorem State.onUart_pending (f : Uart → Uart) (s : State) : (s.onUart f).pending = s.pending := rfl
@[simp] theorem State.onUart_now (f : Uart → Uart) (s : State) : (s.onUart f).now = s.now := rfl
@[simp] theorem State.onUart_freeCtr (f : Uart → Uart) (s : State) : (s.onUart f).freeCtr = s.freeCtr := rfl
@[simp] theorem State.onUart_regs (f : Uart → Uart) (s : State) : (s.onUart f).regs = s.regs := rfl
@[simp] theorem State.onUart_staged (f : Uart → Uart) (s : State) : (s.onUart f).staged = s.staged := rfl
@[simp] theorem State.onUart_stagedTab (f : Uart → Uart) (s : State) : (s.onUart f).stagedTab = s.stagedTab := rfl
@[simp] theorem State.onUart_commits (f : Uart → Uart) (s : State) : (s.onUart f).commits = s.commits := rfl
@[simp] theorem State.onUart_mem (f : Uart → Uart) (s : State) : (s.onUart f).mem = s.mem := rfl
@[simp] theorem State.onUart_clk (f : Uart → Uart) (s : State) : (s.onUart f).clk = s.clk := rfl
@[simp] theorem State.onUart_bus (f : Uart → Uart) (s : State) : (s.onUart f).bus = s.bus := rfl
@[simp] theorem State.onUart_events (f : Uart → Uart) (s : State) : (s.onUart f).events = s.events := rfl
@[simp] theorem State.onUart_frm (f : Uart → Uart) (s : State) : (s.onUart f).frm = s.frm := rfl
@[simp] theorem State.onUart_mbxs (f : Uart → Uart) (s : State) : (s.onUart f).mbxs = s.mbxs := rfl
@[simp] theorem State.onUart_longs (f : Uart → Uart) (s : State) : (s.onUart f).longs = s.longs := rfl
@[simp] theorem State.onUart_svcBuf (f : Uart → Uart) (s : State) : (s.onUart f).svcBuf = s.svcBuf := rfl
@[simp] theorem State.onUart_fwVersion (f : Uart → Uart) (s : State) : (s.onUart f).fwVersion = s.fwVersion := rfl
@[simp] theorem State.onUart_records (f : Uart → Uart) (s : State) : (s.onUart f).records = s.records := rfl
@[simp] theorem State.onUart_queues (f : Uart → Uart) (s : State) : (s.onUart f).queues = s.queues := rfl
@[simp] theorem State.onUart_parts (f : Uart → Uart) (s : State) : (s.onUart f).parts = s.parts := rfl
@[simp] theorem State.onUart_inc (f : Uart → Uart) (s : State) : (s.onUart f).inc = s.inc := rfl
@[simp] theorem State.onUart_chans (f : Uart → Uart) (s : State) : (s.onUart f).chans = s.chans := rfl
@[simp] theorem State.onUart_boles (f : Uart → Uart) (s : State) : (s.onUart f).boles = s.boles := rfl
@[simp] theorem State.onUart_dies (f : Uart → Uart) (s : State) : (s.onUart f).dies = s.dies := rfl
@[simp] theorem State.onUart_sos (f : Uart → Uart) (s : State) : (s.onUart f).sos = s.sos := rfl
@[simp] theorem State.onUart_gov (f : Uart → Uart) (s : State) : (s.onUart f).gov = s.gov := rfl
@[simp] theorem State.onUart_pins (f : Uart → Uart) (s : State) : (s.onUart f).pins = s.pins := rfl
@[simp] theorem State.onUart_uioMirror (f : Uart → Uart) (s : State) : (s.onUart f).uioMirror = s.uioMirror := rfl
@[simp] theorem State.onUart_sups (f : Uart → Uart) (s : State) : (s.onUart f).sups = s.sups := rfl
@[simp] theorem State.onUart_extIn (f : Uart → Uart) (s : State) : (s.onUart f).extIn = s.extIn := rfl
@[simp] theorem State.onUart_kts (f : Uart → Uart) (s : State) : (s.onUart f).kts = s.kts := rfl
@[simp] theorem State.onUart_kcs (f : Uart → Uart) (s : State) : (s.onUart f).kcs = s.kcs := rfl
@[simp] theorem State.onUart_sense (f : Uart → Uart) (s : State) : (s.onUart f).sense = s.sense := rfl
@[simp] theorem State.onUart_cans (f : Uart → Uart) (s : State) : (s.onUart f).cans = s.cans := rfl
@[simp] theorem State.onUart_trxs (f : Uart → Uart) (s : State) : (s.onUart f).trxs = s.trxs := rfl
@[simp] theorem State.onUart_sec (f : Uart → Uart) (s : State) : (s.onUart f).sec = s.sec := rfl
@[simp] theorem State.onUart_svr (f : Uart → Uart) (s : State) : (s.onUart f).svr = s.svr := rfl
@[simp] theorem State.onUart_tly (f : Uart → Uart) (s : State) : (s.onUart f).tly = s.tly := rfl
@[simp] theorem State.onUart_doms (f : Uart → Uart) (s : State) : (s.onUart f).doms = s.doms := rfl
@[simp] theorem State.onUart_eth (f : Uart → Uart) (s : State) : (s.onUart f).eth = s.eth := rfl
@[simp] theorem State.onUart_lgw (f : Uart → Uart) (s : State) : (s.onUart f).lgw = s.lgw := rfl
@[simp] theorem State.onUart_gwbs (f : Uart → Uart) (s : State) : (s.onUart f).gwbs = s.gwbs := rfl
@[simp] theorem State.onUart_cpx (f : Uart → Uart) (s : State) : (s.onUart f).cpx = s.cpx := rfl
@[simp] theorem State.onUart_sil (f : Uart → Uart) (s : State) : (s.onUart f).sil = s.sil := rfl
@[simp] theorem State.onUart_pairU (f : Uart → Uart) (s : State) : (s.onUart f).pairU = s.pairU := rfl
@[simp] theorem State.onUart_upd (f : Uart → Uart) (s : State) : (s.onUart f).upd = s.upd := rfl
@[simp] theorem State.onUart_uart (f : Uart → Uart) (s : State) : (s.onUart f).uart = f s.uart := rfl

end Sys2Proof.Machine
end

