-- ==== Sys2Proof/Laws/Word.lean ====
section
/-! SUPPORT. The laws of bit fields: a field reads what was written to it, and keeps what is written beside it. -/

namespace Sys2Proof

theorem ones_bit (hi lo j : Nat) (h : lo ≤ hi) (hj : j < 32) :
    (ones hi lo).getLsbD j = decide (lo ≤ j ∧ j ≤ hi) := by
  simp only [ones, BitVec.getLsbD_ofNat, hj, decide_true, Bool.true_and, Nat.testBit_mul_two_pow, Nat.testBit_two_pow_sub_one]
  by_cases h1 : lo ≤ j
  · simp [h1]; omega
  · simp [h1]

theorem setBits_bit (w : Word) (hi lo v j : Nat) (h : lo ≤ hi) (hj : j < 32) :
    (setBits w hi lo v).getLsbD j = if lo ≤ j ∧ j ≤ hi then v.testBit (j - lo) else w.getLsbD j := by
  simp only [setBits, BitVec.getLsbD_or, BitVec.getLsbD_and, BitVec.getLsbD_not, hj, decide_true, Bool.true_and,
    ones_bit hi lo j h hj, BitVec.getLsbD_ofNat, Nat.testBit_mul_two_pow, Nat.testBit_mod_two_pow]
  by_cases h1 : lo ≤ j
  · by_cases h2 : j ≤ hi
    · have : j - lo < hi + 1 - lo := by omega
      simp [h1, h2, this]
    · have : ¬ j - lo < hi + 1 - lo := by omega
      simp [h1, h2, this]
  · simp [h1]

theorem bitsOf_bit (w : Word) (hi lo i : Nat) :
    (bitsOf w hi lo).testBit i = (decide (i < hi + 1 - lo) && w.getLsbD (lo + i)) := by
  simp [bitsOf, Nat.testBit_mod_two_pow, Nat.testBit_div_two_pow, BitVec.testBit_toNat, Nat.add_comm]

/-- A field reads what was written to it. -/
theorem bitsOf_setBits (w : Word) (hi lo v : Nat) (h : lo ≤ hi) (h32 : hi < 32) :
    bitsOf (setBits w hi lo v) hi lo = v % 2 ^ (hi + 1 - lo) := by
  apply Nat.eq_of_testBit_eq
  intro i
  rw [bitsOf_bit, Nat.testBit_mod_two_pow]
  by_cases hi' : i < hi + 1 - lo
  · rw [setBits_bit _ _ _ _ _ h (by omega)]
    have h1 : lo ≤ lo + i ∧ lo + i ≤ hi := by omega
    simp [hi', h1]
  · simp [hi']

/-- A field keeps its value when another field of the word is written. -/
theorem bitsOf_setBits_apart (w : Word) (hi lo hi' lo' v : Nat) (h : lo ≤ hi) (h32 : hi' < 32)
    (d : hi < lo' ∨ hi' < lo) : bitsOf (setBits w hi lo v) hi' lo' = bitsOf w hi' lo' := by
  apply Nat.eq_of_testBit_eq
  intro i
  rw [bitsOf_bit, bitsOf_bit]
  by_cases hi'' : i < hi' + 1 - lo'
  · rw [setBits_bit _ _ _ _ _ h (by omega)]
    have h1 : ¬ (lo ≤ lo' + i ∧ lo' + i ≤ hi) := by omega
    simp [h1]
  · simp [hi'']

theorem bitsOf_lt (w : Word) (hi lo : Nat) : bitsOf w hi lo < 2 ^ (hi + 1 - lo) := Nat.mod_lt _ (Nat.two_pow_pos _)

/-- A whole word reads as its number. -/
theorem bitsOf_full (w : Word) : bitsOf w 31 0 = w.toNat := by
  simp only [bitsOf, Nat.pow_zero, Nat.div_one]; exact Nat.mod_eq_of_lt w.isLt

theorem b2n_lt (b : Bool) : b2n b < 2 := by cases b <;> decide

theorem sat_le (mx v : Nat) : sat mx v ≤ mx := Nat.min_le_left _ _

end Sys2Proof
end

