-- ==== Sys2Proof/Laws/Ops.lean ====
section
/-! SUPPORT. The laws of the shared operations over registers and memory: what each reads after a write, and what it
leaves alone. -/

namespace Sys2Proof.Machine

/-! Registers. -/

theorem raw_setRaw (s : State) (a b : Nat) (v : Word) : (s.setRaw a v).raw b = if a = b then v else s.raw b := by
  simp [State.raw, State.setRaw, sget_sset]

@[simp] theorem raw_setRaw_self (s : State) (a : Nat) (v : Word) : (s.setRaw a v).raw a = v := by simp [raw_setRaw]

theorem raw_setRaw_ne (s : State) (a b : Nat) (v : Word) (h : a ≠ b) : (s.setRaw a v).raw b = s.raw b := by
  simp [raw_setRaw, h]

theorem raw_wr_ne (s : State) (f : Fld) (v a : Nat) (h : f.addr ≠ a) : (s.wr f v).raw a = s.raw a :=
  raw_setRaw_ne _ _ _ _ h

theorem raw_wr_self (s : State) (f : Fld) (v : Nat) : (s.wr f v).raw f.addr = setBits (s.raw f.addr) f.hi f.lo v := by
  simp [State.wr]

/-- A field reads what was written to it. -/
theorem rd_wr (s : State) (f : Fld) (v : Nat) (h : f.ok) : (s.wr f v).rd f = v % 2 ^ (f.hi + 1 - f.lo) := by
  simp only [State.rd, raw_wr_self]; exact bitsOf_setBits _ _ _ _ h.1 h.2

/-- A field keeps its value when another field is written. -/
theorem rd_wr_apart (s : State) (f g : Fld) (v : Nat) (hf : f.ok) (hg : g.ok) (h : f.apart g) :
    (s.wr f v).rd g = s.rd g := by
  by_cases ha : f.addr = g.addr
  · have h' := h.resolve_left (· ha)
    simp only [State.rd, ← ha, raw_wr_self]
    exact bitsOf_setBits_apart _ _ _ _ _ _ hf.1 hg.2 h'
  · simp only [State.rd, raw_wr_ne _ _ _ _ ha]

theorem rd_setRaw_ne (s : State) (a : Nat) (v : Word) (f : Fld) (h : a ≠ f.addr) : (s.setRaw a v).rd f = s.rd f := by
  simp [State.rd, raw_setRaw, h]

@[simp] theorem isSet_iff (s : State) (f : Fld) : s.isSet f = true ↔ s.rd f ≠ 0 := by simp [State.isSet]

theorem rd_wrB (s : State) (f : Fld) (b : Bool) (h : f.ok) : (s.wrB f b).rd f = b2n b := by
  rw [State.wrB, rd_wr _ _ _ h]
  refine Nat.mod_eq_of_lt (Nat.lt_of_lt_of_le (b2n_lt b) ?_)
  have h1 : f.lo ≤ f.hi := h.1
  have h2 : 1 ≤ f.hi + 1 - f.lo := by omega
  exact Nat.pow_le_pow_right (n := 2) (by omega) h2

theorem rd_lt (s : State) (f : Fld) : s.rd f < 2 ^ (f.hi + 1 - f.lo) := bitsOf_lt _ _ _

/-- A saturating counter stops at its largest value. -/
theorem rd_bump (s : State) (f : Fld) (k : Nat) (h : f.ok) :
    (s.bump f k).rd f = min (2 ^ (f.hi + 1 - f.lo) - 1) (s.rd f + k) := by
  rw [State.bump, rd_wr _ _ _ h]
  refine Nat.mod_eq_of_lt (Nat.lt_of_le_of_lt (Nat.min_le_left _ _) ?_)
  have := Nat.two_pow_pos (f.hi + 1 - f.lo); omega

/-! Updates of one field of State, named once: writes of registers change `regs` alone, writes of memory `mem` alone. -/

/-- `t` is `s` but for its registers. -/
def OnlyRegs (s t : State) : Prop := t = { s with regs := t.regs }

/-- `t` is `s` but for its memory. -/
def OnlyMem (s t : State) : Prop := t = { s with mem := t.mem }

theorem OnlyRegs.refl (s : State) : OnlyRegs s s := rfl

theorem OnlyRegs.trans {s t u : State} (h : OnlyRegs s t) (h' : OnlyRegs t u) : OnlyRegs s u := by
  unfold OnlyRegs at *; rw [h'] ; rw [h]

theorem onlyRegs_setRaw (s : State) (a : Nat) (v : Word) : OnlyRegs s (s.setRaw a v) := rfl
theorem onlyRegs_wr (s : State) (f : Fld) (v : Nat) : OnlyRegs s (s.wr f v) := rfl
theorem onlyRegs_wrB (s : State) (f : Fld) (b : Bool) : OnlyRegs s (s.wrB f b) := rfl
theorem onlyRegs_bump (s : State) (f : Fld) (k : Nat) : OnlyRegs s (s.bump f k) := rfl
theorem onlyRegs_count (s : State) (f : Fld) (k : Nat) : OnlyRegs s (s.count f k) := rfl

/-! Memory. -/

theorem memGet_memSet (s : State) (a b : Nat) (v : Byte) :
    (s.memSet a v).memGet b = if a = b then v else s.memGet b := by
  simp [State.memGet, State.memSet, sget_sset]

/-- A byte string is read back, and every byte outside it is as it was. -/
theorem memGet_memWrite (s : State) (a b : Nat) (bs : List Byte) :
    (s.memWrite a bs).memGet b = if a ≤ b ∧ b < a + bs.length then bs.getD (b - a) 0 else s.memGet b := by
  induction bs generalizing s a with
  | nil =>
    have h : ¬ (a ≤ b ∧ b < a + ([] : List Byte).length) := by simp only [List.length_nil]; omega
    rw [if_neg h]; rfl
  | cons x t ih =>
    simp only [State.memWrite, ih, memGet_memSet, List.length_cons]
    by_cases h : a = b
    · subst h
      have h1 : ¬ (a + 1 ≤ a ∧ a < a + 1 + t.length) := by omega
      have h2 : a ≤ a ∧ a < a + (t.length + 1) := by omega
      rw [if_neg h1, if_pos h2, if_pos rfl, Nat.sub_self]; rfl
    · by_cases h1 : a + 1 ≤ b ∧ b < a + 1 + t.length
      · have h2 : a ≤ b ∧ b < a + (t.length + 1) := by omega
        have h3 : b - a = (b - (a + 1)) + 1 := by omega
        simp only [h1, h2, and_self, if_true]
        rw [h3]; simp
      · have h2 : ¬ (a ≤ b ∧ b < a + (t.length + 1)) := by omega
        rw [if_neg h1, if_neg h2, if_neg h]

theorem memGet_memZero (s : State) (a n b : Nat) :
    (s.memZero a n).memGet b = if a ≤ b ∧ b < a + n then 0 else s.memGet b := by
  have := sget_filter memDefault (fun k => decide (k < a) || decide (a + n ≤ k)) s.mem b
  simp only [State.memGet, State.memZero, State.onMem_mem]
  have e : (s.mem.filter fun e => decide (e.1 < a) || decide (a + n ≤ e.1)) =
      s.mem.filter fun e => e.1 < a || a + n ≤ e.1 := by simp
  rw [← e, this]
  by_cases h : a ≤ b ∧ b < a + n
  · have : ¬ (b < a ∨ a + n ≤ b) := by omega
    simp [this, h, memDefault]
  · have : b < a ∨ a + n ≤ b := by omega
    simp [this, h]

@[simp] theorem memSet_regs (s : State) (a : Nat) (v : Byte) : (s.memSet a v).regs = s.regs := rfl
@[simp] theorem memSet_pending (s : State) (a : Nat) (v : Byte) : (s.memSet a v).pending = s.pending := rfl

/-! Memory keeps its canonical form. -/

/-- The canonical form of memory: addresses strictly rising, no entry equal to what an unlisted address reads as. -/
theorem memSet_wf (s : State) (a : Nat) (v : Byte) (h : canon memDefault s.mem = true) :
    canon memDefault (s.memSet a v).mem = true := canon_sset _ _ _ _ h

theorem memWrite_wf (s : State) (a : Nat) (bs : List Byte) (h : canon memDefault s.mem = true) :
    canon memDefault (s.memWrite a bs).mem = true := by
  induction bs generalizing s a with
  | nil => exact h
  | cons x t ih => exact ih _ _ (memSet_wf s a x h)

theorem memZero_wf (s : State) (a n : Nat) (h : canon memDefault s.mem = true) :
    canon memDefault (s.memZero a n).mem = true := canon_filter _ _ _ h

theorem foldl_memSet_wf (l : List Host.Cell) (g : Host.Cell → Nat) (s : State) (h : canon memDefault s.mem = true) :
    canon memDefault (s.each l fun s e => s.memSet (g e) e.2).mem = true := by
  induction l generalizing s with
  | nil => exact h
  | cons e t ih => exact ih _ (memSet_wf _ _ _ h)

theorem memCopy_wf (s : State) (src dst n : Nat) (h : canon memDefault s.mem = true) :
    canon memDefault (s.memCopy src dst n).mem = true :=
  foldl_memSet_wf _ (fun e => e.1 - src + dst) _ (memZero_wf _ _ _ h)

/-! The end of every meaning. -/

/-- What `finish` answers. -/
def State.finished (s t : State) : State :=
  { t with pending := s.pending, regs := settle regReset t.regs, mem := settle memDefault t.mem }

theorem finish_eq (s t : State) : s.finish t = .next (s.finished t) := rfl

@[simp] theorem finished_raw (s t : State) (a : Nat) : (s.finished t).raw a = t.raw a := sget_settle _ _ _
@[simp] theorem finished_rd (s t : State) (f : Fld) : (s.finished t).rd f = t.rd f := by simp [State.rd]
@[simp] theorem finished_memGet (s t : State) (a : Nat) : (s.finished t).memGet a = t.memGet a := sget_settle _ _ _
@[simp] theorem finished_pending (s t : State) : (s.finished t).pending = s.pending := rfl

/-- What a meaning leaves is in canonical form, whatever it did. -/
theorem finished_canon (s t : State) :
    canon regReset (s.finished t).regs = true ∧ canon memDefault (s.finished t).mem = true :=
  ⟨canon_settle _ _, canon_settle _ _⟩

end Sys2Proof.Machine
end

