-- ==== Sys2Proof/Laws/Events.lean ====
section
/-! SUPPORT. What raising an event can do (R75, R436): the router writes mailboxes, the recorder its registers and its
ring, the Forester's list grows by the event; nothing else changes. -/

namespace Sys2Proof.Machine

/-- What the raising of events does at most. -/
structure Routed (s t : State) : Prop where
  only : t = { s with regs := t.regs, inc := t.inc, events := t.events }
  raws : ∀ a, ¬ eventWord a → t.raw a = s.raw a
  stat : ∀ m f, f.addr = R.MBX_STAT m → f.ok → (f.hi < 2 ∨ 2 < f.lo) → t.rd f = s.rd f
  evs : ∃ l, t.events = s.events ++ l

theorem Routed.refl (s : State) : Routed s s := ⟨rfl, fun _ _ => rfl, fun _ _ _ _ _ => rfl, [], by simp⟩

theorem Routed.trans {s t u : State} (h : Routed s t) (k : Routed t u) : Routed s u where
  only := by
    have h1 := h.only; have h2 := k.only
    rw [h2, h1]
  raws a ha := (k.raws a ha).trans (h.raws a ha)
  stat m f h1 h2 h3 := (k.stat m f h1 h2 h3).trans (h.stat m f h1 h2 h3)
  evs := by
    obtain ⟨l, hl⟩ := h.evs; obtain ⟨l', hl'⟩ := k.evs
    exact ⟨l ++ l', by rw [hl', hl, List.append_assoc]⟩

/-- A field that the router leaves alone keeps its value. -/
theorem Routed.rd {s t : State} (h : Routed s t) (f : Fld) (hf : ¬ eventWord f.addr) : t.rd f = s.rd f := by
  simp [State.rd, h.raws _ hf]

theorem Routed.mem {s t : State} (h : Routed s t) : t.mem = s.mem := by rw [h.only]
theorem Routed.memGet {s t : State} (h : Routed s t) (a : Nat) : t.memGet a = s.memGet a := by simp [State.memGet, h.mem]

/-- An event once raised stays in the list. -/
theorem Routed.mem_events {s t : State} (h : Routed s t) {e : EvRec} (he : e ∈ s.events) : e ∈ t.events := by
  obtain ⟨l, hl⟩ := h.evs; simp [hl, he]

/-! The recorder. -/

/-- A write of a recorder register. -/
theorem routed_inr (s : State) (f : Fld) (v : Nat) (h : 0x20E00000 ≤ f.addr ∧ f.addr < 0x20E00020) :
    Routed s (s.wr f v) where
  only := rfl
  raws a ha := raw_wr_ne _ _ _ _ (fun e => ha (Or.inr (e ▸ h)))
  stat m g hg _ _ := by
    have : f.addr ≠ g.addr := by rw [hg]; simp only [R.MBX_STAT]; omega
    simp [State.rd, raw_wr_ne _ _ _ _ this]
  evs := ⟨[], by simp [State.wr, State.setRaw]⟩

theorem routed_bump (s : State) (f : Fld) (k : Nat) (h : 0x20E00000 ≤ f.addr ∧ f.addr < 0x20E00020) :
    Routed s (s.bump f k) := routed_inr _ _ _ h

theorem routed_count (s : State) (f : Fld) (k : Nat) (h : 0x20E00000 ≤ f.addr ∧ f.addr < 0x20E00020) :
    Routed s (s.count f k) := routed_inr _ _ _ h

theorem routed_onInc (s : State) (g : Recorder → Recorder) : Routed s (s.onInc g) :=
  ⟨rfl, fun _ _ => rfl, fun _ _ _ _ _ => rfl, [], by simp⟩

theorem routed_incFill (s : State) : Routed s s.incFill :=
  (routed_inr _ _ _ (by decide)).trans (routed_inr _ _ _ (by decide))

/-- Every event number that `more` lists lies below 512. -/
def More.small (l : More) : Prop := ∀ x ∈ l, x.1 < 512

theorem incDrop_routed (s : State) (c src : Nat) : Routed s (s.incDrop c src).1 ∧ More.small (s.incDrop c src).2 := by
  have h : ∀ g, Routed s ((s.onInc g).bump (if c = clsTrace then R.INR_DROP_TRACE_COUNT else R.INR_DROP_LOG_COUNT)) := by
    intro g
    refine (routed_onInc s g).trans (routed_bump _ _ _ ?_)
    split <;> decide
  unfold State.incDrop
  dsimp only
  by_cases hc : c ∈ s.inc.dropRaised
  · rw [if_pos hc]; exact ⟨h _, by simp [More.small]⟩
  · rw [if_neg hc]
    refine ⟨?_, by simp [More.small]⟩
    dsimp only
    exact (h _).trans (routed_onInc _ _)

theorem incPush_routed (s : State) (e : IncEntry) : Routed s (s.incPush e) :=
  (((routed_onInc s _).trans (routed_count _ R.INR_SEQ_SEQ 1 (by decide))).trans (routed_incFill _))

theorem incMerge_routed (s : State) (q : Nat) (e : IncEntry) (f : IncEntry → IncEntry) :
    Routed s (s.incMerge q e f).1 ∧ More.small (s.incMerge q e f).2 := by
  simp only [State.incMerge]
  split
  · exact ⟨(routed_onInc s _).trans (routed_bump _ R.INR_MERGE_COUNT 1 (by decide)), by simp [More.small]⟩
  · refine ⟨?_, by simp [More.small]⟩
    dsimp only
    exact ((routed_onInc s _).trans (routed_bump _ R.INR_MERGE_COUNT 1 (by decide))).trans (routed_onInc _ _)

theorem incFreed_routed (s : State) (e : IncEntry) : Routed s (s.incFreed e) := by
  simp only [State.incFreed]
  split
  · exact (routed_bump _ R.INR_EXP_SKIP_COUNT 1 (by decide)).trans (routed_onInc _ _)
  · exact Routed.refl s

theorem incEvict_routed (s : State) (q : Nat) : Routed s (s.incEvict q).1 ∧ More.small (s.incEvict q).2 := by
  simp only [State.incEvict]
  split
  · have h := incDrop_routed ((s.incFreed ‹_›).onInc fun r => { r with ring := r.ring.filter fun x => x.seq ≠ q })
      (‹IncEntry›).cls (‹IncEntry›).source
    exact ⟨((incFreed_routed s _).trans (routed_onInc _ _)).trans h.1, h.2⟩
  · exact ⟨Routed.refl s, by simp [More.small]⟩

theorem incAlarm_routed (s : State) (e : IncEntry) : Routed s (s.incAlarm e).1 ∧ More.small (s.incAlarm e).2 := by
  have n : More.small [] := by simp [More.small]
  simp only [State.incAlarm]
  split
  · exact ⟨(routed_onInc s _).trans (incPush_routed _ _), n⟩
  · split
    · exact incMerge_routed _ _ _ _
    · split
      · exact ⟨incPush_routed _ _, n⟩
      · split
        · rename_i q _; have h := incEvict_routed s q; exact ⟨h.1.trans (incPush_routed _ _), h.2⟩
        · split
          · rename_i q _; have h := incEvict_routed s q; exact ⟨h.1.trans (incPush_routed _ _), h.2⟩
          · split
            · exact incMerge_routed _ _ _ _
            · split
              · exact incMerge_routed _ _ _ _
              · exact ⟨Routed.refl s, n⟩

theorem incPlain_routed (s : State) (e : IncEntry) : Routed s (s.incPlain e).1 ∧ More.small (s.incPlain e).2 := by
  simp only [State.incPlain]
  split
  · exact ⟨incPush_routed _ _, by simp [More.small]⟩
  · split
    · exact incDrop_routed _ _ _
    · split
      · rename_i q _; have h := incEvict_routed s q; exact ⟨h.1.trans (incPush_routed _ _), h.2⟩
      · exact incDrop_routed _ _ _

theorem incEnter_routed (s : State) (e : IncEntry) : Routed s (s.incEnter e).1 ∧ More.small (s.incEnter e).2 := by
  simp only [State.incEnter]
  by_cases h : e.cls = clsAlarm
  · simp only [h, if_true]
    have k := incAlarm_routed s e
    exact ⟨k.1.trans (routed_incFill _), k.2⟩
  · simp only [h, if_false]
    have k := incPlain_routed s e
    exact ⟨k.1.trans (routed_incFill _), k.2⟩

theorem incTrigger_routed (s : State) : Routed s s.incTrigger.1 ∧ More.small s.incTrigger.2 := by
  simp only [State.incTrigger]
  split
  · exact ⟨routed_bump _ R.INR_FREEZE_MISSED 1 (by decide), by simp [More.small]⟩
  · exact ⟨(routed_onInc s _).trans (routed_inr _ _ _ (by decide)), by simp [More.small]⟩

/-! The router. -/

theorem routed_setRaw (s : State) (a : Nat) (v : Word) (h : eventWord a) (hs : ∀ m, a ≠ R.MBX_STAT m) :
    Routed s (s.setRaw a v) where
  only := rfl
  raws b hb := raw_setRaw_ne _ _ _ _ (fun e => hb (e ▸ h))
  stat m g hg _ _ := rd_setRaw_ne _ _ _ _ (hg ▸ hs m)
  evs := ⟨[], by simp [State.setRaw]⟩

theorem routed_wr (s : State) (f : Fld) (v : Nat) (h : eventWord f.addr) (hs : ∀ m, f.addr ≠ R.MBX_STAT m) :
    Routed s (s.wr f v) := routed_setRaw _ _ _ h hs

theorem routed_evt (s : State) (m : Nat) (b : Bool) (hm : m ≤ 16) : Routed s (s.wrB (R.MBX_STAT_EVT m) b) where
  only := rfl
  raws a ha := by
    refine raw_wr_ne _ _ _ _ (fun e => ha (Or.inl ⟨m, hm, Or.inr (Or.inr (Or.inl ?_))⟩))
    rw [← e]; simp only [R.MBX_STAT_EVT, R.MBX_STAT, mbxBase]; omega
  stat k g hg hk hb := by
    refine rd_wr_apart _ _ _ _ ⟨Nat.le_refl _, by simp [R.MBX_STAT_EVT]⟩ hk (Or.inr ?_)
    simp only [R.MBX_STAT_EVT]; omega
  evs := ⟨[], by simp [State.wrB, State.wr, State.setRaw]⟩

theorem routed_setWords (s : State) (m a : Nat) (ws : List Word) (hm : m ≤ 16) (h1 : mbxBase m + 0x980 ≤ a)
    (h2 : a + 4 * ws.length ≤ mbxBase m + 0xC00) : Routed s (s.setWords a ws) := by
  induction ws generalizing s a with
  | nil => exact Routed.refl s
  | cons w t ih =>
    simp only [List.length_cons] at h2
    refine (routed_setRaw s a w ?_ ?_).trans (ih _ (a + 4) (by omega) (by omega))
    · exact Or.inl ⟨m, hm, Or.inr (Or.inl ⟨h1, by omega⟩)⟩
    · intro k; simp only [R.MBX_STAT, mbxBase] at *; omega

theorem leBytes_length (n v : Nat) : (leBytes n v).length = n := by
  induction n generalizing v with
  | zero => rfl
  | succ n ih => simp [leBytes, ih]

theorem padTo_length (n : Nat) (bs : List Byte) : (padTo n bs).length = n := by
  simp [padTo]; omega

theorem leWords_length (bs : List Byte) : (leWords bs).length = (bs.length + 3) / 4 := by
  induction bs using leWords.induct with
  | case1 a b c d t ih => simp only [leWords, List.length_cons, ih]; omega
  | case2 => rfl
  | case3 l h h' =>
    match l, h, h' with
    | [a], _, _ => simp [leWords]
    | [a, b], _, _ => simp [leWords]
    | [a, b, c], _, _ => simp [leWords]
    | a :: b :: c :: d :: t, h, _ => exact absurd rfl (h a b c d t)

theorem deliver_routed (s : State) (m prio : Nat) (e : EvRec) (hm : m ≤ 16) (he : e.num < 512) :
    Routed s (s.deliver m prio e).1 := by
  have pend : ∀ (t : State) b, Routed t (t.setWordBit (pendWord m e.num) (e.num % 32) b) := by
    intro t b
    refine routed_wr _ _ _ (Or.inl ⟨m, hm, Or.inl ?_⟩) ?_
    · simp only [pendWord]; omega
    · intro k; simp only [pendWord, R.MBX_STAT, mbxBase]; omega
  have ovf : ∀ (t : State) b, Routed t (t.setWordBit (ovfWord m e.num) (e.num % 32) b) := by
    intro t b
    refine routed_wr _ _ _ (Or.inl ⟨m, hm, Or.inl ?_⟩) ?_
    · simp only [ovfWord]; omega
    · intro k; simp only [ovfWord, R.MBX_STAT, mbxBase]; omega
  have head : ∀ (t : State) v, Routed t (t.wr (R.MBX_EVT_HEAD_IDX m) v) := by
    intro t v
    refine routed_wr _ _ _ (Or.inl ⟨m, hm, Or.inr (Or.inr (Or.inr (Or.inl ?_)))⟩) ?_
    · simp only [R.MBX_EVT_HEAD_IDX, R.MBX_EVT_HEAD, mbxBase]; omega
    · intro k; simp only [R.MBX_EVT_HEAD_IDX, R.MBX_EVT_HEAD, R.MBX_STAT]; omega
  have lost : ∀ (t : State), Routed t (t.bump (R.MBX_EVT_LOST_COUNT m)) := by
    intro t
    refine routed_wr _ _ _ (Or.inl ⟨m, hm, Or.inr (Or.inr (Or.inr (Or.inr ?_)))⟩) ?_
    · simp only [R.MBX_EVT_LOST_COUNT, R.MBX_EVT_LOST, mbxBase]; omega
    · intro k; simp only [R.MBX_EVT_LOST_COUNT, R.MBX_EVT_LOST, R.MBX_STAT]; omega
  have w : Routed s (s.when (s.wordBit (pendWord m e.num) (e.num % 32)) fun s => s.setWordBit (ovfWord m e.num) (e.num % 32) true) := by
    simp only [State.when]; split
    · exact ovf _ _
    · exact Routed.refl _
  have base := (w.trans (pend _ true)).trans (routed_evt _ m true hm)
  simp only [State.deliver]
  split
  · exact base.trans (lost _)
  · refine (base.trans (routed_setWords _ m _ _ hm (by omega) ?_)).trans (head _ _)
    simp only [leWords_length, List.length_append, leBytes_length, padTo_length, List.length_singleton]
    omega

theorem receivers_le (s : State) (e : Nat) (o : Owner) : ∀ x ∈ s.receivers e o, x.1 ≤ 16 := by
  intro x hx
  simp only [State.receivers, List.mem_append, List.mem_filterMap, List.mem_range] at hx
  rcases hx with ⟨p, hp, hx⟩ | hx
  · split at hx
    · simp only [Option.map_eq_some_iff] at hx
      obtain ⟨y, _, rfl⟩ := hx
      simp; omega
    · simp at hx
  · split at hx
    · simp at hx; simp [hx]
    · simp at hx

theorem delivers_routed (r : EvRec) (hr : r.num < 512) (l : List (Nat × Nat)) (hl : ∀ x ∈ l, x.1 ≤ 16)
    (acc : State × List Nat) :
    Routed acc.1 (l.foldl (fun (acc : State × List Nat) x =>
      ((acc.1.deliver x.1 x.2 r).1, if (acc.1.deliver x.1 x.2 r).2 then acc.2 ++ [x.1] else acc.2)) acc).1 := by
  induction l generalizing acc with
  | nil => exact Routed.refl _
  | cons x t ih =>
    refine (deliver_routed acc.1 x.1 x.2 r (hl x (by simp)) hr).trans ?_
    rw [List.foldl_cons]
    exact ih (fun y hy => hl y (by simp [hy])) ((acc.1.deliver x.1 x.2 r).1, if (acc.1.deliver x.1 x.2 r).2 then acc.2 ++ [x.1] else acc.2)

/-- One event raised: it stands at the end of the Forester's list as it was, and only the router and the recorder wrote. -/
theorem raiseOne_routed (s : State) (e : Nat) (o : Owner) (p : List Byte) (he : e < 512) :
    Routed s (s.raiseOne e o p).1 ∧ ⟨e, s.frame, s.lc, p⟩ ∈ (s.raiseOne e o p).1.events ∧
      More.small (s.raiseOne e o p).2 := by
  have h1 : Routed s (s.onEvents (· ++ [⟨e, s.frame, s.lc, p⟩])) :=
    ⟨rfl, fun _ _ => rfl, fun _ _ _ _ _ => rfl, _, rfl⟩
  have d := delivers_routed ⟨e, s.frame, s.lc, p⟩ he ((s.onEvents (· ++ [⟨e, s.frame, s.lc, p⟩])).receivers e o)
    (receivers_le _ _ _) ((s.onEvents (· ++ [⟨e, s.frame, s.lc, p⟩])), [])
  have m1 : (⟨e, s.frame, s.lc, p⟩ : EvRec) ∈ (s.onEvents (· ++ [⟨e, s.frame, s.lc, p⟩])).events := by simp
  simp only [State.raiseOne]
  generalize hf : List.foldl _ _ _ = acc at d ⊢
  have hd : Routed (s.onEvents (· ++ [⟨e, s.frame, s.lc, p⟩])) acc.1 := d
  have h2 : Routed s acc.1 := h1.trans hd
  have m2 := hd.mem_events m1
  have sm : More.small (acc.2.map fun m => (41, if m = 16 then Owner.box16 else .part m, [BitVec.ofNat 8 m])) := by
    intro x hx; simp only [List.mem_map] at hx; obtain ⟨_, _, rfl⟩ := hx; simp
  have fin : ∀ (t : State) (ms : More), Routed acc.1 t → More.small ms →
      Routed s (if t.incTrigEvent = some e then t.incTrigger else (t, [])).1 ∧
      ⟨e, s.frame, s.lc, p⟩ ∈ (if t.incTrigEvent = some e then t.incTrigger else (t, [])).1.events ∧
      More.small (acc.2.map (fun m => (41, if m = 16 then Owner.box16 else .part m, [BitVec.ofNat 8 m])) ++ ms ++
        (if t.incTrigEvent = some e then t.incTrigger else (t, [])).2) := by
    intro t ms ht hms
    have join : ∀ ms' : More, More.small ms' → More.small (acc.2.map (fun m => (41, if m = 16 then Owner.box16 else .part m, [BitVec.ofNat 8 m])) ++ ms ++ ms') := by
      intro ms' h' x hx
      simp only [List.mem_append] at hx
      rcases hx with (hx | hx) | hx
      · exact sm x hx
      · exact hms x hx
      · exact h' x hx
    split
    · have k := incTrigger_routed t
      exact ⟨h2.trans (ht.trans k.1), (ht.trans k.1).mem_events m2, join _ k.2⟩
    · exact ⟨h2.trans ht, ht.mem_events m2, join _ (by simp [More.small])⟩
  cases hc : acc.1.incClass e with
  | none => exact fin acc.1 [] (Routed.refl _) (by simp [More.small])
  | some c =>
    have k := fun x => incEnter_routed acc.1 x
    exact fin _ _ (k _).1 (k _).2

theorem raiseLoop_routed (n : Nat) (l : More) (s : State) (hl : More.small l) : Routed s (raiseLoop n l s) := by
  induction n generalizing l s with
  | zero => exact Routed.refl s
  | succ n ih =>
    match l, hl with
    | [], _ => exact Routed.refl s
    | (e, o, p) :: rest, hl =>
      have k := raiseOne_routed s e o p (hl (e, o, p) (by simp))
      refine k.1.trans (ih _ _ ?_)
      intro x hx
      rcases List.mem_append.1 hx with hx | hx
      · exact hl x (by simp [hx])
      · exact k.2.2 x hx

/-- Raising an event: it is in the Forester's list, and nothing but the router and the recorder wrote. -/
theorem raise_routed (s : State) (e : Nat) (o : Owner) (p : List Byte) (he : e < 512) : Routed s (s.raise e o p) :=
  raiseLoop_routed 128 _ s (by intro x hx; simp at hx; simp [hx, he])

theorem raise_mem (s : State) (e : Nat) (o : Owner) (p : List Byte) (he : e < 512) :
    ⟨e, s.frame, s.lc, p⟩ ∈ (s.raise e o p).events := by
  have k := raiseOne_routed s e o p he
  have r := raiseLoop_routed 127 ([] ++ (s.raiseOne e o p).2) (s.raiseOne e o p).1 (by simpa using k.2.2)
  exact r.mem_events k.2.1

end Sys2Proof.Machine
end

