-- ==== Sys2Proof/Laws/Exec.lean ====
section
/-! SUPPORT. What a step can do: every command ends in `finish`, so it answers a next state, keeps the queue and leaves
the sparse lists canonical. -/

namespace Sys2Proof.Machine

/-- Every command ends in `finish` of some state. -/
theorem exec_finish (i : Instr) (s : State) : ∃ t, exec i s = s.finish t := by
  cases i <;> exact ⟨_, rfl⟩

/-- A step is the front command on the queue's rest, or the idle tick on an empty queue. -/
theorem step_front (s : State) (c : Instr) (rest : List Instr) (h : s.pending = c :: rest) :
    step s = exec c { s with pending := rest } := by
  simp [step, h]

theorem step_empty (s : State) (h : s.pending = []) : step s = s.finish s.idle := by simp [step, h]

theorem finished_inv (s t : State) : (s.finished t).inv = true := by
  have := finished_canon s t
  simp [State.inv, Registers.wf, Memory.wf, this]

end Sys2Proof.Machine
end

