-- ==== Sys2Proof/Laws/Frames.lean ====
section
/-! SUPPORT. How frames compose: a write of a listed field, an event and an update of a unit keep a frame. -/

namespace Sys2Proof.Machine

variable {q : Nat → Prop} {s t u : State} {D : List Fld}

theorem KeepsBut.refl : KeepsBut q s s D := ⟨fun _ _ _ _ => rfl, fun _ => rfl, rfl⟩

/-- A frame that exempts nothing holds with any exempt words. -/
theorem KeepsQuiet.but (h : KeepsQuiet s t D) : KeepsBut q s t D := ⟨fun f a b _ => h.1 f a b id, h.2⟩

theorem KeepsQuiet.keeps (h : KeepsQuiet s t D) : Keeps s t D := KeepsQuiet.but h

/-- A frame holds with more fields listed. -/
theorem KeepsBut.mono {D' : List Fld} (h : KeepsBut q s t D) (hd : ∀ g ∈ D, g ∈ D') : KeepsBut q s t D' :=
  ⟨fun f a b c => h.1 f a (fun g hg => b g (hd g hg)) c, h.2⟩

theorem KeepsBut.trans (h : KeepsBut q s t D) (k : KeepsBut q t u D) : KeepsBut q s u D :=
  ⟨fun f a b c => (k.1 f a b c).trans (h.1 f a b c), fun a => (k.2.1 a).trans (h.2.1 a), k.2.2.trans h.2.2⟩

/-- A write of a listed field. -/
theorem KeepsBut.wr (h : KeepsBut q s t D) (g : Fld) (v : Nat) (hg : g ∈ D) (ok : g.ok) : KeepsBut q s (t.wr g v) D :=
  ⟨fun f a b c => (rd_wr_apart t g f v ok a (b g hg)).trans (h.1 f a b c), h.2⟩

/-- An update that leaves registers, memory and queue alone. -/
theorem KeepsBut.same (h : KeepsBut q s t D) (hr : u.regs = t.regs) (hm : u.mem = t.mem) (hp : u.pending = t.pending) :
    KeepsBut q s u D :=
  ⟨fun f a b c => by rw [← h.1 f a b c]; simp [State.rd, State.raw, hr],
   fun a => by rw [← h.2.1 a]; simp [State.memGet, hm], hp.trans h.2.2⟩

/-- Events raised after a change keep its frame. -/
theorem Keeps.routed (h : Keeps s t D) (r : Routed t u) : Keeps s u D :=
  ⟨fun f a b c => (r.rd f c).trans (h.1 f a b c), fun a => (r.memGet a).trans (h.2.1 a), by rw [r.only]; exact h.2.2⟩

theorem Keeps.raise (h : Keeps s t D) (e : Nat) (o : Owner) (p : List Byte) (he : e < 512) :
    Keeps s (t.raise e o p) D := h.routed (raise_routed t e o p he)

theorem Keeps.when (c : Bool) (f : State → State) (h : KeepsBut q s t D) (k : KeepsBut q s (f t) D) :
    KeepsBut q s (t.when c f) D := by
  simp only [State.when]; split <;> assumption

/-- The end of a meaning keeps its frame. -/
theorem KeepsBut.finished (h : KeepsBut q s t D) : KeepsBut q s (s.finished t) D :=
  ⟨fun f a b c => by simpa using h.1 f a b c, fun a => by simpa using h.2.1 a, rfl⟩

/-- A meaning answers what its effect leaves. -/
theorem answers_finish {i : Instr} {p : State → Prop} (h : exec i s = s.finish t) (hp : p (s.finished t)) :
    Answers i s p := ⟨s.finished t, h, hp⟩

theorem raised_raise (s t : State) (e : Nat) (o : Owner) (p : List Byte) (he : e < 512) (hf : t.frame = s.frame)
    (hl : t.lc = s.lc) : Raised s (t.raise e o p) e p := by
  have h := raise_mem t e o p he
  rwa [hf, hl] at h

end Sys2Proof.Machine
end

