-- ==== Sys2Proof/Laws/Slots.lean ====
section
/-! SUPPORT. The laws of the mailbox slots: bytes written as words are read back, and a write leaves other words alone. -/

namespace Sys2Proof.Machine

/-- Four bytes put into a word are read back. -/
theorem leBytes_word (a b c d : Byte) :
    leBytes 4 (BitVec.ofNat 32 (a.toNat + 256 * (b.toNat + 256 * (c.toNat + 256 * d.toNat)))).toNat = [a, b, c, d] := by
  have ha := a.isLt; have hb := b.isLt; have hc := c.isLt; have hd := d.isLt
  simp only [leBytes, BitVec.toNat_ofNat, List.cons.injEq, and_true]
  refine ⟨?_, ?_, ?_, ?_⟩ <;> apply BitVec.eq_of_toNat_eq <;> simp only [BitVec.toNat_ofNat] <;> omega

theorem flatMap_words_length (l : List Word) : (l.flatMap fun w => leBytes 4 w.toNat).length = 4 * l.length := by
  induction l with
  | nil => rfl
  | cons x t ih => simp only [List.flatMap_cons, List.length_append, leBytes_length, ih, List.length_cons]; omega

/-- The words of a byte string hold it: read as bytes they begin with it. -/
theorem leWords_take (bs : List Byte) : ((leWords bs).flatMap fun w => leBytes 4 w.toNat).take bs.length = bs := by
  induction bs using leWords.induct with
  | case1 a b c d t ih => simp only [leWords, List.flatMap_cons, leBytes_word, List.length_cons, List.cons_append, List.nil_append, List.take_succ_cons, ih]
  | case2 => rfl
  | case3 l h h' =>
    have z : ∀ a b c : Byte, leBytes 4 (BitVec.ofNat 32 (a.toNat + 256 * (b.toNat + 256 * (c.toNat + 256 * 0)))).toNat = [a, b, c, 0] :=
      fun a b c => leBytes_word a b c 0
    match l, h, h' with
    | [a], _, _ => simpa [leWords] using congrArg (List.take 1) (z a 0 0)
    | [a, b], _, _ => simpa [leWords] using congrArg (List.take 2) (z a b 0)
    | [a, b, c], _, _ => simpa [leWords] using congrArg (List.take 3) (z a b c)
    | a :: b :: c :: d :: t, h, _ => exact absurd rfl (h a b c d t)

theorem raw_setWords_apart (s : State) (ws : List Word) (a b : Nat) (h : b < a ∨ a + 4 * ws.length ≤ b) :
    (s.setWords a ws).raw b = s.raw b := by
  induction ws generalizing s a with
  | nil => rfl
  | cons w t ih =>
    simp only [List.length_cons] at h
    rw [State.setWords, ih _ _ (by omega), raw_setRaw_ne _ _ _ _ (by omega)]

theorem raw_setWords (s : State) (ws : List Word) (a k : Nat) (h : k < ws.length) : (s.setWords a ws).raw (a + 4 * k) = ws.getD k 0 := by
  induction ws generalizing s a k with
  | nil => simp at h
  | cons w t ih =>
    cases k with
    | zero => rw [State.setWords, raw_setWords_apart _ _ _ _ (by omega)]; simp
    | succ k =>
      rw [State.setWords, show a + 4 * (k + 1) = a + 4 + 4 * k by omega, ih _ _ _ (by simpa using h)]; simp

theorem rd_setWords_apart (s : State) (a : Nat) (ws : List Word) (f : Fld) (h : f.addr < a ∨ a + 4 * ws.length ≤ f.addr) :
    (s.setWords a ws).rd f = s.rd f := by
  unfold State.rd; rw [raw_setWords_apart _ _ _ _ h]

theorem onlyRegs_setWords (s : State) (ws : List Word) (a : Nat) : OnlyRegs s (s.setWords a ws) := by
  induction ws generalizing s a with
  | nil => rfl
  | cons w t ih => exact (onlyRegs_setRaw s a w).trans (ih _ _)

theorem flatMap_range_getD {β : Type} (ws : List Word) (g : Word → List β) (f : Nat → List β) (h : ∀ k, k < ws.length → f k = g (ws.getD k 0)) :
    (List.range ws.length).flatMap f = ws.flatMap g := by
  induction ws generalizing f with
  | nil => rfl
  | cons w t ih =>
    rw [List.length_cons, List.range_succ_eq_map, List.flatMap_cons, List.flatMap_map, List.flatMap_cons, h 0 (by simp),
      ih (fun k => f (k + 1)) (fun k hk => by rw [h (k + 1) (by simpa using hk)]; simp)]
    simp

/-- A byte string written as words is read back. -/
theorem bytesAt_setWords (s : State) (a : Nat) (bs : List Byte) : (s.setWords a (leWords bs)).bytesAt a bs.length = bs := by
  unfold State.bytesAt
  rw [← leWords_length, flatMap_range_getD (leWords bs) (fun w => leBytes 4 w.toNat) _ fun k hk => by rw [raw_setWords _ _ _ _ hk], leWords_take]

theorem bytesAt_congr (s t : State) (a n : Nat) (h : ∀ k, k < (n + 3) / 4 → t.raw (a + 4 * k) = s.raw (a + 4 * k)) : t.bytesAt a n = s.bytesAt a n := by
  unfold State.bytesAt
  have : ∀ l : List Nat, (∀ k ∈ l, k < (n + 3) / 4) →
      (l.flatMap fun k => leBytes 4 (t.raw (a + 4 * k)).toNat) = l.flatMap fun k => leBytes 4 (s.raw (a + 4 * k)).toNat := by
    intro l hl
    induction l with
    | nil => rfl
    | cons x r ih => rw [List.flatMap_cons, List.flatMap_cons, h x (hl x (by simp)), ih fun k hk => hl k (by simp [hk])]
  rw [this _ fun k hk => List.mem_range.mp hk]

theorem bytesAt_setWords_apart (s : State) (a b n : Nat) (ws : List Word) (h : b + 4 * ((n + 3) / 4) ≤ a ∨ a + 4 * ws.length ≤ b) :
    (s.setWords a ws).bytesAt b n = s.bytesAt b n :=
  bytesAt_congr _ _ _ _ fun k hk => raw_setWords_apart _ _ _ _ (by omega)

theorem bytesAt_wr (s : State) (f : Fld) (v a n : Nat) (h : f.addr < a ∨ a + 4 * ((n + 3) / 4) ≤ f.addr) : (s.wr f v).bytesAt a n = s.bytesAt a n :=
  bytesAt_congr _ _ _ _ fun k hk => raw_wr_ne _ _ _ _ (by omega)

/-- What a slot is written with is read from it. -/
theorem bytesAt_writeSlot (s : State) (a : Nat) (bs : List Byte) : (s.writeSlot a bs).bytesAt a bs.length = bs := bytesAt_setWords _ _ _

/-- A payload of listed bytes has no reserved bit. -/
theorem rsvdBad_allBits (n : Nat) (p : List Byte) (h : p.length ≤ n) : rsvdBad (allBits n) p = false := by
  simp only [rsvdBad, allBits, List.any_eq_false]
  intro x hx
  have := List.snd_lt_of_mem_zipIdx hx
  have h2 : x.2 < n := by omega
  simp [h2]

/-- The response slot holds the response, header and result (R43, R48). -/
theorem respond_bytes (s : State) (c : Ctx) (st detail : Nat) (res : List Byte) (hr : res.length ≤ 1008) :
    (s.respond c st detail res).bytesAt (mbxBase c.mbx + 0x400) (16 + res.length) =
      leBytes 2 c.opcode ++ leBytes 1 c.tag ++ leBytes 1 c.flags ++ leBytes 2 c.gen ++ leBytes 2 res.length ++ leBytes 2 st ++ leBytes 2 detail ++
        leBytes 4 s.frame ++ res := by
  have hl : (leBytes 2 c.opcode ++ leBytes 1 c.tag ++ leBytes 1 c.flags ++ leBytes 2 c.gen ++ leBytes 2 res.length ++ leBytes 2 st ++ leBytes 2 detail ++
        leBytes 4 s.frame ++ res).length = 16 + res.length := by simp only [List.length_append, leBytes_length]
  dsimp only [State.respond]
  have apart : ∀ f : Fld, f.addr = R.MBX_STAT c.mbx → f.addr < mbxBase c.mbx + 0x400 ∨ mbxBase c.mbx + 0x400 + 4 * ((16 + res.length + 3) / 4) ≤ f.addr := by
    intro f hf; rw [hf]; simp only [R.MBX_STAT, mbxBase]; omega
  rw [bytesAt_wr _ (R.MBX_STAT_BUSY c.mbx) _ _ _ (apart _ rfl), bytesAt_wr _ (R.MBX_STAT_DONE c.mbx) _ _ _ (apart _ rfl),
    bytesAt_wr _ (R.MBX_STAT_RESP_TAG c.mbx) _ _ _ (apart _ rfl)]
  rw [← hl, bytesAt_writeSlot]

end Sys2Proof.Machine
end

