-- ==== Sys2Proof/Laws/Answers.lean ====
section
/-! SUPPORT. What an access and an answer can do: the three ends of an access at its target, and the words that a response
writes. -/

namespace Sys2Proof.Machine

/-! Accesses (R20, R23, R325). -/

theorem access_denied (s : State) (a : Attr) (addr : Nat) (w : Bool) (f : State → State) (h : s.regAdmits a addr w = false) :
    s.access a addr w f = s.deny a addr := by simp [State.access, h]

theorem access_gated (s : State) (a : Attr) (addr : Nat) (w : Bool) (f : State → State) (h : s.regAdmits a addr w = true) (g : s.gated addr = true) :
    s.access a addr w f = s.gateAccess a addr := by simp [State.access, h, g]

theorem access_done (s : State) (a : Attr) (addr : Nat) (w : Bool) (f : State → State) (h : s.regAdmits a addr w = true) (g : s.gated addr = false) :
    s.access a addr w f = f (s.respondBus 0) := by simp [State.access, h, g]

/-- The end of a transaction on the bus changes no register, no memory and no queue entry. -/
theorem onBus_keeps (s : State) (f : BusResp → BusResp) : Keeps s (s.onBus f) [] := KeepsBut.refl.same rfl rfl rfl

theorem onBus_frame (s : State) (f : BusResp → BusResp) : (s.onBus f).frame = s.frame := rfl
theorem onBus_lc (s : State) (f : BusResp → BusResp) : (s.onBus f).lc = s.lc := rfl

theorem raise_bus (s : State) (e : Nat) (o : Owner) (p : List Byte) (he : e < 512) : (s.raise e o p).bus = s.bus := by
  rw [(raise_routed s e o p he).only]

/-- A denied access answers an error, is reported and has no effect. -/
theorem deny_spec (s : State) (a : Attr) (addr : Nat) : (s.deny a addr).bus = ⟨0, true, .plain⟩ ∧
    Raised s (s.deny a addr) 487 (leBytes 5 addr ++ [BitVec.ofNat 8 a.pid, BitVec.ofNat 8 a.rqc, BitVec.ofNat 8 (b2n a.w)]) ∧ Keeps s (s.deny a addr) [] :=
  ⟨by rw [State.deny, raise_bus _ _ _ _ (by decide)]; rfl, by rw [State.deny]; exact raised_raise s _ _ _ _ (by decide) (onBus_frame _ _) (onBus_lc _ _),
    by rw [State.deny]; exact (onBus_keeps s _).raise _ _ _ (by decide)⟩

/-- An access to a gated unit answers an error, is reported and has no effect. -/
theorem gateAccess_spec (s : State) (a : Attr) (addr : Nat) : (s.gateAccess a addr).bus = ⟨0, true, .plain⟩ ∧
    Raised s (s.gateAccess a addr) 497 (BitVec.ofNat 8 ((gateUnit addr).getD 0) :: leBytes 5 addr ++ [BitVec.ofNat 8 a.pid]) ∧ Keeps s (s.gateAccess a addr) [] :=
  ⟨by rw [State.gateAccess, raise_bus _ _ _ _ (by decide)]; rfl, by rw [State.gateAccess]; exact raised_raise s _ _ _ _ (by decide) (onBus_frame _ _) (onBus_lc _ _),
    by rw [State.gateAccess]; exact (onBus_keeps s _).raise _ _ _ (by decide)⟩

/-! Responses (R43, R48). -/

theorem raw_clearRegs (s : State) (p : Nat → Bool) (a : Nat) (h : p a = false) : (s.clearRegs p).raw a = s.raw a := by
  have := sget_filter regReset (fun k => !p k) s.regs a
  simpa [State.raw, State.clearRegs, h] using this

theorem raw_writeSlot (s : State) (a b : Nat) (bs : List Byte) (hl : bs.length ≤ 0x400) (h : b < a ∨ a + 0x400 ≤ b) :
    (s.writeSlot a bs).raw b = s.raw b := by
  rw [State.writeSlot, raw_setWords_apart _ _ _ _ (by rw [leWords_length]; omega), raw_clearRegs]
  simp; omega

/-- A response writes its slot and the word MBX_STAT alone. -/
theorem respond_raw (s : State) (c : Ctx) (st detail : Nat) (res : List Byte) (a : Nat) (hr : res.length ≤ 1008)
    (h : a < mbxBase c.mbx + 0x400 ∨ mbxBase c.mbx + 0x800 ≤ a) (hs : a ≠ R.MBX_STAT c.mbx) : (s.respond c st detail res).raw a = s.raw a := by
  have ne : ∀ f : Fld, f.addr = R.MBX_STAT c.mbx → f.addr ≠ a := fun f hf e => hs (e ▸ hf)
  dsimp only [State.respond]
  rw [raw_wr_ne _ _ _ _ (ne _ rfl), raw_wr_ne _ _ _ _ (ne _ rfl), raw_wr_ne _ _ _ _ (ne _ rfl), raw_writeSlot _ _ _ _ ?_ (by omega)]
  simp only [List.length_append, leBytes_length]; omega

/-- It changes nothing but registers. -/
theorem onlyRegs_respond (s : State) (c : Ctx) (st detail : Nat) (res : List Byte) : OnlyRegs s (s.respond c st detail res) := by
  dsimp only [State.respond]
  refine ((OnlyRegs.trans ?_ (onlyRegs_wr _ _ _)).trans (onlyRegs_wr _ _ _)).trans (onlyRegs_wr _ _ _)
  exact OnlyRegs.trans (t := s.clearRegs _) rfl (onlyRegs_setWords _ _ _)

/-- The doorbell is free, the response is there, with its tag. -/
theorem respond_stat (s : State) (c : Ctx) (st detail : Nat) (res : List Byte) :
    (s.respond c st detail res).rd (R.MBX_STAT_BUSY c.mbx) = 0 ∧ (s.respond c st detail res).rd (R.MBX_STAT_DONE c.mbx) = 1 ∧
    (s.respond c st detail res).rd (R.MBX_STAT_RESP_TAG c.mbx) = c.tag % 256 := by
  have ok : ∀ hi lo, lo ≤ hi → hi < 32 → (⟨R.MBX_STAT c.mbx, hi, lo⟩ : Fld).ok := fun _ _ h k => ⟨h, k⟩
  dsimp only [State.respond, R.MBX_STAT_BUSY, R.MBX_STAT_DONE, R.MBX_STAT_RESP_TAG]
  have apart : ∀ h l h' l', h < l' ∨ h' < l → (⟨R.MBX_STAT c.mbx, h, l⟩ : Fld).apart ⟨R.MBX_STAT c.mbx, h', l'⟩ := fun _ _ _ _ h => .inr h
  refine ⟨?_, ?_, ?_⟩
  · rw [rd_wr _ _ _ (ok _ _ (by decide) (by decide))]; rfl
  · rw [rd_wr_apart _ _ _ _ (ok _ _ (by decide) (by decide)) (ok _ _ (by decide) (by decide)) (apart _ _ _ _ (by decide)), rd_wr _ _ _ (ok _ _ (by decide) (by decide))]; rfl
  · rw [rd_wr_apart _ _ _ _ (ok _ _ (by decide) (by decide)) (ok _ _ (by decide) (by decide)) (apart _ _ _ _ (by decide)),
      rd_wr_apart _ _ _ _ (ok _ _ (by decide) (by decide)) (ok _ _ (by decide) (by decide)) (apart _ _ _ _ (by decide)), rd_wr _ _ _ (ok _ _ (by decide) (by decide))]
    rfl

/-- The frame of a response. -/
theorem respond_keeps (s : State) (c : Ctx) (st detail : Nat) (res : List Byte) (hr : res.length ≤ 1008) :
    KeepsBut (fun a => mbxBase c.mbx + 0x400 ≤ a ∧ a < mbxBase c.mbx + 0x800) s (s.respond c st detail res)
      [R.MBX_STAT_BUSY c.mbx, R.MBX_STAT_DONE c.mbx, R.MBX_STAT_RESP_TAG c.mbx] := by
  have only := onlyRegs_respond s c st detail res
  refine ⟨fun f hf hg hq => ?_, fun a => by rw [only]; rfl, by rw [only]⟩
  by_cases hs : f.addr = R.MBX_STAT c.mbx
  · have ok : ∀ hi lo, lo ≤ hi → hi < 32 → (⟨R.MBX_STAT c.mbx, hi, lo⟩ : Fld).ok := fun _ _ h k => ⟨h, k⟩
    dsimp only [State.respond]
    rw [rd_wr_apart _ (R.MBX_STAT_BUSY c.mbx) f _ (ok _ _ (by decide) (by decide)) hf (hg _ (by simp)),
      rd_wr_apart _ (R.MBX_STAT_DONE c.mbx) f _ (ok _ _ (by decide) (by decide)) hf (hg _ (by simp)),
      rd_wr_apart _ (R.MBX_STAT_RESP_TAG c.mbx) f _ (ok _ _ (by decide) (by decide)) hf (hg _ (by simp))]
    unfold State.rd
    rw [raw_writeSlot _ _ _ _ (by simp only [List.length_append, leBytes_length]; omega) (by rw [hs]; simp only [R.MBX_STAT, mbxBase]; omega)]
  · unfold State.rd
    rw [respond_raw _ _ _ _ _ _ hr (by omega) hs]

/-! Rows of the Rhapol interface (R42, R43, R51, R56). -/

/-- Without a command of the row's opcode there is nothing to take, nor while an RT command is due first (R52). -/
theorem runRow_idle (s : State) (o : OpSpec) (m : Nat) (fate : Fate)
    (h : s.rd (R.MBX_STAT_BUSY m) = 0 ∨ (s.slotCtx m).opcode ≠ o.opcode ∨ s.yields m = true) : s.runRow o m fate = s := by
  simp only [State.runRow]
  rw [if_neg]
  rcases h with h | h | h
  · simp [h]
  · exact fun k => h k.2.1
  · simp [h]

/-- A command of the row's opcode is answered with the outcome of its checks and handler. -/
theorem runRow_answers (s : State) (o : OpSpec) (m : Nat) (fate : Fate) (h : s.rd (R.MBX_STAT_BUSY m) ≠ 0) (ho : (s.slotCtx m).opcode = o.opcode)
    (hy : s.yields m = false) : s.runRow o m fate = s.answer (s.slotCtx m) (s.runOp o (s.slotCtx m) fate) := by
  simp only [State.runRow]
  rw [if_pos ⟨(isSet_iff _ _).mpr h, ho, by simp [hy]⟩]

/-- The first check of the header that fails answers. -/
theorem runOp_head (s : State) (o : OpSpec) (c : Ctx) (fate : Fate) (x : Nat × Nat) (hf : ∀ k, fate ≠ .internal k) (h : s.headBad o c = some x)
    (ha : x.1 ≠ stAccepted) : s.runOp o c fate = Reply.err s x.1 x.2 := by
  cases fate <;> simp_all [State.runOp, State.runChecks, Reply.err]

/-- Past every check the handler runs: LONG commands are taken up, and what a refusal did is undone unless the row keeps it. -/
theorem runOp_handler (s : State) (o : OpSpec) (c : Ctx) (h : s.headBad o c = none) (hr : rsvdBad o.bits c.payload = false) (hg : o.grant s c = none)
    (hl : o.need c.payload ≤ c.len) : s.runOp o c .done =
      if (o.body c s).st = stAccepted then s.longTake c (o.body c s)
      else if (o.body c s).st = stOk ∨ o.keep = true then o.body c s else { o.body c s with s := s } := by
  have hl' : ¬ c.len < o.need c.payload := by omega
  simp only [State.runOp, State.runChecks, h, State.bodyRun, hr, hg, hl', Bool.false_eq_true, if_false, reduceCtorEq, decide_false]
  by_cases ha : (o.body c s).st = stAccepted
  · simp [ha]
  · by_cases hk : (o.body c s).st = stOk
    · simp [hk, stOk, stAccepted]
    · by_cases hp : o.keep <;> simp [ha, hk, hp]

/-- An outcome that leaves the mailbox's generation and its command in place is the response, with its events. -/
theorem answer_responds (s : State) (c : Ctx) (r : Reply) (hg : r.s.gen c.mbx = s.gen c.mbx) (hb : r.s.rd (R.MBX_STAT_BUSY c.mbx) ≠ 0) :
    s.answer c r = (r.s.respond c r.st r.detail r.result).replyEvents c r.st r.detail := by
  simp [State.answer, hg, hb]

/-- No event comes with a response but that of INTERNAL, and that of BUSY for time in class RT. -/
theorem replyEvents_none (s : State) (c : Ctx) (st d : Nat) (h : st ≠ stInternal) (hb : st ≠ stBusy) : s.replyEvents c st d = s := by
  simp [State.replyEvents, h, hb]

end Sys2Proof.Machine
end

