-- ==== Sys2Proof/Laws/Fields.lean ====
section
/-! SUPPORT. What an update of one unit of State leaves: every register (but for onRegs), every byte of memory (but for
onMem), and any frame. -/

namespace Sys2Proof.Machine

@[simp] theorem State.onPending_raw (f : List Instr → List Instr) (s : State) (a : Nat) : (s.onPending f).raw a = s.raw a := rfl
@[simp] theorem State.onPending_rd (f : List Instr → List Instr) (s : State) (g : Fld) : (s.onPending f).rd g = s.rd g := rfl
@[simp] theorem State.onPending_frame (f : List Instr → List Instr) (s : State) : (s.onPending f).frame = s.frame := rfl
@[simp] theorem State.onPending_memGet (f : List Instr → List Instr) (s : State) (a : Nat) : (s.onPending f).memGet a = s.memGet a := rfl
@[simp] theorem State.onPending_lc (f : List Instr → List Instr) (s : State) : (s.onPending f).lc = s.lc := rfl
@[simp] theorem State.onNow_raw (f : Nat → Nat) (s : State) (a : Nat) : (s.onNow f).raw a = s.raw a := rfl
@[simp] theorem State.onNow_rd (f : Nat → Nat) (s : State) (g : Fld) : (s.onNow f).rd g = s.rd g := rfl
@[simp] theorem State.onNow_frame (f : Nat → Nat) (s : State) : (s.onNow f).frame = s.frame := rfl
@[simp] theorem State.onNow_memGet (f : Nat → Nat) (s : State) (a : Nat) : (s.onNow f).memGet a = s.memGet a := rfl
theorem KeepsBut.onNow {q : Nat → Prop} {s t : State} {D : List Fld} (h : KeepsBut q s t D) (f : Nat → Nat) :
    KeepsBut q s (t.onNow f) D := h.same rfl rfl rfl
@[simp] theorem State.onFreeCtr_raw (f : Nat → Nat) (s : State) (a : Nat) : (s.onFreeCtr f).raw a = s.raw a := rfl
@[simp] theorem State.onFreeCtr_rd (f : Nat → Nat) (s : State) (g : Fld) : (s.onFreeCtr f).rd g = s.rd g := rfl
@[simp] theorem State.onFreeCtr_frame (f : Nat → Nat) (s : State) : (s.onFreeCtr f).frame = s.frame := rfl
@[simp] theorem State.onFreeCtr_memGet (f : Nat → Nat) (s : State) (a : Nat) : (s.onFreeCtr f).memGet a = s.memGet a := rfl
@[simp] theorem State.onFreeCtr_lc (f : Nat → Nat) (s : State) : (s.onFreeCtr f).lc = s.lc := rfl
theorem KeepsBut.onFreeCtr {q : Nat → Prop} {s t : State} {D : List Fld} (h : KeepsBut q s t D) (f : Nat → Nat) :
    KeepsBut q s (t.onFreeCtr f) D := h.same rfl rfl rfl
@[simp] theorem State.onStaged_raw (f : List (Nat × Word) → List (Nat × Word)) (s : State) (a : Nat) : (s.onStaged f).raw a = s.raw a := rfl
@[simp] theorem State.onStaged_rd (f : List (Nat × Word) → List (Nat × Word)) (s : State) (g : Fld) : (s.onStaged f).rd g = s.rd g := rfl
@[simp] theorem State.onStaged_frame (f : List (Nat × Word) → List (Nat × Word)) (s : State) : (s.onStaged f).frame = s.frame := rfl
@[simp] theorem State.onStaged_memGet (f : List (Nat × Word) → List (Nat × Word)) (s : State) (a : Nat) : (s.onStaged f).memGet a = s.memGet a := rfl
@[simp] theorem State.onStaged_lc (f : List (Nat × Word) → List (Nat × Word)) (s : State) : (s.onStaged f).lc = s.lc := rfl
theorem KeepsBut.onStaged {q : Nat → Prop} {s t : State} {D : List Fld} (h : KeepsBut q s t D) (f : List (Nat × Word) → List (Nat × Word)) :
    KeepsBut q s (t.onStaged f) D := h.same rfl rfl rfl
@[simp] theorem State.onStagedTab_raw (f : List (Nat × List Byte) → List (Nat × List Byte)) (s : State) (a : Nat) : (s.onStagedTab f).raw a = s.raw a := rfl
@[simp] theorem State.onStagedTab_rd (f : List (Nat × List Byte) → List (Nat × List Byte)) (s : State) (g : Fld) : (s.onStagedTab f).rd g = s.rd g := rfl
@[simp] theorem State.onStagedTab_frame (f : List (Nat × List Byte) → List (Nat × List Byte)) (s : State) : (s.onStagedTab f).frame = s.frame := rfl
@[simp] theorem State.onStagedTab_memGet (f : List (Nat × List Byte) → List (Nat × List Byte)) (s : State) (a : Nat) : (s.onStagedTab f).memGet a = s.memGet a := rfl
@[simp] theorem State.onStagedTab_lc (f : List (Nat × List Byte) → List (Nat × List Byte)) (s : State) : (s.onStagedTab f).lc = s.lc := rfl
theorem KeepsBut.onStagedTab {q : Nat → Prop} {s t : State} {D : List Fld} (h : KeepsBut q s t D) (f : List (Nat × List Byte) → List (Nat × List Byte)) :
    KeepsBut q s (t.onStagedTab f) D := h.same rfl rfl rfl
@[simp] theorem State.onCommits_raw (f : List Commit → List Commit) (s : State) (a : Nat) : (s.onCommits f).raw a = s.raw a := rfl
@[simp] theorem State.onCommits_rd (f : List Commit → List Commit) (s : State) (g : Fld) : (s.onCommits f).rd g = s.rd g := rfl
@[simp] theorem State.onCommits_frame (f : List Commit → List Commit) (s : State) : (s.onCommits f).frame = s.frame := rfl
@[simp] theorem State.onCommits_memGet (f : List Commit → List Commit) (s : State) (a : Nat) : (s.onCommits f).memGet a = s.memGet a := rfl
@[simp] theorem State.onCommits_lc (f : List Commit → List Commit) (s : State) : (s.onCommits f).lc = s.lc := rfl
theorem KeepsBut.onCommits {q : Nat → Prop} {s t : State} {D : List Fld} (h : KeepsBut q s t D) (f : List Commit → List Commit) :
    KeepsBut q s (t.onCommits f) D := h.same rfl rfl rfl
@[simp] theorem State.onMem_raw (f : List Host.Cell → List Host.Cell) (s : State) (a : Nat) : (s.onMem f).raw a = s.raw a := rfl
@[simp] theorem State.onMem_rd (f : List Host.Cell → List Host.Cell) (s : State) (g : Fld) : (s.onMem f).rd g = s.rd g := rfl
@[simp] theorem State.onMem_frame (f : List Host.Cell → List Host.Cell) (s : State) : (s.onMem f).frame = s.frame := rfl
@[simp] theorem State.onMem_lc (f : List Host.Cell → List Host.Cell) (s : State) : (s.onMem f).lc = s.lc := rfl
@[simp] theorem State.onClk_raw (f : Clock → Clock) (s : State) (a : Nat) : (s.onClk f).raw a = s.raw a := rfl
@[simp] theorem State.onClk_rd (f : Clock → Clock) (s : State) (g : Fld) : (s.onClk f).rd g = s.rd g := rfl
@[simp] theorem State.onClk_frame (f : Clock → Clock) (s : State) : (s.onClk f).frame = s.frame := rfl
@[simp] theorem State.onClk_memGet (f : Clock → Clock) (s : State) (a : Nat) : (s.onClk f).memGet a = s.memGet a := rfl
theorem KeepsBut.onClk {q : Nat → Prop} {s t : State} {D : List Fld} (h : KeepsBut q s t D) (f : Clock → Clock) :
    KeepsBut q s (t.onClk f) D := h.same rfl rfl rfl
@[simp] theorem State.onBus_raw (f : BusResp → BusResp) (s : State) (a : Nat) : (s.onBus f).raw a = s.raw a := rfl
@[simp] theorem State.onBus_rd (f : BusResp → BusResp) (s : State) (g : Fld) : (s.onBus f).rd g = s.rd g := rfl
@[simp] theorem State.onBus_frame (f : BusResp → BusResp) (s : State) : (s.onBus f).frame = s.frame := rfl
@[simp] theorem State.onBus_memGet (f : BusResp → BusResp) (s : State) (a : Nat) : (s.onBus f).memGet a = s.memGet a := rfl
@[simp] theorem State.onBus_lc (f : BusResp → BusResp) (s : State) : (s.onBus f).lc = s.lc := rfl
theorem KeepsBut.onBus {q : Nat → Prop} {s t : State} {D : List Fld} (h : KeepsBut q s t D) (f : BusResp → BusResp) :
    KeepsBut q s (t.onBus f) D := h.same rfl rfl rfl
@[simp] theorem State.onEvents_raw (f : List EvRec → List EvRec) (s : State) (a : Nat) : (s.onEvents f).raw a = s.raw a := rfl
@[simp] theorem State.onEvents_rd (f : List EvRec → List EvRec) (s : State) (g : Fld) : (s.onEvents f).rd g = s.rd g := rfl
@[simp] theorem State.onEvents_frame (f : List EvRec → List EvRec) (s : State) : (s.onEvents f).frame = s.frame := rfl
@[simp] theorem State.onEvents_memGet (f : List EvRec → List EvRec) (s : State) (a : Nat) : (s.onEvents f).memGet a = s.memGet a := rfl
@[simp] theorem State.onEvents_lc (f : List EvRec → List EvRec) (s : State) : (s.onEvents f).lc = s.lc := rfl
theorem KeepsBut.onEvents {q : Nat → Prop} {s t : State} {D : List Fld} (h : KeepsBut q s t D) (f : List EvRec → List EvRec) :
    KeepsBut q s (t.onEvents f) D := h.same rfl rfl rfl
@[simp] theorem State.onFrm_raw (f : FrameGen → FrameGen) (s : State) (a : Nat) : (s.onFrm f).raw a = s.raw a := rfl
@[simp] theorem State.onFrm_rd (f : FrameGen → FrameGen) (s : State) (g : Fld) : (s.onFrm f).rd g = s.rd g := rfl
@[simp] theorem State.onFrm_frame (f : FrameGen → FrameGen) (s : State) : (s.onFrm f).frame = s.frame := rfl
@[simp] theorem State.onFrm_memGet (f : FrameGen → FrameGen) (s : State) (a : Nat) : (s.onFrm f).memGet a = s.memGet a := rfl
@[simp] theorem State.onFrm_lc (f : FrameGen → FrameGen) (s : State) : (s.onFrm f).lc = s.lc := rfl
theorem KeepsBut.onFrm {q : Nat → Prop} {s t : State} {D : List Fld} (h : KeepsBut q s t D) (f : FrameGen → FrameGen) :
    KeepsBut q s (t.onFrm f) D := h.same rfl rfl rfl
@[simp] theorem State.onMbxs_raw (f : List Mbx → List Mbx) (s : State) (a : Nat) : (s.onMbxs f).raw a = s.raw a := rfl
@[simp] theorem State.onMbxs_rd (f : List Mbx → List Mbx) (s : State) (g : Fld) : (s.onMbxs f).rd g = s.rd g := rfl
@[simp] theorem State.onMbxs_frame (f : List Mbx → List Mbx) (s : State) : (s.onMbxs f).frame = s.frame := rfl
@[simp] theorem State.onMbxs_memGet (f : List Mbx → List Mbx) (s : State) (a : Nat) : (s.onMbxs f).memGet a = s.memGet a := rfl
@[simp] theorem State.onMbxs_lc (f : List Mbx → List Mbx) (s : State) : (s.onMbxs f).lc = s.lc := rfl
theorem KeepsBut.onMbxs {q : Nat → Prop} {s t : State} {D : List Fld} (h : KeepsBut q s t D) (f : List Mbx → List Mbx) :
    KeepsBut q s (t.onMbxs f) D := h.same rfl rfl rfl
@[simp] theorem State.onLongs_raw (f : List LongCmd → List LongCmd) (s : State) (a : Nat) : (s.onLongs f).raw a = s.raw a := rfl
@[simp] theorem State.onLongs_rd (f : List LongCmd → List LongCmd) (s : State) (g : Fld) : (s.onLongs f).rd g = s.rd g := rfl
@[simp] theorem State.onLongs_frame (f : List LongCmd → List LongCmd) (s : State) : (s.onLongs f).frame = s.frame := rfl
@[simp] theorem State.onLongs_memGet (f : List LongCmd → List LongCmd) (s : State) (a : Nat) : (s.onLongs f).memGet a = s.memGet a := rfl
@[simp] theorem State.onLongs_lc (f : List LongCmd → List LongCmd) (s : State) : (s.onLongs f).lc = s.lc := rfl
theorem KeepsBut.onLongs {q : Nat → Prop} {s t : State} {D : List Fld} (h : KeepsBut q s t D) (f : List LongCmd → List LongCmd) :
    KeepsBut q s (t.onLongs f) D := h.same rfl rfl rfl
@[simp] theorem State.onSvcBuf_raw (f : List (Nat × Byte) → List (Nat × Byte)) (s : State) (a : Nat) : (s.onSvcBuf f).raw a = s.raw a := rfl
@[simp] theorem State.onSvcBuf_rd (f : List (Nat × Byte) → List (Nat × Byte)) (s : State) (g : Fld) : (s.onSvcBuf f).rd g = s.rd g := rfl
@[simp] theorem State.onSvcBuf_frame (f : List (Nat × Byte) → List (Nat × Byte)) (s : State) : (s.onSvcBuf f).frame = s.frame := rfl
@[simp] theorem State.onSvcBuf_memGet (f : List (Nat × Byte) → List (Nat × Byte)) (s : State) (a : Nat) : (s.onSvcBuf f).memGet a = s.memGet a := rfl
@[simp] theorem State.onSvcBuf_lc (f : List (Nat × Byte) → List (Nat × Byte)) (s : State) : (s.onSvcBuf f).lc = s.lc := rfl
theorem KeepsBut.onSvcBuf {q : Nat → Prop} {s t : State} {D : List Fld} (h : KeepsBut q s t D) (f : List (Nat × Byte) → List (Nat × Byte)) :
    KeepsBut q s (t.onSvcBuf f) D := h.same rfl rfl rfl
@[simp] theorem State.onFwVersion_raw (f : Nat → Nat) (s : State) (a : Nat) : (s.onFwVersion f).raw a = s.raw a := rfl
@[simp] theorem State.onFwVersion_rd (f : Nat → Nat) (s : State) (g : Fld) : (s.onFwVersion f).rd g = s.rd g := rfl
@[simp] theorem State.onFwVersion_frame (f : Nat → Nat) (s : State) : (s.onFwVersion f).frame = s.frame := rfl
@[simp] theorem State.onFwVersion_memGet (f : Nat → Nat) (s : State) (a : Nat) : (s.onFwVersion f).memGet a = s.memGet a := rfl
@[simp] theorem State.onFwVersion_lc (f : Nat → Nat) (s : State) : (s.onFwVersion f).lc = s.lc := rfl
theorem KeepsBut.onFwVersion {q : Nat → Prop} {s t : State} {D : List Fld} (h : KeepsBut q s t D) (f : Nat → Nat) :
    KeepsBut q s (t.onFwVersion f) D := h.same rfl rfl rfl
@[simp] theorem State.onRecords_raw (f : List Record → List Record) (s : State) (a : Nat) : (s.onRecords f).raw a = s.raw a := rfl
@[simp] theorem State.onRecords_rd (f : List Record → List Record) (s : State) (g : Fld) : (s.onRecords f).rd g = s.rd g := rfl
@[simp] theorem State.onRecords_frame (f : List Record → List Record) (s : State) : (s.onRecords f).frame = s.frame := rfl
@[simp] theorem State.onRecords_memGet (f : List Record → List Record) (s : State) (a : Nat) : (s.onRecords f).memGet a = s.memGet a := rfl
@[simp] theorem State.onRecords_lc (f : List Record → List Record) (s : State) : (s.onRecords f).lc = s.lc := rfl
theorem KeepsBut.onRecords {q : Nat → Prop} {s t : State} {D : List Fld} (h : KeepsBut q s t D) (f : List Record → List Record) :
    KeepsBut q s (t.onRecords f) D := h.same rfl rfl rfl
@[simp] theorem State.onQueues_raw (f : List QState → List QState) (s : State) (a : Nat) : (s.onQueues f).raw a = s.raw a := rfl
@[simp] theorem State.onQueues_rd (f : List QState → List QState) (s : State) (g : Fld) : (s.onQueues f).rd g = s.rd g := rfl
@[simp] theorem State.onQueues_frame (f : List QState → List QState) (s : State) : (s.onQueues f).frame = s.frame := rfl
@[simp] theorem State.onQueues_memGet (f : List QState → List QState) (s : State) (a : Nat) : (s.onQueues f).memGet a = s.memGet a := rfl
@[simp] theorem State.onQueues_lc (f : List QState → List QState) (s : State) : (s.onQueues f).lc = s.lc := rfl
theorem KeepsBut.onQueues {q : Nat → Prop} {s t : State} {D : List Fld} (h : KeepsBut q s t D) (f : List QState → List QState) :
    KeepsBut q s (t.onQueues f) D := h.same rfl rfl rfl
@[simp] theorem State.onParts_raw (f : List Part → List Part) (s : State) (a : Nat) : (s.onParts f).raw a = s.raw a := rfl
@[simp] theorem State.onParts_rd (f : List Part → List Part) (s : State) (g : Fld) : (s.onParts f).rd g = s.rd g := rfl
@[simp] theorem State.onParts_frame (f : List Part → List Part) (s : State) : (s.onParts f).frame = s.frame := rfl
@[simp] theorem State.onParts_memGet (f : List Part → List Part) (s : State) (a : Nat) : (s.onParts f).memGet a = s.memGet a := rfl
@[simp] theorem State.onParts_lc (f : List Part → List Part) (s : State) : (s.onParts f).lc = s.lc := rfl
theorem KeepsBut.onParts {q : Nat → Prop} {s t : State} {D : List Fld} (h : KeepsBut q s t D) (f : List Part → List Part) :
    KeepsBut q s (t.onParts f) D := h.same rfl rfl rfl
@[simp] theorem State.onInc_raw (f : Recorder → Recorder) (s : State) (a : Nat) : (s.onInc f).raw a = s.raw a := rfl
@[simp] theorem State.onInc_rd (f : Recorder → Recorder) (s : State) (g : Fld) : (s.onInc f).rd g = s.rd g := rfl
@[simp] theorem State.onInc_frame (f : Recorder → Recorder) (s : State) : (s.onInc f).frame = s.frame := rfl
@[simp] theorem State.onInc_memGet (f : Recorder → Recorder) (s : State) (a : Nat) : (s.onInc f).memGet a = s.memGet a := rfl
@[simp] theorem State.onInc_lc (f : Recorder → Recorder) (s : State) : (s.onInc f).lc = s.lc := rfl
theorem KeepsBut.onInc {q : Nat → Prop} {s t : State} {D : List Fld} (h : KeepsBut q s t D) (f : Recorder → Recorder) :
    KeepsBut q s (t.onInc f) D := h.same rfl rfl rfl
@[simp] theorem State.onChans_raw (f : List Chan → List Chan) (s : State) (a : Nat) : (s.onChans f).raw a = s.raw a := rfl
@[simp] theorem State.onChans_rd (f : List Chan → List Chan) (s : State) (g : Fld) : (s.onChans f).rd g = s.rd g := rfl
@[simp] theorem State.onChans_frame (f : List Chan → List Chan) (s : State) : (s.onChans f).frame = s.frame := rfl
@[simp] theorem State.onChans_memGet (f : List Chan → List Chan) (s : State) (a : Nat) : (s.onChans f).memGet a = s.memGet a := rfl
@[simp] theorem State.onChans_lc (f : List Chan → List Chan) (s : State) : (s.onChans f).lc = s.lc := rfl
theorem KeepsBut.onChans {q : Nat → Prop} {s t : State} {D : List Fld} (h : KeepsBut q s t D) (f : List Chan → List Chan) :
    KeepsBut q s (t.onChans f) D := h.same rfl rfl rfl
@[simp] theorem State.onBoles_raw (f : List Bole → List Bole) (s : State) (a : Nat) : (s.onBoles f).raw a = s.raw a := rfl
@[simp] theorem State.onBoles_rd (f : List Bole → List Bole) (s : State) (g : Fld) : (s.onBoles f).rd g = s.rd g := rfl
@[simp] theorem State.onBoles_frame (f : List Bole → List Bole) (s : State) : (s.onBoles f).frame = s.frame := rfl
@[simp] theorem State.onBoles_memGet (f : List Bole → List Bole) (s : State) (a : Nat) : (s.onBoles f).memGet a = s.memGet a := rfl
@[simp] theorem State.onBoles_lc (f : List Bole → List Bole) (s : State) : (s.onBoles f).lc = s.lc := rfl
theorem KeepsBut.onBoles {q : Nat → Prop} {s t : State} {D : List Fld} (h : KeepsBut q s t D) (f : List Bole → List Bole) :
    KeepsBut q s (t.onBoles f) D := h.same rfl rfl rfl
@[simp] theorem State.onDies_raw (f : List FarDie → List FarDie) (s : State) (a : Nat) : (s.onDies f).raw a = s.raw a := rfl
@[simp] theorem State.onDies_rd (f : List FarDie → List FarDie) (s : State) (g : Fld) : (s.onDies f).rd g = s.rd g := rfl
@[simp] theorem State.onDies_frame (f : List FarDie → List FarDie) (s : State) : (s.onDies f).frame = s.frame := rfl
@[simp] theorem State.onDies_memGet (f : List FarDie → List FarDie) (s : State) (a : Nat) : (s.onDies f).memGet a = s.memGet a := rfl
@[simp] theorem State.onDies_lc (f : List FarDie → List FarDie) (s : State) : (s.onDies f).lc = s.lc := rfl
theorem KeepsBut.onDies {q : Nat → Prop} {s t : State} {D : List Fld} (h : KeepsBut q s t D) (f : List FarDie → List FarDie) :
    KeepsBut q s (t.onDies f) D := h.same rfl rfl rfl
@[simp] theorem State.onSos_raw (f : List SoSw → List SoSw) (s : State) (a : Nat) : (s.onSos f).raw a = s.raw a := rfl
@[simp] theorem State.onSos_rd (f : List SoSw → List SoSw) (s : State) (g : Fld) : (s.onSos f).rd g = s.rd g := rfl
@[simp] theorem State.onSos_frame (f : List SoSw → List SoSw) (s : State) : (s.onSos f).frame = s.frame := rfl
@[simp] theorem State.onSos_memGet (f : List SoSw → List SoSw) (s : State) (a : Nat) : (s.onSos f).memGet a = s.memGet a := rfl
@[simp] theorem State.onSos_lc (f : List SoSw → List SoSw) (s : State) : (s.onSos f).lc = s.lc := rfl
theorem KeepsBut.onSos {q : Nat → Prop} {s t : State} {D : List Fld} (h : KeepsBut q s t D) (f : List SoSw → List SoSw) :
    KeepsBut q s (t.onSos f) D := h.same rfl rfl rfl
@[simp] theorem State.onGov_raw (f : Gov → Gov) (s : State) (a : Nat) : (s.onGov f).raw a = s.raw a := rfl
@[simp] theorem State.onGov_rd (f : Gov → Gov) (s : State) (g : Fld) : (s.onGov f).rd g = s.rd g := rfl
@[simp] theorem State.onGov_frame (f : Gov → Gov) (s : State) : (s.onGov f).frame = s.frame := rfl
@[simp] theorem State.onGov_memGet (f : Gov → Gov) (s : State) (a : Nat) : (s.onGov f).memGet a = s.memGet a := rfl
@[simp] theorem State.onGov_lc (f : Gov → Gov) (s : State) : (s.onGov f).lc = s.lc := rfl
theorem KeepsBut.onGov {q : Nat → Prop} {s t : State} {D : List Fld} (h : KeepsBut q s t D) (f : Gov → Gov) :
    KeepsBut q s (t.onGov f) D := h.same rfl rfl rfl
@[simp] theorem State.onPins_raw (f : List Pin → List Pin) (s : State) (a : Nat) : (s.onPins f).raw a = s.raw a := rfl
@[simp] theorem State.onPins_rd (f : List Pin → List Pin) (s : State) (g : Fld) : (s.onPins f).rd g = s.rd g := rfl
@[simp] theorem State.onPins_frame (f : List Pin → List Pin) (s : State) : (s.onPins f).frame = s.frame := rfl
@[simp] theorem State.onPins_memGet (f : List Pin → List Pin) (s : State) (a : Nat) : (s.onPins f).memGet a = s.memGet a := rfl
@[simp] theorem State.onPins_lc (f : List Pin → List Pin) (s : State) : (s.onPins f).lc = s.lc := rfl
theorem KeepsBut.onPins {q : Nat → Prop} {s t : State} {D : List Fld} (h : KeepsBut q s t D) (f : List Pin → List Pin) :
    KeepsBut q s (t.onPins f) D := h.same rfl rfl rfl
@[simp] theorem State.onSups_raw (f : List SenSup → List SenSup) (s : State) (a : Nat) : (s.onSups f).raw a = s.raw a := rfl
@[simp] theorem State.onSups_rd (f : List SenSup → List SenSup) (s : State) (g : Fld) : (s.onSups f).rd g = s.rd g := rfl
@[simp] theorem State.onSups_frame (f : List SenSup → List SenSup) (s : State) : (s.onSups f).frame = s.frame := rfl
@[simp] theorem State.onSups_memGet (f : List SenSup → List SenSup) (s : State) (a : Nat) : (s.onSups f).memGet a = s.memGet a := rfl
@[simp] theorem State.onSups_lc (f : List SenSup → List SenSup) (s : State) : (s.onSups f).lc = s.lc := rfl
theorem KeepsBut.onSups {q : Nat → Prop} {s t : State} {D : List Fld} (h : KeepsBut q s t D) (f : List SenSup → List SenSup) :
    KeepsBut q s (t.onSups f) D := h.same rfl rfl rfl
@[simp] theorem State.onExtIn_raw (f : List (Bool × Bool) → List (Bool × Bool)) (s : State) (a : Nat) : (s.onExtIn f).raw a = s.raw a := rfl
@[simp] theorem State.onExtIn_rd (f : List (Bool × Bool) → List (Bool × Bool)) (s : State) (g : Fld) : (s.onExtIn f).rd g = s.rd g := rfl
@[simp] theorem State.onExtIn_frame (f : List (Bool × Bool) → List (Bool × Bool)) (s : State) : (s.onExtIn f).frame = s.frame := rfl
@[simp] theorem State.onExtIn_memGet (f : List (Bool × Bool) → List (Bool × Bool)) (s : State) (a : Nat) : (s.onExtIn f).memGet a = s.memGet a := rfl
@[simp] theorem State.onExtIn_lc (f : List (Bool × Bool) → List (Bool × Bool)) (s : State) : (s.onExtIn f).lc = s.lc := rfl
theorem KeepsBut.onExtIn {q : Nat → Prop} {s t : State} {D : List Fld} (h : KeepsBut q s t D) (f : List (Bool × Bool) → List (Bool × Bool)) :
    KeepsBut q s (t.onExtIn f) D := h.same rfl rfl rfl
@[simp] theorem State.onKts_raw (f : List Kt → List Kt) (s : State) (a : Nat) : (s.onKts f).raw a = s.raw a := rfl
@[simp] theorem State.onKts_rd (f : List Kt → List Kt) (s : State) (g : Fld) : (s.onKts f).rd g = s.rd g := rfl
@[simp] theorem State.onKts_frame (f : List Kt → List Kt) (s : State) : (s.onKts f).frame = s.frame := rfl
@[simp] theorem State.onKts_memGet (f : List Kt → List Kt) (s : State) (a : Nat) : (s.onKts f).memGet a = s.memGet a := rfl
@[simp] theorem State.onKts_lc (f : List Kt → List Kt) (s : State) : (s.onKts f).lc = s.lc := rfl
theorem KeepsBut.onKts {q : Nat → Prop} {s t : State} {D : List Fld} (h : KeepsBut q s t D) (f : List Kt → List Kt) :
    KeepsBut q s (t.onKts f) D := h.same rfl rfl rfl
@[simp] theorem State.onKcs_raw (f : List Kc → List Kc) (s : State) (a : Nat) : (s.onKcs f).raw a = s.raw a := rfl
@[simp] theorem State.onKcs_rd (f : List Kc → List Kc) (s : State) (g : Fld) : (s.onKcs f).rd g = s.rd g := rfl
@[simp] theorem State.onKcs_frame (f : List Kc → List Kc) (s : State) : (s.onKcs f).frame = s.frame := rfl
@[simp] theorem State.onKcs_memGet (f : List Kc → List Kc) (s : State) (a : Nat) : (s.onKcs f).memGet a = s.memGet a := rfl
@[simp] theorem State.onKcs_lc (f : List Kc → List Kc) (s : State) : (s.onKcs f).lc = s.lc := rfl
theorem KeepsBut.onKcs {q : Nat → Prop} {s t : State} {D : List Fld} (h : KeepsBut q s t D) (f : List Kc → List Kc) :
    KeepsBut q s (t.onKcs f) D := h.same rfl rfl rfl
@[simp] theorem State.onSense_raw (f : List (Option SenseRx) → List (Option SenseRx)) (s : State) (a : Nat) : (s.onSense f).raw a = s.raw a := rfl
@[simp] theorem State.onSense_rd (f : List (Option SenseRx) → List (Option SenseRx)) (s : State) (g : Fld) : (s.onSense f).rd g = s.rd g := rfl
@[simp] theorem State.onSense_frame (f : List (Option SenseRx) → List (Option SenseRx)) (s : State) : (s.onSense f).frame = s.frame := rfl
@[simp] theorem State.onSense_memGet (f : List (Option SenseRx) → List (Option SenseRx)) (s : State) (a : Nat) : (s.onSense f).memGet a = s.memGet a := rfl
@[simp] theorem State.onSense_lc (f : List (Option SenseRx) → List (Option SenseRx)) (s : State) : (s.onSense f).lc = s.lc := rfl
theorem KeepsBut.onSense {q : Nat → Prop} {s t : State} {D : List Fld} (h : KeepsBut q s t D) (f : List (Option SenseRx) → List (Option SenseRx)) :
    KeepsBut q s (t.onSense f) D := h.same rfl rfl rfl
@[simp] theorem State.onCans_raw (f : List Can → List Can) (s : State) (a : Nat) : (s.onCans f).raw a = s.raw a := rfl
@[simp] theorem State.onCans_rd (f : List Can → List Can) (s : State) (g : Fld) : (s.onCans f).rd g = s.rd g := rfl
@[simp] theorem State.onCans_frame (f : List Can → List Can) (s : State) : (s.onCans f).frame = s.frame := rfl
@[simp] theorem State.onCans_memGet (f : List Can → List Can) (s : State) (a : Nat) : (s.onCans f).memGet a = s.memGet a := rfl
@[simp] theorem State.onCans_lc (f : List Can → List Can) (s : State) : (s.onCans f).lc = s.lc := rfl
theorem KeepsBut.onCans {q : Nat → Prop} {s t : State} {D : List Fld} (h : KeepsBut q s t D) (f : List Can → List Can) :
    KeepsBut q s (t.onCans f) D := h.same rfl rfl rfl
@[simp] theorem State.onSec_raw (f : Sec → Sec) (s : State) (a : Nat) : (s.onSec f).raw a = s.raw a := rfl
@[simp] theorem State.onSec_rd (f : Sec → Sec) (s : State) (g : Fld) : (s.onSec f).rd g = s.rd g := rfl
@[simp] theorem State.onSec_frame (f : Sec → Sec) (s : State) : (s.onSec f).frame = s.frame := rfl
@[simp] theorem State.onSec_memGet (f : Sec → Sec) (s : State) (a : Nat) : (s.onSec f).memGet a = s.memGet a := rfl
@[simp] theorem State.onSec_lc (f : Sec → Sec) (s : State) : (s.onSec f).lc = s.lc := rfl
theorem KeepsBut.onSec {q : Nat → Prop} {s t : State} {D : List Fld} (h : KeepsBut q s t D) (f : Sec → Sec) :
    KeepsBut q s (t.onSec f) D := h.same rfl rfl rfl
@[simp] theorem State.onSvr_raw (f : Sup → Sup) (s : State) (a : Nat) : (s.onSvr f).raw a = s.raw a := rfl
@[simp] theorem State.onSvr_rd (f : Sup → Sup) (s : State) (g : Fld) : (s.onSvr f).rd g = s.rd g := rfl
@[simp] theorem State.onSvr_frame (f : Sup → Sup) (s : State) : (s.onSvr f).frame = s.frame := rfl
@[simp] theorem State.onSvr_memGet (f : Sup → Sup) (s : State) (a : Nat) : (s.onSvr f).memGet a = s.memGet a := rfl
@[simp] theorem State.onSvr_lc (f : Sup → Sup) (s : State) : (s.onSvr f).lc = s.lc := rfl
theorem KeepsBut.onSvr {q : Nat → Prop} {s t : State} {D : List Fld} (h : KeepsBut q s t D) (f : Sup → Sup) :
    KeepsBut q s (t.onSvr f) D := h.same rfl rfl rfl
@[simp] theorem State.onTly_raw (f : Tally → Tally) (s : State) (a : Nat) : (s.onTly f).raw a = s.raw a := rfl
@[simp] theorem State.onTly_rd (f : Tally → Tally) (s : State) (g : Fld) : (s.onTly f).rd g = s.rd g := rfl
@[simp] theorem State.onTly_frame (f : Tally → Tally) (s : State) : (s.onTly f).frame = s.frame := rfl
@[simp] theorem State.onTly_memGet (f : Tally → Tally) (s : State) (a : Nat) : (s.onTly f).memGet a = s.memGet a := rfl
@[simp] theorem State.onTly_lc (f : Tally → Tally) (s : State) : (s.onTly f).lc = s.lc := rfl
theorem KeepsBut.onTly {q : Nat → Prop} {s t : State} {D : List Fld} (h : KeepsBut q s t D) (f : Tally → Tally) :
    KeepsBut q s (t.onTly f) D := h.same rfl rfl rfl
@[simp] theorem State.onDoms_raw (f : List Dom → List Dom) (s : State) (a : Nat) : (s.onDoms f).raw a = s.raw a := rfl
@[simp] theorem State.onDoms_rd (f : List Dom → List Dom) (s : State) (g : Fld) : (s.onDoms f).rd g = s.rd g := rfl
@[simp] theorem State.onDoms_frame (f : List Dom → List Dom) (s : State) : (s.onDoms f).frame = s.frame := rfl
@[simp] theorem State.onDoms_memGet (f : List Dom → List Dom) (s : State) (a : Nat) : (s.onDoms f).memGet a = s.memGet a := rfl
@[simp] theorem State.onDoms_lc (f : List Dom → List Dom) (s : State) : (s.onDoms f).lc = s.lc := rfl
theorem KeepsBut.onDoms {q : Nat → Prop} {s t : State} {D : List Fld} (h : KeepsBut q s t D) (f : List Dom → List Dom) :
    KeepsBut q s (t.onDoms f) D := h.same rfl rfl rfl
@[simp] theorem State.onEth_raw (f : Eth → Eth) (s : State) (a : Nat) : (s.onEth f).raw a = s.raw a := rfl
@[simp] theorem State.onEth_rd (f : Eth → Eth) (s : State) (g : Fld) : (s.onEth f).rd g = s.rd g := rfl
@[simp] theorem State.onEth_frame (f : Eth → Eth) (s : State) : (s.onEth f).frame = s.frame := rfl
@[simp] theorem State.onEth_memGet (f : Eth → Eth) (s : State) (a : Nat) : (s.onEth f).memGet a = s.memGet a := rfl
@[simp] theorem State.onEth_lc (f : Eth → Eth) (s : State) : (s.onEth f).lc = s.lc := rfl
theorem KeepsBut.onEth {q : Nat → Prop} {s t : State} {D : List Fld} (h : KeepsBut q s t D) (f : Eth → Eth) :
    KeepsBut q s (t.onEth f) D := h.same rfl rfl rfl
@[simp] theorem State.onLgw_raw (f : Lgw → Lgw) (s : State) (a : Nat) : (s.onLgw f).raw a = s.raw a := rfl
@[simp] theorem State.onLgw_rd (f : Lgw → Lgw) (s : State) (g : Fld) : (s.onLgw f).rd g = s.rd g := rfl
@[simp] theorem State.onLgw_frame (f : Lgw → Lgw) (s : State) : (s.onLgw f).frame = s.frame := rfl
@[simp] theorem State.onLgw_memGet (f : Lgw → Lgw) (s : State) (a : Nat) : (s.onLgw f).memGet a = s.memGet a := rfl
@[simp] theorem State.onLgw_lc (f : Lgw → Lgw) (s : State) : (s.onLgw f).lc = s.lc := rfl
theorem KeepsBut.onLgw {q : Nat → Prop} {s t : State} {D : List Fld} (h : KeepsBut q s t D) (f : Lgw → Lgw) :
    KeepsBut q s (t.onLgw f) D := h.same rfl rfl rfl
@[simp] theorem State.onGwbs_raw (f : List Gwb → List Gwb) (s : State) (a : Nat) : (s.onGwbs f).raw a = s.raw a := rfl
@[simp] theorem State.onGwbs_rd (f : List Gwb → List Gwb) (s : State) (g : Fld) : (s.onGwbs f).rd g = s.rd g := rfl
@[simp] theorem State.onGwbs_frame (f : List Gwb → List Gwb) (s : State) : (s.onGwbs f).frame = s.frame := rfl
@[simp] theorem State.onGwbs_memGet (f : List Gwb → List Gwb) (s : State) (a : Nat) : (s.onGwbs f).memGet a = s.memGet a := rfl
@[simp] theorem State.onGwbs_lc (f : List Gwb → List Gwb) (s : State) : (s.onGwbs f).lc = s.lc := rfl
theorem KeepsBut.onGwbs {q : Nat → Prop} {s t : State} {D : List Fld} (h : KeepsBut q s t D) (f : List Gwb → List Gwb) :
    KeepsBut q s (t.onGwbs f) D := h.same rfl rfl rfl
@[simp] theorem State.onCpx_raw (f : Cpx → Cpx) (s : State) (a : Nat) : (s.onCpx f).raw a = s.raw a := rfl
@[simp] theorem State.onCpx_rd (f : Cpx → Cpx) (s : State) (g : Fld) : (s.onCpx f).rd g = s.rd g := rfl
@[simp] theorem State.onCpx_frame (f : Cpx → Cpx) (s : State) : (s.onCpx f).frame = s.frame := rfl
@[simp] theorem State.onCpx_memGet (f : Cpx → Cpx) (s : State) (a : Nat) : (s.onCpx f).memGet a = s.memGet a := rfl
@[simp] theorem State.onCpx_lc (f : Cpx → Cpx) (s : State) : (s.onCpx f).lc = s.lc := rfl
theorem KeepsBut.onCpx {q : Nat → Prop} {s t : State} {D : List Fld} (h : KeepsBut q s t D) (f : Cpx → Cpx) :
    KeepsBut q s (t.onCpx f) D := h.same rfl rfl rfl
@[simp] theorem State.onSil_raw (f : Sil → Sil) (s : State) (a : Nat) : (s.onSil f).raw a = s.raw a := rfl
@[simp] theorem State.onSil_rd (f : Sil → Sil) (s : State) (g : Fld) : (s.onSil f).rd g = s.rd g := rfl
@[simp] theorem State.onSil_frame (f : Sil → Sil) (s : State) : (s.onSil f).frame = s.frame := rfl
@[simp] theorem State.onSil_memGet (f : Sil → Sil) (s : State) (a : Nat) : (s.onSil f).memGet a = s.memGet a := rfl
@[simp] theorem State.onSil_lc (f : Sil → Sil) (s : State) : (s.onSil f).lc = s.lc := rfl
theorem KeepsBut.onSil {q : Nat → Prop} {s t : State} {D : List Fld} (h : KeepsBut q s t D) (f : Sil → Sil) :
    KeepsBut q s (t.onSil f) D := h.same rfl rfl rfl
@[simp] theorem State.onPairU_raw (f : PairU → PairU) (s : State) (a : Nat) : (s.onPairU f).raw a = s.raw a := rfl
@[simp] theorem State.onPairU_rd (f : PairU → PairU) (s : State) (g : Fld) : (s.onPairU f).rd g = s.rd g := rfl
@[simp] theorem State.onPairU_frame (f : PairU → PairU) (s : State) : (s.onPairU f).frame = s.frame := rfl
@[simp] theorem State.onPairU_memGet (f : PairU → PairU) (s : State) (a : Nat) : (s.onPairU f).memGet a = s.memGet a := rfl
@[simp] theorem State.onPairU_lc (f : PairU → PairU) (s : State) : (s.onPairU f).lc = s.lc := rfl
theorem KeepsBut.onPairU {q : Nat → Prop} {s t : State} {D : List Fld} (h : KeepsBut q s t D) (f : PairU → PairU) :
    KeepsBut q s (t.onPairU f) D := h.same rfl rfl rfl
@[simp] theorem State.onUpd_raw (f : Updater → Updater) (s : State) (a : Nat) : (s.onUpd f).raw a = s.raw a := rfl
@[simp] theorem State.onUpd_rd (f : Updater → Updater) (s : State) (g : Fld) : (s.onUpd f).rd g = s.rd g := rfl
@[simp] theorem State.onUpd_frame (f : Updater → Updater) (s : State) : (s.onUpd f).frame = s.frame := rfl
@[simp] theorem State.onUpd_memGet (f : Updater → Updater) (s : State) (a : Nat) : (s.onUpd f).memGet a = s.memGet a := rfl
@[simp] theorem State.onUpd_lc (f : Updater → Updater) (s : State) : (s.onUpd f).lc = s.lc := rfl
theorem KeepsBut.onUpd {q : Nat → Prop} {s t : State} {D : List Fld} (h : KeepsBut q s t D) (f : Updater → Updater) :
    KeepsBut q s (t.onUpd f) D := h.same rfl rfl rfl
@[simp] theorem State.onUart_raw (f : Uart → Uart) (s : State) (a : Nat) : (s.onUart f).raw a = s.raw a := rfl
@[simp] theorem State.onUart_rd (f : Uart → Uart) (s : State) (g : Fld) : (s.onUart f).rd g = s.rd g := rfl
@[simp] theorem State.onUart_frame (f : Uart → Uart) (s : State) : (s.onUart f).frame = s.frame := rfl
@[simp] theorem State.onUart_memGet (f : Uart → Uart) (s : State) (a : Nat) : (s.onUart f).memGet a = s.memGet a := rfl
@[simp] theorem State.onUart_lc (f : Uart → Uart) (s : State) : (s.onUart f).lc = s.lc := rfl
theorem KeepsBut.onUart {q : Nat → Prop} {s t : State} {D : List Fld} (h : KeepsBut q s t D) (f : Uart → Uart) :
    KeepsBut q s (t.onUart f) D := h.same rfl rfl rfl

end Sys2Proof.Machine
end

