-- ==== Sys2Proof/Tests/Slice0.lean ====
section
/-! SUPPORT. Tests: operands that are not well formed, states that meet the hypotheses of each statement (one theorem a
clause, named after the statement's part), and single steps. -/

namespace Sys2Proof.Tests

open Sys2Proof Sys2Proof.Machine

set_option maxRecDepth 100000

/-- The reset state with some fields set. -/
def st (l : List (Fld × Nat)) : State := l.foldl (fun s x => s.wr x.1 x.2) {}

/-- The state a command answers. -/
def nx (o : Out) : State :=
  match o with
  | .next t => t
  | _ => {}

/-- The Forester, and partition p in sapwood. -/
def fo : Attr := ⟨true, 0, 1⟩
def pt (p : Fin 16) : Attr := ⟨false, p, 0⟩

/-- A created partition that owns every resource, holds every feature and has one RW region of system SRAM. -/
def allEntry : List Byte := List.replicate 40 0xFF ++ [4, 0, 0, 0, 16, 0, 0, 0] ++ List.replicate 464 0xFF
def allPart : Part := { created := true, entry := allEntry, granted := some (2 ^ 128 - 1) }

/-- A state with fields set whose partition 0 is `allPart`. -/
def own (l : List (Fld × Nat)) : State := { st l with parts := allPart :: List.replicate 15 {} }

/-- A state, or a value, of which a property holds. -/
abbrev At {α : Type} (s : α) (p : α → Prop) : Prop := p s


/-! Operands that are not well formed, one for each check. -/

theorem wf_fate : Fate.wf (.internal 0xFFFF) = true ∧ Fate.wf (.internal 0x10000) = false ∧ (Instr.sysInfo 0 (.internal 0x10000)).wf = false ∧
    (Instr.queueCommand 0 (.internal 0x10000)).wf = false := by decide
theorem wf_address : (Instr.regRead fo (2 ^ 40 - 1)).wf = true ∧ (Instr.regRead fo (2 ^ 40)).wf = false ∧ (Instr.regWrite fo (2 ^ 40) 0).wf = false ∧
    (Instr.counterReadClear fo (2 ^ 40)).wf = false ∧ (Instr.memReadError fo (2 ^ 40) (.single true)).wf = false ∧ (Instr.cacheError 0 .clean (2 ^ 40)).wf = false := by decide
theorem wf_temperature : (Instr.thermalShutdown 0 false 201).wf = false ∧ (Instr.thermalShutdown 0 false (-41)).wf = false ∧ (Instr.thermalShutdown 0 false (-40)).wf = true ∧ (Instr.thermalShutdown 0 false 200).wf = true ∧
    (Instr.thermalThreshold 25 128).wf = false := by decide
/-- The 50 samples of a channel, and the 64 of a pin. -/
def chanOf (c : Int) (v : Nat) (tj : Int) : ChanObs := ⟨List.replicate 50 ⟨c, v, true⟩, tj⟩
def pinOf (v : Nat) : PinObs := ⟨List.replicate 64 (v, 5000), 0⟩
theorem wf_frame : (Instr.frameBoundary { chans := [(1, chanOf 0 0 25), (1, chanOf 0 0 25)] }).wf = false ∧ (Instr.frameBoundary { pins := [(1, pinOf 0), (1, pinOf 0)] }).wf = false ∧
    (Instr.frameBoundary { supplies := [(1, 0, 0), (1, 0, 0)] }).wf = false ∧ (Instr.frameBoundary { soCur := [(1, 0, 0), (1, 0, 0)] }).wf = false ∧
    (Instr.frameBoundary { sqi := [(1, 0), (1, 0)] }).wf = false ∧ (Instr.frameBoundary { plate := 128 }).wf = false ∧ (Instr.frameBoundary { crown := 128 }).wf = false ∧
    (Instr.frameBoundary { bole := -129 }).wf = false ∧ (Instr.dieLocalBoundary 0 { limb := -129 }).wf = false ∧ (Instr.frameBoundary {}).wf = true := by decide
theorem wf_samples : (Instr.frameBoundary { chans := [(1, ⟨List.replicate 51 ⟨0, 0, true⟩, 25⟩)] }).wf = false ∧ (Instr.frameBoundary { chans := [(1, chanOf 0 0 25)] }).wf = true ∧
    (Instr.frameBoundary { chans := [(1, chanOf 250 16 200)] }).wf = true ∧ (Instr.frameBoundary { chans := [(1, chanOf 0 0 201)] }).wf = false := by decide
theorem wf_steps : (Instr.frameBoundary { chans := [(1, chanOf 100 0 25)] }).wf = false ∧ (Instr.frameBoundary { chans := [(2, chanOf 100 0 25)] }).wf = true ∧
    (Instr.frameBoundary { chans := [(8, chanOf 100 0 25)] }).wf = false ∧ (Instr.frameBoundary { chans := [(8, chanOf (-65536) 65520 25)] }).wf = true ∧
    (Instr.frameBoundary { chans := [(8, chanOf 65536 0 25)] }).wf = false ∧ (Instr.frameBoundary { chans := [(8, chanOf 0 17 25)] }).wf = false := by decide
theorem wf_pins : (Instr.frameBoundary { pins := [(1, ⟨List.replicate 65 (0, 0), 0⟩)] }).wf = false ∧ (Instr.frameBoundary { pins := [(1, pinOf 9)] }).wf = true := by decide
theorem wf_sync : (Instr.syncAccepted 0 ⟨0, 0, 2 ^ 64, 0, 0, 0⟩).wf = false ∧ (Instr.syncAccepted 0 ⟨0, 0, 2 ^ 64 - 1, 0, 0, 0⟩).wf = true := by decide
theorem wf_words : (Instr.evtTailWrite fo 0 (2 ^ 32)).wf = false ∧ (Instr.queueProdWrite fo 0 (2 ^ 32)).wf = false ∧ (Instr.queueConsWrite fo 0 (2 ^ 32)).wf = false ∧
    (Instr.canRxUnlock fo 0 (2 ^ 32)).wf = false ∧ (Instr.canTxRequest fo 0 (2 ^ 32)).wf = false ∧ (Instr.canTxAbort fo 0 (2 ^ 32)).wf = false ∧
    (Instr.wakeSourceDetect (2 ^ 32)).wf = false ∧ (Instr.fwdgKick fo (2 ^ 32)).wf = false ∧
    (Instr.fwdgPeriodWrite fo (2 ^ 32)).wf = false ∧ (Instr.resetReleaseStep { straps := 2 ^ 32 }).wf = false ∧ (Instr.evtTailWrite fo 0 (2 ^ 32 - 1)).wf = true ∧
    (Instr.debugWrite 0 false 0 (2 ^ 64)).wf = false ∧ (Instr.wcall 0 0 (2 ^ 64)).wf = false := by decide
theorem wf_capture : (Instr.captureComplete 0 (List.replicate 255 0)).wf = false ∧ (Instr.captureComplete 0 (List.replicate 256 0)).wf = true := by decide
theorem wf_sense : (Instr.senseMessage 0 ⟨0, 0, [(1, 0, 0), (1, 0, 0)]⟩).wf = false := by decide
theorem wf_can : (Instr.canFrameValid 0 { id := 2048 }).wf = false ∧ (Instr.canFrameValid 0 { id := 2048, xtd := true }).wf = true ∧ (Instr.canFrameValid 0 { id := 2 ^ 29, xtd := true }).wf = false ∧
    (Instr.canFrameValid 0 { data := List.replicate 9 0 }).wf = false ∧ (Instr.canFrameValid 0 { fdf := true, data := List.replicate 65 0 }).wf = false ∧
    (Instr.canFrameValid 0 { rtr := true, fdf := true }).wf = false := by decide
theorem wf_can_error : (Instr.canBusError 0 (.rx 0 false)).wf = false ∧ (Instr.canBusError 0 (.tx 7 false 0)).wf = false ∧ (Instr.canBusError 0 (.rx 6 true)).wf = true := by decide
theorem wf_reason : (Instr.stayExpiry 0 0x10000).wf = false := by decide
theorem wf_eth : (Instr.ethFrameReceived 0 { dmac := 2 ^ 48 }).wf = false ∧ (Instr.containerReceived 0 { smac := 2 ^ 48 }).wf = false ∧
    (Instr.ethFrameReceived 0 { len := 2, body := [1, 2, 3] }).wf = false ∧ (Instr.fdbAgeing (2 ^ 48) 0).wf = false ∧ (Instr.fdbAgeing 0 4096).wf = false := by decide
theorem wf_tags : (Instr.gwbCompletion 0 256 false).wf = false ∧ (Instr.nonpostedTimeout 0 256).wf = false ∧ (Instr.delayedCompletionExpiry 0 256).wf = false ∧
    (Instr.islandRetryTimeout 256).wf = false ∧ (Instr.islandRetryTimeout 255).wf = true := by decide
theorem wf_line : (Instr.prefetchLineExpiry 0 32).wf = false ∧ (Instr.prefetchLineExpiry 0 (2 ^ 40)).wf = false ∧ (Instr.prefetchLineExpiry 0 64).wf = true := by decide
theorem wf_crypto : (Instr.cryptoUnitDone 0 (.done 0x10000 [])).wf = false ∧ (Instr.cryptoUnitDone 0 (.done 0xFFFF [])).wf = true := by decide
theorem wf_island : (Instr.islandEvaluation { readback := [(1, true, true), (1, true, false)] }).wf = false ∧ (Instr.islandLocalTimer { readback := [(1, true, true), (1, true, false)] }).wf = false ∧
    (Instr.lockstepMismatch 0 ⟨2 ^ 128, 0, 1⟩).wf = false ∧ (Instr.lockstepMismatch 0 ⟨0, 2 ^ 64, 1⟩).wf = false ∧ (Instr.ringMessageReceived 0 { id := 2048 }).wf = false ∧
    (Instr.tpPulse 0 { seen := [(1, true), (1, false)] }).wf = false ∧ (Instr.swiPeriod 0 5 6).wf = false ∧ (Instr.swiPeriod 0 5 5).wf = true := by decide
/-- A frame of the partner link with a fault in one part. -/
def linkFrames : List PairFrame := [⟨65536, 0, 0, true, 0, 0, 0, []⟩, ⟨0, 65536, 0, true, 0, 0, 0, []⟩, ⟨0, 0, 65536, true, 0, 0, 0, []⟩, ⟨0, 0, 0, true, 256, 0, 0, []⟩, ⟨0, 0, 0, true, 0, 0, 0, List.replicate 309 0⟩]
theorem wf_pair_frame : (linkFrames.all fun f => !(Instr.renewReceived f).wf) = true ∧ ([Instr.mirrorReceived, .ackReceived, .stateReceived, .imageReceived, .ckptReceived, .helloReceived, .handbackReceived].all
    fun g => !(g ⟨65536, 0, 0, true, 0, 0, 0, []⟩).wf) = true := by decide
theorem wf_masks : (Instr.blkrstCan fo (2 ^ 24)).wf = false ∧ (Instr.blkrstCrypto fo 32).wf = false ∧ (Instr.blkrstCrypto fo 31).wf = true := by decide
theorem wf_image : (Instr.partnerImageServe (.image [⟨256, 0, [], []⟩] 0)).wf = false ∧ (Instr.partnerImageServe (.image [⟨1, 0, [], []⟩, ⟨1, 1, [], []⟩] 0)).wf = false ∧
    (Instr.partnerImageServe .refused).wf = true := by decide

/-! The whole machine. -/

theorem wit_front : At { st [] with pending := [.landingCarry, .inKHoldExpiry] } fun s => s.pending = Instr.landingCarry :: [.inKHoldExpiry] ∧
    step s = exec .landingCarry { s with pending := [.inKHoldExpiry] } := ⟨rfl, rfl⟩
theorem wit_idle_step : At (st []) fun s => s.pending = [] ∧ s.svr.swr = none ∧ ∀ c ∈ s.chans, c.delayOn = none := by decide
theorem wit_canonical : ∃ s t : State, step s = .next t := ⟨{}, _, rfl⟩
theorem wit_queue : ∃ (i : Instr) (s t : State), exec i s = .next t := ⟨.landingCarry, {}, _, rfl⟩
theorem wit_event : (511 : Nat) < 512 := by decide

theorem wit_raised_line :
    let s := State.reset.modPart 2 fun x => { x with subs := [(331, 1)] }
    (2, 1) ∈ s.receivers 331 .pub ∧ (s.raise 331 .pub []).eventIrq 2 1 = true := by decide
/-! Frames and the time unit. -/

theorem wit_frameStart : At (st []) fun s => s.regAdmits fo R.FRM_CTRL true = true ∧ s.rd R.FRM_STAT_RUN = 0 := by decide
theorem wit_frameStart_runs : At (st [(R.FRM_STAT_RUN, 1)]) fun s =>
    s.regAdmits fo R.FRM_CTRL true = true ∧ s.rd R.FRM_STAT_RUN = 1 := by decide
theorem wit_gridStep_first : (st []).frm.first = false := by decide
theorem wit_gridStep_plain : At { st [] with frm := { first := true } } fun s =>
    s.frm.first = true ∧ s.rd R.TMU_STAT_FOLLOW = 0 ∧ s.frm.slotFix = none := by decide
theorem wit_gridStep_back : At { st [(R.FRM_STAT_SLOT, 39)] with frm := { first := true, slotFix := some 7 } } fun s =>
    s.frm.slotFix = some 7 ∧ (s.gridStep 5).rd R.FRM_STAT_SLOT ≤ s.rd R.FRM_STAT_SLOT := by decide
theorem wit_gridStep_fix : At { st [] with frm := { first := true, slotFix := some 39 } } fun s =>
    s.frm.first = true ∧ s.rd R.TMU_STAT_FOLLOW = 0 ∧ s.frm.slotFix = some 39 := by decide
theorem wit_boundary_stopped : (st []).rd R.FRM_STAT_RUN = 0 := by decide
theorem wit_boundary_runs : At (st [(R.FRM_STAT_RUN, 1)]) fun s => s.rd R.FRM_STAT_RUN = 1 ∧ s.svr.swr = none := by decide
theorem wit_boundary_lead : At { st [(R.FRM_STAT_RUN, 1), (R.SUP_MODE_MODE, mdLead)] with svr := { rel := 9 } } fun s =>
    At (nx (exec (.frameBoundary {}) s)) fun t => 6 < t.svr.rel ∧ t.rd R.SUP_MODE_DEGR ≠ 0 := by decide
/-- A Sync from port 3, the module a slave on it, or its own as grandmaster. -/
def syncOf (role : Fin 3) : SyncInfo := { ofs := 5, rate := 70, gmid := 7, steps := 2, role := role, port := 3 }
theorem wit_domains_refused : (st []).syncAdmits 0 (syncOf 1) = false := by decide
theorem wit_domains_idle : At (st []) fun s => s.rd R.TMU_CTRL_TRACK = 0 ∧ s.syncAdmits 0 (syncOf 0) = true := by decide
theorem wit_domains_admitted : At (st [(R.TMU_CTRL_TRACK, 1), (R.ESW_Pp_CFG_PTP_EN 3, 1), (R.ESW_Pp_CFG_EN 3, 1), (R.ESW_Pp_STAT_LINK 3, 1)]) fun s =>
    s.rd R.TMU_CTRL_TRACK = 1 ∧ s.syncAdmits 0 (syncOf 1) = true ∧ (0 : Fin 2).val < s.doms.length ∧ s.rd R.FRM_CFG_SRC = 0 ∧ s.frm.first = false := by decide
theorem wit_domains_later : At { st [(R.TMU_CTRL_TRACK, 1)] with frm := { first := true } } fun s =>
    s.rd R.TMU_CTRL_TRACK = 1 ∧ s.syncAdmits 1 (syncOf 0) = true ∧ s.frm.first = true := by decide
theorem wit_domains_sync : At (st [(R.TMU_CTRL_TRACK, 1)]) fun s => s.rd R.TMU_CTRL_TRACK = 1 ∧ (1 : Fin 2).val < s.doms.length := by
  decide
theorem wit_domains_timeout : At (st [(R.TMU_DOMx_STAT_VALID 0, 1)]) fun s =>
    s.rd (R.TMU_DOMx_STAT_VALID 0) = 1 ∧ s.rd R.FRM_CFG_SRC = 0 ∧ s.rd R.TMU_STAT_FOLLOW = 0 ∧ (0 : Fin 2).val < s.doms.length := by
  decide
theorem wit_domains_invalid : (st []).rd (R.TMU_DOMx_STAT_VALID 1) = 0 := by decide
theorem wit_domains_followA : At (st [(R.TMU_DOMx_STAT_VALID 0, 1), (R.TMU_DOMx_STAT_VALID 1, 1), (R.TMU_STAT_FOLLOW, 1)]) fun s =>
    s.rd (R.TMU_DOMx_STAT_VALID 1) = 1 ∧ s.rd R.TMU_STAT_FOLLOW = 1 ∧ s.rd (R.TMU_DOMx_STAT_VALID 0) = 1 := by decide
theorem wit_domains_followB : At (st [(R.TMU_DOMx_STAT_VALID 0, 1), (R.TMU_STAT_FOLLOW, 2)]) fun s =>
    s.rd (R.TMU_DOMx_STAT_VALID 0) = 1 ∧ s.rd R.FRM_CFG_SRC = 0 ∧ s.rd R.TMU_STAT_FOLLOW = 2 := by decide
theorem wit_latch_num : At (st []) fun s =>
    s.regAdmits fo R.FRM_NUM_LO false = true ∧ latchOf fo < s.frm.hiLatch.length := by decide
theorem wit_latch_lc : At (st []) fun s => s.regAdmits fo R.TMU_LC_NS false = true ∧ s.lc < 2 ^ 64 := by decide
theorem wit_latch_dom : (st []).regAdmits fo (R.TMU_DOMx_STAT 1) false = true := by decide

/-- Die 0 in reach with channel 0 on at a current in 10 nA, and channel 1 announced. -/
def govState (fi : Int) (ess : Nat) : State :=
  (st [(R.BOLE_STAT_LINK_OK 0, 1), (R.CHn_STAT_STATE 0, csOn), (R.CHn_ROLE_ESSENTIAL 0, ess), (R.CHn_IEXP_IEXP 1, 4000),
    (R.CHn_CMD_ON 1, 1)]).modChan 0 fun c => { c with fi := fi }

theorem wit_governor : At (govState 0 0) fun s => ∀ n : Fin 64, (s.chan n).verdict = .none := by decide
theorem wit_governor_sheds : At (govState 17000000000 0) fun s => (∀ n : Fin 64, (s.chan n).verdict = .none) ∧
    ((nx (exec .governorInstant s)).chan 0).verdict = .shed 0 0 255 ∧
    s.rd (R.BOLE_STAT_LINK_OK 0) = 1 ∧ s.rd (R.BOLE_STAT_HOLD 0) = 0 := by decide
theorem wit_governor_refuses : At (govState 15900000000 1) fun s => (∀ n : Fin 64, (s.chan n).verdict = .none) ∧
    ((nx (exec .governorInstant s)).chan 1).verdict = .refuse 0 1590 1600 ∧ s.rd (R.BOLE_STAT_LINK_OK 1) = 0 := by decide

/-! Accesses, commits, mailboxes and queues. -/

theorem wit_write_near : R.KTt_CFG 0 % 4 = 0 ∧ isRegSpace (R.KTt_CFG 0) = true ∧ (lookupReg (R.KTt_CFG 0)).isSome ∧
    plainBlk .kt := by unfold plainBlk; decide

theorem wit_write_reaches_near : Reaches fo (R.KTt_CFG 0) true (st []) := ⟨by decide, by decide, .inl (by decide)⟩

/-- Gwebry link g up. -/
def linkUp (g : Nat) : State := st [(R.GWB_Lg_STAT_UP g, 1)]

theorem wit_write_reaches_far : Reaches fo (R.CHn_CFG 63) true (linkUp 5) := by
  refine ⟨by decide, by decide, .inr ⟨rfl, by decide, 5, ?_⟩⟩; decide

theorem wit_write_staged : At (linkUp 5) fun s => (lookupReg (R.CHn_CFG 63)).any fun x =>
    (x.1.blk = .ch) ∧ (foresterOnly x.1.blk (R.CHn_CFG 63) = false) ∧ ((s.raw (R.CHn_CFG 63) ^^^ 0) &&& x.1.stoppedMask = 0) ∧
    (x.1.fields.any fun f => f.acc = .rw ∧ f.upd = .staged) := by decide

theorem wit_write_w1c : At (linkUp 5) fun s => (lookupReg (R.CHn_FLT 63)).any fun x =>
    (foresterOnly x.1.blk (R.CHn_FLT 63) = false) ∧ ((s.raw (R.CHn_FLT 63) ^^^ ones 31 0) &&& x.1.stoppedMask = 0) ∧
    (x.1.fields.any fun f => f.acc = .w1c ∧ f.hi = f.lo) := by decide

theorem wit_write_stopped : At (linkUp 5) fun s => (lookupReg (R.CHn_ROLE 63)).any fun x =>
    (foresterOnly x.1.blk (R.CHn_ROLE 63) = true) ∧ fo.isForester ∧ (x.1.fields.any fun f => f.acc = .rw ∧ f.upd ≠ .staged) ∧
    s.blockRuns x.1.blk (R.CHn_ROLE 63) (fun k => x.2.getD k 0) = false := by decide

theorem wit_write_readonly : At (linkUp 5) fun s => (lookupReg (R.CHn_MEAS_I 63)).any fun x =>
    ((s.raw (R.CHn_MEAS_I 63) ^^^ 7) &&& x.1.stoppedMask = 0) ∧ (x.1.fields.any fun f => f.acc = .ro) := by decide

theorem wit_write_unlisted : Reaches fo 0x20430000 true (st []) ∧ lookupReg 0x20430000 = none ∧ 0x20430000 % 4 = 0 :=
  ⟨⟨by decide, by decide, .inl (by decide)⟩, by decide⟩

theorem wit_write_rejected : Reaches fo R.FRM_CFG true (st []) ∧ Reaches fo R.FRM_PHASE true (st []) ∧ 2 ≤ bitsOf (2 : Word) 1 0 ∧
    250000 ≤ bitsOf (250000 : Word) 17 0 ∧ (st []).rd R.FRM_STAT_RUN = 0 :=
  ⟨⟨by decide, by decide, .inl (by decide)⟩, ⟨by decide, by decide, .inl (by decide)⟩, by decide⟩

theorem wit_write_rejected_runs : Reaches fo R.FRM_CFG true (st [(R.FRM_STAT_RUN, 1)]) ∧
    At (st [(R.FRM_STAT_RUN, 1)]) fun s => s.rd R.FRM_STAT_RUN = 1 ∧ bitsOf (1 : Word) 1 0 ≠ s.rd R.FRM_CFG_SRC ∧
      bitsOf (1 : Word) 17 0 ≠ s.rd R.FRM_PHASE_PHASE :=
  ⟨⟨by decide, by decide, .inl (by decide)⟩, by decide⟩

theorem wit_read_clears : At (st [(R.FRM_CNT_LATE_COUNT, 3)]) fun s => (lookupReg R.FRM_CNT_LATE).any fun x =>
    readClears x.1.blk fo ∧ (x.1.fields.any fun f => f.acc = .rc) ∧ s.rd R.FRM_CNT_LATE_COUNT = 3 := by decide
theorem wit_read_reaches : Reaches fo R.FRM_CNT_LATE false (st []) ∧ Reaches fo (R.QMG_QnDROP 63) false (st []) ∧
    Reaches fo (R.KTt_CFG 127) false (st []) := by
  refine ⟨⟨?_, ?_, .inl ?_⟩, ⟨?_, ?_, .inl ?_⟩, ⟨?_, ?_, .inl ?_⟩⟩ <;> decide
theorem wit_read_listed : (lookupReg (R.QMG_QnDROP 63)).any (fun x => x.1.blk = .qmg) ∧
    ((lookupReg (R.KTt_CFG 127)).any fun x => x.1.blk = .kt) ∧ R.KTt_CFG 127 < 0x20D00000 := by decide

theorem wit_memory : isMemory 0x117FFFFC = true ∧ isMemory 0x9BFFFFFFC = true ∧ fo.isForester = true ∧
    (st []).isPoisoned 0x117FFFFC = false := by decide

theorem wit_memory_ways : At (st [(R.MEM_SC_CFG_WAYS, 4)]) fun s => isMemory 0x117FFFFC = true ∧ s.inScWays 0x117FFFFC 4 = true ∧
    s.inScWays 0x11000000 4 = false ∧ (st []).inScWays 0x117FFFFC 4 = false := by decide

/-- Link 2 up with one request outstanding. -/
def farState (x : GwbTx) : State := (linkUp 2).modGwb 2 fun g => { g with txs := [x], nextTag := 8 }
def farTx (waits : Bool) (val : Option Word) : GwbTx := { tag := 7, attr := fo, addr := R.CHn_MEAS_I 0, val := val, waits := waits }

theorem wit_far_unknown : (st []).linkOk 2 = false ∧ ((farState (farTx true none)).gwb 2).txs.all (fun x => x.tag ≠ 6) := by decide
theorem wit_far_read : At (farState (farTx true none)) fun s =>
    (s.gwb 2).txs.find? (fun y => y.tag = 7 ∧ y.held = none) = some (farTx true none) ∧ s.linkOk 2 = true ∧
    s.lockedOut 2 fo = false ∧ s.inRange 2 (R.CHn_MEAS_I 0) R.GWB_Lg_PFr_BASE_PREFETCH = false := by decide
theorem wit_far_gaveUp : At (farState (farTx false none)) fun s =>
    (s.gwb 2).txs.find? (fun y => y.tag = 7 ∧ y.held = none) = some (farTx false none) ∧ s.linkOk 2 = true ∧
    s.lockedOut 2 fo = false ∧ s.inRange 2 (R.CHn_MEAS_I 0) R.GWB_Lg_PFr_BASE_PREFETCH = false := by decide

/-- Requests on link 2: a posted write, a write that waits, one whose address no block decodes, two of which the second waits its turn. -/
def farPosted : State := farState { tag := 7, attr := fo, addr := R.CHn_CMD 0, val := some 1, posted := true }
def farWrites : State := farState { farTx true (some 1) with addr := R.CHn_FLT 0 }
def farNowhere : State := farState { farTx true none with addr := 0x20801000 }
def farTwo : State := (farState (farTx true none)).modGwb 2 fun g => { g with txs := { farTx false (some 1) with tag := 6, posted := true } :: g.txs }
theorem wit_far_posted : At farPosted fun s => ((s.gwb 2).txs.find? fun y => y.tag = 7 ∧ y.held = none).any fun x =>
    s.farTurn 2 x && x.posted && farDecodes x.addr && x.val.isSome := by decide
theorem wit_far_writes : At farWrites fun s => ((s.gwb 2).txs.find? fun y => y.tag = 7 ∧ y.held = none).any fun x =>
    s.farTurn 2 x && !x.posted && x.waits && farDecodes x.addr && x.val.isSome := by decide
theorem wit_far_nowhere : At farNowhere fun s => ((s.gwb 2).txs.find? fun y => y.tag = 7 ∧ y.held = none).any fun x =>
    s.farTurn 2 x && !x.posted && x.waits && !x.toCrown && !farDecodes x.addr := by decide
theorem wit_far_turn : At farTwo fun s => ((s.gwb 2).txs.find? fun y => y.tag = 7 ∧ y.held = none).any (fun x => !s.farTurn 2 x) = true := by decide

/-- Partition 0 with values staged in the group of channel 0. -/
def stagedState : State := { own [(R.GWB_Lg_STAT_UP 2, 1)] with staged := [(R.CHn_CFG 0, 1)] }

theorem wit_commit_staged : At stagedState fun s => s.regAdmits (pt 0) (R.MBX_COMMIT 0) true = true ∧ (s.part 0).holds 35 = true ∧
    (s.stagedGroups.any fun g => s.groupOwner g = some 0) ∧ (s.staged.all fun e => s.groupOwner (groupOf e.1) = some 0) := by decide
theorem wit_commit_others : At { stagedState with staged := [(R.CHn_CFG 0, 1), (R.LGW_ROUTE 0 0, 1)] } fun s =>
    s.regAdmits (pt 0) (R.MBX_COMMIT 0) true = true ∧ (s.staged.any fun e => s.groupOwner (groupOf e.1) ≠ some 0) := by decide
theorem wit_commit_none : At (own []) fun s => s.regAdmits (pt 0) (R.MBX_COMMIT 0) true = true ∧ (s.part 0).holds 35 = true ∧
    (s.stagedGroups.all fun g => s.groupOwner g ≠ some 0) := by decide
theorem wit_commit_denied : At (st []) fun s => s.regAdmits (pt 15) (R.MBX_COMMIT 15) true = true ∧ (s.part 15).holds 35 = false ∧
    s.regAdmits ⟨true, 0, 3⟩ (R.MBX_COMMIT 16) true = true := by decide

/-- A COMMIT of mailbox 0 that waits for its instant, with a word for channel 0. -/
def waitCommit (w : Word) : Commit := { issuer := 0, groups := [0x0200], snap := [(R.CHn_CFG 0, w)], due := 1 }

theorem wit_instant_none : (st []).commitWaiting 16 = none := by decide
theorem wit_instant_rejects : At { stagedState with commits := [waitCommit 3] } fun s =>
    s.commitWaiting 0 = some (waitCommit 3, 0) ∧ groupLink 0x0200 = some 2 ∧ s.linkOk 2 = true ∧
    s.ruleCheck (s.overlay (waitCommit 3).snap) (s.candidates (waitCommit 3).snap) [] [0x0200] = some (0x0200, 5) := by decide
theorem wit_instant_takes : At { stagedState with commits := [waitCommit 0x500] } fun s =>
    s.commitWaiting 0 = some (waitCommit 0x500, 0) ∧ s.linkOk 2 = true ∧
    s.ruleCheck (s.overlay (waitCommit 0x500).snap) (s.candidates (waitCommit 0x500).snap) [] [0x0200] = none ∧
    s.mirrored (waitCommit 0x500) = false := by decide
/-- The lead of a pair with its partner near; the channel of the group is PAIRED. -/
def mirrorSt (ok : Nat) (hold : Bool) : State :=
  { (own [(R.GWB_Lg_STAT_UP 2, 1), (R.CHn_ROLE_PAIRED 0, 1), (R.PAIR_STAT_ROLE, roLead), (R.PAIR_STAT_MIRROR_OK, ok)]).onPairU
      fun u => { u with helloAt := some 0, mirrorHold := hold } with staged := [(R.CHn_CFG 0, 1)], commits := [waitCommit 0x500] }
theorem wit_instant_mirrored : (At (mirrorSt 1 false) fun s => s.commitWaiting 0 = some (waitCommit 0x500, 0) ∧ s.mirrored (waitCommit 0x500) = true ∧
    s.pairU.mirrorHold = false ∧ s.rd R.PAIR_STAT_MIRROR_OK = 1 ∧
    s.ruleCheck (s.overlay (waitCommit 0x500).snap) (s.candidates (waitCommit 0x500).snap) [] [0x0200] = none) ∧
    (At (mirrorSt 0 false) fun s => s.mirrored (waitCommit 0x500) = true ∧ s.rd R.PAIR_STAT_MIRROR_OK = 0) ∧
    At (mirrorSt 1 true) fun s => s.mirrored (waitCommit 0x500) = true ∧ s.pairU.mirrorHold = true := by decide
theorem wit_instant_linkDown : At { own [] with commits := [waitCommit 0x500] } fun s =>
    s.commitWaiting 0 = some (waitCommit 0x500, 0) ∧ groupLink 0x0200 = some 2 ∧ s.linkOk 2 = false ∧
    ∀ x ∈ s.chans, x.delayOn = none := by decide

theorem wit_entry_valid : At (st [(⟨longEntry 15 7, 31, 24⟩, 1)]) fun s => s.regAdmits (pt 15) (longEntry 15 7) true = true ∧
    s.rd ⟨longEntry 15 7, 31, 24⟩ ≠ 0 ∧ s.regAdmits (pt 15) (R.MBX_EVT_TAIL 15) true = true := by decide
theorem wit_entry_free : (st []).rd ⟨longEntry 15 7, 31, 24⟩ = 0 ∧ (st []).regAdmits (pt 15) (longEntry 15 7) true = true := by decide

theorem wit_mailbox_idle : At (st []) fun s => s.regAdmits (pt 3) (mbxBase 3) true = true ∧ s.rd (R.MBX_STAT_BUSY 3) = 0 := by decide
theorem wit_mailbox_busy : At (st [(R.MBX_STAT_BUSY 3, 1)]) fun s => s.regAdmits (pt 3) (mbxBase 3) true = true ∧
    s.rd (R.MBX_STAT_BUSY 3) = 1 ∧ (1 : Word).getLsbD 0 = true ∧ (2 : Word).getLsbD 0 = false := by decide
theorem wit_mailbox_rings : At (st [(⟨mbxBase 3, 15, 0⟩, 0x0101)]) fun s => s.regAdmits (pt 3) (mbxBase 3) true = true ∧
    s.rd (R.MBX_STAT_BUSY 3) = 0 ∧ s.mbxs.length = 17 ∧ (s.slotCtx 3).opcode = 0x0101 ∧ (opOf 0x0101).isSome := by decide

/-- UPD_ACTIVATE accepted from mailbox 16 and not finished. -/
def longOne : LongCmd := { mbx := 16, entry := some 7, opcode := 0x0A04, tag := 9, flags := 0, gen := 0, payload := [], attr := fo }

theorem wit_long_none : (st []).longs[0]? = none := by decide
theorem wit_long_ends : At { st [] with longs := [longOne] } fun s => s.longs[0]? = some longOne ∧ isRecordWrite longOne = false ∧
    At (s.longEffect longOne .ok).2.2.2 (fun u => u.longs[0]? = some longOne) ∧ (s.longEffect longOne .ok).2.2.1.length ≤ 16 := by
  decide

/-- The NET record, its copies as R76 writes them. -/
def netCopy (seq : Nat) : List Byte := recBytes 3 1 seq 0 [1, 2]

theorem wit_copies_next : nextSeq 0 3 { c0 := netCopy 4, c1 := netCopy 5 } = some 6 ∧ copyValid 0 3 (netCopy 4) = true ∧
    copyValid 0 3 (netCopy 5) = true := by decide
theorem wit_copies_one : nextSeq 0 3 { c0 := netCopy 4 } = some 5 ∧ nextSeq 0 3 { c1 := netCopy 4 } = some 5 ∧
    copyValid 0 3 [] = false := by decide
theorem wit_repair_one : At { st [] with records := updAt (List.replicate 11 {}) 3 fun _ => { c0 := netCopy 4 } } fun s =>
    (3 : Fin 11).val < s.records.length ∧ copyValid s.fwVersion 3 (s.record 3).c0 = true ∧
    copyValid s.fwVersion 3 (s.record 3).c1 = false := by decide
theorem wit_repair_none : At (st []) fun s => (10 : Fin 11).val < s.records.length ∧
    copyValid s.fwVersion 10 (s.record 10).c0 = copyValid s.fwVersion 10 (s.record 10).c1 := by decide

theorem wit_queue_within : At (st [(R.QMG_QnCONS_IDX 63, 65535)]) fun s => s.qAdmits fo 63 = true ∧ fo.isForester = true ∧
    (7 % 65536 + 65536 - s.rd (R.QMG_QnCONS_IDX 63)) % 65536 ≤ s.qSize 63 ∧
    (8 % 65536 + 65536 - s.rd (R.QMG_QnCONS_IDX 63)) % 65536 > s.qSize 63 := by decide
theorem wit_queue_other : At (st [(R.QMG_QnCFG_OWNER 0, 3)]) fun s => s.qAdmits (pt 3) 0 = true ∧ (pt 3).isForester = false ∧
    s.rd (R.QMG_QnCFG_DIR 0) = 0 := by decide
theorem wit_queue_other_in : At (st [(R.QMG_QnCFG_OWNER 0, 3), (R.QMG_QnCFG_DIR 0, 1)]) fun s => s.qAdmits (pt 3) 0 = true ∧
    (pt 3).isForester = false ∧ s.rd (R.QMG_QnCFG_DIR 0) = 1 := by decide

/-- A descriptor of SYS_HELLO, TAG 0x55, generation 0, its buffers in partition 0's SRAM; queue 1 of partition 0, completion
queue 2. -/
def helloDesc : List Byte := leBytes 2 0x0101 ++ leBytes 2 0x55 ++ leBytes 2 0 ++ [0, 0] ++ leBytes 5 0x10000400 ++ [1] ++ leBytes 2 16 ++
  leBytes 5 0x10000800 ++ List.replicate 11 0
def queueState : State := (own [(R.QMG_QnCFG_EN 1, 1), (R.QMG_QnCFG_ENGINE 1, 0x40), (R.QMG_QnCFG_CQ 1, 2), (R.QMG_QnPROD_IDX 1, 1),
  (R.QMG_QnBASE_LO_ADDR 1, 0x10000100 / 32), (R.QMG_QnCFG_EN 2, 1), (R.QMG_QnCFG_DIR 2, 1),
  (R.QMG_QnBASE_LO_ADDR 2, 0x10000200 / 32)]).memWrite 0x10000100 helloDesc

theorem wit_queueCmd_engine : (st []).rd (R.QMG_QnCFG_ENGINE 0) ≠ 0x40 := by decide
theorem wit_queueCmd_runs : At queueState fun s => s.rd (R.QMG_QnCFG_ENGINE 1) = 0x40 ∧ (s.q 1).held = [] ∧
    (s.qFront 1).2 = some helloDesc ∧ s.qOwner 1 = some 0 ∧
    At (s.queueCtx 1 0 helloDesc) fun c => At (s.queueReply c (s.queueBufsOk 0 helloDesc) .done) fun r =>
      r.s.gen 0 = s.gen 0 ∧ r.s.rd (R.QMG_QnCFG_EN 1) = 1 ∧ r.st ≠ stAccepted ∧ (r.s.q 1).held = [] ∧ r.s.cqOf 1 = 2 ∧
      r.s.rd (R.QMG_QnCFG_EN 2) = 1 ∧ c.gen = r.s.qGen 2 ∧ r.s.qRoom 2 ≠ 0 := by decide
/-- The same while an RT command waits in mailbox 3. -/
def queueRt : State := (queueState.wr (R.MBX_STAT_BUSY 3) 1).wr ⟨mbxBase 3 + 4, 9, 8⟩ 1
theorem wit_queueCmd_waits : At queueRt fun s => s.rtWaits 3 = true ∧ s.rd (R.QMG_QnCFG_ENGINE 1) = 0x40 := by decide
theorem wit_queueCmd_noRt : ∀ m : Fin 17, queueState.rtWaits m = false := by decide
theorem wit_cq_full : At (own [(R.QMG_QnCFG_CQ 1, 2), (R.QMG_QnPROD_IDX 2, 8)]) fun s => s.qRoom (s.cqOf 1) = 0 := by decide
theorem wit_cq_room : At (queueState.modQ 1 fun x => { x with held := [List.replicate 32 0] }) fun s =>
    (s.q 1).held = [List.replicate 32 0] ∧ s.qRoom (s.cqOf 1) ≠ 0 ∧ s.rd (R.QMG_QnCFG_EN (s.cqOf 1)) = 1 ∧
    le (List.replicate 32 0) 4 2 = s.qGen (s.cqOf 1) := by decide
theorem test_queueCmd_ok : At (nx (exec (.queueCommand 1 .done) queueState)) fun t => t.rd (R.QMG_QnCONS_IDX 1) = 1 ∧
    t.rd (R.QMG_QnPROD_IDX 2) = 1 ∧ t.memRead 0x10000200 10 = leBytes 2 0x0101 ++ leBytes 2 0x55 ++ leBytes 2 0 ++ [0, 0, 0, 0] := by
  decide

theorem wit_adopt_reaches : Reaches fo (R.BOLE_HOLD 3) true (linkUp 5) ∧ Reaches fo (R.LIMB_HOLD 1) true (linkUp 1) ∧ Reaches fo (R.SSs_CFG 7) true (linkUp 1) :=
  ⟨⟨by decide, by decide, .inr ⟨by decide, by decide, 5, by decide, by decide, by decide, by decide, by decide, by decide, by decide, by decide⟩⟩,
    ⟨by decide, by decide, .inr ⟨by decide, by decide, 1, by decide, by decide, by decide, by decide, by decide, by decide, by decide, by decide⟩⟩,
    ⟨by decide, by decide, .inr ⟨by decide, by decide, 1, by decide, by decide, by decide, by decide, by decide, by decide, by decide, by decide⟩⟩⟩
theorem wit_adopt_bole : At (st [(R.GWB_Lg_STAT_UP 5, 1), (R.BOLE_STAT_LINK_OK 3, 1), (R.BOLE_STAT_HOLD 3, 1)]) fun s => s.mode ≠ mdService ∧ s.mode ≠ mdReserve ∧
    s.regAdmits fo (R.BOLE_HOLD 3) true = true ∧ s.rd (R.BOLE_STAT_LINK_OK 3) = 1 ∧ s.rd (R.BOLE_STAT_HOLD 3) = 1 ∧
    ∀ x ∈ (s.die 5).queue, x.1 < 512 := by decide
theorem wit_adopt_limb : At (st [(R.GWB_Lg_STAT_UP 1, 1), (R.LIMB_STAT_LINK_OK 1, 1), (R.LIMB_STAT_HOLD 1, 1)]) fun s =>
    s.regAdmits fo (R.LIMB_HOLD 1) true = true ∧ s.rd (R.LIMB_STAT_LINK_OK 1) = 1 ∧ s.rd (R.LIMB_STAT_HOLD 1) = 1 ∧
    ∀ x ∈ (s.die 1).queue, x.1 < 512 := by decide
theorem wit_adopt_ignored : At (st [(R.GWB_Lg_STAT_UP 2, 1), (R.GWB_Lg_STAT_UP 0, 1)]) fun s => s.rd (R.BOLE_STAT_LINK_OK 0) = 0 ∧ s.rd (R.LIMB_STAT_HOLD 0) = 0 ∧
    s.regAdmits fo (R.BOLE_HOLD 0) true = true ∧ s.regAdmits fo (R.LIMB_HOLD 0) true = true := by decide
theorem wit_supply_switch : At (linkUp 1) fun s => s.regAdmits fo (R.SSs_CFG 7) true = true ∧ s.mode ≠ mdService ∧ s.mode ≠ mdReserve ∧
    s.rd (R.GWB_Lg_STAT_UP ((7 : Fin 8) / 4).val) = 1 ∧ s.rd (R.SSs_STAT_STATE 7) = 0 := by decide
/-! Load channels, supply, edges, pins, supplies, timers and controllers. -/

/-- Channel 63 on, its die's microsequencer running. -/
def chOn (l : List (Fld × Nat)) : State := st ([(R.BOLE_STAT_SEQ_RUN 3, 1), (R.CHn_STAT_STATE 63, csOn), (R.CHn_STAT_OUT 63, 1)] ++ l)

theorem wit_turnOff : At (chOn [(R.CHn_STAT_RETRY_LEFT 63, 1)]) fun s => s.chOnState 63 = true ∧ (s.chan 63).analogOff = none ∧
    s.seqRun 63 = true ∧ (s.chan 63).window = false ∧ 0 < s.rd (R.CHn_STAT_RETRY_LEFT 63) := by decide
theorem wit_turnOff_locks : At (chOn []) fun s => s.chOnState 63 = true ∧ s.seqRun 63 = true ∧ s.rd (R.CHn_STAT_RETRY_LEFT 63) = 0 := by
  decide
theorem wit_turnOff_off : (st []).chOnState 63 = false := by decide
theorem test_short_tripped : At (nx (exec (.shortCircuit 63 50) (chOn [(R.CHn_STAT_RETRY_LEFT 63, 1)]))) fun t =>
    t.rd (R.CHn_STAT_STATE 63) = csTripped ∧ t.rd (R.CHn_STAT_OUT 63) = 0 ∧ t.rd (R.CHn_FLT_SHORT 63) = 1 := by decide
theorem wit_dieThermal : At (chOn []) fun s => s.chOnState (16 * (3 : Fin 4) + (15 : Fin 16)) = true ∧
    (s.chan (16 * (3 : Fin 4) + (15 : Fin 16))).analogOff = none ∧ s.chOnState (16 * (0 : Fin 4) + (0 : Fin 16)) = false := by decide
theorem wit_ceiling_reached : At (chOn []) fun s => s.rd (R.CHn_STAT_STATE 63) = 1 ∧ s.rd (R.CHn_STAT_OUT 63) = 1 := by decide
theorem wit_ceiling_left : (st [(R.CHn_STAT_STATE 63, 3)]).rd (R.CHn_STAT_STATE 63) = 3 := by decide
theorem wit_loadCheck_on : At (chOn []) fun s => s.rd (R.CHn_CFG_OLON_EN 63) = 1 ∧ s.chOnState 63 = true := by decide
theorem wit_loadCheck_off : At (st [(R.CHn_CFG_OLOFF_EN 63, 1)]) fun s => s.rd (R.CHn_STAT_OUT 63) = 0 ∧ s.rd (R.CHn_ROLE_PAIRED 63) = 0 ∧
    s.rd (R.CHn_CFG_OLOFF_EN 63) = 1 := by decide
theorem wit_soSwitch_trips : (st [(soOut 3 true, 1)]).rd (soOut 3 true) = 1 := by decide
theorem wit_soSwitch_falls : (st [(soGate 3 true, 1), (soOut 3 true, 1)]).rd (soGate 3 true) = 1 := by decide
theorem wit_soSwitch_rises : At (st []) fun s => s.rd (soGate 3 true) = 0 ∧ s.rd (soTripped 3 true) = 0 ∧
    (s.bole (soDie 3 true)).cause = none := by decide

theorem wit_supply : At (chOn []) fun s => s.boles.length = 4 ∧ s.chans.length = 64 ∧ (3 : Nat) ∈ condDies 2 .studLoss ∧ dieOf 63 = 3 ∧
    s.rd (R.BOLE_STAT_SEQ_RUN 3) = 1 ∧ (s.chan 63).revCur = false ∧ s.chOnState 63 = true ∧
    ((s.bole 3).set .studLoss true).cause = some caStudLoss ∧ ((s.bole 3).set .extLow true).cause = none := by decide
theorem wit_supply_leaves : At ((st [(R.BOLE_STAT_SEQ_RUN 3, 1), (R.CHn_STAT_STATE 63, csInhibit), (R.CHn_CMD_ON 63, 1)]).modChan 63
      fun c => { c with restart := true }) fun s => s.boles.length = 4 ∧ s.chans.length = 64 ∧
    ((s.bole 3).set .undervolt false).cause = none ∧ s.rd (R.CHn_STAT_STATE 63) = csInhibit ∧ (s.chan 63).restart = true ∧
    s.rd (R.CHn_CMD_ON 63) = 1 ∧ s.latched 63 = false ∧ s.rd (R.BOLE_STAT_SEQ_RUN 3) = 1 := by decide
theorem wit_reverse_enters : At (chOn []) fun s => s.chOnState 63 = true ∧ s.rd (R.CHn_STAT_OUT 63) = 1 ∧
    s.rd (R.CHn_ROLE_PAIRED 63) = 0 ∧ (s.chan 63).revCur = false ∧ s.rd (R.BOLE_STAT_SEQ_RUN (dieOf 63)) = 1 := by decide
theorem wit_reverse_leaves : At ((st [(R.BOLE_STAT_SEQ_RUN 3, 1), (R.CHn_STAT_STATE 63, csInhibit), (R.CHn_CMD_ON 63, 1)]).modChan 63
      fun c => { c with restart := true, revCur := true }) fun s => s.boles.length = 4 ∧ s.chans.length = 64 ∧ (s.chan 63).revCur = true ∧
    (s.bole (dieOf 63)).cause = none ∧ s.rd (R.CHn_STAT_STATE 63) = csInhibit ∧ (s.chan 63).restart = true ∧
    s.rd (R.CHn_CMD_ON 63) = 1 ∧ s.rd (R.BOLE_STAT_SEQ_RUN (dieOf 63)) = 1 ∧ s.latched 63 = false := by decide
theorem test_studLoss_inhibits : At (nx (exec (.supplyConditionEnter 2 .studLoss 0) (chOn []))) fun t =>
    t.rd (R.CHn_STAT_STATE 63) = csInhibit ∧ t.rd (R.CHn_STAT_CAUSE 63) = caStudLoss ∧ t.rd (R.CHn_STAT_OUT 63) = 0 := by decide

theorem wit_inEdge : At (chOn [(R.CHn_CFG_SRC 63, 1), (R.CHn_CMD_ON 63, 1)]) fun s => s.rd (R.CHn_CFG_SRC 63) = 1 ∧
    s.rd (R.CHn_STAT_HOLD 63) = 0 ∧ s.chOnState 63 = true ∧ s.rd (R.CHn_CMD_ON 63) = 1 ∧ (63 : Fin 64).val < s.chans.length ∧
    (s.chan 63).lastOn = none ∧ (s.chan 63).delayOn = none ∧ (s.chan 63).analogOff = none := by decide
theorem wit_extIn : (7 : Fin 8).val < (st []).extIn.length := by decide
theorem wit_capture : At ((st []).modChan 63 fun c => { c with capture := some ⟨true, 0⟩ }) fun s =>
    (s.chan 63).capture = some ⟨true, 0⟩ ∧ (List.replicate 256 (65535 : Int)).length = 256 ∧
    ∀ x ∈ List.replicate 256 (65535 : Int), 0 ≤ x ∧ x ≤ 0xFFFF := by decide
theorem wit_capture_none : ((st []).chan 63).capture = none := by decide
theorem wit_uioOut_on : (st [(R.UIOp_STAT_OUT 95, 1)]).rd (R.UIOp_STAT_OUT 95) = 1 := by decide
theorem wit_uioOut_off : (st []).rd (R.UIOp_STAT_OUT 95) = 0 := by decide
theorem wit_uio_resist : (st [(R.UIOp_CFG_MODE 95, 3)]).rd (R.UIOp_CFG_MODE 95) = 3 := by decide
theorem wit_uio_current : At (st [(R.UIOp_CFG_MODE 95, 4)]) fun s => s.rd (R.UIOp_CFG_MODE 95) = 4 ∧ s.rd (R.UIOp_STAT_SHUNT_OFF 95) = 0 := by
  decide
theorem wit_uio_analog : (st [(R.UIOp_CFG_MODE 95, 1)]).rd (R.UIOp_CFG_MODE 95) = 1 := by decide
theorem wit_uio_digital : (st [(R.UIOp_CFG_MODE 95, 5)]).rd (R.UIOp_CFG_MODE 95) = 5 := by decide
/-- Pin 95 with its runs and marks as given. -/
def pinSt (l : List (Fld × Nat)) (f : Pin → Pin) : State := (st l).modPin 95 f
theorem wit_uioOut_open : At (pinSt [(R.UIOp_STAT_OUT 95, 1)] fun x => { x with openRun := 8 }) fun s => s.rd (R.UIOp_STAT_OUT 95) = 1 ∧ 8 ≤ (s.pin 95).openRun := by decide
theorem wit_uio_under : At (pinSt [(R.UIOp_CFG_MODE 95, 4), (R.UIOp_VAL_UNR 95, 1)] fun x => { x with unrRun := 8 }) fun s => s.rd (R.UIOp_VAL_UNR 95) = 1 ∧
    8 ≤ (s.pin 95).unrRun ∧ (s.pin 95).ranged = false ∧ s.rd (R.UIOp_CFG_MODE 95) = 4 := by decide
theorem wit_uio_over : At (pinSt [(R.UIOp_CFG_MODE 95, 1), (R.UIOp_VAL_OVR 95, 1)] fun x => { x with ovrRun := 8 }) fun s => s.rd (R.UIOp_VAL_OVR 95) = 1 ∧
    8 ≤ (s.pin 95).ovrRun ∧ (s.pin 95).ranged = false ∧ s.rd (R.UIOp_CFG_MODE 95) ≠ 4 := by decide
theorem wit_uio_ranged : ((pinSt [] fun x => { x with ranged := true }).pin 95).ranged = true := by decide
theorem wit_uio_filters : At (pinSt [(R.UIOp_CFG_MODE 95, 5), (R.UIOp_DIG_FILT 95, 3)] fun x => { x with agree := 4, level := true }) fun s =>
    s.rd (R.UIOp_CFG_MODE 95) = 5 ∧ s.rd (R.UIOp_DIG_FILT 95) < (s.pin 95).agree := by decide
/-- Timer 127 with an edge on its way to pin 95, which follows it. -/
def edgeSt (level : Bool) : State :=
  (st [(R.UIOp_CFG_MODE 95, 8), (R.UIOp_CFG_OUT_SRC 95, 1), (R.UIOp_OUT_TMR 95, 63), (R.UIOp_OUT_ON 95, 1)]).modKt 127 fun k => { k with sent := [level, false] }
theorem wit_uio_edge : At (edgeSt true) fun s => (s.kts.getD (64 + (63 : Fin 64).val) {}).sent = [true, false] ∧ s.rd (R.UIOp_CFG_OUT_SRC 95) = 1 ∧
    s.rd (R.UIOp_STAT_HOLD 95) = 0 ∧ s.rd (R.UIOp_OUT_TMR 95) = (63 : Fin 64).val ∧ (95 : Fin 96).val < s.pins.length ∧ s.rd (R.UIOp_STAT_LOCKED 95) = 0 ∧
    s.isOutput 95 = true ∧ s.rd (R.UIOp_OUT_ON 95) = 1 := by decide
theorem wit_uio_noEdge : ((st []).kts.getD (64 + (63 : Fin 64).val) {}).sent = [] := by decide
theorem wit_kc_lost : At ((st [(R.KCc_CFG_EN 31, 1)]).modKc 31 fun x => { x with missRun := 16 }) fun s => s.rd (R.KCc_CFG_EN 31) = 1 ∧
    s.rd (R.KCc_DIAG_SENSE_LOST 31) = 0 ∧ 16 ≤ (s.kc 31).missRun := by decide
theorem wit_kc_saturates : At ((st [(R.KCc_CFG_EN 31, 1)]).modKc 31 fun x => { x with satRun := 40 }) fun s => s.rd (R.KCc_CFG_EN 31) = 1 ∧
    (s.kc 31).satRaised = false ∧ 40 ≤ (s.kc 31).satRun ∧ (31 : Fin 32).val < s.kcs.length := by decide
theorem wit_uio_kerf : At (st [(R.UIOp_CFG_OUT_SRC 95, 1), (R.UIOp_OUT_TMR 95, 63)]) fun s => s.rd (R.UIOp_CFG_OUT_SRC 95) = 1 ∧
    s.rd (R.UIOp_STAT_HOLD 95) = 0 ∧ s.rd (R.UIOp_OUT_TMR 95) = (63 : Fin 64).val := by decide
theorem wit_supply_on : (st [(R.SSs_STAT_STATE 7, 2)]).rd (R.SSs_STAT_STATE 7) = 2 := by decide
theorem wit_supply_waits : (st [(R.SSs_STAT_STATE 7, 3)]).rd (R.SSs_STAT_STATE 7) = 3 := by decide
theorem wit_supply_backfed : (st [(R.SSs_STAT_STATE 7, 4)]).rd (R.SSs_STAT_STATE 7) = 4 := by decide
theorem wit_hold : At (st [(dieHold 5, 1), (dieHold 1, 1)]) fun s => s.rd (dieHold 5) = 1 ∧ s.rd (dieHold 1) = 1 ∧ s.rd (dieHold 0) = 0 ∧
    s.rd (R.BOLE_STAT_SEQ_RUN 0) = 0 := by decide
theorem wit_freq : At (st [(R.UIOp_CFG_MODE 95, 6), (R.UIOp_CFG_MODE 0, 7)]) fun s => (95 : Fin 96).val < s.pins.length ∧
    s.rd (R.UIOp_CFG_MODE 95) = 6 ∧ s.rd (R.UIOp_CFG_MODE 0) = 7 := by decide
theorem wit_timer_off : At (st []) fun s => s.rd (R.KTt_CFG_MODE 127) ≠ 1 ∧ s.rd (R.KTt_CFG_MODE 127) ≠ 2 := by decide
theorem wit_timer_pwm : At ({ st [(R.KTt_CFG_MODE 127, 1), (R.KTt_PER_PERIOD 127, 80000), (R.KTt_DUTY_DUTY 127, 65535)] with kts := List.replicate 128 { duty := 32768 } }) fun s =>
    s.rd (R.KTt_CFG_MODE 127) = 1 ∧ (s.kt 127).duty < 65535 ∧ (127 : Fin 128).val < s.kts.length ∧
    80 ≤ s.rd (R.KTt_PER_PERIOD 127) - s.rd (R.KTt_PER_PERIOD 127) * (s.kt 127).duty / 65535 ∧ s.rd (R.KTt_DUTY_DUTY 127) = 65535 := by
  decide
theorem wit_kerf_line : At (st [(R.CHn_CFG_SRC 63, 1)]) fun s => s.rd (R.CHn_CFG_SRC 63) = 1 ∧ s.rd (R.CHn_STAT_HOLD 63) = 0 := by decide
theorem wit_kc_off : (st []).rd (R.KCc_CFG_EN 31) = 0 := by decide
theorem wit_kc_noSense : At (st [(R.KCc_CFG_EN 31, 1)]) fun s => s.rd (R.KCc_CFG_EN 31) = 1 ∧
    s.sense.getD (dieOf (s.rd (R.KCc_CFG_CH 31))) none = none ∧ s.rd (R.KCc_DIAG_SENSE_LOST 31) = 0 ∧ (s.kc 31).satRaised = false := by
  decide
/-- A sense message of die 0 in which channel 0 is on, or its die in hold. -/
def sensed (hold : Bool) : SenseRx := { id := 1, stud := 24000, cur := [(0, 0, 13)], states := List.replicate 16 1, hold := hold }
def kcState (hold : Bool) : State :=
  { st [(R.KCc_CFG_EN 31, 1), (R.KCc_LIM_DMIN 31, 5), (R.KCc_LIM_DMAX 31, 65535)] with sense := [some (sensed hold), none, none, none] }
theorem wit_kc_sense : At (kcState false) fun s => s.rd (R.KCc_CFG_EN 31) = 1 ∧
    s.sense.getD (dieOf (s.rd (R.KCc_CFG_CH 31))) none = some (sensed false) ∧ (s.kc 31).lastMsg ≠ some (sensed false).id ∧
    (sensed false).states.getD (s.rd (R.KCc_CFG_CH 31) % 16) 0 = 1 ∧ s.rd (R.KCc_LIM_DMIN 31) ≤ s.rd (R.KCc_LIM_DMAX 31) := by decide
theorem wit_kc_hold : At (kcState true) fun s => s.rd (R.KCc_CFG_EN 31) = 1 ∧
    s.sense.getD (dieOf (s.rd (R.KCc_CFG_CH 31))) none = some (sensed true) ∧ (sensed true).hold = true ∧
    (s.kc 31).lastMsg ≠ some (sensed true).id := by decide
theorem wit_kerf_other_edge : At (st []) fun s => (s.kts.getD 64 {}).sent.head? ≠ some true ∧ true ≠ (s.pin 0).level := by decide
/-! CAN. -/

/-- Controller 23 running, its transceiver in Normal. -/
def canOn (l : List (Fld × Nat)) : State :=
  st ([(R.CANn_CTRL_RUN 23, 1), (R.CANn_STAT_STATE 23, ctActive), (R.TRXj_STAT_STATE 23, 0)] ++ l)
/-- A classic frame of 2 bytes, identifier 0x123. -/
def frame2 : CanFrame := { id := 0x123 * 2 ^ 18, dlc := 2, data := [1, 2] }

theorem wit_can_deaf : (st []).canHears 23 frame2 = false := by decide
theorem wit_can_hit : At (canOn [(⟨R.MOm_FID 23 31, 31, 0⟩, 0x80000000)]) fun s => s.canHears 23 frame2 = true ∧
    ((List.range 32).find? fun m => canMatch (s.raw (R.MOm_FID 23 m)) (s.raw (R.MOm_FMSK 23 m)) (canMsgOf frame2)) = some 31 ∧ s.rd R.LGW_CTRL_RUN = 0 ∧
    (s.tly.rings.all fun r => !r.on) ∧ s.rd (R.CANn_STAT_REC 23) = 0 ∧ frame2.data.length = canLen false false 2 ∧
    s.wordBit (R.CANn_RXLOCK 23) 31 = false := by decide
theorem wit_can_overruns : At (canOn [(⟨R.MOm_FID 23 31, 31, 0⟩, 0x80000000), (⟨R.CANn_RXNEW 23, 31, 31⟩, 1)]) fun s => s.canHears 23 frame2 = true ∧
    s.wordBit (R.CANn_RXNEW 23) 31 = true ∧ s.wordBit (R.CANn_RXLOCK 23) 31 = false := by decide
theorem wit_can_fifo : At (canOn [(R.CANn_FIFO_CFG_EN 23, 1), (R.CANn_FIFO_CFG_ALL 23, 1)]) fun s => s.canHears 23 frame2 = true ∧
    ((List.range 32).find? fun m => canMatch (s.raw (R.MOm_FID 23 m)) (s.raw (R.MOm_FMSK 23 m)) (canMsgOf frame2)) = none ∧
    (23 : Fin 24).val < s.cans.length ∧ s.rd (R.CANn_FIFO_CFG_EN 23) = 1 ∧ (s.can 23).fifo.length < 64 ∧
    ∀ k : Fin 8, canMatch (s.raw (R.CANn_FFk_ID 23 k)) (s.raw (R.CANn_FFk_MSK 23 k)) (canMsgOf frame2) = false := by decide
theorem wit_fifo_empty : ((st []).can 0).fifo = [] := by decide
/-- A frame in the FIFO of controller 0, whose queue is 5. -/
def fifoState (prod : Nat) : State :=
  (st [(R.CANn_FIFO_CFG_QUEUE 0, 5), (R.QMG_QnCFG_EN 5, 1), (R.QMG_QnCFG_DIR 5, 1), (R.QMG_QnPROD_IDX 5, prod)]).modCan 0
    fun c => { c with fifo := [(7, canMsgOf frame2)] }
theorem wit_fifo_room : At (fifoState 0) fun s => (s.can 0).fifo = [(7, canMsgOf frame2)] ∧ (0 : Fin 24).val < s.cans.length ∧
    s.rd (R.QMG_QnCFG_EN 5) = 1 ∧ s.rd (R.QMG_QnCFG_DIR 5) = 1 ∧ 1 + (w1Len (canMsgOf frame2).w1 - 12 + 23) / 24 ≤ s.qRoom 5 ∧
    s.qGen 5 < 65536 ∧ s.rd (R.QMG_QnPROD_IDX 5) + 1 < 65536 := by decide
theorem wit_fifo_full : At (fifoState 8) fun s => s.qRoom 5 < 1 + (w1Len (canMsgOf frame2).w1 - 12 + 23) / 24 := by decide

/-- Object 31 of controller 23 with a frame of 2 bytes, locked or not. -/
def objState (lock : Nat) : State := st [(⟨R.MOm_W1 23 31, 31, 0⟩, 2 * 2 ^ 7 + 2), (⟨R.CANn_RXLOCK 23, 31, 31⟩, lock)]
theorem wit_mo_first : Own fo (R.MOm_W0 23 31 + 4 * (0 : Fin 20)) false (objState 0) := by unfold Own; decide
theorem wit_mo_unlocked : At (objState 0) fun s => s.wordBit (R.CANn_RXLOCK 23) 31 = false ∧ (18 : Fin 20).val < 19 := by decide
theorem wit_mo_last : At (objState 1) fun s => s.wordBit (R.CANn_RXLOCK 23) 31 = true ∧ s.moLast 23 31 = 3 ∧
    ((s.can 23).shadows.all fun x => x.1 ≠ 31) ∧ s.moLast 23 31 < (19 : Fin 20).val := by decide
theorem wit_mo_unlock : Own fo (R.CANn_RXUNLOCK 23) true (objState 1) ∧ (objState 1).wordBit (R.CANn_RXLOCK 23) 31 = true ∧
    (objState 0).wordBit (R.CANn_RXLOCK 23) 31 = false := by unfold Own; decide
theorem wit_mo_shadow : At ((objState 1).modCan 23 fun c => { c with shadows := [(31, canMsgOf frame2)] }) fun s =>
    (s.can 23).shadows.find? (fun x => x.1 = 31) = some (31, canMsgOf frame2) := by decide

theorem wit_tx_own : Own fo (R.CANn_TXC 23) true (st []) := by unfold Own; decide
theorem wit_tx_request : At (st [(R.CANn_CFG_DIRECT 23, 4)]) fun s => nbit (s.rd (R.CANn_CFG_DIRECT 23)) 2 = true ∧
    s.rd (txcBit (R.CANn_TXC_PEND 23) 2) = 0 ∧ s.canMalformed 23 (s.raw (R.TXBb_W0 23 2)) (s.raw (R.TXBb_W1 23 2)) = false := by decide
theorem wit_tx_malformed : At (st [(R.CANn_CFG_DIRECT 23, 4), (⟨R.TXBb_W0 23 2, 29, 29⟩, 1)]) fun s =>
    s.canMalformed 23 (s.raw (R.TXBb_W0 23 2)) (s.raw (R.TXBb_W1 23 2)) = true ∧ nbit (s.rd (R.CANn_CFG_DIRECT 23)) 2 = true ∧
    nbit (s.rd (R.CANn_CFG_DIRECT 23)) 1 = false := by decide
theorem wit_tx_abort : At (st [(txcBit (R.CANn_TXC_PEND 23) 2, 1)]) fun s => s.rd (txcBit (R.CANn_TXC_PEND 23) 2) = 1 ∧
    (s.can 23).offered ≠ some 2 ∧ (s.can 23).buf 2 = none := by decide
/-- Buffer 2 of controller 23 on the bus. -/
def offeredState : State := (canOn [(txcBit (R.CANn_TXC_PEND 23) 2, 1)]).modCan 23 fun c => { c with offered := some 2 }
theorem wit_tx_offered : At offeredState fun s => s.rd (txcBit (R.CANn_TXC_PEND 23) 2) = 1 ∧ (s.can 23).offered = some 2 ∧
    (23 : Fin 24).val < s.cans.length ∧ s.rd R.LGW_CTRL_RUN = 0 ∧ (s.tly.rings.all fun r => !r.on) ∧
    s.rd (R.CANn_CFG_OPMODE 23) ≠ omLoopback ∧ s.rd (R.CANn_CFG_TDC_EN 23) = 0 ∧ s.rd (R.CANn_STAT_TEC 23) = 0 ∧
    (s.can 23).buf 2 = none ∧ w1Sshot (s.raw (R.TXBb_W1 23 2)) = false ∧ (s.can 23).aborts = [] := by decide
theorem wit_tx_sof : At (canOn [(txcBit (R.CANn_TXC_PEND 23) 2, 1), (txcBit (R.CANn_TXC_PEND 23) 0, 1)]) fun s => s.canLive 23 = true ∧
    s.rd (R.CANn_STAT_GATED 23) = 0 ∧ s.rd (R.CANn_CFG_OPMODE 23) = 0 ∧ s.rd (R.TRXj_STAT_TXD_BLOCK 23) = 0 ∧
    s.rd (R.CANn_STAT_ACT 23) ≠ 3 ∧ (s.can 23).offered = none ∧ s.rd (txcBit (R.CANn_TXC_PEND 23) 2) = 1 ∧
    s.rd (R.CANn_CFG_TXORD 23) = 0 := by decide
theorem wit_tx_sof_order : At (canOn [(txcBit (R.CANn_TXC_PEND 23) 2, 1), (R.CANn_CFG_TXORD 23, 1)]) fun s => s.canLive 23 = true ∧
    s.rd (R.CANn_CFG_TXORD 23) = 1 ∧ s.rd (txcBit (R.CANn_TXC_PEND 23) 2) = 1 := by decide
theorem wit_tx_stopping : At (canOn [(R.CANn_CTRL_RUN 23, 0)]) fun s => s.canLive 23 = true ∧ s.rd (R.CANn_CTRL_RUN 23) = 0 := by decide
theorem wit_tx_fails : At offeredState fun s => (s.can 23).offered = some 2 ∧ s.rd (R.CANn_CFG_TDC_EN 23) = 0 ∧
    (s.can 23).aborts = [] := by decide
theorem wit_tx_stopped : (st []).canLive 23 = false ∧ ((st []).can 23).offered = none := by decide
theorem wit_refill_busy : At (st [(R.CANn_CFG_DIRECT 23, 7)]) fun s => ∀ b : Fin 3, nbit (s.rd (R.CANn_CFG_DIRECT 23)) b = true := by decide
/-- A frame of the Forester's source queue waits for controller 23. -/
def waitTx (nb : Option Nat) : CanTx := { src := some 64, msg := canMsgOf frame2, notBefore := nb }
theorem wit_refill_takes : At ((canOn []).modCan 23 fun c => { c with sends := [waitTx none] }) fun s => (s.can 23).sends = [waitTx none] ∧
    (s.can 23).landing = [] ∧ s.feedQueues 23 = [] ∧ s.segHeld 23 = false ∧ (s.can 23).bufs = [none, none, none] ∧
    nbit (s.rd (R.CANn_CFG_DIRECT 23)) 0 = false ∧ s.rd (txcBit (R.CANn_TXC_PEND 23) 0) = 0 := by decide
theorem wit_refill_direct : At (canOn [(R.CANn_CFG_DIRECT 23, 3)]) fun s => ∀ c : Fin 3, c < 2 →
    nbit (s.rd (R.CANn_CFG_DIRECT 23)) c = true := by decide
theorem wit_notBefore : At ((canOn []).modCan 23 fun c => { c with bufs := [none, none, some (waitTx (some 500))] }) fun s =>
    (s.can 23).buf 2 = some (waitTx (some 500)) ∧ (s.can 23).buf 0 = none ∧ ∀ c ∈ s.chans, c.delayOn = none := by decide

theorem wit_canErr_off : (st []).canLive 23 = false := by decide
theorem wit_canErr_noCount : At (canOn [(R.CANn_CFG_OPMODE 23, 2)]) fun s => s.canLive 23 = true ∧ s.canCounts 23 = false := by decide
theorem wit_canErr_counts : At (canOn [(R.CANn_STAT_REC 23, 87)]) fun s => s.rd (R.CANn_STAT_STATE 23) = ctActive ∧ s.canCounts 23 = true ∧
    s.rd (R.CANn_STAT_REC 23) + 8 < 96 ∧ s.rd (R.CANn_STAT_TEC 23) + 8 < 96 ∧ s.rd (R.CANn_CFG_PXHD 23) = 0 := by decide
theorem wit_canErr_warn : At (canOn [(R.CANn_STAT_TEC 23, 119)]) fun s => 96 ≤ s.rd (R.CANn_STAT_TEC 23) + 8 ∧
    s.rd (R.CANn_STAT_TEC 23) + 8 < 128 ∧ s.rd (R.CANn_STAT_WARN 23) = 0 := by decide
theorem wit_canErr_passive : At (canOn [(R.CANn_STAT_TEC 23, 120)]) fun s => 128 ≤ s.rd (R.CANn_STAT_TEC 23) + 8 ∧
    s.rd (R.CANn_STAT_TEC 23) + 8 < 256 ∧ s.canCounts 23 = true ∧ s.rd (R.CANn_STAT_REC 23) < 96 := by decide
theorem wit_canErr_busOff : At (canOn [(R.CANn_STAT_TEC 23, 248)]) fun s => 256 ≤ s.rd (R.CANn_STAT_TEC 23) + 8 ∧
    s.rd (R.CANn_STAT_TEC 23) < 256 ∧ (s.can 23).bufs = [none, none, none] := by decide
theorem wit_canErr_pxh : (canOn [(R.CANn_CFG_PXHD 23, 1)]).rd (R.CANn_CFG_PXHD 23) = 1 := by decide
theorem test_canErr_busOff : At (nx (exec (.canBusError 23 (.tx 1 false 0)) (canOn [(R.CANn_STAT_TEC 23, 248)]))) fun t =>
    t.rd (R.CANn_STAT_STATE 23) = ctRecovering ∧ t.rd (R.CANn_FLT_BOFF 23) = 1 := by decide

theorem wit_can_integrating : At (st [(R.CANn_STAT_STATE 23, 1), (R.CANn_CTRL_RUN 23, 1)]) fun s => s.rd (R.CANn_STAT_STATE 23) = 1 ∧ s.rd (R.CANn_CTRL_RUN 23) = 1 := by decide
theorem wit_can_stops : At (st [(R.CANn_STAT_STATE 23, 2)]) fun s => s.rd (R.CANn_CTRL_RUN 23) = 0 ∧ s.rd (R.CANn_STAT_STATE 23) ≠ 0 ∧
    (23 : Fin 24).val < s.cans.length := by decide
theorem wit_can_sends : At (canOn [(R.CANn_STAT_ACT 23, 2)]) fun s => s.rd (R.CANn_STAT_ACT 23) = 2 ∧ s.rd (R.CANn_STAT_STATE 23) ≠ 1 := by decide
theorem wit_can_protocol_exception : At (canOn [(R.CANn_STAT_ACT 23, 3)]) fun s => s.rd (R.CANn_STAT_ACT 23) = 3 ∧
    s.rd (R.CANn_CTRL_RUN 23) = 1 ∧ s.rd (R.CANn_STAT_STATE 23) ≠ 1 := by decide
theorem wit_can_runs : (canOn []).rd (R.CANn_CTRL_RUN 23) = 1 := by decide
theorem wit_can_recovering : (st [(R.CANn_STAT_STATE 23, 6)]).rd (R.CANn_STAT_STATE 23) = 6 := by decide
theorem wit_can_release : Own fo (R.CANn_CTRL 23) true (st [(R.CANn_STAT_STATE 23, 5)]) := by unfold Own; decide

/-- The CAN record names segment 3 unused. -/
def unusedState : State := { st [] with records := updAt (List.replicate 11 {}) recCan fun _ => { c0 := recBytes recCan 1 1 0 (leBytes 4 8), used := some 0 } }
/-- Transceiver 23 reached over its link: hot, bus activity within the last second. -/
def trxFar : State := { linkUp 1 with regs := (R.TRXj_STAT 23, BitVec.ofNat 32 (2 ^ (R.TRXj_STAT_THERM 23).lo)) :: (linkUp 1).regs, now := 1000, trxs := updAt (linkUp 1).trxs 23 fun x => { x with wakeAt := some 500 } }
/-- Transceiver 3 of an unused segment, its link up. -/
def trxUnusedSt : State := { unusedState with regs := (linkUp 0).regs }
def trxUsedSt : State := linkUp 1
theorem wit_trx_write : Reaches fo (R.TRXj_CTRL 23) true (linkUp 1) ∧ (linkUp 1).segUnused 23 = false :=
  ⟨⟨by decide, by decide, .inr ⟨by decide, by decide, 1, by decide, by decide, by decide, by decide, by decide, by decide, by decide, by decide⟩⟩, by decide⟩
theorem wit_trx_hot : At trxFar fun s => s.rd (R.TRXj_STAT_THERM 23) = 1 ∧ s.trxRecent 23 = true ∧ s.linkOk 1 = true := by decide
theorem wit_trx_unused : Reaches fo (R.TRXj_CTRL 3) true trxUnusedSt ∧ unusedState.segUnused 3 = true :=
  ⟨⟨by decide, by decide, .inr ⟨by decide, by decide, 0, by decide, by decide, by decide, by decide, by decide, by decide, by decide, by decide⟩⟩, by decide⟩
theorem wit_trx_normal : At (canOn []) fun s => s.rd (R.TRXj_STAT_STATE 23) = 0 ∧ s.rd (R.TRXj_STAT_STATE 0) ≠ 0 := by decide

/-! Tally, sleep and wake. -/

/-- Ring 0, on segment 23 with address 5, of a module without a veto. -/
def ringSt (r : Ring) (l : List (Fld × Nat) := []) : State :=
  { st ((R.SUP_MODE_MODE, 5) :: l) with tly := { rings := [{ r with on := true, seg := 23, addr := 5 }, {}, {}, {}], awake := true } }
/-- The same with a message waiting in the reserved route of segment 0. -/
def heard (f : CanFrame) (s : State) : State := s.modTly fun t => { t with inbox := updAt t.inbox 0 fun _ => [f] }
/-- The message of a node. -/
def ringFrame (node : Fin 536870912) (next flags : Nat) : CanFrame :=
  { id := (0x500 + node) * 2 ^ 18, dlc := 8, data := [BitVec.ofNat 8 next, BitVec.ofNat 8 flags, 3, 0, 0, 0, 2, 0] }

theorem wit_ring_lengths : At (ringSt { st := 1 }) fun s => s.tly.rings.length = 4 ∧ s.cans.length = 24 ∧ (s.ring 0).seg < 24 ∧
    (s.ring 0).addr < 64 ∧ s.tly.inbox.length = 4 ∧ s.tly.inbox.getD 0 [] = [] := by decide
theorem wit_ring_off : At (st []) fun s => (s.ring 3).on = false ∧ s.tly.rings.length = 4 ∧ s.cans.length = 24 ∧ (s.ring 3).seg < 24 ∧
    (s.ring 3).addr < 64 := by decide
theorem wit_ring_off_message : At (heard (ringFrame 1 5 1) (st [])) fun s => s.tly.inbox.getD 0 [] = [ringFrame 1 5 1] ∧ (s.ring 0).on = false := by decide
theorem wit_ring_other_message : At (heard (ringFrame 1 5 1) (st [])) fun s => (s.tly.inbox.getD 0 []).head? ≠ some (ringFrame 1 2 8) := by decide
theorem wit_ring_on : At (heard (ringFrame 1 70 0) (ringSt { st := 1, present := 34 })) fun s => s.tly.inbox.getD 0 [] = [ringFrame 1 70 0] ∧ (s.ring 0).on = true ∧ (s.ring 0).st ≠ rsForming := by decide
theorem wit_ring_malformed : isRingFrame (ringFrame 1 70 0) = true ∧ (ringMsgOf (ringFrame 1 70 0)).ok = false ∧
    isRingFrame (ringFrame 64 1 0) = false := by decide
theorem wit_ring_ownAddress : At (heard (ringFrame 5 1 0) (ringSt { st := 1, present := 34 })) (fun s => s.tly.inbox.getD 0 [] ≠ [] ∧ (s.ring 0).addr = 5) ∧ (ringMsgOf (ringFrame 5 1 0)).ok = true ∧ (ringMsgOf (ringFrame 5 1 0)).node = 5 := by decide
theorem wit_ring_join : At (heard (ringFrame 1 2 8) (ringSt { st := 2, present := 34 })) (fun s => s.tly.inbox.getD 0 [] ≠ [] ∧ (s.ring 0).active = false ∧ (s.ring 0).st = rsAck) ∧ (ringMsgOf (ringFrame 1 2 8)).ok = true ∧ (ringMsgOf (ringFrame 1 2 8)).join = true ∧
    (ringMsgOf (ringFrame 1 2 8)).node ≠ 5 := by decide
theorem wit_ring_abort : (ringMsgOf (ringFrame 1 2 16)).ok = true ∧ (ringMsgOf (ringFrame 1 2 16)).abort = true ∧
    (ringMsgOf (ringFrame 1 2 16)).join = false := by decide
theorem wit_ring_waits : At (heard (ringFrame 1 2 16) (ringSt { st := 3, present := 34 })) fun s => (s.ring 0).st = rsWait ∧ (s.ring 0).on = true := by decide
theorem wit_ring_answers : At (heard (ringFrame 1 5 1) (ringSt { st := 1, present := 32 })) fun s => (s.ring 0).st = rsReady ∧ (s.ring 0).phase = 0 ∧
    (ringMsgOf (ringFrame 1 5 1)).next = (s.ring 0).addr ∧ (ringMsgOf (ringFrame 1 5 1)).next ≠ masterOf (withBit (s.ring 0).present 1) ∧
    (s.ring 0).lastNode ≠ some (ringMsgOf (ringFrame 1 5 1)).node ∧ (ringMsgOf (ringFrame 1 5 1)).ok = true ∧
    (ringMsgOf (ringFrame 1 5 1)).start = false := by decide
theorem test_ring_answer : At (nx (exec (.ringMessageReceived 0 (ringFrame 1 5 1)) (heard (ringFrame 1 5 1) (ringSt { st := 1, present := 32 })))) fun t =>
    (t.can 23).sends.map (fun x => (w0Id x.msg.w0 / 2 ^ 18, x.msg.data.take 2)) = [(0x505, [1, 1])] := by decide
theorem wit_round_start : At (ringSt { st := 1, present := 96 }) fun s => (s.ring 0).active = false ∧ (s.ring 0).st = rsReady ∧
    masterOf (withBit ((s.ring 0).present ||| (s.ring 0).joined) (s.ring 0).addr) = (s.ring 0).addr ∧ (s.ring 0).nextPhase = 0 := by decide
theorem wit_node_timeout : At (ringSt { st := 1, active := true, lastNode := some 5, lastNext := 6, present := 96 }) fun s =>
    (s.ring 0).active = true ∧ (s.ring 0).lastNode = some (s.ring 0).addr := by decide
theorem wit_listen_end : At (ringSt { st := 0, stage := 0 }) fun s => (s.ring 0).st = rsForming ∧ (s.ring 0).stage = fgListen := by decide
theorem wit_join_wait : At (ringSt { st := 0, stage := 2 }) fun s => (s.ring 0).st = rsForming ∧ (s.ring 0).stage = fgWait := by decide
theorem wit_join_answer : At (ringSt { st := 0, stage := 3, present := 2 }) fun s => (s.ring 0).st = rsForming ∧
    (s.ring 0).stage = fgJoin := by decide
theorem wit_formation : At (ringSt { st := 0, stage := 4, present := 34 }) fun s => (s.ring 0).st = rsForming ∧ (s.ring 0).stage = fgFirst ∧
    (s.ring 0).active = false := by decide
theorem wit_rejoin : At (ringSt { st := 0, stage := 5 }) fun s => (s.ring 0).st = rsForming ∧ (s.ring 0).stage = fgLeft := by decide

/-- A module without ring and without veto. -/
def quiet (l : List (Fld × Nat)) : State := { st ((R.SUP_MODE_MODE, 5) :: l) with tly := { awake := true, quietFrom := some 5 } }
theorem wit_idle : At (quiet [(R.WAKE_PEND_PEND, 5)]) fun s => s.tly.rings.any (·.on) = false ∧ s.veto = 0 ∧ s.aloneWaits = false ∧
    s.tly.commitAt = none ∧ s.tly.quietFrom = some 5 ∧ ∀ c ∈ s.chans, c.delayOn = none := by decide
theorem wit_idle_vetoed : (st []).veto ≠ 0 := by decide
/-- The local sleep-wait. -/
def waits (l : List (Fld × Nat)) : State := (quiet l).modTly fun t => { t with localWait := some 0 }
theorem wit_wakeIn : At ((waits [(⟨R.WAKE_IN_CFG, 15, 12⟩, 7), (⟨R.WAKE_EN, 7, 7⟩, 1)]).onSvr fun v => { v with rel := 7 }) fun s =>
    s.tly.wakeIn.length = 4 ∧ s.tly.wakeIn.getD (3 : Fin 4) false ≠ true ∧ s.tly.rings.any (·.on) = false ∧
    s.tly.ready = none ∧ s.tly.commitAt = none ∧ s.mode ≠ mdSleep ∧ (true != nbit (s.raw R.WAKE_IN_CFG).toNat 15) = true ∧
    nbit (s.raw R.WAKE_IN_CFG).toNat (4 * (3 : Fin 4) + 2) = true ∧ nbit (s.raw R.WAKE_IN_CFG).toNat (4 * (3 : Fin 4) + 0) = true ∧
    s.wakeEnabled 7 = true ∧ 6 < s.svr.rel ∧ s.tly.localWait ≠ none := by decide
theorem wit_wakeIn_same : At (quiet []) fun s => s.tly.wakeIn.getD (3 : Fin 4) false = false ∧ s.tly.wakeIn.length = 4 := by decide
theorem wit_sleepWaitEnd : At (waits []) fun s => s.tly.ready = none ∧ 4 ≤ (7 : Fin 8).val ∧ s.veto = 0 ∧ s.tly.localWait ≠ none ∧
    s.tly.rings.any (·.on) = false ∧ ∀ j, s.segUnused j = false :=
  ⟨by decide, by decide, by decide, by decide, by decide, fun _ => rfl⟩
theorem wit_sleepReady : At ((quiet []).modTly fun t => { t with ready := some [] }) fun s => s.tly.ready ≠ none := by decide
theorem wit_sleepWaitEnd_vetoed : At (waits [(R.SUP_MODE_MODE, 0)]) fun s => s.veto ≠ 0 ∧ s.tly.localWait ≠ none := by decide
theorem wit_stay_none : At (quiet []) fun s => s.tly.stays.find? (fun x => x.pid = (15 : Fin 16).val ∧ x.reason = 300) = none := by decide
theorem wit_stay : At ((quiet []).modTly fun t => { t with stays := [⟨15, 300, 4, 4000000000, 0⟩, ⟨14, 300, 4, 4000000000, 0⟩] }) fun s =>
    s.tly.stays.find? (fun x => x.pid = (15 : Fin 16).val ∧ x.reason = 300) = some ⟨15, 300, 4, 4000000000, 0⟩ ∧
    ∀ c ∈ s.chans, c.delayOn = none := by decide

theorem wit_wake_premises : At (st [(R.SUP_MODE_MODE, 5)]) fun s => s.tly.commitAt = none ∧ s.tly.ready = none ∧ s.tly.localWait = none ∧
    s.tly.rings.any (·.on) = false ∧ s.mode ≠ mdSleep := by decide
theorem wit_wake_disabled : At (st [(R.WAKE_EN_EN, 1)]) fun s => (s.sensed 0x00000080).2 = [] ∧ (s.sensed 0).2 = [] := by decide
theorem wit_wake_enabled : At (st [(⟨R.WAKE_EN, 7, 0⟩, 0x87), (R.WAKE_SRC_ARMED, 1), (⟨R.WAKE_IN_CFG, 15, 12⟩, 1)]) fun s =>
    (s.sensed 0x86).2 = [1, 2, 7] ∧ s.rd R.WAKE_SRC_ARMED = 1 := by decide
theorem wit_wake_transceiver : At ((st [(R.WAKE_EN_EN, 1), (⟨R.WAKE_EN, 31, 31⟩, 1), (R.TRXj_CTRL_WAKE_EN 23, 1)]).onSvr fun v => { v with rel := 7 }) fun s =>
    (s.sensed (2 ^ 31)).2 = [31] ∧ 6 < s.svr.rel ∧ s.rd R.WAKE_SRC_ARMED = 0 := by decide
theorem wit_trxWake : At (st [(R.TRXj_CTRL_WAKE_EN 23, 1), (R.TRXj_STAT_STATE 23, 2), (R.TRXj_CTRL_WAKE_EN 0, 0)]) fun s => s.trxWakes 23 = true ∧ s.mode ≠ mdDormant ∧
    s.rd (R.TRXj_STAT_STATE 23) = 2 ∧ s.trxWakes 0 = false := by decide
theorem wit_rtc_none : (st []).rd R.WAKE_RTC_ALM_SEC = 0 := by decide
theorem wit_rtc : At (st [(R.WAKE_EN_EN, 1), (R.WAKE_RTC_ALM_SEC, 7)]) fun s => s.rd R.WAKE_RTC_ALM_SEC ≠ 0 ∧ s.wakeEnabled 2 = true ∧
    ∀ c ∈ s.chans, c.delayOn = none := by decide

theorem wit_commit_own : Reaches fo R.WAKE_CMT true (linkUp 0) ∧ (linkUp 0).loading = false ∧ fo.isForester = true :=
  ⟨⟨by decide, by decide, .inr ⟨by decide, by decide, 0, by decide, by decide, by decide, by decide, by decide, by decide, by decide, by decide⟩⟩, by decide, by decide⟩
/-- The debug port, DBG-EN on, life-cycle state 1, and the link of the limb die up. -/
def dbgFar : State := ((linkUp 0).wr R.KSU_LCS_STATE 1).onSec fun c => { c with dbgEn := true }
theorem wit_commit_notForester : Reaches ⟨true, 0, 3⟩ R.WAKE_CMT true dbgFar ∧ Attr.isForester ⟨true, 0, 3⟩ = false :=
  ⟨⟨by decide, by decide, .inr ⟨by decide, by decide, 0, by decide, by decide, by decide, by decide, by decide, by decide, by decide, by decide⟩⟩, by decide⟩
theorem wit_commit_refused : At (linkUp 0) fun s => s.tly.ready = none ∧ s.tly.localWait = none ∧ s.tly.rings.any (·.on) = false ∧
    s.rd (R.TRXj_STAT_STATE 23) ≠ 3 ∧ s.rd R.WAKE_PEND_PEND ≠ 0 := by decide
/-- Every transceiver in Sleep, no wake pending. -/
def asleep : State := st ((R.GWB_Lg_STAT_UP 0, 1) :: (R.WAKE_PEND_PEND, 0) :: (List.range 24).map fun j => (R.TRXj_STAT_STATE j, 3))
theorem wit_commit : At asleep fun s => (∀ j : Fin 24, s.rd (R.TRXj_STAT_STATE j) = 3) ∧ s.rd R.WAKE_PEND_PEND = 0 ∧
    Own fo R.WAKE_CMT true s ∧ s.linkOk 0 = true ∧ s.loading = false := by unfold Own; decide
theorem wit_regulatorOff_none : (st []).tly.commitAt = none := by decide
theorem wit_regulatorOff : At ((st []).modTly fun t => { t with commitAt := some 9 }) fun s => s.tly.commitAt = some 9 := by decide

/-! The Ethernet switch. -/

/-- A switch with VLAN 5 on ports 0 and 16, both enabled with link. -/
def ethSt (f : Eth → Eth) (l : List (Fld × Nat) := []) : State :=
  { st ([(R.ESW_Pp_CFG_EN 0, 1), (R.ESW_Pp_STAT_LINK 0, 1), (R.ESW_Pp_CFG_EN 16, 1), (R.ESW_Pp_STAT_LINK 16, 1)] ++ l) with eth := f { vlans := [⟨5, 0x10001, 1, 0⟩] } }
/-- A tagged frame of VLAN 5 to address 6, and one without a tag. -/
def frame5 : EthFrame := { dmac := 0x020000000006, smac := 0x020000000007, tagged := true, vid := 5, pcp := 7, etype := 0x0800, body := [1] }
def frameUn (len : Nat) : EthFrame := { frame5 with tagged := false, len := len }

theorem wit_ethRx_off : At (st [(R.ESW_Pp_CFG_EN 20, 1)]) fun s => s.rd (R.ESW_Pp_STAT_LINK 20) = 0 := by decide
theorem wit_ethRx_long : At (ethSt id) fun s => s.rd (R.ESW_Pp_CFG_EN 16) = 1 ∧ s.rd (R.ESW_Pp_STAT_LINK 16) = 1 ∧
    2000 < (frameUn 2001).len ∧ (frameUn 2000).len ≤ 2000 := by decide
theorem wit_ethRx_vlan : At (ethSt (fun e => { e with vlans := [] }) [(R.ESW_Pp_CFG_ACC_TAGGED 16, 1)]) fun s => s.vlan frame5.vid = none ∧
    frame5.etype.val ≠ ptpType ∧ s.rd (R.ESW_Pp_CFG_ACC_TAGGED 16) = 1 := by decide
theorem wit_ethRx_blocked : At (ethSt fun e => { e with filters := [(1023, ⟨0x020000000006, 5, false, true, 0, 0, 1500, true⟩)] }) fun s =>
    s.vlan frame5.vid = some ⟨5, 0x10001, 1, 0⟩ ∧ nbit 0x10001 (16 : Fin 21) = true ∧
    s.qciFind frame5.vid frame5 = some (1023, ⟨0x020000000006, 5, false, true, 0, 0, 1500, true⟩) := by decide
theorem wit_ethRx_forwards : At (ethSt fun e => { e with fdb := [⟨0x020000000006, 5, 1, false⟩] }) fun s =>
    s.vlan frame5.vid = some ⟨5, 0x10001, 1, 0⟩ ∧ s.eth.filters = [] ∧ frame5.etype.val ≠ rtagType ∧ isMulticast frame5.dmac = false ∧
    isMulticast frame5.smac = false ∧ frame5.smac ≠ frame5.dmac ∧ s.qpOfMac frame5.dmac = none ∧ s.eth.ports.length = 21 ∧
    s.eth.fdb.length < 16384 ∧ (∀ x ∈ s.eth.fdb, x.mac = frame5.smac → x.vid = frame5.vid.val → x.fixed = false) ∧
    s.eth.fdb.find? (fun x => x.mac = frame5.dmac ∧ x.vid = frame5.vid.val) = some ⟨0x020000000006, 5, 2 ^ (0 : Fin 17).val, false⟩ ∧
    s.rd (R.ESW_Pp_CFG_EN (0 : Fin 17)) = 1 ∧ (s.port 0).held = [] ∧ frame5.bad = false ∧ 64 ≤ frame5.len := by decide
theorem test_ethRx_untagged : At (nx (exec (.ethFrameReceived 16 frame5) (ethSt fun e => { e with fdb := [⟨0x020000000006, 5, 1, false⟩] }))) fun t =>
    (t.port 0).held.map (fun q => (q.frame.tagged, q.tc, q.ingress)) = [(false, 7, 16)] ∧ t.eth.fdb.length = 2 := by decide

/-- The frame on the wire of port 16 and one behind it, with a timestamp asked for, and timestamps held. -/
def txSt (id : Option Nat) (held : Nat) : State :=
  ethSt fun e => { e with ports := updAt e.ports 16 fun p => { p with
    current := some { frame := frame5, tc := 7, ingress := 17, tsId := id }, queue := [{ frame := frameUn 80, tc := 0, ingress := 3 }],
    tsq := List.replicate held (9, 8, 7) } }
theorem wit_ethTx_none : At (ethSt id) fun s => s.sending 20 = none ∧ s.eth.ports.length = 21 := by decide
theorem wit_ethTx_plain : At (txSt none 0) fun s => (s.sending 16).map (fun q => (q.cpl, q.tsId)) = some (none, none) ∧
    (s.port 16).queue.length = 1 ∧ s.rd (R.ESW_Pp_ASYM_ASYM 16) = 0 := by decide
theorem wit_ethTx_stamp : At (txSt (some 77) 3) fun s => (s.port 16).tsq.length = 3 ∧
    (s.sending 16).map (fun q => (q.cpl, q.tsId)) = some (none, some 77) := by decide
theorem wit_ethTx_overflow : At (txSt (some 77) 4) fun s => (s.sending 16).map (fun q => q.tsId) = some (some 77) ∧ (s.port 16).tsq.length = 4 := by decide
theorem wit_tsqPop : At (txSt none 4) fun s => Own fo (R.ESW_Pp_TSQ_POP 16) true s ∧ (s.port 16).tsq.length ≤ 4 := by unfold Own; decide

theorem wit_gate_next : At (ethSt fun e => { e with ports := updAt e.ports 16 fun p => { p with oper := { en := true, k := 1, entries := [(1, 500000), (2, 500000)] } } }) fun s =>
    (s.port 16).oper.en = true ∧ s.rd (R.ESW_Pp_GCL_STAT_ENTRY 16) + 1 < (s.port 16).oper.entries.length := by decide
theorem wit_link : At (ethSt id) fun s => s.rd (R.ESW_Pp_CFG_EN 16) = 1 ∧ s.rd (R.ESW_Pp_STAT_LINK 16) = 1 ∧ s.rd (R.ESW_Pp_CFG_EN 1) = 0 := by decide
theorem wit_link_up : At (st [(R.ESW_Pp_CFG_EN 16, 1)]) fun s => s.rd (R.ESW_Pp_CFG_EN 16) = 1 ∧ s.rd (R.ESW_Pp_STAT_LINK 16) = 0 := by decide
/-- Port 16 with a low quality at some boundaries in a row; it was the slave port of domain 1, and is a master port of domain 0. -/
def sqiSt (n : Nat) (told : Bool) : State :=
  { ethSt (fun e => { e with ports := updAt e.ports 16 fun p => { p with sqiRun := n, sqiTold := told } })
      [(R.TMU_DOMx_STAT_ROLE 1, 1), (R.TMU_DOMx_STAT_VALID 1, 1), (R.TMU_DOMx_STAT_ROLE 0, 2)] with
    doms := updAt (List.replicate 2 {}) 1 fun d => { d with port := 16 } }
theorem wit_sqi_low : At (sqiSt 8 false) fun s => s.rd (R.ESW_Pp_STAT_LINK 16) = 1 ∧ 8 ≤ (s.port 16).sqiRun ∧ (s.port 16).sqiTold = false ∧
    s.eth.ports.length = 21 := by decide
theorem wit_sqi_told : (sqiSt 8 true |>.port 16).sqiTold = true ∧ (sqiSt 7 false |>.port 16).sqiRun < 8 := by decide
theorem wit_link_slave : At (sqiSt 0 false) fun s => s.rd (R.ESW_Pp_CFG_EN 16) = 1 ∧ s.rd (R.ESW_Pp_STAT_LINK 16) = 1 ∧
    s.rd (R.TMU_DOMx_STAT_ROLE 1) = 1 ∧ (s.dom 1).port = 16 := by decide
theorem wit_gate_host : (ethSt id).port 20 = {} ∧ (ethSt id).eth.hp3Tx = [] ∧ ((st []).port 20).oper.en = false := by decide
theorem wit_ageing : At (ethSt fun e => { e with fdb := [⟨1, 7, 1, false⟩, ⟨1, 7, 1, true⟩] }) fun s => s.eth.fdb.length = 2 := by decide
theorem wit_ptp : At (ethSt id [(R.ESW_Pp_CFG_PTP_EN 16, 1)]) fun s => s.eth.ports.length = 21 ∧ (∀ r : Fin 17, (s.port r).held = []) ∧
    s.rd (R.ESW_Pp_CFG_PTP_EN 16) = 1 ∧ s.rd (R.ESW_Pp_CFG_EN 16) = 1 ∧ s.rd (R.ESW_Pp_STAT_LINK 16) = 1 ∧
    ∀ x : Fin 2, s.rd (R.TMU_DOMx_STAT_ROLE x) = 0 := by decide
theorem wit_ptp_master : At (ethSt id [(R.ESW_Pp_CFG_PTP_EN 16, 1), (R.ESW_Pp_CFG_PTP_EN 0, 0), (R.TMU_DOMx_STAT_ROLE 0, 2)]) fun s => s.masterPorts 0 = [16] ∧
    s.rd (R.TMU_DOMx_STAT_ROLE 0) = 2 ∧ s.rd (R.TMU_DOMx_STAT_ROLE (1 - (0 : Fin 2))) = 0 := by decide
/-- Queue pair 31 of partition 0 enabled, its transmit queue 6 and buffer queue 7, one descriptor at their common base. -/
def qpSt (ty len egr : Nat) : State :=
  (own [(R.ESW_QPk_CFG_EN 31, 1), (R.ESW_Pp_CFG_EN 20, 1), (R.ESW_QPk_CFG_TXQ 31, 6), (R.ESW_QPk_CFG_BUFQ 31, 7), (R.QMG_QnCFG_EN 6, 1), (R.QMG_QnCFG_EN 7, 1),
      (R.QMG_QnCFG_CQ 6, 8), (R.QMG_QnPROD_IDX 6, 1), (R.QMG_QnPROD_IDX 7, 1), (R.QMG_QnBASE_LO_ADDR 6, 0x800000), (R.QMG_QnBASE_LO_ADDR 7, 0x800000)]).memWrite
    0x10000000 (leBytes 2 ty ++ [0, 0, 0, 0, 0, 0] ++ leBytes 5 0x10000100 ++ [0] ++ leBytes 2 len ++ leBytes 1 egr)
theorem wit_hostTx_off : At (own [(R.ESW_QPk_CFG_EN 31, 1)]) fun s => s.rd (R.ESW_QPk_CFG_EN 31) = 1 ∧ s.rd (R.ESW_Pp_CFG_EN (17 + 31 / 8)) = 0 := by decide
theorem wit_qp_off : (st []).rd (R.ESW_QPk_CFG_EN 31) = 0 := by decide
theorem wit_hostTx_malformed : At (qpSt 0x20 59 16) fun s => s.rd (R.ESW_QPk_CFG_EN 31) = 1 ∧
    ((s.qFront 6).2.map fun d => (le d 0 2, le d 14 2)) = some (0x20, 59) ∧ s.rd (R.QMG_QnCFG_EN (s.rd (R.QMG_QnCFG_CQ 6))) = 0 := by decide
theorem wit_hostTx : At (qpSt 0x20 60 16) fun s => s.rd (R.ESW_QPk_CFG_EN 31) = 1 ∧
    ((s.qFront 6).2.map fun d => (le d 0 2, le d 14 2, nbits (le d 16 1) 4 0, le d 17 1)) = some (0x20, 60, 16, 0) ∧
    s.memAdmits (s.qpAttr 31) 0x10000100 60 false = true ∧ s.rd (R.ESW_Pp_CFG_EN 20) = 1 ∧ s.poisonIn 0x10000100 60 = [] ∧ s.eth.ports.length = 21 ∧ (s.port 16).held = [] := by decide
theorem wit_rxPost : At (qpSt 0x22 60 16) fun s => s.rd (R.ESW_QPk_CFG_EN 31) = 1 ∧ ((s.qFront 7).2.map fun d => le d 0 2) = some 0x22 ∧
    s.eth.posted.length = 32 ∧ (s.port (17 + 31 / 8)).queue = [] := by decide
/-! Landing and Gwebry. -/

/-- Landing running, with the words of some registers. -/
def lgwSt (l : List (Fld × Nat)) (ws : List (Nat × Word)) : State :=
  ws.foldl (fun s x => s.setRaw x.1 x.2) (st ((R.LGW_CTRL_RUN, 1) :: l))
/-- A SIGNAL route of UIO pin 3 with a timeout of 5 frames; an EMIT route of 2 bytes on controller 23, period 1; one into container 255. -/
def staleRoute : List (Nat × Word) := [(R.LGW_ROUTE 16383 0, 0x00030209), (R.LGW_ROUTE 16383 6, 0xFF0005), (R.LGW_ROUTE 16383 7, 0x1234)]
def emitRoute : List (Nat × Word) := [(R.LGW_ROUTE 16382 0, 0x0217000B), (R.LGW_ROUTE 16382 1, 0x048C0000), (R.LGW_ROUTE 16382 2, 1), (R.LGW_ROUTE 16382 4, 0xBBAA)]
def ctnRoute : List (Nat × Word) := [(R.LGW_ROUTE 16382 0, 0x02FF010B), (R.LGW_ROUTE 16382 1, 0x77), (R.LGW_ROUTE 16382 2, 1), (R.LGW_ROUTE 16382 4, 0xBBAA)]

theorem wit_carry : At ((lgwSt [] []).modLgw fun l => { l with wait := [{ route := 5 }] }) fun s => s.lgw.wait ≠ [] := by decide
theorem wit_carry_none : (st []).lgw.wait = [] ∧ (st []).rd R.LGW_CTRL_RUN = 0 := by decide
theorem wit_stale : At ((lgwSt [(R.FRM_NUM_LO_NUM, 5)] staleRoute)) fun s => s.rd R.LGW_CTRL_RUN = 1 ∧ (s.route 16383).en = true ∧
    (s.route 16383).kind = kSignal ∧ (s.route 16383).timeout ≠ 0 ∧ s.rd (slotStale 16383) = 0 ∧
    (s.rt 16383).upd + (s.route 16383).timeout ≤ s.frame64 := by decide
theorem wit_fresh : At ((lgwSt [(R.FRM_NUM_LO_NUM, 4)] staleRoute)) fun s => s.frame64 < (s.rt 16383).upd + (s.route 16383).timeout := by decide
theorem wit_emit : At (lgwSt [] emitRoute) fun s => (s.route 16382).en = true ∧ (s.route 16382).kind = kEmit ∧ (s.route 16382).dest = 0 ∧
    s.emitDue 16382 (s.route 16382) = true ∧ (s.rt 16382).built ≠ some s.frame64 ∧ s.lgw.execs < 4096 ∧ s.segHeld 23 = false ∧
    (s.route 16382).unit = 23 ∧ s.rd R.PAIR_CFG_TWIN = 0 ∧ s.feeders 16382 = [] ∧ (s.route 16382).len ≤ 8 ∧ 23 < s.cans.length ∧
    (s.can 23).landing.length < 32 ∧ (∀ y ∈ (s.can 23).landing, y.tag ≠ 16382) ∧ ∀ c ∈ s.chans, c.delayOn = none := by decide
theorem wit_container : At (lgwSt [(R.LGW_CTNc_0_EN 255, 1), (R.LGW_CTNc_0_PORT 255, 16), (R.ESW_Pp_CFG_EN 16, 1), (R.ESW_Pp_CFG_EN 20, 1)] ctnRoute) fun s =>
    s.rd (R.LGW_CTNc_0_EN 255) = 1 ∧ s.rd R.FRM_STAT_SLOT % max 1 (s.rd (R.LGW_CTNc_4_K 255)) = 0 ∧
    sget (fun _ => 0) s.lgw.ctnAt 255 ≠ s.frame64 + 1 ∧ s.rd (R.LGW_CTNc_0_PORT 255) < 21 ∧ s.eth.ports.length = 21 ∧
    s.rd (R.ESW_Pp_CFG_EN 20) = 1 ∧ (s.port (s.rd (R.LGW_CTNc_0_PORT 255))).held = [] ∧ s.rd R.LGW_CTRL_RUN = 1 ∧ s.rd R.PAIR_CFG_TWIN = 0 ∧ s.lgw.execs < 4096 ∧
    sget (fun _ => []) s.lgw.pdus 255 = [] ∧ (∀ c ∈ s.chans, c.delayOn = none) ∧
    s.liveWhere (fun x => decide (x.kind = kEmit ∧ x.dest = 1 ∧ x.unit = (255 : Fin 256).val)) = [16382] ∧ s.emitDue 16382 (s.route 16382) = true ∧
    s.compose 16382 (s.route 16382) = .some 0x77 [0xAA, 0xBB] false := by
  refine ⟨by decide, by decide, by decide, by decide, by decide, by decide, by decide, by decide, by decide, by decide, by decide, by decide, by decide, by decide, by rfl⟩
theorem wit_container_off : (lgwSt [] []).rd (R.LGW_CTNc_0_EN 255) = 0 := by decide

/-- A container frame with one PDU 0x77 of two bytes, and a short one. -/
def ctnFrame (n : Nat) : EthFrame :=
  { etype := 0x88B5, body := [1, 0, 0, 1, 0, 0, 0, 0, 0x77, 0, 0, 0, BitVec.ofNat 8 n, 0, 0, 0, 0xFE, 0xFF, 0, 0] }
def rxRoute : List (Nat × Word) := [(R.LGW_ROUTE 16382 0, 0x00FF2909), (R.LGW_ROUTE 16382 1, 0x77), (R.LGW_ROUTE 16382 2, 0xFFFFFFFF),
  (R.LGW_ROUTE 16382 3, 0x1E001E00), (R.LGW_ROUTE 16382 4, 0x3), (R.LGW_ROUTE 16382 6, 0xFF0000)]
theorem wit_ctnRx_other : At (lgwSt [(R.LGW_ETH_ETYPE, 0x88B6)] []) fun s => (ctnFrame 2).etype.val ≠ s.rd R.LGW_ETH_ETYPE ∧
    (ctnFrame 2).etype.val ≠ rtagType := by decide
theorem wit_ctnRx_bad : At (lgwSt [(R.LGW_ETH_ETYPE, 0x88B5)] []) fun s => (ctnFrame 9).etype.val = s.rd R.LGW_ETH_ETYPE ∧
    parsePdus (le (ctnFrame 9).body 3 1) ((ctnFrame 9).body.drop 8) = none ∧ s.lgw.badRaised = false := by decide
theorem wit_ctnRx : At (lgwSt [(R.LGW_ETH_ETYPE, 0x88B5), (slotSat 16382, 1)] rxRoute) fun s => (ctnFrame 2).etype.val = s.rd R.LGW_ETH_ETYPE ∧
    s.rd R.LGW_CTRL_RUN = 1 ∧ le (ctnFrame 2).body 0 1 = 1 ∧ 8 ≤ (ctnFrame 2).body.length ∧
    parsePdus (le (ctnFrame 2).body 3 1) ((ctnFrame 2).body.drop 8) = some [(0x77, [0xFE, 0xFF])] ∧
    s.liveWhere (fun x => decide (x.kind = kSignal ∨ x.kind = kFrame) && (decide (x.src = 1 ∧ (x.unit = 0xFF ∨ x.unit = (16 : Fin 17).val)) &&
      decide (((0x77 : Word) ^^^ x.key) &&& x.mask = 0))) = [16382] ∧ (s.route 16382).kind = kSignal ∧ (s.route 16382).notify = false ∧
    s.lgw.execs < 4096 ∧ s.rd (slotStale 16382) = 0 ∧ s.rd (slotSat 16382) = 1 ∧
    ∀ i ∈ fieldBits (s.route 16382).sbe (s.route 16382).spos (s.route 16382).slen, i < 16 := by decide

/-- Link 5 up, with its link record. -/
def linkSt (f : Gwb → Gwb) (l : List (Fld × Nat) := []) : State :=
  (st ([(R.GWB_Lg_STAT_UP 5, 1), (R.GWB_Lg_STAT_TRAINING 5, 0)] ++ l)).modGwb 5 f
theorem wit_link_ok : At (linkSt fun g => { g with replays := 2, replaySeq := 9 }) fun s => s.linkOk 5 = true ∧ s.gwbs.length = 6 ∧ (s.gwb 5).replays < 3 ∧
    (s.gwb 5).replaySeq = 9 := by decide
theorem wit_link_other_packet : At (linkSt fun g => { g with replays := 3, replaySeq := 9 }) fun s => s.linkOk 5 = true ∧ (s.gwb 5).replaySeq ≠ 8 := by decide
theorem wit_link_retrains : At (linkSt fun g => { g with replays := 3, replaySeq := 9, locker := some fo, lines := [⟨0x20B00000, [1, 2], [false, true]⟩] }) fun s =>
    s.linkOk 5 = true ∧ 3 ≤ (s.gwb 5).replays ∧ (s.gwb 5).replaySeq = 9 := by decide
theorem wit_link_dead : At (st []) fun s => s.linkOk 5 = false ∧ s.rd (R.GWB_Lg_STAT_UP 5) = 0 := by decide
theorem wit_link_trains : At (st [(R.GWB_Lg_STAT_TRAINING 5, 1), (R.GWB_Lg_STAT_TRAINING 1, 1)]) fun s => s.rd (R.GWB_Lg_STAT_TRAINING 5) = 1 ∧ (s.gwb 5).fails < 2 ∧ (s.gwb 5).down = false ∧
    s.rd (R.GWB_Lg_STAT_UP 5) = 0 := by decide
theorem wit_link_down : At ((st [(R.GWB_Lg_STAT_TRAINING 5, 1)]).modGwb 5 fun g => { g with down := true }) fun s => (s.gwb 5).down = true ∧
    s.rd (R.GWB_Lg_STAT_TRAINING 5) = 1 := by decide
/-- A request of partition 3 on a link. -/
def nprTx : GwbTx := { tag := 7, attr := ⟨false, 3, 0⟩, addr := 0x20B00004 }
theorem wit_link_falls : At (linkSt (fun g => { g with fails := 2, txs := [nprTx] }) [(R.GWB_Lg_STAT_TRAINING 5, 1)]) fun s => 2 ≤ (s.gwb 5).fails ∧
    s.rd (R.GWB_Lg_STAT_UP 5) = 1 ∧ (s.gwb 5).down = false ∧
    (∀ x ∈ (s.gwb 5).txs ++ (s.gwb 5).again, x.posted = false) ∧ ∃ x ∈ (s.gwb 5).txs ++ (s.gwb 5).again, x.waits = true := by decide
theorem wit_link_falls_again : At (linkSt (fun g => { g with fails := 2, again := [nprTx] }) [(R.GWB_Lg_STAT_TRAINING 5, 1)]) fun s =>
    ∃ x ∈ (s.gwb 5).txs ++ (s.gwb 5).again, x.waits = true := by decide
theorem wit_tx_none : (st []).gwbs.length = 6 ∧ ((st []).gwb 5).txs = [] := by decide
theorem wit_tx_waits : At (linkSt fun g => { g with txs := [nprTx] }) fun s => (s.gwb 5).txs = [nprTx] ∧ nprTx.tag = 7 ∧ nprTx.waits = true ∧
    ((s.gwb 5).flying nprTx.toCrown).contains 7 = true ∧ nprTx.held = none := by decide
theorem wit_tx_held : At (linkSt fun g => { g with txs := [{ nprTx with waits := false, held := some (5, none) }] }) fun s =>
    (s.gwb 5).txs = [{ nprTx with waits := false, held := some (5, none) }] ∧ readSensitive nprTx.addr = false ∧ (s.gwb 5).again = [] ∧ (s.gwb 5).discRaised = false := by decide
theorem wit_tx_island : At ((st []).modGwb 1 fun g => { g with txs := [{ nprTx with attr := ⟨false, 0, 5⟩ }] }) fun s =>
    (s.gwb 1).txs = [{ nprTx with attr := ⟨false, 0, 5⟩ }] := by decide
theorem wit_line : At (linkSt fun g => { g with lines := [⟨0x20B00000, [1], [true]⟩, ⟨0x20B00040, [1], [true]⟩] }) fun s => (s.gwb 5).lines.length = 2 := by decide
theorem wit_lock_may : mayLock fo = true ∧ mayLock (pt 3) = false ∧ ((st []).gwb 5).locker = none := by decide
theorem wit_lock_held : At (linkSt (fun g => { g with locker := some fo }) [(R.GWB_Lg_LOCK_REQ 5, 1)]) fun s => (s.gwb 5).locker = some fo ∧ (s.gwb 5).locker ≠ none ∧
    s.rd (R.GWB_Lg_LOCK_GRANT 5) = 0 ∧ s.linkOk 5 = true := by decide
theorem wit_lock_idle : At (linkSt fun g => { g with locker := some fo }) fun s => (s.gwb 5).flying false = [] ∧ s.linkOk 5 = true := by decide
theorem wit_lock_granted : At (linkSt (fun g => { g with locker := some ⟨false, 0, 0⟩ }) [(R.GWB_Lg_LOCK_GRANT 5, 1)]) fun s => (s.gwb 5).locker = some ⟨false, 0, 0⟩ ∧
    s.rd (R.GWB_Lg_LOCK_GRANT 5) = 1 := by decide

/-! Cores, memory errors, debug and worlds. -/

/-- An entry on harts 14 and 15 (pair 7), with one RW region of system SRAM; heartwood with bit 3 of the flags. -/
def ptEntry (flags : Nat) : List Byte :=
  leBytes 1 flags ++ [3, 10, 0, 100, 0, 200, 0, 50, 0, 20, 0, 0, 0xC0, 0, 0, 7, 0, 0, 0, 0, 0, 0, 0] ++ leBytes 5 0x10000100 ++ leBytes 5 0x10000200 ++
  List.replicate 6 0 ++ [4, 0, 1, 0, 1, 0, 0, 0] ++ List.replicate 464 0
/-- Partition 15 in a state, its entry with flags. -/
def ptSt (flags stt : Nat) (l : List (Fld × Nat)) (f : Part → Part := id) : State :=
  { st ((R.EVR_Pp_FSTAT_STATE 15, stt) :: l) with parts := List.replicate 15 {} ++ [f { created := true, entry := ptEntry flags }] }
/-- Hart 14 as given. -/
def hart14 (h : Hart) (s : State) : State := s.modHart 14 fun _ => h

/-- Dual-rail results of 64 groups, all equal, and with group 2 unequal. -/
def railsEq : Nat := (2 ^ 128 - 1) / 3
def rails2 : Nat := railsEq + 2 ^ 4
theorem wit_mm_rails : unequalGroups 7 railsEq 0 = 0 ∧ unequalGroups 7 rails2 0 = 4 ∧ unequalGroups 7 railsEq (2 ^ 63) = 2 ^ 63 ∧
    unequalGroups 8 (railsEq + 2 ^ 40) 0 = 0 := by decide
theorem wit_mm_off : At (st [(R.LSC_Pk_STAT_STATE 7, 0), (R.LSC_Pk_STAT_STATE 8, 1)]) fun s => s.canMismatch 7 = false ∧ s.pairState 8 ≠ psRun ∧ s.cpx.harts.length = 16 := by decide
theorem wit_mm_free : At (st [(R.LSC_Pk_STAT_STATE 7, 2)]) fun s => s.canMismatch 7 = true ∧ s.partsOn 7 = [] := by decide
theorem wit_mm_part : At (hart14 { run := true } (ptSt 0 3 [(R.LSC_Pk_STAT_STATE 7, 2)])) fun s => s.canMismatch 7 = true ∧ s.partsOn 7 = [15] ∧ s.parts.length = 16 ∧
    s.partState 15 = stRunning ∧ s.partOnTrial 15 = false ∧ s.isSplit 7 = false ∧ (s.hart (2 * 7)).run = true ∧ s.partOfHart (2 * 7) = some 15 ∧
    (s.svr.rel ≠ 2 → s.loading = false) := by decide
theorem wit_mm_forester : At (st [(R.LSC_Pk_STAT_STATE 8, 2)]) fun s => s.pairState 8 = psRun ∧ s.loading = false := by decide
theorem wit_split : At (st [(R.LSC_Pk_CFG_SPLIT 7, 1)]) fun s => s.isSplit 7 = true ∧ s.isSplit 0 = false := by decide
theorem wit_testing : At (st [(R.LSC_Pk_STAT_STATE 7, 1)]) fun s => s.pairState 7 = psTesting ∧ (s.hart (2 * 7)).rst = false ∧ s.partOfHart (2 * 7) = none ∧
    s.partsOn 7 = [] := by decide
theorem wit_pair_ctrl : Own fo (R.LSC_Pk_CTRL 7) true (st [(R.LSC_Pk_STAT_STATE 7, 4)]) ∧ (st [(R.LSC_Pk_STAT_STATE 7, 4)]).pairState 7 = psFailed ∧
    (st []).pairState 7 ≠ psFailed := by unfold Own; decide
theorem test_mm_resets : At (nx (exec (.lockstepMismatch 7 ⟨rails2, 0, 1⟩) (hart14 { run := true } (ptSt 0 3 [(R.LSC_Pk_STAT_STATE 7, 2)])))) fun t =>
    t.partState 15 = stQuiescing ∧ t.pairState 7 = psHalted ∧ t.gen 15 = 1 ∧ t.rd64 (R.LSC_Pk_MM_LO 7) (R.LSC_Pk_MM_HI 7) = 4 := by decide

theorem wit_mem : memOf 0x10000000 = 0 ∧ memOf 0x117FFFFF = 0 ∧ memOf 0x800000000 = 1 ∧ memOf 0x9FFFFFFFF = 1 := by decide
theorem wit_mem_ce : At (st [(R.MEM_CE_CNT_SRAM, 65535)]) fun s => s.cpx.ceRaised = [] ∧ s.rd R.MEM_ERR_INFO_VALID = 0 ∧
    s.heartRegion 0x11000000 = false ∧ s.heartRegion 0x9FFFFFFFF = false ∧ s.heartRegion 0x10000000 = true ∧ s.isPoisoned 0x11000000 = false ∧ s.memAdmits fo 0x11000000 1 false = true ∧
    s.memAdmits fo 0x800000000 1 false = true ∧ s.memAdmits fo 0x10000000 1 false = true ∧ s.loading = false ∧ scrubFound .poisoned = false := by decide
theorem wit_mem_denied : (st []).memAdmits (pt 3) 0x11000000 1 false = false := by decide
theorem wit_scrub : At ((st []).onSvr fun v => { v with rel := 7 }) (fun s => s.crownUp = true) ∧ (st []).crownUp = false := by decide
theorem wit_mem_more : (st [(R.MEM_ERR_INFO_VALID, 1)]).rd R.MEM_ERR_INFO_VALID = 1 := by decide
theorem wit_poisoned : At ((st []).modCpx fun c => { c with poison := [0x11000000] }) fun s => s.isPoisoned 0x11000007 = true ∧ s.memAdmits fo 0x11000007 1 false = true := by decide

/-- DBG-EN on, life-cycle state 1: debug of the cores admitted. -/
def dbgSt (dbg : Bool) (l : List (Fld × Nat)) (h : Hart) : State :=
  (hart14 h (st ((R.KSU_LCS_STATE, 1) :: l))).onSec fun c => { c with dbgEn := dbg }
theorem wit_debug_no : At (dbgSt false [] {}) fun s => s.debugCore 7 (s.hart (s.hartAt 7 true)).heart = false ∧ s.debugAny = false ∧ s.cpx.harts.length = 16 := by decide
theorem wit_debug_halt : At (dbgSt true [(R.LSC_Pk_STAT_STATE 7, 2)] { run := true }) fun s => s.debugCore 7 (s.hart (s.hartAt 7 true)).heart = true ∧
    (s.hart (s.hartAt 7 true)).dbg = false ∧ s.pairState 7 ≠ psOff ∧ s.pairState 7 ≠ psFailed ∧ s.isSplit 7 = false ∧ s.pairState 7 = psRun ∧
    (s.hart (2 * 7 + 1)).run = false ∧ s.debugAny = true ∧ s.cpx.fifo.getD 7 [] = [] := by decide
theorem wit_debug_full : At ((dbgSt true [(R.LSC_Pk_STAT_STATE 7, 2)] { run := true }).modCpx fun c => { c with fifo := updAt c.fifo 7 fun _ => List.replicate 64 0 }) fun s =>
    s.debugCore 7 (s.hart (s.hartAt 7 true)).heart = true ∧ 64 ≤ ((s.cpx.fifo.getD 7 []).filter fun x => decide (s.now < x + 1)).length := by decide
theorem wit_debug_held : At (dbgSt true [(R.LSC_Pk_STAT_STATE 7, 6)] { run := true, dbg := true }) fun s => (s.hart (s.hartAt 7 true)).dbg = true ∧
    s.pairState 7 = psDbgHalt := by decide
theorem wit_debug_split : At (dbgSt true [(R.LSC_Pk_CFG_SPLIT 7, 1)] {}) fun s => s.isSplit 7 = true ∧ s.hartAt 7 true = 15 := by decide

theorem wit_wcall_dead : At (st []) fun s => (s.hart 15).live = false ∧ (s.hart 15).callAt = none := by decide
theorem wit_wcall : At (hart14 { run := true } (ptSt 8 3 [])) fun s => (s.hart 14).live = true ∧ (s.hart 14).heart = false ∧ s.partOfHart 14 = some 15 ∧
    (s.part 15).isHeart = true := by decide
theorem wit_wret : At (hart14 { run := true, heart := true, held := true, wcause := 1, callAt := some 5 } (ptSt 8 3 [])) fun s => (s.hart 14).live = true ∧ (s.hart 14).heart = true ∧
    (s.hart 14).callAt = some 5 ∧ s.partOfHart 14 = some 15 ∧ s.partState 15 = stRunning ∧ s.partOnTrial 15 = false ∧ ∀ c ∈ s.chans, c.delayOn = none := by decide
theorem wit_wret_sapwood : At (hart14 { run := true, mode := 0 } (st [])) fun s => (s.hart 14).live = true ∧ (s.hart 14).heart = false ∧ s.partOfHart 14 = none := by decide

/-! Partitions and crypto jobs. -/

theorem wit_frame_premises : At (ptSt 0 3 []) fun s => s.parts.length = 16 ∧ s.cpx.harts.length = 16 ∧ (∀ c ∈ s.chans, c.delayOn = none) ∧
    s.partState 15 = stRunning ∧ s.partState 0 ≠ stRunning ∧ s.rd (R.EVR_Pp_FSTAT_IN_FRAME 15) = 0 := by decide
theorem wit_frame_heart : At (hart14 { run := true, heart := true } (ptSt 8 3 [])) fun s => s.hartsOf 15 = [14, 15] ∧ (s.hart 14).heart = true := by decide
theorem wit_frame_open : At (ptSt 0 3 [(R.EVR_Pp_FSTAT_IN_FRAME 15, 1)] fun p => { p with tickAt := some 0, wdgFrom := some 4 }) fun s =>
    s.rd (R.EVR_Pp_FSTAT_IN_FRAME 15) = 1 ∧ s.rd (R.EVR_Pp_FSTAT_TICK_PEND 15) = 0 ∧ (s.part 15).overSeen = false ∧ s.debugHeld 15 = false ∧
    (s.part 15).wdgFrom = some 4 ∧ s.partOnTrial 15 = false ∧ (s.part 15).tickAt = some 0 := by decide
theorem wit_frame_missed : At (ptSt 0 3 [(R.EVR_Pp_FSTAT_IN_FRAME 15, 1), (R.EVR_Pp_FSTAT_TICK_PEND 15, 1)] fun p => { p with tickAt := some 0 }) fun s =>
    s.rd (R.EVR_Pp_FSTAT_IN_FRAME 15) = 1 ∧ s.rd (R.EVR_Pp_FSTAT_TICK_PEND 15) = 1 ∧ (s.part 15).tickAt = some 0 := by decide
theorem wit_frame_part : (pt 15).rqc = 0 ∧ (pt 15).pid = 15 ∧ ((st []).part 15).tickAt = none := by decide

theorem wit_fence : At (ptSt 0 4 [] fun p => { p with fences := [3, 4, 5] }) fun s => s.partState 15 = stQuiescing ∧ (s.part 15).fences = [3, 4, 5] := by decide
/-- Partition 0, which owns every resource, quiescing, with a staged change of timer 5 and of queue 6. -/
def fenceSt (fs : List Nat) : State :=
  ((((own [(R.EVR_Pp_FSTAT_STATE 0, 4), (R.LGW_BLKb_EN 0, 1), (R.LGW_BLKb_OWNER 0, 0)]).modPart 0 fun p => { p with fences := fs }).onStaged fun _ => [(R.KTt_CFG 5, 1), (R.LGW_ROUTE 7 0, 1)]))
theorem wit_fence_staged : At (fenceSt [3, 4, 5]) fun s => s.partState 0 = stQuiescing ∧ (s.part 0).fences = [3, 4, 5] ∧ s.parts.length = 16 ∧
    0x0385 ∈ s.stagedGroups ∧ s.groupOwner 0x0385 = some 0 := by decide
theorem wit_fence_blocks : At (fenceSt [4, 5]) fun s => s.partState 0 = stQuiescing ∧ (s.part 0).fences = [4, 5] ∧
    0x0600 ∈ s.stagedGroups ∧ s.groupOwner 0x0600 = some 0 := by decide
theorem wit_fence_other : At (ptSt 0 3 []) fun s => s.partState 15 ≠ stQuiescing ∨ (s.part 15).fences.head? ≠ some (7 : Fin 8).val := by decide
theorem wit_fence_stops : At (ptSt 0 4 [] fun p => { p with fences := [5], causes := [pcStop], cause := pcStop }) fun s => s.partState 15 = stQuiescing ∧
    (s.part 15).fences = [5] ∧ pcStop ∈ (s.part 15).causes := by decide
theorem wit_fence_loads : At (ptSt 0 4 [] fun p => { p with fences := [5], causes := [pcRestart], cause := pcRestart }) fun s => s.partState 15 = stQuiescing ∧
    (s.part 15).fences = [5] ∧ (s.part 15).causes = [pcRestart] := by decide
/-- Memory inside and outside the region of partition 15. -/
def loadSt : State := ((ptSt 0 2 []).memWrite 0x10010000 [5]).memWrite 0x10020000 [6]
theorem wit_load : At loadSt fun s => s.partState 15 = stLoading ∧ (s.part 15).loadOk = false ∧ s.partOnTrial 15 = false ∧
    (∀ k ∈ s.pairsOf 15, s.pairState k ≠ psFailed ∧ s.pairState k ≠ psSplitRun ∧ s.isSplit k = false) ∧ s.pairsOf 15 ≠ [] ∧
    (15 : Nat) ∉ s.pairU.fromCkpt ∧ s.memGet 0x10010000 = 5 ∧ s.badImage 15 .ok = none ∧ s.badImage 15 .badHimg = none := by decide
theorem wit_load_bad : At loadSt fun s => s.partOnTrial 15 = false ∧ s.badImage 15 .badSimg = some (s.part 15).simg := by decide
theorem wit_load_badHeart : At (ptSt 8 2 []) fun s => s.badImage 15 .badHimg = some (s.part 15).himg := by decide
theorem test_load_zeroes : At (nx (exec (.partLoadDone 15 .ok) loadSt)) fun t => t.memGet 0x10010000 = 0 ∧ t.memGet 0x10020000 = 6 ∧
    t.pairState 7 = psTesting := by decide

/-- Virtual queue 0 of partition 0 on queue 6, with one descriptor of operation op. -/
def vqSt (op : Nat) : State :=
  (own [(R.QMG_QnCFG_EN 6, 1), (R.QMG_QnCFG_ENGINE 6, 0x32), (R.QMG_QnPROD_IDX 6, 1), (R.QMG_QnBASE_LO_ADDR 6, 0x800000)]).memWrite 0x10000000
    (leBytes 2 op ++ [0, 0, 0, 0, 0, 0, 0xFF, 0] ++ List.replicate 6 0 ++ leBytes 5 0x10000100 ++ leBytes 5 0x10000200 ++ leBytes 5 0x10000300 ++ [0])
theorem wit_vq_none : At (st []) fun s => s.queueOfVq 31 = none ∧ s.jobOf 31 = none ∧ s.sec.serving.getD 4 none = none := by decide
theorem wit_vq_bad : At (vqSt 0x47) fun s => s.jobOf 0 = none ∧ s.queueOfVq 0 = some 6 ∧ ((s.qFront 6).2.map fun d => s.jobBad 0 d) = some (some stRange) ∧
    s.rd (R.QMG_QnCFG_EN (s.rd (R.QMG_QnCFG_CQ 6))) = 0 := by decide
theorem wit_vq_job : At (vqSt 0x45) fun s => s.jobOf 0 = none ∧ s.queueOfVq 0 = some 6 ∧ ((s.qFront 6).2.map fun d => s.jobBad 0 d) = some none ∧
    ((s.qFront 6).2.map fun d => (s.jobDenied 0 d, s.jobPoison d)) = some (none, []) := by decide
/-- A hash job of 64 bytes at an address. -/
def hashSt (addr : Nat) : State :=
  (own [(R.QMG_QnCFG_EN 6, 1), (R.QMG_QnCFG_ENGINE 6, 0x32), (R.QMG_QnPROD_IDX 6, 1), (R.QMG_QnBASE_LO_ADDR 6, 0x800000)]).memWrite 0x10000000
    (leBytes 2 0x42 ++ [0, 0, 0, 0, 0, 0, 0xFF, 0, 0, 0] ++ leBytes 4 32 ++ leBytes 5 addr ++ leBytes 5 addr ++ leBytes 5 addr ++ [0])
theorem wit_vq_denied : At (hashSt 0x40000000) fun s => s.jobOf 0 = none ∧ s.queueOfVq 0 = some 6 ∧
    ((s.qFront 6).2.map fun d => (s.jobBad 0 d, (s.jobDenied 0 d).isSome)) = some (none, true) := by decide
/-- A random-number job of virtual queue 31 in engine 4. -/
def unitSt : State := (st []).onSec fun c => { c with jobs := [{ vq := 31, queue := 6, desc := [0x45, 0] }], serving := (List.range 5).map (fun i => if i = 4 then some 31 else none) }
theorem wit_unit : At unitSt fun s => s.sec.serving = (List.range 5).map (fun i => if i = (4 : Fin 5).val then some 31 else none) ∧
    s.sec.jobs = [{ vq := 31, queue := 6, desc := [0x45, 0] }] ∧ le [0x45, 0] 0 2 = 0x45 ∧ s.rd (R.QMG_QnCFG_EN (s.rd (R.QMG_QnCFG_CQ 6))) = 0 := by decide

/-! The safety island. -/

/-- Parameters: test outputs 0 to 3, input 7 on test outputs 0 and 1, safe wire 3 with code 1, safety output 3, and function 15 of
input 7 with flags and a delay for output 3. -/
def silBody (flags delay : Nat) : List Byte :=
  [(0, 1), (2, 50), (4, 10), (5, 15), (72, 1), (73, 4), (74, 20), (76, 50), (92, 3), (94, 50), (124, 1), (125, 60), (368, flags), (370, 128), (375, 8),
    (376, delay)].foldl (fun b x => updAt b x.1 fun _ => BitVec.ofNat 8 x.2) (List.replicate 384 0)
/-- An island in RUN with those parameters. -/
def silSt (flags delay : Nat) (l : List (Fld × Nat) := []) (f : Sil → Sil := id) : State :=
  (st ([(R.SIL_STAT_STATE, ilRun), (R.SIL_STAT_HOLD, 0), (R.SUP_MODE_MODE, 4)] ++ l)).onSil fun x => f { x with pars := [some ⟨1, silBody flags delay, 9, 0⟩, none] }
/-- Input 7 at rest. -/
def rests (x : Sil) : Sil := { x with flt := List.replicate 8 (true, true) }

theorem wit_il_down : (st []).ilUp = false ∧ (st []).ilState = ilStart ∧ (st []).sil.dead = false := by decide
theorem wit_il_up : At (silSt 1 0) fun s => s.ilUp = true ∧ s.sil.evalAt = none ∧ soOn s.ilBody 3 = true ∧ fnEn s.ilBody 15 = true ∧
    nbit (fnOut s.ilBody 15) 3 = true ∧ ∀ c ∈ s.chans, c.delayOn = none := by decide
theorem wit_il_early : At ({ silSt 1 0 [] (fun x => { x with evalAt := some 0 }) with now := 149999 }) fun s => s.sil.evalAt = some 0 ∧ s.now < 0 + 150000 := by decide
theorem wit_il_later : At ({ silSt 1 0 [(fnFld 15, 3)] (fun x => { rests x with evalAt := some 0 }) with now := 150000 }) fun s => s.sil.evalAt = some 0 ∧
    0 + 150000 ≤ s.now ∧ s.fnState 15 = fnRun := by decide
theorem test_il_output_on : At (nx (exec (.islandEvaluation {}) (silSt 1 0 [(fnFld 15, 3)] rests))) fun t =>
    t.rd (soBit 3 0) = 1 ∧ t.rd (soBit 3 1) = 1 ∧ t.fnState 15 = fnRun := by decide

theorem wit_fn_premises : At (silSt 1 0 [(fnFld 15, 3), (inFld 7 2, 0)] rests) fun s => s.ilState = ilRun ∧ s.rd R.SIL_STAT_HOLD = 0 ∧ fnEn s.ilBody 15 = true ∧
    fnEn s.ilBody 0 = false ∧ s.fnState 15 = fnRun ∧ s.fnOk s.ilBody 15 = true ∧ s.fnFaulted s.ilBody 15 = false := by decide
theorem wit_fn_demand : At (silSt 1 0 [(fnFld 15, 3), (inFld 7 2, 1)] rests) fun s => s.fnOk s.ilBody 15 = false ∧ fnDelay s.ilBody 15 = 0 ∧ s.fnState 15 = fnRun := by decide
theorem wit_fn_delay : At (silSt 1 5 [(fnFld 15, 3), (inFld 7 2, 1)] rests) fun s => s.fnOk s.ilBody 15 = false ∧ fnDelay s.ilBody 15 ≠ 0 ∧ s.fnState 15 = fnRun := by decide
theorem wit_fn_locked : At (silSt 1 0 [(fnFld 15, 6)] rests) fun s => s.fnState 15 = fnLocked := by decide
theorem wit_fn_fault : At (silSt 1 0 [(fnFld 15, 5)] rests) fun s => s.fnState 15 = fnFault := by decide
theorem wit_fn_faulted : At (silSt 1 0 [(fnFld 15, 3)] fun x => { rests x with faults := [⟨fcDiscrepancy, 7, true⟩] }) fun s => s.fnFaulted s.ilBody 15 = true ∧ s.fnState 15 = fnRun := by decide
theorem wit_fn_leaves : At (silSt 3 0 [(fnFld 15, 1), (inFld 7 2, 0)] rests) fun s => s.fnState 15 = fnDemand ∧ s.fnOk s.ilBody 15 = true ∧ fnBit s.ilBody 15 1 = true := by decide
theorem wit_fn_stays : At (silSt 3 0 [(fnFld 15, 1), (inFld 7 2, 1)] rests) fun s => s.fnState 15 = fnDemand ∧ s.fnOk s.ilBody 15 = false := by decide
theorem wit_fn_waits : At (silSt 3 0 [(fnFld 15, 2), (inFld 7 2, 0)] rests) fun s => s.fnState 15 = fnWaitReset ∧ s.fnOk s.ilBody 15 = true := by decide

/-- Output 3 on, an evaluation not completed. -/
def onSt (ts : List Nat) : State :=
  silSt 1 0 [(fnFld 15, 3), (soBit 3 0, 1), (soBit 3 1, 1), (soGate 3 false, 1), (soGate 3 true, 1), (soOut 3 true, 1)]
    fun x => { rests x with evalAt := some 7, evalDone := false, faultAt := ts }
theorem wit_il_faults : At (onSt []) fun s => s.ilUp = true ∧ s.sil.dead = false ∧ s.trialOf tkIsland = false ∧ s.sil.evalAt = some 7 ∧ s.sil.evalDone = false ∧
    s.sil.faultAt = [] ∧ s.rd (soBit 3 0) = 1 ∧ s.rd (soGate 3 true) = 1 ∧ soTest s.ilBody 3 ≠ 0 ∧ ∀ c ∈ s.chans, c.delayOn = none := by decide
theorem wit_il_third : At (onSt [0, 0]) fun s => s.sil.faultAt = [0, 0] ∧ s.now < 0 + 60000000000 := by decide
theorem test_il_fault : At (nx (exec .islandMismatch (onSt [0, 0]))) fun t => t.rd (soGate 3 true) = 0 ∧ t.mode = mdSafeHold := by decide

theorem wit_in_premises : At (silSt 1 0 [] fun x => { rests x with disc := List.replicate 8 (some 5) }) fun s => s.sil.flt.length = 8 ∧ s.sil.swiGood.length = 4 ∧
    s.sil.swiDem.length = 4 ∧ s.sil.tpGood.length = 4 ∧ s.sil.siGood.length = 8 ∧ s.sil.disc.getD 7 none = some 5 ∧ s.ilHas fcDiscrepancy 7 = false ∧
    tpOn s.ilBody 3 = true ∧ isContact s.ilBody 7 = true ∧ s.tpCheck s.ilBody 0 [] 7 false = fcTpMissing ∧ s.tpCheck s.ilBody 3 [(7, true)] 7 true = fcTpForeign ∧
    swiOn s.ilBody 3 = true ∧ s.sil.pairs < 256 ∧ s.sil.high = none := by decide
theorem wit_in_high : At (silSt 1 0 [] fun x => { rests x with high := some 0, swiGood := List.replicate 4 3 }) fun s => s.sil.high = some 0 ∧ s.ilUp = true ∧
    s.ilHas fcResetStuck 0xFF = false ∧ s.sil.swiGood.getD 3 0 = 3 := by decide
theorem wit_in_release : At ({ silSt 1 0 [] (fun x => { x with high := some 0 }) with now := 100000000 }) fun s => 100000000 ≤ s.now - 0 ∧ s.now - 0 ≤ 5000000000 ∧ s.sil.stuck = false := by decide
theorem wit_in_tooLong : At ({ silSt 1 0 [] (fun x => { x with high := some 0 }) with now := 5000000001 }) fun s => 5000000000 < s.now - 0 := by decide

/-- The SAFETY record in force, with the check value of the island's own parameters. -/
def bootSt (own : Bool) (l : List (Fld × Nat) := []) : State :=
  let s := silSt 1 0 ((R.SIL_STAT_STATE, 0) :: l) fun x => { x with pars := [some ⟨1, silBody 1 0, checkValue 0 (silBody 1 0), 0⟩, none] }
  { s with records := if own then updAt (List.replicate 11 {}) recSafety fun _ => { c0 := recBytes recSafety 1 1 0 (silBody 1 0), used := some 0 } else List.replicate 11 {}, svr := { s.svr with rel := 9 } }
theorem wit_il_start : At (bootSt true) fun s => s.ilState = ilStart ∧ s.sil.dead = false ∧ s.svr.boot ≠ 2 ∧ 8 ≤ s.svr.rel ∧ s.trialOf tkIsland = false ∧
    s.sil.faultAt = [] ∧ s.sil.sel < 2 ∧ s.ilRecord = some (silBody 1 0, checkValue 0 (silBody 1 0)) ∧
    s.ilCopy = some ⟨1, silBody 1 0, checkValue 0 (silBody 1 0), 0⟩ ∧ checkValue 0 (silBody 1 0) < 2 ^ 32 := by decide
theorem wit_il_noRecord : At (bootSt false [(R.ISB_STAT_TRIAL, 1)]) fun s => s.ilRecord = none ∧ s.ilState = ilStart ∧ 8 ≤ s.svr.rel := by decide
theorem test_il_start_stuck : At (nx (exec (.islandStart { switches := [(3, { out := true })] }) (bootSt true))) fun t =>
    t.ilState = ilStart ∧ t.rd R.SIL_FLT_CODE = fcStartTest ∧ t.ilHas fcSoStuckOn 3 = true := by decide
theorem test_il_switch : At (nx (exec (.switchTestTimer 3 { falls := false }) (onSt []))) fun t => t.ilHas fcSoStuckOn 3 = true ∧ t.rd (soBit 3 0) = 0 := by decide
theorem wit_mirror : At ({ silSt 1 0 [(R.GWB_Lg_STAT_UP 1, 1)] (fun x => { x with evs := [(386, [1, 2], 3), (384, [1, 2, 3], 4)] }) with svr := { rel := 7 } }) fun s => 6 < s.svr.rel ∧
    s.rd (R.GWB_Lg_STAT_UP 1) = 1 ∧ ∀ x ∈ s.sil.evs, x.1 < 512 := by decide
theorem wit_mirror_off : (st []).rd (R.GWB_Lg_STAT_UP 1) = 0 := by decide

theorem wit_isb_own : Reaches fo R.ISB_CTRL true (linkUp 1) ∧ Reaches fo R.ISB_DATA true (linkUp 1) ∧ (linkUp 1).sil.op = none ∧ (linkUp 1).sil.fw.length = 2 :=
  ⟨⟨by decide, by decide, .inr ⟨by decide, by decide, 1, by decide, by decide, by decide, by decide, by decide, by decide, by decide, by decide⟩⟩,
    ⟨by decide, by decide, .inr ⟨by decide, by decide, 1, by decide, by decide, by decide, by decide, by decide, by decide, by decide, by decide⟩⟩, by decide, by decide⟩
theorem wit_isb_addr : At (st [(R.GWB_Lg_STAT_UP 1, 1), (R.ISB_ADDR_ADDR, 507903)]) fun s => s.rd R.ISB_ADDR_ADDR / 4 * 4 < 507904 := by decide
theorem wit_isb_range : At (st [(R.GWB_Lg_STAT_UP 1, 1), (R.ISB_ADDR_ADDR, 507904)]) fun s => 507904 ≤ s.rd R.ISB_ADDR_ADDR / 4 * 4 := by decide
theorem wit_isb_trial : At ((st [(R.GWB_Lg_STAT_UP 1, 1), (R.SIL_STAT_BANK, 1)]).onSil fun x => { x with onTrial := true }) fun s => s.sil.onTrial = true := by decide
theorem wit_isb_word : At ((linkUp 1).onSil fun x => { x with op := some (some (507900, 5)) }) fun s => s.sil.op = some (some (507900, 5)) ∧ s.sil.fw.length = 2 := by decide
theorem wit_isb_erase : At ((linkUp 1).onSil fun x => { x with op := some none, fw := [[(4, 5)], [(4, 5)]] }) fun s => s.sil.op = some none ∧ s.sil.fw.length = 2 := by decide

/-! Pairing, lease and takeover. -/

/-- A role, with the pairing unit as given. -/
def pairSt (role : Nat) (l : List (Fld × Nat) := []) (f : PairU → PairU := id) : State := (st ((R.PAIR_STAT_ROLE, role) :: l)).onPairU f
/-- The PAIRING record: segment 23 paired, a checkpoint area of partition 15. -/
def pairBody : List Byte :=
  [(0, 1), (1, 1), (2, 1), (6, 100), (10, 0x80), (138, 1), (139, 16), (141, 1)].foldl (fun b x => updAt b x.1 fun _ => BitVec.ofNat 8 x.2) (List.replicate 144 0)
def pairRec (s : State) : State :=
  { s with records := updAt (List.replicate 11 {}) recPairing fun _ => { c0 := recBytes recPairing 1 1 0 pairBody, used := some 0 } }
/-- A partition in STOPPED that AUTOSTART names. -/
def autoPart (stt : Nat) (s : State) : State := { s.wr (R.EVR_Pp_FSTAT_STATE 15) stt with parts := List.replicate 15 {} ++ [{ created := true, entry := ptEntry 16 }] }
/-- A frame of the partner. -/
def pairFrame (seq : Nat) (b : List Byte) : PairFrame := { pairId := 0, epoch := 3, seq := seq, slotT := 80, body := b }
/-- A checkpoint segment. -/
def ckptFrame : PairFrame := pairFrame 0 (let b := [(15 : Byte)] ++ leBytes 4 80 ++ leBytes 4 0 ++ List.replicate 256 7; b ++ leBytes 4 (crc32c b))

theorem wit_renew : At (pairSt 2 [(R.PAIR_STAT_LEASE_OUT, 1), (R.FRM_STAT_SLOT, 20)] fun u => { u with chkLease := true }) fun s => s.rd R.PAIR_STAT_LEASE_OUT = 1 ∧
    s.pairU.chkLease = true ∧ s.rd R.FRM_STAT_SLOT = 20 ∧ s.frameAt 235000 ≤ s.pairU.served + 5000000 ∧ s.role = roLead ∧
    ∀ c ∈ s.chans, c.delayOn = none := by decide
theorem wit_reserve : At (pairSt 3) fun s => s.role = roReserve ∧ s.rd R.PAIR_STAT_LEASE_OUT = 0 ∧ s.role ≠ roLead ∧ s.role ≠ roHanding := by decide
theorem wit_lead : At (pairSt 2 [(R.FRM_STAT_SLOT, 0), (R.CHn_ROLE_PAIRED 63, 1)]) fun s => s.role = roLead ∧ s.role ≠ roReserve := by decide

theorem wit_frame_bad : At (pairSt 3 [(R.PAIR_STAT_EPOCH, 4)]) fun s => s.pairGood (pairFrame 0 []) = false := by decide
theorem wit_frame_good : At (pairSt 3 [(R.PAIR_STAT_SYNCED, 1)] fun u => { u with lost := (true, true), haveImage := true }) fun s => s.pairGood (pairFrame 0 []) = true ∧ (pairFrame 0 []).epoch < 65536 ∧
    s.role = roReserve ∧ s.pairU.lost.1 = true ∧ (pairFrame 0 []).slotT < 2 ^ 32 := by decide
theorem wit_frame_arbitrate : At (pairRec (pairSt 1 [] fun u => { u with waitEnd := some 7 })) fun s => s.pairGood (pairFrame 0 []) = true ∧ s.role = roArbitrate ∧
    s.rd R.PAIR_STAT_SIG_OK = 0 ∧ s.pairU.waitEnd = some 7 := by decide
theorem wit_frame_yields : At (autoPart 3 (pairRec (pairSt 2 [(R.PAIR_STAT_LEASE_OUT, 1), (R.SUP_MODE_MODE, mdLead)]))) fun s => s.pairGood (pairFrame 0 []) = true ∧
    s.role = roLead ∧ s.mode = mdLead ∧ s.peerNear = false ∧ s.pairedSegs = [23] := by decide
theorem wit_hello_age : At (pairSt 2 [] fun u => { u with helloAt := some 0 }) fun s => s.pairU.helloAt = some 0 ∧ s.pairU.mirrorHold = false := by decide
theorem wit_hello_none : (st []).pairU.helloAt = none := by decide

/-- A MIRROR of one word, the only IMAGE frame, and a later one. -/
def mirrorFrame : PairFrame := pairFrame 5 ([1, 0, 1, 0] ++ leBytes 4 (R.CHn_CFG 63) ++ leBytes 4 0x500)
def imageFrame (i n : Nat) : PairFrame := pairFrame 5 (leBytes 2 i ++ leBytes 2 n ++ leBytes 4 (R.CHn_CFG 63) ++ leBytes 4 0x500)
theorem wit_mirror_next : At (pairSt 3 [(R.PAIR_STAT_SYNCED, 1)] fun u => { u with haveImage := true, digests := true, rxSeq := List.replicate 9 5 }) fun s =>
    s.pairGood mirrorFrame = true ∧ s.role = roReserve ∧ s.pairU.rxSeq.getD 2 65536 = mirrorFrame.seq ∧ mirrorFrame.slotT < 2 ^ 32 := by decide
theorem wit_mirror_gap : At (pairSt 3 [(R.PAIR_STAT_SYNCED, 1)] fun u => { u with haveImage := true, rxSeq := List.replicate 9 4 }) fun s =>
    s.pairU.rxSeq.getD 2 65536 ≠ mirrorFrame.seq ∧ s.pairU.rxSeq.getD 2 65536 ≠ 65536 ∧ s.rd R.PAIR_STAT_SYNCED = 1 := by decide
theorem wit_image_whole : le (imageFrame 0 1).body 0 2 = 0 ∧ le (imageFrame 0 1).body 2 2 = 1 := by decide
theorem wit_image_gap : le (imageFrame 2 3).body 0 2 ≠ 0 ∧ le (imageFrame 2 3).body 0 2 ≠ (pairSt 3).pairU.imgRun := by decide
/-- A COMMIT of the Forester held for the ACK of its MIRROR. -/
def heldSt (hold : Bool) : State :=
  { pairSt 2 [] fun u => { u with mirror := some (16, 0), mirrorHold := hold, txSeq := List.replicate 9 6 } with
    commits := [{ issuer := 16, groups := [0x23F], snap := [(R.CHn_CFG 63, 0x500)] }] }
theorem wit_ack : At (heldSt true) fun s => s.pairU.mirror = some (16, 0) ∧ s.pairU.mirrorHold = true ∧ (5 + 1) % 65536 = s.pairU.txSeq.getD 2 0 ∧
    (s.commitWaiting 16).map (fun x => x.1.groups) = some [0x23F] ∧ ∀ c ∈ s.chans, c.delayOn = none := by decide
theorem wit_ack_unheld : At (heldSt false) fun s => s.pairU.mirrorHold = false ∧ s.pairU.mirror = some (16, 0) := by decide

theorem wit_ckpt_bad : (pairFrame 0 []).body.length ≠ 269 := by decide
theorem wit_ckpt : ckptFrame.body.length = 269 ∧ le ckptFrame.body 265 4 = crc32c (ckptFrame.body.take 265) ∧ le ckptFrame.body 1 4 < 2 ^ 32 := by decide
theorem wit_ckpt_more : At (pairRec (pairSt 3 [(R.PAIR_STAT_SYNCED, 0)])) fun s => s.pairGood ckptFrame = true ∧ s.role = roReserve ∧ s.ckptWhole [(15, 0, List.replicate 256 7)] = false := by decide
theorem wit_ckpt_last : At (pairSt 3 [(R.PAIR_STAT_SYNCED, 0)]) fun s => s.pairGood ckptFrame = true ∧ s.ckptWhole [(15, 0, List.replicate 256 7)] = true := by decide

/-- A lead that has taken the lease back and waits for the final checkpoint of slot 80. -/
def finalSt : State := autoPart 1 (pairSt 2 [] fun u => { u with final := some 80 })
theorem wit_ckpt_final : At finalSt fun s => s.pairGood ckptFrame = true ∧ s.pairU.final = some (le ckptFrame.body 1 4) ∧
    s.ckptWhole [(15, 0, List.replicate 256 7)] = true ∧ (s.part 15).created = true ∧ s.partState 15 = stStopped ∧ (s.part 15).spent = false := by decide
theorem wit_arbitrate_end : At (autoPart 1 (pairRec (pairSt 1 [(R.PAIR_STAT_EPOCH, 65535)] fun u => { u with waitEnd := some 7 }))) fun s => s.pairU.waitEnd = some 7 ∧ s.role = roArbitrate ∧
    s.rd R.PAIR_STAT_SIG_OK = 0 ∧ (s.part 15).created = true ∧ s.partState 15 = stStopped ∧ (s.part 15).autostart = true ∧ (s.part 15).spent = false ∧
    ∀ c ∈ s.chans, c.delayOn = none := by decide
theorem wit_lease_expiry : At (pairRec (pairSt 3 [(R.SUP_MODE_MODE, mdReserve)])) fun s => s.role = roReserve ∧ s.pairU.held = false ∧ s.rd R.PAIR_STAT_SIG_OK = 0 ∧
    s.mode = mdReserve := by decide
theorem wit_lease_commission : At (pairSt 3 [(R.SUP_MODE_MODE, mdCommission)]) fun s => s.role = roReserve ∧ s.mode = mdCommission ∧ s.pairU.lost = (false, false) := by decide
theorem wit_age_renew : At (pairSt 3 [] fun u => { u with renewAt := some 5, sigAt := some 5 }) fun s => s.role = roReserve ∧ s.pairU.lost = (false, false) ∧
    s.rd R.PAIR_STAT_SIG_OK = 0 ∧ ¬ (s.pairU.renewAt.getD 0 + 20000000 < max s.now (s.pairU.sigAt.getD 0 + 2000000)) ∧
    s.pairU.sigAt.getD 0 + 2000000 < max s.now (s.pairU.renewAt.getD 0 + 20000000) := by decide
theorem wit_age_signal : At (pairSt 3 [(R.PAIR_STAT_SIG_OK, 1)]) fun s => s.role = roReserve ∧ s.rd R.PAIR_STAT_SIG_OK = 1 ∧ s.pairU.lost.1 = false := by decide
theorem wit_sig_ok : At (pairSt 1 [(R.PAIR_STAT_SIG_OK, 1)]) fun s => s.rd R.PAIR_STAT_SIG_OK = 1 := by decide
theorem wit_sig_returns : At (pairSt 3 [(R.PAIR_STAT_SIG_OK, 0)] fun u => { u with lost := (false, true) }) fun s => s.rd R.PAIR_STAT_SIG_OK = 0 ∧ s.pairU.lost.2 = true ∧ s.role ≠ roArbitrate := by decide
theorem wit_choker_lease : At (pairRec (pairSt 2 [(R.PAIR_STAT_LEASE_OUT, 1)] fun u => { u with sigFrom := some 7 })) fun s => s.role = roLead ∧ s.pairU.sigFrom = some 7 := by decide
theorem wit_choker_release : At (pairSt 2 [] fun u => { u with relFrom := some 7 }) fun s => s.role = roLead ∧ s.pairU.sigFrom = none ∧ s.pairU.relFrom = some 7 := by decide
theorem wit_choker_both : At (pairSt 2 [] fun u => { u with relFrom := some 7, sigFrom := some 9 }) fun s => s.role = roLead ∧ s.pairU.relFrom = some 7 ∧
    (∀ u, s.pairU.sigFrom = some u → 7 < u) := by decide
theorem test_choker_first : At (nx (exec .chokerYieldTimer (pairSt 2 [] fun u => { u with relFrom := some 7, sigFrom := some 9 }))) fun t =>
    t.role = roReserve ∧ t.now = 1000007 := by decide

theorem wit_release : At (chOn [(R.CHn_ROLE_PAIRED 63, 1)]) fun s => s.rd (R.BOLE_STAT_RELEASE (dieOf (63 : Fin 64))) = 0 ∧ s.rd (R.CHn_ROLE_PAIRED 63) = 1 ∧
    s.chOnState 63 = true := by decide

theorem wit_take_blocked : At (pairSt 4 [(R.PAIR_STAT_REL_IN, 1)]) fun s => s.pairU.stage = 0 ∧ s.role = roTakeover ∧ s.rd R.PAIR_STAT_REL_IN = 1 ∧ s.pairU.stuck = false := by decide
theorem wit_take_stuck : At (pairSt 4 [(R.PAIR_STAT_REL_IN, 1)] fun u => { u with stuck := true }) fun s => s.pairU.stuck = true ∧ s.rd R.PAIR_STAT_REL_IN = 1 := by decide
theorem wit_take_enable : At (pairSt 3 [(R.PAIR_STAT_REL_IN, 0)] fun u => { u with taking := true, image := [(R.CHn_CFG 63, 0x500)] }) fun s => s.pairU.stage = 0 ∧ s.role = roReserve ∧ s.pairU.taking = true ∧
    s.rd R.PAIR_STAT_REL_IN = 0 ∧ s.pairU.stuck = false := by decide
theorem wit_take_early : At (pairSt 3 [(R.PAIR_STAT_REL_IN, 0)] fun u => { u with taking := true, stuck := true, relLow := 1 }) fun s => s.pairU.stuck = true ∧ s.role = roReserve ∧
    s.pairU.taking = true ∧ s.pairU.stage = 0 ∧ s.now < s.pairU.relLow + 10000 := by decide
theorem wit_take_switch : At (pairRec (pairSt 4 [(R.TRXj_CTRL_MODE 23, 1)] fun u => { u with stage := 1, kcs := [(31, 5, 6)] })) fun s => s.pairU.stage = 1 ∧ s.pairedSegs = [23] ∧
    s.segUnused 23 = false := by decide
theorem wit_take_release : At (autoPart 1 (pairRec (pairSt 4 [(R.SUP_MODE_MODE, mdTakeover)] fun u => { u with stage := 2, tb := 9 }))) fun s => s.pairU.stage = 2 ∧
    (s.part 15).created = true ∧ s.partState 15 = stStopped ∧ (s.part 15).spent = false ∧ ∀ c ∈ s.chans, c.delayOn = none := by decide

theorem wit_take_waits : At (autoPart 1 (pairRec (pairSt 4 [] fun u => { u with stage := 2, taking := true, handT := some 80 }))) fun s => s.pairU.stage = 2 ∧
    s.pairU.taking = true ∧ s.ckptParts ≠ [] ∧ s.pairU.ckptDone.map (·.1) ≠ s.pairU.handT := by decide
theorem wit_hand_request : At (pairSt 2 [] fun u => { u with peerSynced := true }) fun s => s.pairGood (pairFrame 0 [0]) = true ∧ le (pairFrame 0 [0]).body 0 1 = 0 ∧ s.role = roLead ∧
    s.pairU.peerSynced = true := by decide
theorem wit_hand_grant : At (pairSt 3 [(R.PAIR_STAT_SYNCED, 1)]) fun s => s.pairGood (pairFrame 0 [1, 80, 0, 0, 0]) = true ∧ le (pairFrame 0 [1, 80, 0, 0, 0]).body 0 1 = 1 ∧
    s.role = roReserve ∧ s.rd R.PAIR_STAT_SYNCED = 1 := by decide
theorem wit_hand_withdraw : At (autoPart 3 (pairRec (pairSt 5 [(R.SUP_MODE_MODE, mdLead)] fun u => { u with handT := some 81 }))) fun s => s.pairGood (pairFrame 0 [2]) = true ∧
    le (pairFrame 0 [2]).body 0 1 = 2 ∧ s.role = roHanding ∧ s.partState 15 = stRunning ∧ s.pairU.handT ≠ some s.pairU.sendTurn := by decide
theorem wit_hand_withdraw_late : At (pairSt 5 [] fun u => { u with handT := some 80, sendTurn := 80 }) fun s => s.role = roHanding ∧
    s.pairU.handT = some s.pairU.sendTurn := by decide
theorem wit_turn : At { pairSt 2 [(R.CHn_ROLE_PAIRED 63, 1)] with frm := { newTurn := true } } fun s => s.role = roLead ∧ s.frm.newTurn = true := by decide
/-! Keys, updates and the recorder. -/

theorem wit_auth_none : (st []).sec.authEnd = none ∧ (st []).rd R.KSU_AUTH_SCOPE &&& 0xE = 0 := by decide
/-- An authorization of some scopes. -/
def authSt (sc : Nat) : State := (st [(R.KSU_AUTH_SCOPE, sc), (R.KSU_AUTH_CORES, 255)]).onSec fun c => { c with authEnd := some 5, lockEnd := some 6, fails := [3] }
theorem wit_auth : At (authSt 0xE) fun s => s.sec.authEnd.isSome = true ∧ s.rd R.KSU_AUTH_SCOPE &&& 0xE ≠ 0 ∧ s.rd R.KSU_AUTH_SCOPE &&& 0x31 = 0 := by decide
theorem wit_auth_others : At (authSt 0x33) fun s => s.rd R.KSU_AUTH_SCOPE &&& 0xE ≠ 0 ∧ s.rd R.KSU_AUTH_SCOPE &&& 0x31 ≠ 0 := by decide

/-- A trial of a kind, of component 7, with partition 15 in a state. -/
def trialSt (kind stt : Nat) : State :=
  (autoPart stt (st [])).modUpd fun u => { u with b0 := some { trial := trRunning, kind := kind, comp := 7 }, b1 := some { trial := trRunning, kind := kind, comp := 7 } }
theorem wit_trial_none : (st []).onTrial = false := by decide
theorem wit_trial_island : At (trialSt tkIsland 1) fun s => s.onTrial = true ∧ s.boot.kind = tkIsland := by decide
theorem wit_trial_landing : At (trialSt tkLanding 1) fun s => s.onTrial = true ∧ s.boot.kind = tkLanding := by decide
theorem wit_trial_partition : At (trialSt tkPartition 3) fun s => s.onTrial = true ∧ s.boot.kind = tkPartition ∧ s.parts.length = 16 ∧ s.partOnTrial 15 = true ∧
    s.partOnTrial 0 = false ∧ s.partState 15 = stRunning := by decide
theorem wit_trial_crown : At (trialSt tkCrown 1) fun s => s.onTrial = true ∧ s.boot.kind = tkCrown ∧ s.loading = false := by decide

/-- An entry of a class with a SEQ and a time; a ring of entries. -/
def entry (cls seq time : Nat) : IncEntry := { seq := seq, source := 528, cls := cls, code := 1, frame := 0, time := time, data0 := List.replicate 16 0 }
def ringOf (l : List IncEntry) : State := (st []).onInc fun r => { r with ring := l }
theorem wit_flush : At (ringOf [entry 2 5 9, entry 0 4 8, entry 1 3 7]) fun s => s.inc.alarmPos + 1 < alarmCap ∧ s.inc.generalPos + 2 < generalCap ∧
    s.inc.alarmArea.length + 1 ≤ alarmCap ∧ s.inc.generalArea.length + 2 ≤ generalCap ∧ (s.inc.ring.filter fun e => e.cls = clsAlarm).length = 1 := by decide
theorem wit_freeze_none : (st []).inc.freeze = none ∧ (st []).inc.toWrite = [] ∧ (st []).inc.skipped = 0 ∧ (st []).recBody recIncident = none := by decide
theorem wit_freeze : At ((st [(R.INR_FREEZE_ACTIVE, 1)]).onInc fun r => { r with freeze := some ⟨50, 20, 10, 3, false⟩ }) fun s => s.inc.freeze = some ⟨50, 20, 10, 3, false⟩ := by decide
/-- A snapshot to write, with an entry in the ring at a time. -/
def snapSt (time : Nat) : State :=
  (st []).onInc fun r => { r with toWrite := [⟨50, 20, 10, 3, false⟩], nextSlot := 7, ring := [entry 2 5 time], alarmArea := [entry 0 1 31, entry 0 2 70], generalArea := [entry 2 4 60] }
theorem wit_snapshot_waits : At (snapSt 60) fun s => s.inc.toWrite = [⟨50, 20, 10, 3, false⟩] ∧ ∃ e ∈ s.inc.ring, e.time ≤ 50 + 10 := by decide
theorem wit_snapshot : At (snapSt 61) fun s => s.inc.toWrite = [⟨50, 20, 10, 3, false⟩] ∧ (∀ e ∈ s.inc.ring, 50 + 10 < e.time) ∧ s.inc.nextSlot < 8 ∧ s.inc.slots.length = 8 := by decide
/-- The INCIDENT record exports every class to port 16 at 1,000 kbit/s. -/
def incBody : List Byte := [(0, 1), (1, 15), (4, 232), (5, 3), (14, 5), (18, 16)].foldl (fun b x => updAt b x.1 fun _ => BitVec.ofNat 8 x.2) (List.replicate 32 0)
def incRec (s : State) : State := { s with records := updAt (List.replicate 11 {}) recIncident fun _ => { c0 := recBytes recIncident 1 1 0 incBody, used := some 0 } }
theorem wit_export : At (incRec (ringOf [entry 2 5 9, entry 0 4 8])) fun s => s.inc.skipped = 0 ∧ s.recBody recIncident = some incBody ∧
    s.exports clsAlarm = true ∧ s.exports clsLog = true ∧ s.rd (R.ESW_Pp_CFG_EN (le incBody 18 1)) = 0 := by decide
theorem wit_export_empty : At (incRec ((ringOf [entry 2 5 9]).onInc fun r => { r with bucket := 5 })) fun s => s.inc.bucket = 5 ∧ s.recBody recIncident = some incBody ∧ s.inc.ring.length = 1 := by decide
/-- Queue 6 of partition 0 for recorder entries, with one descriptor. -/
def incQ (op cls rsvd : Nat) : State :=
  (own [(R.QMG_QnCFG_EN 6, 1), (R.QMG_QnCFG_ENGINE 6, 0x33), (R.QMG_QnPROD_IDX 6, 1), (R.QMG_QnBASE_LO_ADDR 6, 0x800000)]).memWrite 0x10000000
    (leBytes 2 op ++ [0, 0, 0, 0, 0, 0, BitVec.ofNat 8 cls, 9, BitVec.ofNat 8 rsvd, 0, 1, 2, 3])
theorem wit_incQ_other : (st []).rd (R.QMG_QnCFG_ENGINE 63) ≠ 0x33 := by decide
theorem wit_incQ_bad : At (incQ 0x50 3 0) fun s => s.rd (R.QMG_QnCFG_ENGINE 6) = 0x33 ∧ ((s.qFront 6).2.map fun d => s.mayClass 0 (le d 8 1)) = some false ∧ s.qOwner 6 = some 0 := by decide
theorem wit_incQ_rsvd : At (incQ 0x50 2 1) fun s => ((s.qFront 6).2.map fun d => le d 10 2) = some 1 := by decide
theorem wit_incQ : At (incQ 0x50 2 0) fun s => ((s.qFront 6).2.map fun d => (le d 0 2, le d 10 2, s.mayClass 0 (le d 8 1))) = some (0x50, 0, true) ∧ s.inc.ring = [] := by decide

/-! The supervisor, resets and start-up, the service UART. -/

/-- A state with the supervisor as given. -/
def supSt (l : List (Fld × Nat)) (f : Sup → Sup) : State := (st l).modSvr f

theorem wit_not_loading : (st []).loading = false ∧ ((st []).detect 2).loading = false := by decide
theorem wit_bor_hold : At (supSt [(R.CHn_CMD_ON 63, 1)] fun v => { v with belowHold := true }) fun s => s.svr.belowHold = true ∧ s.loading = false := by decide
theorem wit_crown_up : At (supSt [] fun v => { v with rel := 9, wdgReach := true }) fun s => s.crownUp = true ∧ s.loading = false ∧ (st []).crownUp = false := by decide
theorem wit_swr : Own fo R.SUP_SWR true (st []) ∧ Own fo R.SUP_FWDG true (st []) := by unfold Own; decide
theorem wit_kick_bad : At (supSt [] fun v => { v with rel := 9 }) fun s => Own fo R.SUP_FWDG true s ∧ s.crownUp = true ∧ s.svr.periodSet = false := by unfold Own; decide
theorem wit_period_again : At (supSt [] fun v => { v with periodSet := true }) fun s => Own fo R.SUP_FWDG true s ∧ s.svr.periodSet = true := by unfold Own; decide

theorem wit_source_release : At (supSt [] fun v => { v with srcs := [(rsBor, module), (rsSwr, crown), (rsPin, module)] }) fun s =>
    s.isAsserted rsBor = true ∧ s.isAsserted rsPin = true ∧ s.isAsserted rsPor = false := by decide
theorem wit_recheck : At (supSt [] fun v => { v with tcxoBad := true, srcs := [(rsClkf, crown)] }) fun s => s.svr.tcxoBad = true := by decide
theorem wit_hold_none : At (st [(R.SUP_MODE_MODE, mdListen)]) fun s => s.isAsserted rsBor = false ∧ s.isAsserted rsPin = false ∧ s.isAsserted rsPor = false ∧ s.svr.holdEnd = none ∧ s.mode = mdListen := by decide
theorem wit_start_held : At (supSt [] fun v => { v with holdEnd := some 5 }) fun s => s.svr.holdEnd.isSome = true ∧ ∀ c ∈ s.chans, c.delayOn = none := by decide
theorem wit_start_sleep : At (st [(R.SUP_MODE_MODE, mdDormant)]) fun s => s.mode = mdDormant ∧ s.isAsserted rsPor = false ∧ s.svr.holdEnd = none := by decide

theorem wit_loss : At (supSt [] fun v => { v with rel := 9, lossA := true, lossB := true, ext := true }) fun s => s.svr.lossA = true ∧ s.svr.lossB = true ∧
    s.svr.ext = true ∧ s.crownUp = true := by decide
theorem wit_thermal : At (autoPart 3 (supSt [] fun v => { v with rel := 9 })) fun s => s.svr.hot = false ∧ s.svr.cut = false ∧ s.crownUp = true ∧
    s.partState 15 = stRunning := by decide
theorem wit_thermal_clears : At (supSt [] fun v => { v with rel := 9, hot := true }) fun s => s.svr.hot = true ∧ s.crownUp = true := by decide
theorem test_thermal_stops : At (nx (exec (.thermalThreshold (-3) 135) (autoPart 3 (supSt [] fun v => { v with rel := 9 })))) fun t =>
    t.partState 15 = stQuiescing ∧ t.rd R.SUP_TEMP_PLATE = 253 ∧ t.rd R.SUP_TEMP_CROWN = 135 := by decide

theorem wit_blkrst : Own fo R.SUP_BLKRST_CAN true (st []) ∧ Own fo R.SUP_BLKRST true (st []) ∧ (st []).cans.length = 24 ∧
    ∀ e : Fin 5, (st []).sec.serving.getD e none = none := by unfold Own; decide
/-- Controllers 22 and 23 configured, and the switch, Landing and the recorder not at their reset values. -/
def rstSt : State :=
  (st [(R.TRXj_CTRL_MODE 23, 1), (R.CANn_CFG_TRIPLE 22, 1), (R.CANn_CFG_TRIPLE 23, 1), (R.INR_SEQ_SEQ, 7), (R.INR_DROP_LOG_COUNT, 3), (R.ESW_Pp_CFG_EN 16, 1), (R.ESW_Pp_STAT_LINK 16, 1),
    (R.LGW_CTRL_RUN, 1)]).onInc fun r => { r with freeze := some ⟨50, 20, 10, 3, false⟩ }
theorem wit_blkrst_set : At rstSt fun s => s.cans.length = 24 ∧ s.rd (R.CANn_CFG_TRIPLE 23) = 1 ∧ s.rd R.LGW_CTRL_RUN = 1 ∧ s.rd (R.ESW_Pp_STAT_LINK 16) = 1 := by decide
/-- A staged change of a Landing route and one of timer 5. -/
def stagedRst : State := rstSt.onStaged fun _ => [(R.KTt_CFG 5, 1), (R.LGW_ROUTE 7 0, 1)]
theorem test_blkrst_lgw : At (nx (exec (.blkrstLgw fo) stagedRst)) fun t => 0x0600 ∉ t.stagedGroups ∧ 0x0385 ∈ t.stagedGroups := by decide
theorem wit_blkrst_job : At unitSt fun s => Own fo R.SUP_BLKRST true s ∧ s.sec.jobs = [⟨31, 6, [0x45, 0], false⟩] ∧
    s.rd (R.QMG_QnCFG_EN (s.rd (R.QMG_QnCFG_CQ 6))) = 0 := by unfold Own; decide
theorem test_blkrst_can : At (nx (exec (.blkrstCan fo 0x400000) rstSt)) fun t => t.rd (R.CANn_CFG_TRIPLE 22) = 0 ∧ t.rd (R.CANn_CFG_TRIPLE 23) = 1 := by decide

/-- Nothing holds the release, which stands at a step. -/
def relSt (n : Nat) (l : List (Fld × Nat) := []) (f : Sup → Sup := id) : State := supSt l fun v => f { v with rel := n }
theorem wit_release_held : At (supSt [] fun v => { v with srcs := [(rsPor, whole)] }) fun s => s.heldStep = true := by decide
theorem wit_release_1 : At (relSt 1) fun s => s.heldStep = false ∧ s.svr.holdEnd = none ∧ s.svr.rel = 1 := by decide
theorem wit_release_2 : At (relSt 2 [] fun v => { v with startOk := true, regOn := true, strapDue := false }) fun s => s.heldStep = false ∧ s.svr.holdEnd = none ∧
    s.svr.rel = 2 ∧ s.svr.startOk = true ∧ s.svr.regOn = true ∧ s.svr.strapDue = false ∧ (st []).svr.rel = 2 ∧ (st []).svr.startOk = false := by decide
theorem wit_release_3 : At (relSt 3 ((List.range 6).map fun g => (R.GWB_Lg_STAT_UP g, 1))) fun s => s.linksReady = true ∧ (relSt 3).linksReady = false ∧ s.svr.rel = 3 := by decide
theorem wit_release_4 : At (relSt 4) fun s => s.svr.rel = 4 ∧ s.heldStep = false := by decide
theorem wit_release_5 : At (relSt 5 [] fun v => { v with lossA := true }) fun s => s.svr.rel = 5 ∧ s.heldStep = false ∧ s.optsPick.isNone = true := by decide
/-- Copy 1 of OPTIONS is valid. -/
def optsBody : List Byte := leBytes 4 9 ++ [1, 2, 3, 4, 2, 1] ++ List.replicate 50 0
def optsSt : State := relSt 5 [] fun v => { v with opts := { c1 := optsBody ++ leBytes 4 (crc32c optsBody) } }
theorem wit_release_opts : At optsSt fun s => s.svr.rel = 5 ∧ s.optsPick = some 1 := by decide
theorem wit_release_6 : At (relSt 6 [(R.LSC_Pk_STAT_STATE 8, 2)]) fun s => s.svr.rel = 6 ∧ s.pairState 8 = psRun := by decide
theorem wit_release_7 : At (relSt 7 [(R.SUP_STRAP_BOOT, 2)]) fun s => s.svr.rel = 7 ∧ s.bootAct = 2 := by decide
theorem wit_release_8 : At (relSt 8 [] fun v => { v with boot := 3 }) fun s => s.svr.rel = 8 ∧ s.serviceDue = true := by decide
theorem wit_holdoff : At (supSt [] fun v => { v with holdEnd := some 5 }) fun s => s.svr.holdEnd = some 5 ∧ (∀ c ∈ s.chans, c.delayOn = none) ∧ (st []).svr.holdEnd = none := by decide
theorem test_options_applied : At (nx (exec (.resetReleaseStep {}) optsSt)) fun t =>
    t.rd R.MEM_SC_CFG_WAYS = 2 ∧ t.svr.wdgReach = true ∧ t.rd R.SUP_OPT_COPY = 1 ∧ t.rd (R.LSC_Pk_CFG_SPLIT 1) = 1 ∧ t.rd (R.LSC_Pk_CFG_SPLIT 2) = 0 := by decide

/-- The release at its end in Start-up mode, with records. -/
def decideSt (f : Sup → Sup) (l : List (Fld × Nat)) (recs : List (Nat × List Byte)) : State :=
  { relSt 9 ((R.SUP_MODE_MODE, mdStartup) :: l) f with
    records := recs.foldl (fun r x => updAt r x.1 fun _ => { c0 := recBytes x.1 1 1 0 x.2, used := some 0 }) (List.replicate 11 {}) }
theorem wit_decide_not : (st []).svr.rel ≠ 9 := by decide
theorem wit_decide_update : At (decideSt (fun v => { v with boot := 2 }) [(⟨R.SUP_STARTS, 31, 0⟩, 2 ^ 32 - 1)] []) fun s => s.svr.rel = 9 ∧ s.mode = mdStartup ∧ s.svr.boot = 2 ∧
    s.rd ⟨R.SUP_STARTS, 31, 0⟩ = 2 ^ 32 - 1 := by decide
theorem wit_decide_service : At (decideSt (fun v => { v with boot := 3 }) [] []) fun s => s.svr.boot ≠ 2 ∧ s.degr.modeRow = some mdService ∧
    s.rd (R.BOLE_STAT_HOLD (dieOf (63 : Fin 64))) = 0 := by decide
/-- A MANIFEST without partitions is in use. -/
def maniSt : State :=
  { decideSt id [] [] with records := updAt (List.replicate 11 {}) recManifest fun _ => { c0 := [0, 0, 1, 0, 16, 34] ++ List.replicate 26 0 ++ [1, 16] ++ List.replicate 8718 0, used := some 0 } }
theorem wit_decide_safe_hold : At maniSt fun s => s.svr.rel = 9 ∧ s.svr.boot ≠ 2 ∧ s.manifestGone = false ∧ s.serviceDue = false ∧ s.ilRecord.isNone = true := by decide
/-- Update mode, with a boot record of a rollback number. -/
def updSt (rb : Nat) : State := (relSt 9 [(R.SUP_MODE_MODE, mdUpdate)] fun v => { v with imageAt := some 0 }).modUpd fun u =>
  { u with b0 := some { rollback := rb }, b1 := some { rollback := rb } }
theorem wit_image : At (updSt 5) fun s => s.mode = mdUpdate ∧ s.bootRec.isSome = true ∧ s.boot.rollback = 5 ∧ s.loading = false ∧ (st []).mode ≠ mdUpdate := by decide

theorem wit_uart : At (st [(wholeReg (mbxBase 16 + 0x10), 7)]) fun s => s.uart.buf = [] ∧ s.rd (R.MBX_STAT_BUSY 16) = 0 ∧ 0x10 % 4 = 0 ∧ 0x10 + 4 ≤ 0x400 ∧ 0x11 % 4 ≠ 0 := by decide
theorem test_uart_read : At (nx (exec (.svcUartRead (uartFrame 2 9 0x10 4 [])) (st [(wholeReg (mbxBase 16 + 0x10), 7)]))) fun t =>
    t.uart.replies = [uartFrame 0x82 9 0x10 4 [7, 0, 0, 0]] := by decide
/-! Rhapol commands: a command locked in a mailbox, and what the checks make of it. -/

/-- A command with its payload in the slot of mailbox m, its doorbell rung. -/
def cmd (m op cls : Nat) (pl : List Byte) (s : State) : State :=
  (((s.setWords (mbxBase m) (leWords (leBytes 2 op ++ [5] ++ leBytes 1 cls ++ [0, 0] ++ leBytes 2 pl.length ++ List.replicate 8 0 ++ pl))).wr
    (R.MBX_STAT_BUSY m) 1).wr (R.MBX_STAT_HELLO m) 1)
/-- The same from partition 0, which owns every resource and holds every feature. -/
def ocmd (op cls : Nat) (pl : List Byte) (l : List (Fld × Nat) := []) : State := cmd 0 op cls pl (own l)
/-- The same over the service port bridge. -/
def scmd (op cls : Nat) (pl : List Byte) (l : List (Fld × Nat) := []) : State :=
  (cmd 16 op cls pl (own l)).modMbx 16 fun b => { b with ringAttr := ⟨false, 0, 3⟩ }

theorem wit_row : RhapolRow (.sysInfo 0 .done) opSysInfo 0 .done := Or.inr (Or.inl ⟨rfl, rfl⟩)
theorem wit_row_none : At (ocmd 0x0101 1 []) fun s => s.rd (R.MBX_STAT_BUSY 1) = 0 ∧ (s.slotCtx 0).opcode ≠ opSysInfo.opcode := by decide
theorem wit_row_head : At ((ocmd 0x0102 1 []).wr (R.MBX_STAT_GEN 0) 3) fun s => s.headBad opSysInfo (s.slotCtx 0) = some (stStale, 3) := by decide
theorem wit_row_rsvd : At (ocmd 0x0102 1 [1]) fun s => s.headBad opSysInfo (s.slotCtx 0) = none ∧ rsvdBad opSysInfo.bits (s.slotCtx 0).payload = true := by decide
theorem wit_row_grant : At ({ ocmd 0x0203 1 [63] with parts := { allPart with entry := List.replicate 211 0xFF } :: List.replicate 15 {} }) fun s =>
    s.headBad opChGet (s.slotCtx 0) = none ∧ rsvdBad opChGet.bits (s.slotCtx 0).payload = false ∧ opChGet.grant s (s.slotCtx 0) = some 0x8000 := by decide
theorem wit_row_short : At (ocmd 0x0203 1 []) fun s => s.headBad opChGet (s.slotCtx 0) = none ∧ opChGet.grant s (s.slotCtx 0) = none ∧
    (s.slotCtx 0).len < opChGet.need (s.slotCtx 0).payload := by decide
theorem wit_row_busy : At (ocmd 0x0102 1 []) fun s => Taken s 0 opSysInfo 0x0102 ∧ (opSysInfo.body (s.slotCtx 0) s).st = stOk := by unfold Taken; decide
theorem test_row_refused : At (nx (exec (.chGet 0 .done) (ocmd 0x0203 1 []))) fun t => statusOf t 0 = stRange ∧ t.rd (R.MBX_STAT_DONE 0) = 1 := by decide
theorem wit_ring_unknown : At (cmd 0 0x0FFF 1 [] (st [])) fun s => opOf (s.slotCtx 0).opcode = none := by decide
theorem wit_ring_free : At ((cmd 0 0x0FFF 1 [] (st [])).wr (R.MBX_STAT_BUSY 0) 0) fun s => s.regAdmits (pt 0) (mbxBase 0) true = true ∧ s.rd (R.MBX_STAT_BUSY 0) = 0 ∧ s.mbxs.length = 17 ∧
    (s.slotCtx 0).gen = s.gen 0 ∧ ((s.wr (R.MBX_STAT_GEN 0) 1).slotCtx 0).gen ≠ (s.wr (R.MBX_STAT_GEN 0) 1).gen 0 := by decide

/-! System and channel commands. -/

theorem wit_hello : At { ocmd 0x0101 1 (List.replicate 16 0xFF) with parts := { allPart with granted := none } :: List.replicate 15 {} } fun s =>
    Taken s 0 opSysHello 0x0101 ∧ s.parts.length = 16 ∧ (s.part 0).granted = none ∧ (s.part 0).has offEvt 511 = true := by unfold Taken; decide
theorem wit_hello_again : At { ocmd 0x0101 1 (List.replicate 16 0) with parts := allPart :: List.replicate 15 {} } fun s =>
    Taken s 0 opSysHello 0x0101 ∧ (s.part 0).granted = some (2 ^ 128 - 1) ∧ (s.slotCtx 0).arg 0 16 = (s.part 0).requested := by unfold Taken; decide
theorem wit_hello_other : At (ocmd 0x0101 1 (List.replicate 16 1)) fun s => Taken s 0 opSysHello 0x0101 ∧ (s.slotCtx 0).arg 0 16 ≠ (s.part 0).requested := by unfold Taken; decide
theorem wit_hello_forester : At (scmd 0x0101 1 (List.replicate 16 1)) fun s => Taken s 16 opSysHello 0x0101 ∧ (s.slotCtx 16).caller = none := by unfold Taken; decide
theorem wit_info : At (scmd 0x0102 0 []) fun s => Taken s 16 opSysInfo 0x0102 := by unfold Taken; decide
/-- Two values staged in group 0x023F and one in 0x0340, committed or not. -/
def stagedSt (s : State) (ks : List Commit := []) : State := { s with staged := [(R.CHn_LIM 63, 5), (R.CHn_CFG 63, 0x500), (R.UIOp_CFG 64, 7)], commits := ks }
theorem wit_sys_commit : At (stagedSt (ocmd 0x0110 0 [0, 1, 0, 0, 0x3F, 2])) fun s => Taken s 0 opSysCommit 0x0110 ∧ (s.slotCtx 0).groupRange = none ∧
    (s.namedGroups (s.slotCtx 0)).filter s.hasStaged = [0x023F] := by unfold Taken; decide
theorem wit_commit_all : At (stagedSt (ocmd 0x0110 0 [1, 0])) fun s => Taken s 0 opSysCommit 0x0110 ∧ (s.slotCtx 0).groupRange = none ∧
    (s.namedGroups (s.slotCtx 0)).filter s.hasStaged = [0x023F, 0x0340] := by unfold Taken; decide
theorem wit_commit_empty : At (ocmd 0x0110 0 [0, 1, 0, 0, 0x3F, 2]) fun s => Taken s 0 opSysCommit 0x0110 ∧ (s.namedGroups (s.slotCtx 0)).filter s.hasStaged = [] := by unfold Taken; decide
theorem wit_commit_range : At (ocmd 0x0110 0 [0, 1, 0, 0, 0x40, 2]) fun s => Taken s 0 opSysCommit 0x0110 ∧ (s.slotCtx 0).groupRange = some 4 := by unfold Taken; decide
theorem wit_discard : At (stagedSt (ocmd 0x0111 0 [0, 1, 0, 0, 0x3F, 2])) fun s => Taken s 0 opSysDiscard 0x0111 ∧ (s.slotCtx 0).groupRange = none ∧ s.commits = [] := by unfold Taken; decide
theorem wit_discard_held : At (stagedSt (ocmd 0x0111 0 [0, 1, 0, 0, 0x3F, 2]) [{ issuer := 0, groups := [0x23F], snap := [] }]) fun s => Taken s 0 opSysDiscard 0x0111 ∧
    (s.namedGroups (s.slotCtx 0)).find? (fun g => s.commits.any fun k => k.groups.contains g) = some 0x023F := by unfold Taken; decide
theorem wit_evt_sub : At (ocmd 0x0120 1 [0xFF, 1, 3]) fun s => Taken s 0 opSysEvtSub 0x0120 ∧ (s.slotCtx 0).arg 0 2 = 511 ∧ (s.slotCtx 0).arg 2 1 = 3 := by unfold Taken; decide
theorem wit_evt_unsub : At (ocmd 0x0121 1 [0xFF, 1]) fun s => Taken s 0 opSysEvtUnsub 0x0121 ∧ (s.slotCtx 0).arg 0 2 = 511 := by unfold Taken; decide
theorem wit_cfg_read : At (ocmd 0x0130 1 [11, 0, 1, 0, 4, 0, 0, 0, 2, 0]) fun s => Taken s 0 opSysCfgRead 0x0130 ∧ (s.slotCtx 0).arg 8 2 = 2 := by unfold Taken; decide
theorem wit_cfg_write : At (ocmd 0x0131 2 ([11, 0, 0, 0, 4, 0, 0, 0] ++ leBytes 8 0x10000000)) fun s => Taken s 0 opSysCfgWrite 0x0131 ∧
    s.sourceOk (s.slotCtx 0) 0x10000000 4 = true ∧ s.longOpen 0 < 8 ∧ s.mbxs.length = 17 ∧ (s.mbxs.getD 0 {}).longUsed.findIdx? (fun b => !b) = some 0 := by unfold Taken; decide
theorem wit_cfg_write_ninth : At ((ocmd 0x0131 2 ([11, 0, 0, 0, 4, 0, 0, 0] ++ leBytes 8 0x10000000)).modMbx 0 fun b => { b with longUsed := List.replicate 8 true }) fun s =>
    Taken s 0 opSysCfgWrite 0x0131 ∧ 8 ≤ s.longOpen 0 := by unfold Taken; decide
theorem wit_cfg_write_safety : At (ocmd 0x0131 2 (leBytes 2 (recSafety + 1) ++ [0, 0, 4, 0, 0, 0] ++ leBytes 8 0x10000000)) fun s => Taken s 0 opSysCfgWrite 0x0131 ∧
    (s.slotCtx 0).arg 0 2 = recSafety + 1 := by unfold Taken; decide
theorem wit_svc_put : At (scmd 0x0132 1 [0, 0, 0, 0, 9, 8]) fun s => Taken s 16 opSysSvcPut 0x0132 ∧ (s.slotCtx 16).len - 4 = 2 := by unfold Taken; decide
theorem test_svc_put : At (nx (exec (.sysSvcPut 16 .done) (scmd 0x0132 1 [2, 0, 0, 0, 9, 8]))) fun t => sget (fun _ => 0) t.svcBuf 3 = 8 ∧ statusOf t 16 = stOk := by decide

theorem wit_ch_set : At (ocmd 0x0201 0 (leBytes 8 (2 ^ 63 + 1) ++ leBytes 8 (2 ^ 63))) fun s => Taken s 0 opChSet 0x0201 ∧
    s.stagedConflict [0x0200, 0x023F] = none ∧ s.rd (R.CHn_ROLE_PAIRED 63) = 0 := by unfold Taken; decide
theorem wit_ch_set_lease : At (ocmd 0x0201 0 (leBytes 8 (2 ^ 63 + 1) ++ leBytes 8 (2 ^ 63)) [(R.CHn_ROLE_PAIRED 63, 1)]) fun s => Taken s 0 opChSet 0x0201 ∧
    s.rd R.PAIR_STAT_LEASE_OUT = 0 ∧ (s.wr R.PAIR_STAT_LEASE_OUT 1).rd R.PAIR_STAT_LEASE_OUT = 1 := by unfold Taken; decide
theorem wit_ch_set_held : At (stagedSt (ocmd 0x0201 0 (leBytes 8 (2 ^ 63) ++ leBytes 8 (2 ^ 63)))) fun s => Taken s 0 opChSet 0x0201 ∧ s.stagedConflict [0x023F] = some 0x023F := by unfold Taken; decide
def chCfgPl (n : Byte) : List Byte := [n, 0, 1, 0] ++ leBytes 2 100 ++ leBytes 2 200 ++ [20, 3, 10, 0] ++ leBytes 2 50
theorem wit_ch_config : At (ocmd 0x0202 1 (chCfgPl 63)) fun s => let c := s.slotCtx 0; let v := s.viewWith (chConfigVals c); Taken s 0 opChConfig 0x0202 ∧
    s.chRules v 63 { chVals v 63 with ilim := c.arg 4 2, iinr := c.arg 6 2, tinr := c.arg 8 1, ttrip := c.arg 12 2 } = none ∧ s.fieldCheck v [0x023F] = none := by unfold Taken; decide
theorem wit_ch_config_range : At (ocmd 0x0202 1 (chCfgPl 64)) fun s => Taken s 0 opChConfig 0x0202 ∧ 63 < (s.slotCtx 0).arg 0 1 := by unfold Taken; decide
theorem wit_ch_get : At (ocmd 0x0203 0 [63]) fun s => Taken s 0 opChGet 0x0203 := by unfold Taken; decide
theorem wit_ch_ack : At (ocmd 0x0204 1 (leBytes 8 (2 ^ 63) ++ leBytes 4 0xFFF) [(wholeReg (R.CHn_FLT 63), 0xFFF), (wholeReg (R.CHn_FLT 0), 0xFFF)]) fun s => Taken s 0 opChAck 0x0204 := by unfold Taken; decide
theorem wit_ch_so_get : At (ocmd 0x0210 0 []) fun s => Taken s 0 opChSoGet 0x0210 := by unfold Taken; decide
theorem wit_gov_get : At (ocmd 0x0220 0 []) fun s => Taken s 0 opGovGet 0x0220 := by unfold Taken; decide
theorem wit_ch_meas_get : At (ocmd 0x0221 0 [63]) fun s => Taken s 0 opChMeasGet 0x0221 := by unfold Taken; decide
theorem wit_ch_wire_set : At (ocmd 0x0222 1 [63, 0x23, 1, 55, 10, 0, 20, 0]) fun s => let c := s.slotCtx 0; let v := s.viewWith (chWireVals c); Taken s 0 opChWireSet 0x0222 ∧
    s.chRules v 63 { chVals v 63 with iexp := c.arg 6 2 } = none := by unfold Taken; decide
theorem wit_ch_tamb_set : At (ocmd 0x0223 0 (leBytes 8 (2 ^ 63 + 1) ++ [60])) fun s => let vals := [0, 63].map fun k => (R.CHn_WIRE_AMB_TAMB k, 60); Taken s 0 opChTambSet 0x0223 ∧
    maskIdx 64 ((s.slotCtx 0).arg 0 8) = [0, 63] ∧ ∀ k ∈ [0, 63], s.chRules (s.viewWith vals) k (chVals (s.viewWith vals) k) = none := by unfold Taken; decide
theorem wit_sig_config : At (ocmd 0x0230 1 [63, 0x15, 3, 15]) fun s => let v := s.viewWith (sigConfigVals (s.slotCtx 0)); Taken s 0 opSigConfig 0x0230 ∧
    s.chRules v 63 (chVals v 63) = none := by unfold Taken; decide
theorem wit_sig_ref_set : At (ocmd 0x0231 1 ([63, 1, 0, 0] ++ (List.range 20).flatMap fun k => leBytes 2 (100 * k) ++ leBytes 2 (100 * k + 50))) fun s => Taken s 0 opSigRefSet 0x0231 ∧
    ∀ k, k < 20 → (s.slotCtx 0).arg (4 + 4 * k) 2 ≤ (s.slotCtx 0).arg (6 + 4 * k) 2 := by unfold Taken; decide
theorem wit_sig_read : At ((ocmd 0x0232 1 [63]).modChan 63 fun c => { c with captured := true, capFrame := 7, samples := [-1, 2] }) fun s => Taken s 0 opSigRead 0x0232 ∧
    (s.chan 63).captured = true ∧ (s.chan 63).samples.length = 2 := by unfold Taken; decide
theorem wit_sig_read_none : At (ocmd 0x0232 1 [63]) fun s => Taken s 0 opSigRead 0x0232 ∧ (s.chan 63).captured = false := by unfold Taken; decide
theorem test_ch_set : At (nx (exec (.chSet 0 .done) (ocmd 0x0201 0 (leBytes 8 (2 ^ 63) ++ leBytes 8 (2 ^ 63))))) fun t => (t.commits.map fun k => (k.issuer, k.groups)) = [(0, [0x023F])] ∧
    t.rd (R.MBX_CSTAT_PENDING 0) = 1 ∧ t.rd (R.CHn_CMD_ON 63) = 0 := by decide

/-! Field I/O and Kerf commands. -/

/-- The rules of a basic command of the field groups hold. -/
abbrev FieldOk (s : State) (vals : List (Fld × Nat)) (gs : List Nat) : Prop := s.fieldCheck (s.viewWith vals) gs = none
theorem wit_uio_config : At (ocmd 0x0301 1 [95, 0x85, 0x50, 9, 100, 0, 5, 63]) fun s => Taken s 0 opUioConfig 0x0301 ∧ FieldOk s (uioConfigVals (s.slotCtx 0)) [0x035F] := by unfold Taken; decide
theorem wit_uio_read : At ((ocmd 0x0302 0 (leBytes 12 (2 ^ 95 + 1)) [(wholeReg (R.UIOp_VAL 95), 0x1234)]).onUioMirror fun _ => { frm := 7, vals := updAt (List.replicate 96 0) 95 fun _ => 0x5678 }) fun s => Taken s 0 opUioRead 0x0302 ∧ maskIdx 96 ((s.slotCtx 0).arg 0 12) = [0, 95] := by unfold Taken; decide
theorem wit_uio_out_set : At (ocmd 0x0303 0 (leBytes 12 (2 ^ 95 + 1) ++ leBytes 12 1)) fun s => Taken s 0 opUioOutSet 0x0303 ∧ maskIdx 96 ((s.slotCtx 0).arg 0 12) ≠ [] := by unfold Taken; decide
theorem wit_uio_status : At (ocmd 0x0304 1 [95, 5] [(wholeReg (R.UIOp_FLT 95), 0x3F)]) fun s => Taken s 0 opUioStatus 0x0304 ∧ s.raw (R.UIOp_FLT 95) = 0x3F := by unfold Taken; decide
theorem wit_ss_set : At (ocmd 0x0310 1 [7, 3]) fun s => Taken s 0 opSsSet 0x0310 ∧ s.rd (R.SSs_CFG_ON 7) = 0 ∧ s.rd (R.SSs_STAT_STATE 7) = 0 := by unfold Taken; decide
theorem wit_ss_set_on : At (ocmd 0x0310 1 [7, 3] [(R.SSs_CFG_ON 7, 1)]) fun s => Taken s 0 opSsSet 0x0310 ∧ s.rd (R.SSs_CFG_ON 7) = 1 ∧ s.rd (R.SSs_CFG_VSEL 7) ≠ 1 := by unfold Taken; decide
theorem wit_ss_set_off : At (ocmd 0x0310 1 [7, 2] [(R.SSs_CFG_ON 7, 1), (R.SSs_STAT_STATE 7, 2)]) fun s => Taken s 0 opSsSet 0x0310 ∧ nbit ((s.slotCtx 0).arg 1 1) 0 = false := by unfold Taken; decide
theorem wit_ss_get : At (ocmd 0x0311 0 [7]) fun s => Taken s 0 opSsGet 0x0311 := by unfold Taken; decide
theorem wit_kt_config : At (ocmd 0x0320 1 ([127, 1, 95, 1] ++ leBytes 4 100000 ++ leBytes 4 5 ++ leBytes 2 7)) fun s => Taken s 0 opKtConfig 0x0320 ∧
    FieldOk s (ktConfigVals (s.slotCtx 0)) [0x03FF] ∧ ktConfigPins (s.slotCtx 0) = [] := by unfold Taken; decide
theorem wit_kt_config_quad : At (ocmd 0x0320 1 ([127, 4, 94, 1] ++ leBytes 4 0 ++ leBytes 4 0 ++ leBytes 2 0) [(R.UIOp_CFG_MODE 94, 5), (R.UIOp_CFG_MODE 95, 5)]) fun s =>
    Taken s 0 opKtConfig 0x0320 ∧ ktConfigPins (s.slotCtx 0) = [94, 95] ∧
    FieldOk s (ktConfigVals (s.slotCtx 0) ++ [(R.UIOp_CFG_MODE 94, pmQuad), (R.UIOp_CFG_MODE 95, pmQuad)]) [0x03FF, 0x035E, 0x035F] := by unfold Taken; decide
theorem wit_kt_duty : At (ocmd 0x0321 0 ([2, 0, 0, 0, 127, 0, 1, 2, 64, 0, 3, 4])) fun s => Taken s 0 opKtDuty 0x0321 ∧
    ((List.range 2).map fun i => (s.slotCtx 0).arg (4 + 4 * i) 1) = [127, 64] := by unfold Taken; decide
theorem wit_kt_get : At (ocmd 0x0322 0 [127]) fun s => Taken s 0 opKtGet 0x0322 := by unfold Taken; decide
theorem wit_kc_config : At (ocmd 0x0330 1 ([31, 63, 1, 64] ++ leBytes 2 100 ++ leBytes 2 1 ++ leBytes 2 2 ++ leBytes 2 3 ++ leBytes 2 900 ++ leBytes 2 0 ++ leBytes 2 0 ++ leBytes 2 5 ++ leBytes 2 200 ++ [1]))
    fun s => Taken s 0 opKcConfig 0x0330 ∧ FieldOk s (kcConfigVals (s.slotCtx 0)) [0x037F, 0x03BF] := by unfold Taken; decide
theorem wit_kc_set : At (ocmd 0x0331 0 ([31, 0] ++ leBytes 2 0 ++ leBytes 2 0xFFFF) [(R.KCc_SET_RAMP 31, 9)]) fun s => Taken s 0 opKcSet 0x0331 ∧
    FieldOk s [(R.KCc_SET_SETPOINT 31, 0), (R.KCc_SET_RAMP 31, 9)] [0x037F] := by unfold Taken; decide
theorem wit_kc_get : At (ocmd 0x0332 0 [31]) fun s => Taken s 0 opKcGet 0x0332 := by unfold Taken; decide
theorem wit_ext_get : At (ocmd 0x0340 0 [] [(wholeReg R.EXT_STAT, 5)]) fun s => Taken s 0 opExtGet 0x0340 := by unfold Taken; decide
theorem test_kt_config_moves_pins : At (nx (exec (.ktConfig 0 .done) (ocmd 0x0320 1 ([127, 4, 94, 1] ++ leBytes 4 0 ++ leBytes 4 0 ++ leBytes 2 0) [(R.UIOp_CFG_MODE 94, 5), (R.UIOp_CFG_MODE 95, 5)])))
    fun t => (t.commits.map fun k => k.groups) = [[0x035E, 0x035F, 0x03FF]] := by decide

/-! CAN and Landing commands. -/

def canCfgPl (n : Byte) : List Byte := [n, 0x27, 0x1C, 0] ++ leBytes 4 (regReset (R.CANn_NBT 23)).toNat ++ leBytes 4 (regReset (R.CANn_DBT 23)).toNat ++ leBytes 4 0x0A05
theorem wit_can_config : At (ocmd 0x0401 1 (canCfgPl 23)) fun s => Taken s 0 opCanConfig 0x0401 ∧ RulesHold s (canConfigVals (s.slotCtx 0)) [0x0417] := by unfold Taken RulesHold; decide
theorem wit_can_run : At (ocmd 0x0402 0 [23, 1]) fun s => Taken s 0 opCanRun 0x0402 ∧ RulesHold s [(R.CANn_CTRL_RUN 23, 1)] [0x0417] := by unfold Taken RulesHold; decide
theorem wit_can_filter : At (ocmd 0x0403 1 ([23, 39, 0, 0] ++ leBytes 4 0x80040000 ++ leBytes 4 0x1FFC0000)) fun s => Taken s 0 opCanFilter 0x0403 ∧
    RulesHold s [(⟨R.CANn_FFk_ID 23 7, 31, 0⟩, 0x80040000), (⟨R.CANn_FFk_MSK 23 7, 31, 0⟩, 0x1FFC0000)] [0x0437] := by unfold Taken RulesHold; decide
theorem wit_can_filter_object : At (ocmd 0x0403 1 ([23, 31, 0, 0] ++ leBytes 4 0x80040000 ++ leBytes 4 0x3FFC0000)) fun s => Taken s 0 opCanFilter 0x0403 ∧
    RulesHold s [(⟨R.MOm_FID 23 31, 31, 0⟩, 0x80040000), (⟨R.MOm_FMSK 23 31, 31, 0⟩, 0x1FFC0000)] [0x0437] := by unfold Taken RulesHold; decide
theorem wit_can_fifo_cmd : At (ocmd 0x0404 1 [23, 3, 63] [(R.QMG_QnCFG_DIR 63, 1), (R.QMG_QnCFG_ENGINE 63, 0x27)]) fun s => Taken s 0 opCanFifo 0x0404 ∧
    RulesHold s [(R.CANn_FIFO_CFG_EN 23, 1), (R.CANn_FIFO_CFG_ALL 23, 1), (R.CANn_FIFO_CFG_QUEUE 23, 63)] [0x0437] := by unfold Taken RulesHold; decide
theorem wit_can_send : At (ocmd 0x0405 0 ([23, 0, 0, 0] ++ leBytes 4 0x048C0000 ++ leBytes 4 0x20000 ++ [1, 2])) fun s => Taken s 0 opCanSend 0x0405 ∧ s.cans.length = 24 ∧
    s.canMalformed 23 0x048C0000 0x20000 = false ∧ (s.can 23).sends = [] := by unfold Taken; decide
theorem wit_can_read : At (ocmd 0x0406 0 [23, 31, 1] [(⟨R.MOm_W1 23 31, 31, 0⟩, 2 * 2 ^ 16 + 2), (⟨R.CANn_RXNEW 23, 31, 31⟩, 1), (⟨R.CANn_RXOVR 23, 31, 31⟩, 1)]) fun s => Taken s 0 opCanRead 0x0406 ∧
    (s.can 23).shadows = [] ∧ nbit ((s.slotCtx 0).arg 2 1) 0 = true := by unfold Taken; decide
theorem wit_can_read_keeps : At (ocmd 0x0406 0 [23, 31, 0] [(⟨R.CANn_RXOVR 23, 31, 31⟩, 1)]) fun s => Taken s 0 opCanRead 0x0406 ∧ nbit ((s.slotCtx 0).arg 2 1) 0 = false := by unfold Taken; decide
theorem wit_can_status : At (ocmd 0x0407 0 [23] [(R.CANn_STAT_TEC 23, 9)]) fun s => Taken s 0 opCanStatus 0x0407 := by unfold Taken; decide
theorem wit_can_boff : At (ocmd 0x0408 5 [23] [(R.CANn_STAT_STATE 23, ctHeld)]) fun s => Taken s 0 opCanBoffRelease 0x0408 ∧ s.canState 23 = ctHeld := by unfold Taken; decide
theorem wit_can_boff_not : At (ocmd 0x0408 5 [23]) fun s => Taken s 0 opCanBoffRelease 0x0408 ∧ s.canState 23 ≠ ctHeld := by unfold Taken; decide
theorem wit_can_trx_set : At (ocmd 0x0410 1 [23, 5]) fun s => Taken s 0 opCanTrxSet 0x0410 ∧ s.segUnused 23 = false ∧ s.tly.rings.all (fun r => !r.on) = true := by unfold Taken; decide
theorem wit_can_trx_sleep : At ({ ocmd 0x0410 1 [23, 3] with tly := { rings := [{ on := true, seg := 23 }] } }) fun s => Taken s 0 opCanTrxSet 0x0410 ∧
    nbits ((s.slotCtx 0).arg 1 1) 1 0 = txSleep ∧ (∃ r ∈ s.tly.rings, r.on = true ∧ r.seg = 23) := by unfold Taken; decide
theorem wit_can_trx_get : At (ocmd 0x0411 0 [23]) fun s => Taken s 0 opCanTrxGet 0x0411 := by unfold Taken; decide

/-- Route block 63 belongs to partition 0. -/
def blk63 : List (Fld × Nat) := [(R.LGW_BLKb_EN 63, 1), (R.LGW_BLKb_OWNER 63, 0)]
/-- The same with an EMIT route of 2 bytes at 16130 and its CONT entries. -/
def emit3 (en : Nat) : List (Fld × Nat) :=
  blk63 ++ [(wholeReg (R.LGW_ROUTE 16130 0), 0x02170003 + 8 * en), (wholeReg (R.LGW_ROUTE 16130 1), 0x048C0000), (wholeReg (R.LGW_ROUTE 16130 2), 1),
    (wholeReg (R.LGW_ROUTE 16130 3), 1000), (wholeReg (R.LGW_ROUTE 16131 0), 4 + 8 * en), (wholeReg (R.LGW_ROUTE 16132 0), 4 + 8 * en)]
theorem wit_route_set : At (ocmd 0x0601 1 ([2, 63, 3, 0] ++ leBytes 4 0x0217000B ++ leBytes 4 0x048C0000 ++ leBytes 4 1 ++ leBytes 4 1000 ++ List.replicate 16 0 ++
    [12] ++ List.replicate 31 0 ++ [12] ++ List.replicate 31 0) blk63) fun s => Taken s 0 opLgwRouteSet 0x0601 ∧
    RulesHold s ((List.range 3).flatMap fun i => (List.range 8).map fun k => (⟨R.LGW_ROUTE (16130 + i) k, 31, 0⟩, le (((s.slotCtx 0).payload.drop (4 + 32 * i)).take 32) (4 * k) 4)) [0x063F] := by
  unfold Taken RulesHold; decide
theorem wit_image_set : At (ocmd 0x0602 1 ([2, 63, 0, 0] ++ (List.range 64).map (BitVec.ofNat 8 ·)) (emit3 0)) fun s => Taken s 0 opLgwImageSet 0x0602 ∧ (s.route 16130).kind = kEmit ∧
    16130 / 256 = (16130 + 2) / 256 ∧ s.stagedConflict [0x063F] = none := by unfold Taken; decide
theorem wit_lgw_enable_none : At (ocmd 0x0603 0 ([63, 0, 0, 0] ++ List.replicate 64 0) blk63) fun s => Taken s 0 opLgwEnable 0x0603 := by unfold Taken; decide
theorem wit_lgw_enable : At (ocmd 0x0603 0 ([63, 0, 0, 0, 4] ++ List.replicate 31 0 ++ [4] ++ List.replicate 31 0) (emit3 0)) fun s => Taken s 0 opLgwEnable 0x0603 ∧
    (s.route 16130).kind = kEmit ∧ RulesHold s ([16130, 16131, 16132].map fun q => (⟨R.LGW_ROUTE q 0, 3, 3⟩, 1)) [0x063F] := by unfold Taken RulesHold; decide
theorem wit_lgw_read : At (ocmd 0x0604 0 [2, 63, 62] blk63) fun s => Taken s 0 opLgwRead 0x0604 := by unfold Taken; decide
theorem wit_lgw_status : At (ocmd 0x0605 0 [] [(wholeReg R.LGW_CNT_DROP, 5)]) fun s => Taken s 0 opLgwStatus 0x0605 := by unfold Taken; decide
theorem wit_gwb_status : At (ocmd 0x0610 1 [5]) fun s => Taken s 0 opGwbStatus 0x0610 := by unfold Taken; decide
theorem test_lgw_enable : At (nx (exec (.lgwEnable 0 .done) (ocmd 0x0603 0 ([63, 0, 0, 0, 4] ++ List.replicate 31 0 ++ [4] ++ List.replicate 31 0) (emit3 0)))) fun t =>
    (t.commits.map fun k => (k.groups, k.snap.length)) = [([0x063F], 3)] ∧ (t.route 16132).en = false := by decide

/-! Ring, wake, Ethernet and time commands. -/

/-- A record in use, its copy 0 with this body. -/
def recUse (t : Nat) (body : List Byte) (s : State) : State :=
  { s with records := updAt (List.replicate 11 {}) t fun _ => { c0 := [0, 0, 1, 0] ++ leBytes 4 body.length ++ List.replicate 24 0 ++ body, used := some 0 } }
/-- Partition 0 is the network owner. -/
def ncmd (op cls : Nat) (pl : List Byte) (l : List (Fld × Nat) := []) : State := recUse recNet [1, 0, 0, 0, 0, 0, 0, 0] (ocmd op cls pl l)
def stayPl (reason dur : Nat) : List Byte := leBytes 2 reason ++ [0, 0] ++ leBytes 4 dur
/-- Stays of partition 0. -/
def stays (n : Nat) (s : State) : State := s.modTly fun t => { t with stays := (List.range n).map fun i => { pid := 0, reason := 0x100 + i, dur := 5, expiry := 9, renewals := 2 } }
theorem wit_stay_range : At (ocmd 0x0440 0 (stayPl 0xFF 1)) fun s => Taken s 0 opTlyStay 0x0440 ∧ (s.slotCtx 0).arg 0 2 < 0x100 := by unfold Taken; decide
theorem wit_stay_long : At (ocmd 0x0440 0 (stayPl 0x100 (2 ^ 32 - 1))) fun s => Taken s 0 opTlyStay 0x0440 ∧ s.maxAwake 0 < 2 ^ 32 - 1 := by unfold Taken; decide
theorem wit_tly_stay_none : At (ocmd 0x0440 0 (stayPl 0x100 0)) fun s => Taken s 0 opTlyStay 0x0440 ∧ s.tly.stays = [] := by unfold Taken; decide
theorem wit_stay_ninth : At (stays 8 (ocmd 0x0440 0 (stayPl 0x108 1))) fun s => Taken s 0 opTlyStay 0x0440 ∧ (s.tly.stays.filter fun x => x.pid = 0).length = 8 ∧
    (s.tly.stays.find? fun x => x.reason = 0x108) = none := by unfold Taken; decide
theorem wit_stay_new : At (stays 7 (ocmd 0x0440 0 (stayPl 0x107 1))) fun s => Taken s 0 opTlyStay 0x0440 ∧ s.tly.ready = none ∧ (s.tly.stays.find? fun x => x.reason = 0x107) = none ∧
    1 ≤ s.maxAwake 0 ∧ ∀ x ∈ s.tly.stays, x.reason ≠ 0 := by unfold Taken; decide
theorem wit_stay_renew : At ((stays 8 (ocmd 0x0440 0 (stayPl 0x107 3))).modTly fun t => { t with localWait := some 0 }) fun s => Taken s 0 opTlyStay 0x0440 ∧
    ((s.tly.stays.find? fun x => x.reason = 0x107).map fun x => x.renewals) = some 2 ∧ s.tly.localWait ≠ none := by unfold Taken; decide
theorem wit_stay_end : At (stays 8 (ocmd 0x0440 0 (stayPl 0x100 0))) fun s => Taken s 0 opTlyStay 0x0440 ∧ (s.tly.stays.find? fun x => x.reason = 0x100) ≠ none := by unfold Taken; decide
theorem wit_tly_get : At (ocmd 0x0441 0 [0xFF]) fun s => Taken s 0 opTlyGet 0x0441 := by unfold Taken; decide
theorem wit_tly_get_none : At (ocmd 0x0441 0 [23]) fun s => Taken s 0 opTlyGet 0x0441 ∧ s.tly.rings.all (fun r => !r.on) = true := by unfold Taken; decide
theorem wit_tly_get_ring : At ((ocmd 0x0441 0 [23]).modTly fun t => { t with rings := [{}, {}, {}, { on := true, seg := 23, addr := 5, present := 0x60, round := 7 }] }) fun s => Taken s 0 opTlyGet 0x0441 ∧
    ((List.range 4).find? fun i => ((s.ring i).on || (s.ring i).bad) && decide ((s.ring i).seg = 23)) = some 3 := by unfold Taken; decide
theorem wit_veto_list : At (stays 3 (ocmd 0x0442 1 [])) fun s => Taken s 0 opTlyVetoList 0x0442 ∧ s.tly.stays.length = 3 := by unfold Taken; decide
theorem wit_wake_get : At ((ocmd 0x0443 0 (leBytes 4 0x80000002) [(R.WAKE_PEND_PEND, 0x80000003)]).modTly fun t => { t with view := 0xC0000000 }) fun s => Taken s 0 opWakeGet 0x0443 := by unfold Taken; decide
theorem wit_alarm : At ((ocmd 0x0444 1 (leBytes 4 9)).modTly fun t => { t with alarms := List.replicate 15 (some 20) ++ [some 30] }) fun s => Taken s 0 opWakeAlarm 0x0444 ∧ s.rtc < 9 ∧
    s.tly.alarms.length = 16 ∧ ∀ x ∈ s.tly.alarms.filterMap id, x < 2 ^ 32 := by unfold Taken; decide
theorem wit_alarm_past : At { (ocmd 0x0444 1 (leBytes 4 1)).modTly (fun t => { t with alarms := List.replicate 16 none }) with now := 2000000000 } fun s => Taken s 0 opWakeAlarm 0x0444 ∧
    1 ≤ s.rtc := by unfold Taken; decide
theorem wit_alarm_off : At ((ocmd 0x0444 1 (leBytes 4 0)).modTly fun t => { t with alarms := some 20 :: List.replicate 15 none }) fun s => Taken s 0 opWakeAlarm 0x0444 ∧ s.tly.alarms.length = 16 := by unfold Taken; decide

def portCfgPl (p b1 : Byte) : List Byte := [p, b1, 0, 0] ++ leBytes 2 5 ++ [1, 8] ++ leBytes 4 (2 ^ 32 - 1000)
theorem wit_port_cfg : At (ncmd 0x0501 1 (portCfgPl 15 0x59)) fun s => Taken s 0 opEthPortCfg 0x0501 ∧ portRules (s.viewWith (portCfgS (s.slotCtx 0) ++ portCfgF (s.slotCtx 0))) 15 = none ∧
    s.rd (R.ESW_Pp_CFG_EN 15) = 0 ∧ s.hasStaged 0x050F = false := by unfold Taken; decide
theorem wit_port_cfg_running : At (ncmd 0x0501 1 (portCfgPl 15 0x59) [(R.ESW_Pp_CFG_EN 15, 1)]) fun s => Taken s 0 opEthPortCfg 0x0501 ∧
    portRules (s.viewWith (portCfgS (s.slotCtx 0) ++ portCfgF (s.slotCtx 0))) 15 = none ∧ ¬ ∀ x ∈ portCfgS (s.slotCtx 0), s.rd x.1 = x.2 := by unfold Taken; decide
theorem wit_port_cfg_same : At (ncmd 0x0501 1 (portCfgPl 20 0x59) [(R.ESW_Pp_CFG_EN 20, 1), (R.ESW_Pp_CFG_ROLE 20, 1)]) fun s => Taken s 0 opEthPortCfg 0x0501 ∧
    portRules (s.viewWith (portCfgS (s.slotCtx 0) ++ portCfgF (s.slotCtx 0))) 20 = none ∧ ∀ x ∈ portCfgS (s.slotCtx 0), s.rd x.1 = x.2 := by unfold Taken; decide
theorem wit_port_cfg_stop : At (ncmd 0x0501 1 (portCfgPl 15 0x58) [(R.ESW_Pp_CFG_EN 15, 1)]) fun s => Taken s 0 opEthPortCfg 0x0501 ∧
    portRules (s.viewWith (portCfgS (s.slotCtx 0) ++ portCfgF (s.slotCtx 0))) 15 = none ∧ s.rd (R.ESW_Pp_CFG_EN 15) = 1 := by unfold Taken; decide
theorem wit_port_get : At (ocmd 0x0502 0 [20]) fun s => Taken s 0 opEthPortGet 0x0502 := by unfold Taken; decide
theorem wit_gcl_set : At (ncmd 0x0510 1 ([20, 1, 1, 2, 3, 0, 0, 0] ++ leBytes 4 100000 ++ [5, 0, 0, 0] ++ leBytes 4 150000)) fun s => Taken s 0 opEthGclSet 0x0510 ∧
    gclRules (payloadList (s.slotCtx 0).payload 1 4) 64 = none := by unfold Taken; decide
theorem wit_gcl_get : At ((ocmd 0x0511 1 [20, 1]).modPort 20 fun p => { p with oper := { en := true, k := 1, entries := [(3, 100000), (5, 150000)] } }) fun s => Taken s 0 opEthGclGet 0x0511 ∧
    (s.port 20).oper.entries.length = 2 := by unfold Taken; decide
theorem wit_gcl_get_admin : At (ocmd 0x0511 1 [20, 0]) fun s => Taken s 0 opEthGclGet 0x0511 ∧ (s.adminList 20).entries.length ≤ 64 := by unfold Taken; decide
theorem wit_fdb_set : At (ncmd 0x0520 1 ([2, 0, 0, 0, 0, 6] ++ leBytes 2 5 ++ leBytes 3 0x100001 ++ [0])) fun s => Taken s 0 opEthFdbSet 0x0520 ∧
    s.tabRules [(0x0520, padTo 12 (s.slotCtx 0).payload)] = none ∧ s.hasStaged 0x0560 = false := by unfold Taken; decide
theorem wit_fdb_held : At { ncmd 0x0520 1 ([2, 0, 0, 0, 0, 6] ++ leBytes 2 5 ++ leBytes 3 0x100001 ++ [0]) with stagedTab := [(0x0520, [])] } fun s => Taken s 0 opEthFdbSet 0x0520 ∧
    s.hasStaged 0x0560 = true := by unfold Taken; decide
theorem wit_vlan_set : At (ncmd 0x0521 1 (leBytes 2 4094 ++ leBytes 3 0x1FFFFF ++ leBytes 3 1 ++ leBytes 4 0 ++ [0])) fun s => Taken s 0 opEthVlanSet 0x0521 ∧
    s.tabRules [(0x0521, padTo 13 (s.slotCtx 0).payload)] = none := by unfold Taken; decide
theorem wit_qci_filter : At (ncmd 0x0530 1 ([0, 5, 0, 0, 2, 0, 0, 0, 0, 6, 5, 0, 3, 63, 127, 0] ++ leBytes 2 1500)) fun s => Taken s 0 opEthQciSet 0x0530 ∧
    s.tabRules [(0x0530, padTo 263 (s.slotCtx 0).payload)] = none := by unfold Taken; decide
theorem wit_qci_gate : At (ncmd 0x0530 1 ([1, 63, 0, 0, 1, 1, 1, 3, 0, 0, 0] ++ leBytes 4 250000)) fun s => Taken s 0 opEthQciSet 0x0530 ∧
    s.tabRules [(0x0530, padTo 263 (s.slotCtx 0).payload)] = none := by unfold Taken; decide
theorem wit_qci_meter : At (ncmd 0x0530 1 ([2, 127, 0, 0] ++ List.replicate 16 9)) fun s => Taken s 0 opEthQciSet 0x0530 ∧ (s.slotCtx 0).arg 1 1 = 127 := by unfold Taken; decide
theorem wit_qp_get : At (ocmd 0x0540 0 [31]) fun s => Taken s 0 opEthQpGet 0x0540 := by unfold Taken; decide
theorem wit_ts_read : At ((ncmd 0x0541 0 [16] [(R.ESW_Pp_TSQ_STAT_OVF 16, 1)]).modPort 16 fun p => { p with tsq := [(9, 8, 7), (6, 5, 4)] }) fun s => Taken s 0 opEthTsRead 0x0541 ∧
    (s.port 16).tsq.length = 2 := by unfold Taken; decide
theorem wit_time_get : At (ocmd 0x0550 0 []) fun s => Taken s 0 opTimeGet 0x0550 := by unfold Taken; decide
theorem wit_dom_get : At (ocmd 0x0551 0 [1]) fun s => Taken s 0 opTimeDomGet 0x0551 := by unfold Taken; decide
theorem wit_dom_get_ab : At (ocmd 0x0551 0 [2]) fun s => Taken s 0 opTimeDomGet 0x0551 := by unfold Taken; decide
theorem wit_dom_get_range : At (ocmd 0x0551 0 [3]) fun s => Taken s 0 opTimeDomGet 0x0551 := by unfold Taken; decide
theorem test_fdb_set : At (nx (exec (.ethFdbSet 0 .done) (ncmd 0x0520 1 ([2, 0, 0, 0, 0, 6] ++ leBytes 2 5 ++ leBytes 3 0x100001 ++ [0])))) fun t =>
    (t.commits.map fun k => (k.groups, k.tab.length)) = [([0x0560], 1)] ∧ t.eth.fdb = [] := by decide


/-! Partition, safety, pairing and supervisor commands. -/

/-- The requester of mailbox m's command is partition p in heartwood. -/
def heart (m : Nat) (p : Fin 16) (s : State) : State := s.modMbx m fun b => { b with ringAttr := ⟨true, p, 0⟩ }
/-- Partition 0 in a state, with a command that names the caller, or a byte. -/
def pcmd (op stt : Nat) (b : Byte := 0xFF) : State := ocmd op 1 [b] [(R.EVR_Pp_FSTAT_STATE 0, stt)]
theorem wit_part_info : At ((ocmd 0x0701 0 [15] [(R.EVR_Pp_FSTAT_STATE 15, 3), (R.EVR_Pp_FSTAT_USED 15, 7)])) fun s => Taken s 0 opPartInfo 0x0701 ∧
    (s.slotCtx 0).namedPart = some 15 ∧ s.parts.length = 16 := by unfold Taken; decide
theorem wit_part_restart_own : At (pcmd 0x0702 2) fun s => Taken s 0 opPartRestart 0x0702 ∧ (s.slotCtx 0).namedPart = some 0 ∧ s.partState 0 = stLoading := by unfold Taken; decide
theorem wit_part_restart_other : At (heart 0 0 (ocmd 0x0702 1 [15] [(R.EVR_Pp_FSTAT_STATE 15, 3)])) fun s => Taken s 0 opPartRestart 0x0702 ∧ (s.slotCtx 0).namedPart = some 15 ∧
    s.partState 15 = stRunning := by unfold Taken; decide
theorem wit_part_restart_stopped : At (pcmd 0x0702 1 0) fun s => Taken s 0 opPartRestart 0x0702 ∧ s.partState 0 = stStopped := by unfold Taken; decide
theorem wit_part_stop_own : At (pcmd 0x0703 3 0) fun s => Taken s 0 opPartStop 0x0703 ∧ s.partState 0 = stRunning := by unfold Taken; decide
theorem wit_part_stop_other : At (scmd 0x0703 1 [0] [(R.EVR_Pp_FSTAT_STATE 0, 3)]) fun s => Taken s 16 opPartStop 0x0703 ∧ (s.slotCtx 16).namedPart = some 0 ∧
    s.partState 0 = stRunning := by unfold Taken; decide
theorem wit_part_stop_quiescing : At (pcmd 0x0703 4) fun s => Taken s 0 opPartStop 0x0703 ∧ s.partState 0 = stQuiescing := by unfold Taken; decide
theorem wit_part_start : At (pcmd 0x0704 1) fun s => Taken s 0 opPartStart 0x0704 ∧ s.partState 0 = stStopped ∧ s.svr.cut = false ∧ ∀ k ∈ s.pairsOf 0, s.pairState k ≠ psFailed := by unfold Taken; decide
theorem wit_part_start_cut : At { pcmd 0x0704 1 with svr := { (pcmd 0x0704 1).svr with cut := true } } fun s => Taken s 0 opPartStart 0x0704 ∧ s.partState 0 = stStopped ∧
    s.svr.cut = true := by unfold Taken; decide
/-- Pair 7 in safety state FAILED, the cores of partition 15 in it. -/
def failedPair : State :=
  { scmd 0x0704 1 [15] [(R.EVR_Pp_FSTAT_STATE 15, 1), (R.LSC_Pk_STAT_STATE 7, psFailed)] with
    parts := List.replicate 15 {} ++ [{ allPart with charged := [1], spent := true }] }
theorem wit_part_start_failed : At failedPair fun s => Taken s 16 opPartStart 0x0704 ∧ s.partState 15 = stStopped ∧ s.svr.cut = false ∧
    ∃ k ∈ s.pairsOf 15, s.pairState k = psFailed := by unfold Taken; decide
theorem wit_part_none : At (scmd 0x0701 1 [0xFF]) fun s => Taken s 16 opPartInfo 0x0701 ∧ (s.slotCtx 16).namedPart = none := by unfold Taken; decide
theorem wit_part_sixteen : At (pcmd 0x0704 1 16) fun s => Taken s 0 opPartStart 0x0704 ∧ (s.slotCtx 0).namedPart = some 16 := by unfold Taken; decide
theorem wit_part_stop_sixteen : At (pcmd 0x0703 1 16) fun s => Taken s 0 opPartStop 0x0703 ∧ (s.slotCtx 0).namedPart = some 16 := by unfold Taken; decide
theorem wit_part_restart_range : At (pcmd 0x0702 1 254) fun s => Taken s 0 opPartRestart 0x0702 ∧ (s.slotCtx 0).namedPart = some 254 := by unfold Taken; decide

theorem wit_gate_clear : At (ocmd 0x0710 1 [45, 0] [(R.KSU_GATEu_VOTE_H 45, 0)]) fun s => Taken s 0 opPartGate 0x0710 ∧ (s.slotCtx 0).arg 0 1 = 45 ∧
    s.rd (R.KSU_GATEu_VOTE_H 45) = 0 ∧ s.unitStopped 45 = true := by unfold Taken; decide
theorem wit_gate_held : At (heart 0 0 (ncmd 0x0710 1 [24, 1] [(R.KSU_GATEu_GATED 24, 1), (R.KSU_GATEu_VOTE_S 24, 0), (R.KSU_GATEu_VOTE_H 24, 0)])) fun s => Taken s 0 opPartGate 0x0710 ∧ (s.slotCtx 0).attr.w = true ∧
    s.rd (R.KSU_GATEu_VOTE_S 24) = 0 ∧ s.rd (R.KSU_GATEu_HELD 24) = 0 := by unfold Taken; decide
theorem test_gate_held : At (nx (exec (.partGate 0 .done) (heart 0 0 (ncmd 0x0710 1 [24, 1] [(R.KSU_GATEu_GATED 24, 1), (R.KSU_GATEu_VOTE_S 24, 0), (R.KSU_GATEu_VOTE_H 24, 0)])))) fun t => t.rd (R.KSU_GATEu_GATED 24) = 0 ∧
    t.rd (R.KSU_GATEu_HELD 24) = 1 := by decide
theorem wit_gate_get : At (ocmd 0x0711 0 [45]) fun s => Taken s 0 opPartGateGet 0x0711 := by unfold Taken; decide

theorem wit_safe_get : At (ocmd 0x0801 0 []) fun s => Taken s 0 opSafeGet 0x0801 ∧ s.sil.mirror.length = 11 := by unfold Taken; decide
theorem wit_safe_fn_get : At (ocmd 0x0802 1 [15]) fun s => Taken s 0 opSafeFnGet 0x0802 := by unfold Taken; decide
theorem wit_safe_fn_range : At (ocmd 0x0802 1 [16]) fun s => Taken s 0 opSafeFnGet 0x0802 ∧ 15 < (s.slotCtx 0).arg 0 1 := by unfold Taken; decide
theorem wit_safe_log : At ((ocmd 0x0803 1 []).modSil fun x => { x with log := List.replicate 62 (1, 2, 3, 4) }) fun s => Taken s 0 opSafeFaultLog 0x0803 ∧ s.sil.log.length ≤ 62 := by unfold Taken; decide
theorem wit_safe_check : At (ocmd 0x0812 0 []) fun s => Taken s 0 opSafeCheckGet 0x0812 := by unfold Taken; decide
/-- A LONG command of an opcode that is open. -/
def longOf (op : Nat) (pl : List Byte) (s : State) : State := { s with longs := [{ mbx := 3, entry := some 0, opcode := op, tag := 1, flags := 0, gen := 0, payload := pl, attr := pt 3 }] }
def safeWritePl : List Byte := leBytes 4 384 ++ leBytes 8 0xE80
theorem wit_safe_write : At (scmd 0x0810 2 safeWritePl [(R.SUP_MODE_MODE, mdService)]) fun s => Taken s 16 opSafeWrite 0x0810 ∧ (s.slotCtx 16).arg 0 4 = 384 ∧
    s.sourceOk (s.slotCtx 16) ((s.slotCtx 16).arg 4 8) 384 = true ∧ s.mode = mdService ∧ s.longs = [] ∧ s.longOpen 16 < 8 ∧ s.mbxs.length = 17 ∧
    (s.mbxs.getD 16 {}).longUsed.findIdx? (fun b => !b) = some 0 := by unfold Taken; decide
theorem wit_safe_write_mode : At (scmd 0x0810 2 safeWritePl [(R.SUP_MODE_MODE, mdLead)]) fun s => Taken s 16 opSafeWrite 0x0810 ∧
    s.sourceOk (s.slotCtx 16) ((s.slotCtx 16).arg 4 8) 384 = true ∧ s.mode = mdLead := by unfold Taken; decide
theorem wit_safe_write_busy : At (longOf 0x0811 [] (scmd 0x0810 2 safeWritePl [(R.SUP_MODE_MODE, mdCommission)])) fun s => Taken s 16 opSafeWrite 0x0810 ∧
    s.sourceOk (s.slotCtx 16) ((s.slotCtx 16).arg 4 8) 384 = true ∧ s.mode = mdCommission ∧ ∃ l ∈ s.longs, l.opcode = 0x0810 ∨ l.opcode = 0x0811 := by unfold Taken; decide
/-- A pending SAFETY record, with its value, and its confirmation. -/
def confirmSt : State := (scmd 0x0811 2 (leBytes 4 77 ++ leBytes 4 5) [(R.SIL_PEND_VALUE, 77)]).modSil fun x => { x with pend := [1] }
theorem wit_safe_confirm : At confirmSt fun s => Taken s 16 opSafeConfirm 0x0811 ∧ s.sil.dead = false ∧ s.sil.pend ≠ [] ∧ (s.slotCtx 16).arg 0 4 = s.rd R.SIL_PEND_VALUE ∧
    s.longs = [] := by unfold Taken; decide
theorem wit_safe_confirm_other : At (confirmSt.wr R.SIL_PEND_VALUE 78) fun s => Taken s 16 opSafeConfirm 0x0811 ∧ s.sil.dead = false ∧ (s.slotCtx 16).arg 0 4 ≠ s.rd R.SIL_PEND_VALUE := by unfold Taken; decide
theorem wit_safe_confirm_dead : At (confirmSt.modSil fun x => { x with dead := true }) fun s => Taken s 16 opSafeConfirm 0x0811 ∧ s.sil.dead = true := by unfold Taken; decide

theorem wit_pair_get : At (ocmd 0x0B01 0 []) fun s => Taken s 0 opPairGet 0x0B01 ∧ s.pairU.renewAt = none := by unfold Taken; decide
theorem wit_pair_get_age : At { (ocmd 0x0B01 0 []).onPairU (fun u => { u with renewAt := some 7 }) with now := 10 ^ 10 } fun s => Taken s 0 opPairGet 0x0B01 ∧ s.pairU.renewAt = some 7 ∧
    0xFFFF < (s.now - 7) / 100000 := by unfold Taken; decide
/-- A checkpoint command of partition 15, which has the area of the PAIRING record. -/
def areaCmd (op cls : Nat) (pl : List Byte) (role : Nat) (f : PairU → PairU := id) : State :=
  pairRec (({ cmd 15 op cls pl (st [(R.PAIR_STAT_ROLE, role)]) with parts := List.replicate 15 {} ++ [allPart] } : State).onPairU f)
theorem wit_ckpt_pub : At (areaCmd 0x0B02 0 [1] roLead) fun s => Taken s 15 opPairCkptPub 0x0B02 ∧ (s.slotCtx 15).caller = some 15 ∧ s.pairU.pub.length = 16 ∧
    s.role ≠ roUnpaired ∧ s.pairU.send.getD 15 none ≠ some 1 := by unfold Taken; decide
theorem wit_ckpt_pub_range : At (areaCmd 0x0B02 0 [2] roLead) fun s => Taken s 15 opPairCkptPub 0x0B02 ∧ 1 < (s.slotCtx 15).arg 0 1 := by unfold Taken; decide
theorem wit_ckpt_pub_sent : At (areaCmd 0x0B02 0 [1] roLead fun u => { u with send := updAt u.send 15 fun _ => some 1 }) fun s => Taken s 15 opPairCkptPub 0x0B02 ∧
    s.pairU.send.getD 15 none = some 1 := by unfold Taken; decide
theorem wit_ckpt_info : At (areaCmd 0x0B03 0 [] roReserve) fun s => Taken s 15 opPairCkptInfo 0x0B03 ∧ s.role ≠ roUnpaired := by unfold Taken; decide
theorem wit_ckpt_info_unpaired : At (areaCmd 0x0B03 1 [] roUnpaired) fun s => Taken s 15 opPairCkptInfo 0x0B03 ∧ s.role = roUnpaired := by unfold Taken; decide
def handCmd (role : Nat) (synced : Bool) : State := heart 0 0 ((ocmd 0x0B04 1 [] [(R.PAIR_STAT_ROLE, role), (R.PAIR_STAT_EPOCH, 9)]).onPairU fun u => { u with peerSynced := synced })
theorem wit_handover : At (handCmd roLead true) fun s => Taken s 0 opPairHandover 0x0B04 ∧ s.role = roLead ∧ s.pairU.peerSynced = true := by unfold Taken; decide
theorem wit_handover_unsynced : At (handCmd roLead false) fun s => Taken s 0 opPairHandover 0x0B04 ∧ s.pairU.peerSynced = false := by unfold Taken; decide
theorem wit_handover_reserve : At (handCmd roReserve true) fun s => Taken s 0 opPairHandover 0x0B04 ∧ s.role ≠ roLead := by unfold Taken; decide

/-- A mode request over the service port bridge. -/
def modeReq (want mode role : Nat) : State := scmd 0x0140 1 [BitVec.ofNat 8 want] [(R.SUP_MODE_MODE, mode), (R.PAIR_STAT_ROLE, role)]
theorem wit_mode_commission : At (modeReq mdCommission mdSafeHold roReserve) fun s => Taken s 16 opSysModeReq 0x0140 ∧ s.mode = mdSafeHold ∧ s.sil.dead = false ∧
    s.role ≠ roLead ∧ s.role ≠ roTakeover ∧ s.role ≠ roHanding := by unfold Taken; decide
theorem wit_mode_commission_lead : At (modeReq mdCommission mdLead roLead) fun s => Taken s 16 opSysModeReq 0x0140 ∧ s.role = roLead := by unfold Taken; decide
theorem wit_mode_service : At ((modeReq mdService mdLead roLead).wr (R.EVR_Pp_FSTAT_STATE 15) 3) fun s => Taken s 16 opSysModeReq 0x0140 ∧ s.partState 15 = stRunning ∧
    s.rd (R.BOLE_STAT_HOLD (dieOf (63 : Fin 64))) = 0 := by unfold Taken; decide
theorem wit_mode_startup : At (modeReq 3 mdService 0) fun s => Taken s 16 opSysModeReq 0x0140 ∧ s.mode = mdService := by unfold Taken; decide
theorem wit_mode_startup_not : At (modeReq 3 mdLead 0) fun s => Taken s 16 opSysModeReq 0x0140 ∧ s.mode ≠ mdCommission ∧ s.mode ≠ mdService := by unfold Taken; decide
theorem wit_mode_dormant : At (modeReq 0 mdService 0) fun s => Taken s 16 opSysModeReq 0x0140 ∧ s.mode = mdService := by unfold Taken; decide
theorem wit_mode_dormant_not : At (modeReq 0 mdCommission 0) fun s => Taken s 16 opSysModeReq 0x0140 ∧ s.mode ≠ mdService := by unfold Taken; decide
theorem wit_mode_range : At (modeReq 12 mdLead 0) fun s => Taken s 16 opSysModeReq 0x0140 ∧ (s.slotCtx 16).arg 0 1 = 12 := by unfold Taken; decide
theorem wit_opt_write : At (scmd 0x0141 2 (leBytes 5 0xFC0) [(R.SUP_MODE_MODE, mdService)]) fun s => Taken s 16 opSysOptWrite 0x0141 ∧ s.mode = mdService ∧
    s.sourceOk (s.slotCtx 16) ((s.slotCtx 16).arg 0 5) 64 = true := by unfold Taken; decide
theorem wit_opt_write_not : At (scmd 0x0141 2 (leBytes 5 0xFC0) [(R.SUP_MODE_MODE, mdLead)]) fun s => Taken s 16 opSysOptWrite 0x0141 ∧
    s.sourceOk (s.slotCtx 16) ((s.slotCtx 16).arg 0 5) 64 = true ∧ s.mode = mdLead := by unfold Taken; decide
theorem wit_sys_reset : At (scmd 0x0142 1 [1]) fun s => Taken s 16 opSysReset 0x0142 ∧ (s.slotCtx 16).arg 0 1 = 1 ∧ s.longs = [] := by unfold Taken; decide
theorem wit_sys_reset_busy : At (longOf 0x0A04 [] (heart 0 0 (ocmd 0x0142 1 [0]))) fun s => Taken s 0 opSysReset 0x0142 ∧ (s.slotCtx 0).arg 0 1 ≤ 1 ∧
    ∃ l ∈ s.longs, l.opcode = 0x0A04 := by unfold Taken; decide
theorem wit_sys_reset_range : At (scmd 0x0142 1 [2]) fun s => Taken s 16 opSysReset 0x0142 ∧ 1 < (s.slotCtx 16).arg 0 1 := by unfold Taken; decide
theorem wit_sup_get : At (ocmd 0x0143 0 [] [(R.SUP_STARTS_COUNT, 5)]) fun s => Taken s 0 opSysSupGet 0x0143 := by unfold Taken; decide
theorem test_sys_reset : At (nx (exec (.sysReset 16 .done) (scmd 0x0142 1 [1]))) fun t => t.svr.swr = some (1000000, module) ∧ statusOf t 16 = stOk := by decide
/-- Entries of LONG commands in use in the Forester's mailbox. -/
def used16 (l : List Bool) : State := (scmd 0x0141 2 (leBytes 5 0) [(R.SUP_MODE_MODE, mdService)]).modMbx 16 fun b => { b with longUsed := l }
theorem wit_accepts_last : At (used16 (List.replicate 7 true ++ [false])) fun s => Taken s 16 opSysOptWrite 0x0141 ∧ s.longOpen 16 < 8 ∧ s.mbxs.length = 17 ∧
    (s.mbxs.getD 16 {}).longUsed.findIdx? (fun b => !b) = some 7 := by unfold Taken; decide
theorem wit_accepts_ninth : At (used16 (List.replicate 8 true)) fun s => Taken s 16 opSysOptWrite 0x0141 ∧ 8 ≤ s.longOpen 16 := by unfold Taken; decide

/-! Key, authorization, update and recorder commands. -/

/-- A stored key of an owner, in force at position 1; a slot's key. -/
def blob (kid owner ktype : Nat) (bad : Bool := false) : Blob := ⟨2, lcTest, ktype, 0, owner, kid, 7, List.replicate 48 3, bad⟩
def keyEnt (kid owner : Nat) (bad : Bool := false) : KeyEntry := { kid := kid, p1 := some (blob kid owner 0 bad), c0 := some ⟨4, 1, 7⟩, c1 := some ⟨4, 1, 7⟩ }
def keyed (l : List KeyEntry) (slots : List (Nat × Blob)) (s : State) : State :=
  (((s.wr R.KSU_LCS_STATE lcTest).wr R.KSU_STAT_ROOT_OK 1).wr R.KSU_STAT_DRBG_OK 1).modSec fun x => { x with
    dir := l, slots := slots.foldl (fun a y => updAt a y.1 fun _ => some y.2) x.slots }
theorem wit_key_info : At (keyed [keyEnt 0x100 0] [] (ocmd 0x0901 0 [])) fun s => Taken s 0 opKeyInfo 0x0901 ∧ s.longs = [] ∧ s.keysOf 0 = 1 := by unfold Taken; decide
theorem wit_key_info_advancing : At (longOf 0x0930 [] (ocmd 0x0901 0 [])) fun s => Taken s 0 opKeyInfo 0x0901 ∧ ∃ l ∈ s.longs, l.opcode = 0x0930 := by unfold Taken; decide
def loadPl (slot : Byte) : List Byte := leBytes 2 0x100 ++ [slot]
theorem wit_key_load : At (keyed [keyEnt 0x100 0] [] (ocmd 0x0902 2 (loadPl 31))) fun s => Taken s 0 opKeyLoad 0x0902 ∧ (s.slotCtx 0).arg 2 1 = 31 ∧ s.longs = [] ∧
    s.sec.slots.getD 31 none = none ∧ s.rd R.KSU_STAT_ROOT_OK = 1 ∧ s.goodKey 0x100 ≠ none := by unfold Taken; decide
theorem wit_key_load_range : At (keyed [keyEnt 0x100 0] [] (ocmd 0x0902 2 (loadPl 32))) fun s => Taken s 0 opKeyLoad 0x0902 ∧ 31 < (s.slotCtx 0).arg 2 1 := by unfold Taken; decide
theorem wit_key_load_full : At (keyed [keyEnt 0x100 0] [(0, blob 0x101 0 1)] (ocmd 0x0902 2 (loadPl 0))) fun s => Taken s 0 opKeyLoad 0x0902 ∧ (s.slotCtx 0).arg 2 1 ≤ 31 ∧
    s.sec.slots.getD 0 none ≠ none := by unfold Taken; decide
theorem wit_key_load_bad : At (keyed [keyEnt 0x100 0 true] [] (ocmd 0x0902 2 (loadPl 0))) fun s => Taken s 0 opKeyLoad 0x0902 ∧ s.rd R.KSU_STAT_ROOT_OK = 1 ∧ s.longs = [] ∧
    s.sec.slots.getD 0 none = none ∧ s.goodKey 0x100 = none := by unfold Taken; decide
theorem wit_key_unload : At (keyed [] [(31, blob 0x100 0 1)] (ocmd 0x0903 1 [31])) fun s => Taken s 0 opKeyUnload 0x0903 ∧ s.longs = [] ∧ s.sec.slots.length = 32 ∧
    s.sec.slots.getD 31 none = some (blob 0x100 0 1) := by unfold Taken; decide
theorem wit_key_unload_range : At (ocmd 0x0903 1 [32]) fun s => Taken s 0 opKeyUnload 0x0903 ∧ 31 < (s.slotCtx 0).arg 0 1 := by unfold Taken; decide
theorem wit_key_unload_empty : At (ocmd 0x0903 1 [31]) fun s => Taken s 0 opKeyUnload 0x0903 ∧ s.sec.slots.getD 31 none = none ∧ s.longs = [] := by unfold Taken; decide
theorem wit_key_unload_advancing : At (longOf 0x0930 [] (ocmd 0x0903 1 [31])) fun s => Taken s 0 opKeyUnload 0x0903 ∧ (s.slotCtx 0).arg 0 1 ≤ 31 ∧ ∃ l ∈ s.longs, l.opcode = 0x0930 := by unfold Taken; decide
/-- A job that names slot 31, in a unit. -/
def unloadSt : State := (keyed [] [(31, blob 0x100 0 1)] (ocmd 0x0903 1 [31])).onSec fun c =>
  { c with jobs := [{ vq := 30, queue := 6, desc := [0x40, 0, 0, 0, 0, 0, 0, 0, 31] }], serving := [none, none, none, none, some 30] }
theorem wit_key_unload_unit : At unloadSt fun s => Taken s 0 opKeyUnload 0x0903 ∧ s.longs = [] ∧ s.sec.slots.getD 31 none ≠ none ∧
    ∃ j ∈ s.sec.jobs, le j.desc 8 1 = 31 ∧ some j.vq ∈ s.sec.serving := by unfold Taken; decide
/-- KEY_STORE over the service port: KID, create or update, source, class, type, usage, source address. -/
def storePl (kid : Nat) (upd : Byte) : List Byte := leBytes 2 kid ++ [upd, 1, 0, 3, 127, 0] ++ leBytes 8 0
theorem wit_key_store : At (keyed [keyEnt 1 keyForester] [] (scmd 0x0904 2 (storePl 0xFF 0))) fun s => Taken s 16 opKeyStore 0x0904 ∧ (s.slotCtx 16).kidRange = true ∧
    (s.slotCtx 16).arg 4 1 = 0 ∧ (s.slotCtx 16).arg 5 1 = 3 ∧ s.sourceOk (s.slotCtx 16) ((s.slotCtx 16).arg 8 5) (sourceLen 1 3) = true ∧ s.longs = [] ∧
    s.keyExists 0xFF = false ∧ (s.sec.dir.filter fun e => s.keyExists e.kid).length < 1024 ∧ s.rd R.KSU_STAT_ROOT_OK = 1 ∧ s.rd R.KSU_STAT_DRBG_OK = 1 := by unfold Taken; decide
theorem wit_key_store_update : At (keyed [keyEnt 1 keyForester] [] (scmd 0x0904 2 (storePl 1 1))) fun s => Taken s 16 opKeyStore 0x0904 ∧ (s.slotCtx 16).kidRange = true ∧
    s.keyExists 1 = true ∧ s.longs = [] ∧ (s.slotCtx 16).arg 2 1 = 1 := by unfold Taken; decide
theorem wit_key_store_exists : At (keyed [keyEnt 1 keyForester] [] (scmd 0x0904 2 (storePl 1 0))) fun s => Taken s 16 opKeyStore 0x0904 ∧ s.longs = [] ∧
    s.keyExists 1 ≠ decide ((s.slotCtx 16).arg 2 1 = 1) := by unfold Taken; decide
theorem wit_key_store_busy : At (longOf 0x0905 (leBytes 2 0xFF) (keyed [] [] (scmd 0x0904 2 (storePl 0xFF 0)))) fun s => Taken s 16 opKeyStore 0x0904 ∧
    ∃ l ∈ s.longs, (l.opcode = 0x0904 ∨ l.opcode = 0x0905) ∧ le l.payload 0 2 = 0xFF := by unfold Taken; decide
theorem wit_key_delete : At (keyed [keyEnt 1 keyForester] [] (scmd 0x0905 2 (leBytes 2 1))) fun s => Taken s 16 opKeyDelete 0x0905 ∧ (s.slotCtx 16).kidRange = true ∧ s.longs = [] ∧
    s.keyExists 1 = true := by unfold Taken; decide
theorem wit_key_delete_none : At (keyed [] [] (scmd 0x0905 2 (leBytes 2 0xFF))) fun s => Taken s 16 opKeyDelete 0x0905 ∧ (s.slotCtx 16).kidRange = true ∧ s.keyExists 0xFF = false := by unfold Taken; decide
theorem wit_key_pub : At (keyed [] [(31, blob 0x100 0 3)] (ocmd 0x0906 1 [31])) fun s => Taken s 0 opKeyPub 0x0906 ∧ s.longs = [] ∧ s.sec.slots.getD 31 none = some (blob 0x100 0 3) := by unfold Taken; decide
theorem wit_key_pub_symmetric : At (keyed [] [(31, blob 0x100 0 1)] (ocmd 0x0906 1 [31])) fun s => Taken s 0 opKeyPub 0x0906 ∧ s.sec.slots.getD 31 none = some (blob 0x100 0 1) ∧
    (blob 0x100 0 1).ktype < 2 := by unfold Taken; decide
theorem wit_key_pub_none : At (ocmd 0x0906 1 [32]) fun s => Taken s 0 opKeyPub 0x0906 ∧ 31 < (s.slotCtx 0).arg 0 1 := by unfold Taken; decide
theorem wit_key_pub_advancing : At (longOf 0x0930 [] (keyed [] [(0, blob 0x100 0 2)] (ocmd 0x0906 1 [0]))) fun s => Taken s 0 opKeyPub 0x0906 ∧
    s.sec.slots.getD 0 none = some (blob 0x100 0 2) ∧ ∃ l ∈ s.longs, l.opcode = 0x0930 := by unfold Taken; decide
theorem test_key_unload : At (nx (exec (.keyUnload 0 .done) (keyed [] [(31, blob 0x100 0 1), (3, blob 0x101 0 1)] (ocmd 0x0903 1 [31])))) fun t =>
    t.rd R.KSU_STAT_SLOTS = 1 ∧ t.sec.slots.getD 31 none = none := by decide

/-- AUTH_CHAL for a duration in minutes. -/
def chalCmd (minutes lc : Nat) (l : List (Fld × Nat) := []) : State := scmd 0x0910 1 ([63, 255] ++ leBytes 2 minutes) ((R.KSU_LCS_STATE, lc) :: (R.KSU_STAT_DRBG_OK, 1) :: l)
theorem wit_auth_chal : At (chalCmd 480 lcField) fun s => Taken s 16 opAuthChal 0x0910 ∧ (s.slotCtx 16).arg 2 2 = 480 ∧ s.sec.lockEnd = none ∧ s.lcs = lcField ∧
    s.rd R.KSU_STAT_DRBG_OK = 1 := by unfold Taken; decide
theorem wit_auth_chal_zero : At (chalCmd 0 lcField) fun s => Taken s 16 opAuthChal 0x0910 ∧ (s.slotCtx 16).arg 2 2 < 1 := by unfold Taken; decide
theorem wit_auth_chal_long : At (chalCmd 481 lcField) fun s => Taken s 16 opAuthChal 0x0910 ∧ 480 < (s.slotCtx 16).arg 2 2 := by unfold Taken; decide
theorem wit_auth_chal_locked : At ((chalCmd 1 lcField).modSec fun x => { x with lockEnd := some 5 }) fun s => Taken s 16 opAuthChal 0x0910 ∧ (s.slotCtx 16).arg 2 2 = 1 ∧
    s.sec.lockEnd ≠ none := by unfold Taken; decide
theorem wit_auth_chal_blank : At (chalCmd 1 lcBlank) fun s => Taken s 16 opAuthChal 0x0910 ∧ s.lcs = lcBlank := by unfold Taken; decide

/-- A challenge for a request, and the key that its response is made with (KID 3). -/
def respBase : State := (scmd 0x0911 1 (List.replicate 32 0) [(R.KSU_LCS_STATE, lcTest), (R.KSU_STAT_ROOT_OK, 1)]).modSec fun x => { x with
  chal := some (List.replicate 32 7, 0, [63, 255, 224, 1])
  dir := [{ kid := 3, p0 := some ⟨0, 1, 0, 0, 255, 3, 1, List.replicate 32 9, false⟩, c0 := some ⟨1, 0, 1⟩, c1 := some ⟨1, 0, 1⟩ }] }
def respReq : List Byte := [63, 255, 224, 1]
/-- The same with a payload. -/
def respSt (pl : List Byte) : State := respBase.setWords (mbxBase 16 + 16) (leWords pl)

theorem respSt_apart (pl : List Byte) (h : pl.length = 32) (f : Fld) (hf : f.addr < mbxBase 16 + 16 ∨ mbxBase 16 + 48 ≤ f.addr) : (respSt pl).rd f = respBase.rd f :=
  rd_setWords_apart _ _ _ _ (by rw [leWords_length, h]; omega)
theorem respSt_sec (pl : List Byte) : (respSt pl).sec = respBase.sec := by rw [respSt, onlyRegs_setWords]
theorem respSt_slot (pl : List Byte) (h : pl.length = 32) :
    (respSt pl).slotCtx 16 = { mbx := 16, attr := ⟨false, 0, 3⟩, opcode := 0x0911, tag := 5, flags := 1, gen := 0, len := 32, hdrRsvd := 0, payload := pl } := by
  have h1 : (respSt pl).bytesAt (mbxBase 16) 16 = respBase.bytesAt (mbxBase 16) 16 := bytesAt_setWords_apart _ _ _ _ _ (by omega)
  have h2 : (respSt pl).bytesAt (mbxBase 16 + 16) 32 = pl := by rw [← h]; exact bytesAt_setWords _ _ _
  have h3 : (respSt pl).mbxs = respBase.mbxs := by rw [respSt, onlyRegs_setWords]
  have h4 : min (le (respBase.bytesAt (mbxBase 16) 16) 6 2) 1008 = 32 := by decide
  unfold State.slotCtx
  simp only [h1, h3, h4, h2, Ctx.mk.injEq, and_true, true_and]
  decide

theorem respSt_turn (pl : List Byte) (h : pl.length = 32) : (respSt pl).yields 16 = false := by
  have b : ∀ k : Fin 16, (respSt pl).rtWaits k = false := fun k => by
    unfold State.rtWaits State.isSet
    rw [respSt_apart pl h _ ((by decide : ∀ k : Fin 16, (R.MBX_STAT_BUSY k).addr < mbxBase 16 + 16 ∨ mbxBase 16 + 48 ≤ (R.MBX_STAT_BUSY k).addr) k),
      (by decide : ∀ k : Fin 16, respBase.rd (R.MBX_STAT_BUSY k) = 0) k]
    rfl
  unfold State.yields
  refine List.any_eq_false.mpr fun k hk => ?_
  rcases Nat.lt_or_ge k 16 with h | h
  · simp [b ⟨k, h⟩]
  · simp [show k = 16 by have := List.mem_range.mp hk; omega]

theorem wit_auth_resp : ∃ (s : State) (ch req : List Byte), Taken s 16 opAuthResp 0x0911 ∧ s.sec.chal = some (ch, 0, req) ∧ s.now ≤ 0 + 60000000000 ∧
    s.expected ch req = some ((s.slotCtx 16).payload.take 32) := by
  obtain ⟨pl, hpl⟩ : ∃ pl, pl = padTo 32 (Config.hmac (List.replicate 32 9) (List.replicate 32 7 ++ respBase.uidBytes ++ respReq)) := ⟨_, rfl⟩
  have hl : pl.length = 32 := by rw [hpl, padTo_length]
  have rd := respSt_apart pl hl
  have sl := respSt_slot pl hl
  refine ⟨respSt pl, List.replicate 32 7, respReq, ?_, ?_, ?_, ?_⟩
  · unfold Taken
    simp only [show ((16 : Fin 17) : Nat) = 16 from rfl, sl]
    refine ⟨?_, respSt_turn pl hl, trivial, ?_, rsvdBad_allBits _ _ (Nat.le_of_eq hl), rfl, Nat.le_refl 32⟩
    · rw [rd _ (by decide)]; decide
    · have g : (respSt pl).gen 16 = 0 := by unfold State.gen; rw [rd _ (by decide)]; decide
      have l : (respSt pl).rd R.KSU_LCS_STATE = 1 := by rw [rd _ (by decide)]; decide
      simp [State.headBad, State.step3, State.svcAllows, g, l, opAuthResp, onlyService, Ctx.hdrBad, Ctx.isService, State.callerHolds, Ctx.caller, forester, Ctx.cls, Ctx.expert]
      rfl
  · rw [respSt_sec]; rfl
  · rw [show (respSt pl).now = respBase.now by rw [respSt, onlyRegs_setWords]]; decide
  · rw [sl]
    have u : (respSt pl).uidBytes = respBase.uidBytes := by unfold State.uidBytes; rw [respSt_sec]
    have k : (respSt pl).goodKey 3 = respBase.goodKey 3 := by
      simp only [State.goodKey, State.keyEntry, respSt_sec, State.opens, State.lcs, State.isSet, rd _ (by decide : R.KSU_LCS_STATE.addr < mbxBase 16 + 16 ∨ mbxBase 16 + 48 ≤ R.KSU_LCS_STATE.addr),
        rd _ (by decide : R.KSU_STAT_ROOT_OK.addr < mbxBase 16 + 16 ∨ mbxBase 16 + 48 ≤ R.KSU_STAT_ROOT_OK.addr)]
      rfl
    have b : respBase.goodKey 3 = some ⟨0, 1, 0, 0, 255, 3, 1, List.replicate 32 9, false⟩ := by decide
    simp only [State.expected, k, b, u, Option.map_some, Option.some.injEq]
    rw [List.take_of_length_le (l := pl) (by omega), hpl]; rfl
theorem wit_auth_resp_none : At (respBase.modSec fun x => { x with chal := none }) fun s => Taken s 16 opAuthResp 0x0911 ∧ s.sec.chal = none := by unfold Taken; decide
theorem wit_auth_resp_late : At { respBase with now := 60000000001 } fun s => Taken s 16 opAuthResp 0x0911 ∧ s.sec.chal = some (List.replicate 32 7, 0, respReq) ∧
    0 + 60000000000 < s.now := by unfold Taken; decide
/-- Without a good key no response is right; one and two wrong ones before. -/
def wrongSt (l : List Nat) : State := respBase.modSec fun x => { x with dir := [], fails := l }
theorem wit_auth_resp_wrong : At (wrongSt [0]) fun s => Taken s 16 opAuthResp 0x0911 ∧ s.sec.chal = some (List.replicate 32 7, 0, respReq) ∧
    s.expected (List.replicate 32 7) respReq ≠ some ((s.slotCtx 16).payload.take 32) ∧ (s.sec.fails.filter fun t => s.now ≤ t + 60000000000).length = 1 := by
  unfold Taken
  refine ⟨by decide, by decide, ?_, by decide⟩
  rw [show (wrongSt [0]).expected (List.replicate 32 7) respReq = none by decide]; exact fun h => by cases h
theorem wit_auth_resp_third : At (wrongSt [0, 0]) fun s => s.expected (List.replicate 32 7) respReq = none ∧ 2 ≤ (s.sec.fails.filter fun t => s.now ≤ t + 60000000000).length := by decide
theorem wit_auth_end : At ((scmd 0x0912 0 [] [(wholeReg R.KSU_AUTH, 0x3FF)]).modSec fun x => { x with authEnd := some 9 }) fun s => Taken s 16 opAuthEnd 0x0912 ∧ s.sec.authEnd = some 9 := by unfold Taken; decide
theorem wit_auth_end_none : At (scmd 0x0912 1 []) fun s => Taken s 16 opAuthEnd 0x0912 ∧ s.sec.authEnd = none := by unfold Taken; decide
/-- ATTEST in a life-cycle state, with the attestation key of that state. -/
def attestSt (lc len : Nat) : State :=
  (ocmd 0x0920 1 (List.replicate len 7) [(R.KSU_LCS_STATE, lc), (R.KSU_STAT_ROOT_OK, 1)]).modSec fun x => { x with
    dir := [{ keyEnt 1 keyForester with p1 := some { blob 1 keyForester 0 with lcs := lc } }] }
theorem wit_attest : At (attestSt lcField 32) fun s => Taken s 0 opAttest 0x0920 ∧ (s.slotCtx 0).len = 32 ∧ s.lcs = lcField ∧ s.keyExists 1 = true ∧ (s.goodKey 1).isSome = true := by unfold Taken; decide
theorem wit_attest_test : At (attestSt lcTest 16) fun s => Taken s 0 opAttest 0x0920 ∧ (s.slotCtx 0).len = 16 ∧ s.lcs ≠ lcField ∧ s.lcs ≠ lcReturn := by unfold Taken; decide
def lcCmd (lc dest : Nat) : State := scmd 0x0930 2 [BitVec.ofNat 8 dest] [(R.KSU_LCS_STATE, lc), (R.KSU_AUTH_SCOPE, 0x31)]
theorem wit_lc_next : At (lcCmd lcField lcReturn) fun s => Taken s 16 opLcAdvance 0x0930 ∧ s.lcs < lcEnd ∧ (s.slotCtx 16).arg 0 1 = s.lcs + 1 ∧ s.longs = [] := by unfold Taken; decide
theorem wit_lc_end : At (lcCmd lcBlank lcEnd) fun s => Taken s 16 opLcAdvance 0x0930 ∧ s.lcs < lcEnd ∧ (s.slotCtx 16).arg 0 1 = lcEnd := by unfold Taken; decide
theorem wit_lc_range : At (lcCmd lcTest lcField) fun s => Taken s 16 opLcAdvance 0x0930 ∧ ¬ (s.lcs < lcEnd ∧ ((s.slotCtx 16).arg 0 1 = s.lcs + 1 ∨ (s.slotCtx 16).arg 0 1 = lcEnd)) := by unfold Taken; decide
theorem wit_lc_busy : At (longOf 0x0902 [] (lcCmd lcReturn lcEnd)) fun s => Taken s 16 opLcAdvance 0x0930 ∧ (s.slotCtx 16).arg 0 1 = s.lcs + 1 ∧
    ∃ l ∈ s.longs, l.opcode ∈ [0x0902, 0x0904, 0x0905, 0x0930] := by unfold Taken; decide

/-- A staged header: package 9, three billets, one component of 65,537 bytes in billets 1 and 2. -/
def header : List Byte :=
  List.replicate 6 0 ++ [1] ++ List.replicate 21 0 ++ leBytes 4 9 ++ leBytes 4 3 ++ List.replicate 28 0 ++ leBytes 4 0x10 ++ leBytes 4 5 ++ leBytes 4 65537 ++ leBytes 4 1
def staged (s : State) : State := s.modUpd fun u => { u with header := header, ready := [0x10, 2], m0 := some ⟨9, 1, 7⟩, m1 := some ⟨9, 1, 7⟩ }
theorem wit_upd_begin : At (scmd 0x0A01 2 (leBytes 5 0)) fun s => Taken s 16 opUpdBegin 0x0A01 ∧ s.sourceOk (s.slotCtx 16) ((s.slotCtx 16).arg 0 5) 4096 = true := by unfold Taken; decide
theorem wit_upd_begin_range : At (scmd 0x0A01 2 (leBytes 5 (2 ^ 40 - 1))) fun s => Taken s 16 opUpdBegin 0x0A01 ∧ s.sourceOk (s.slotCtx 16) ((s.slotCtx 16).arg 0 5) 4096 = false := by unfold Taken; decide
def billetPl (pkg b len : Nat) : List Byte := leBytes 4 pkg ++ leBytes 4 b ++ leBytes 4 len ++ leBytes 8 0x10000000 ++ leBytes 4 0
theorem wit_upd_billet : At (staged (ocmd 0x0A02 2 (billetPl 9 2 1))) fun s => Taken s 0 opUpdBillet 0x0A02 ∧ hId s.upd.header = 9 ∧ hTotal s.upd.header = 3 ∧
    billetLen s.upd.header 2 = 1 ∧ s.sourceOk (s.slotCtx 0) ((s.slotCtx 0).arg 12 5) 1 = true ∧ s.upd.header ≠ [] := by unfold Taken; decide
theorem wit_upd_billet_none : At (ocmd 0x0A02 2 (billetPl 9 2 1)) fun s => Taken s 0 opUpdBillet 0x0A02 ∧ s.upd.header = [] := by unfold Taken; decide
theorem wit_upd_billet_zero : At (staged (ocmd 0x0A02 2 (billetPl 9 0 1))) fun s => Taken s 0 opUpdBillet 0x0A02 ∧ (s.slotCtx 0).arg 4 4 < 1 := by unfold Taken; decide
theorem wit_upd_billet_three : At (staged (ocmd 0x0A02 2 (billetPl 9 3 1))) fun s => Taken s 0 opUpdBillet 0x0A02 ∧ hTotal s.upd.header ≤ (s.slotCtx 0).arg 4 4 := by unfold Taken; decide
theorem wit_upd_billet_length : At (staged (ocmd 0x0A02 2 (billetPl 9 1 65535))) fun s => Taken s 0 opUpdBillet 0x0A02 ∧ (s.slotCtx 0).arg 8 4 ≠ billetLen s.upd.header 1 := by unfold Taken; decide
theorem wit_upd_billet_other : At (staged (ocmd 0x0A02 2 (billetPl 8 2 1))) fun s => Taken s 0 opUpdBillet 0x0A02 ∧ (s.slotCtx 0).arg 0 4 ≠ hId s.upd.header ∧
    s.sourceOk (s.slotCtx 0) ((s.slotCtx 0).arg 12 5) 1 = true := by unfold Taken; decide
theorem wit_upd_status : At (staged (ocmd 0x0A03 1 [])) fun s => Taken s 0 opUpdStatus 0x0A03 := by unfold Taken; decide
def actCmd (op k : Nat) : State := staged (ocmd op 2 (leBytes 4 k))
theorem wit_activate : At (actCmd 0x0A04 0x10) fun s => Taken s 0 opUpdActivate 0x0A04 ∧ 0x10 ∈ s.upd.ready ∧ kindOf 0x10 ≠ none ∧ s.onTrial = false ∧ s.longs = [] := by unfold Taken; decide
theorem wit_activate_island : At (actCmd 0x0A04 2) fun s => Taken s 0 opUpdActivate 0x0A04 ∧ s.safetyRuns = false := by unfold Taken; decide
theorem wit_activate_locked : At ((actCmd 0x0A04 2).wr (fnFld 15) fnRun) fun s => Taken s 0 opUpdActivate 0x0A04 ∧ (s.slotCtx 0).arg 0 4 = 2 ∧ s.safetyRuns = true := by unfold Taken; decide
theorem wit_activate_unready : At (actCmd 0x0A04 1) fun s => Taken s 0 opUpdActivate 0x0A04 ∧ 1 ∉ s.upd.ready := by unfold Taken; decide
/-- A trial of component 7. -/
def onTrialSt (s : State) : State := s.modUpd fun u => { u with b0 := some { trial := trRunning, comp := 7 }, b1 := some { trial := trRunning, comp := 7 } }
theorem wit_activate_trial : At (onTrialSt (actCmd 0x0A04 0x10)) fun s => Taken s 0 opUpdActivate 0x0A04 ∧ 0x10 ∈ s.upd.ready ∧ s.onTrial = true := by unfold Taken; decide
theorem wit_confirm : At (onTrialSt (actCmd 0x0A05 7)) fun s => Taken s 0 opUpdConfirm 0x0A05 ∧ s.boot.trial = trRunning ∧ s.boot.comp = (s.slotCtx 0).arg 0 4 := by unfold Taken; decide
theorem wit_confirm_other : At (onTrialSt (actCmd 0x0A05 8)) fun s => Taken s 0 opUpdConfirm 0x0A05 ∧ s.boot.comp ≠ (s.slotCtx 0).arg 0 4 := by unfold Taken; decide
theorem wit_reject : At (onTrialSt (actCmd 0x0A06 7)) fun s => Taken s 0 opUpdReject 0x0A06 ∧ s.boot.trial = trRunning ∧ s.boot.comp = (s.slotCtx 0).arg 0 4 := by unfold Taken; decide
theorem wit_reject_none : At (actCmd 0x0A06 7) fun s => Taken s 0 opUpdReject 0x0A06 ∧ s.boot.trial ≠ trRunning := by unfold Taken; decide
def abortCmd (k : Nat) : State := staged (ocmd 0x0A07 1 (leBytes 4 k))
theorem wit_abort : At (abortCmd 9) fun s => Taken s 0 opUpdAbort 0x0A07 ∧ s.onTrial = false ∧ s.longs = [] ∧ s.upd.header ≠ [] ∧ (s.slotCtx 0).arg 0 4 = hId s.upd.header := by unfold Taken; decide
theorem wit_abort_other : At (abortCmd 8) fun s => Taken s 0 opUpdAbort 0x0A07 ∧ (s.slotCtx 0).arg 0 4 ≠ hId s.upd.header := by unfold Taken; decide
theorem wit_abort_trial : At (onTrialSt (abortCmd 9)) fun s => Taken s 0 opUpdAbort 0x0A07 ∧ s.onTrial = true := by unfold Taken; decide
theorem wit_upd_info : At ((ocmd 0x0A08 1 [1]).modUpd fun u => { u with slots := [{}, { ok := true, comps := [⟨4, 1, [1, 2], [3], []⟩, ⟨1, 9, [], [], []⟩] }] }) fun s => Taken s 0 opUpdInfo 0x0A08 ∧
    (s.slotCtx 0).arg 0 1 = 1 := by unfold Taken; decide
theorem wit_upd_info_range : At (ocmd 0x0A08 1 [2]) fun s => Taken s 0 opUpdInfo 0x0A08 ∧ 1 < (s.slotCtx 0).arg 0 1 := by unfold Taken; decide

def logPl (cls code : Byte) (n : Nat) : List Byte := [cls, code, 0, 0] ++ List.replicate n 6
theorem wit_inc_log : At (ocmd 0x0C01 1 (logPl 2 9 44) [(R.INR_SEQ_SEQ, 12)]) fun s => Taken s 0 opIncLog 0x0C01 ∧ (s.slotCtx 0).len = 48 ∧ (s.slotCtx 0).arg 0 1 = 2 ∧ s.inc.ring = [] := by unfold Taken; decide
theorem wit_inc_log_long : At (ocmd 0x0C01 0 (logPl 2 9 45)) fun s => Taken s 0 opIncLog 0x0C01 ∧ 48 < (s.slotCtx 0).len := by unfold Taken; decide
theorem wit_inc_log_class : At (ocmd 0x0C01 0 (logPl 3 9 0)) fun s => Taken s 0 opIncLog 0x0C01 ∧ (s.slotCtx 0).len ≤ 48 ∧ 2 < (s.slotCtx 0).arg 0 1 := by unfold Taken; decide
theorem wit_inc_status : At (ocmd 0x0C02 0 [] [(R.INR_SEQ_SEQ, 12)]) fun s => Taken s 0 opIncStatus 0x0C02 := by unfold Taken; decide
theorem wit_inc_read : At ((ocmd 0x0C03 1 (leBytes 4 3 ++ [2])).onInc fun r => { r with ring := [entry 2 5 9, entry 0 4 8], alarmArea := [entry 0 2 1], generalArea := [entry 1 3 7] }) fun s =>
    Taken s 0 opIncRead 0x0C03 ∧ (s.slotCtx 0).arg 4 1 = 2 := by unfold Taken; decide
theorem wit_inc_read_most : At (scmd 0x0C03 1 (leBytes 4 0 ++ [15])) fun s => Taken s 16 opIncRead 0x0C03 ∧ (s.slotCtx 16).arg 4 1 = 15 := by unfold Taken; decide
theorem wit_inc_read_zero : At (ocmd 0x0C03 1 (leBytes 4 3 ++ [0])) fun s => Taken s 0 opIncRead 0x0C03 ∧ (s.slotCtx 0).arg 4 1 < 1 := by unfold Taken; decide
theorem wit_inc_read_sixteen : At (ocmd 0x0C03 1 (leBytes 4 3 ++ [16])) fun s => Taken s 0 opIncRead 0x0C03 ∧ 15 < (s.slotCtx 0).arg 4 1 := by unfold Taken; decide
theorem wit_inc_trigger : At (ocmd 0x0C04 1 []) fun s => Taken s 0 opIncTrigger 0x0C04 ∧ s.rd R.INR_FREEZE_ACTIVE = 0 ∧ s.inc.freeze = none := by unfold Taken; decide
theorem wit_inc_trigger_active : At (ocmd 0x0C04 1 [] [(R.INR_FREEZE_ACTIVE, 1)]) fun s => Taken s 0 opIncTrigger 0x0C04 ∧ s.rd R.INR_FREEZE_ACTIVE = 1 := by unfold Taken; decide
theorem wit_inc_drops : At ((ocmd 0x0C05 1 (leBytes 2 279 ++ [250])).onInc fun r => { r with srcDrops := [(528, 3, 4)] }) fun s => Taken s 0 opIncDrops 0x0C05 ∧ (s.slotCtx 0).arg 2 1 = 250 := by unfold Taken; decide
theorem wit_inc_drops_first : At (ocmd 0x0C05 1 (leBytes 2 529 ++ [1])) fun s => Taken s 0 opIncDrops 0x0C05 ∧ 528 < (s.slotCtx 0).arg 0 2 := by unfold Taken; decide
theorem wit_inc_drops_count : At (ocmd 0x0C05 1 (leBytes 2 528 ++ [251])) fun s => Taken s 0 opIncDrops 0x0C05 ∧ (s.slotCtx 0).arg 0 2 ≤ 528 ∧ 250 < (s.slotCtx 0).arg 2 1 := by unfold Taken; decide
theorem wit_diag_get : At ((ocmd 0x0C06 1 (leBytes 2 82 ++ [126])).onInc fun r => { r with totals := List.replicate 208 5 }) fun s => Taken s 0 opIncDiagGet 0x0C06 ∧
    (s.slotCtx 0).arg 0 2 + (s.slotCtx 0).arg 2 1 = 208 := by unfold Taken; decide
theorem wit_diag_get_first : At (ocmd 0x0C06 1 (leBytes 2 208 ++ [1])) fun s => Taken s 0 opIncDiagGet 0x0C06 ∧ 207 < (s.slotCtx 0).arg 0 2 := by unfold Taken; decide
theorem wit_diag_get_count : At (ocmd 0x0C06 1 (leBytes 2 207 ++ [2])) fun s => Taken s 0 opIncDiagGet 0x0C06 ∧ 208 < (s.slotCtx 0).arg 0 2 + (s.slotCtx 0).arg 2 1 := by unfold Taken; decide

/-! Accesses that are turned away. -/

theorem wit_denied : At (st []) fun s => ([R.ISB_CTRL, R.ISB_DATA, R.SUP_SWR, R.SUP_BLKRST_CAN, R.SUP_BLKRST, R.SUP_FWDG, R.FRM_CTRL, R.WAKE_CMT, R.BOLE_HOLD 3, R.LIMB_HOLD 1,
    R.SSs_CFG 7, R.MBX_COMMIT 16, longEntry 14 7, R.MBX_EVT_TAIL 0, R.EVR_Pp_DONE 14, R.EVR_Pp_WDG 0, R.LSC_Pk_CTRL 7, R.ESW_Pp_TSQ_POP 20, R.CANn_RXUNLOCK 23, R.CANn_TXC 0,
    R.CANn_CTRL 23, R.TRXj_CTRL 23].all fun a => !s.regAdmits (pt 15) a true) = true ∧
    ([R.FRM_NUM_LO, R.TMU_LC_NS, R.TMU_DOMx_STAT 1, R.MOm_W0 23 31 + 76, R.FRM_CNT_LATE].all fun a => !s.regAdmits (pt 15) a false) = true := by decide
theorem wit_gated_can : At (st [(R.KSU_GATEu_GATED 23, 1)]) fun s => s.gated (R.CANn_TXC 23) = true ∧ s.regAdmits fo (R.CANn_TXC 23) true = true ∧
    s.gated (R.MOm_W0 23 31 + 76) = true ∧ s.regAdmits fo (R.MOm_W0 23 31 + 76) false = true := by decide
theorem wit_gated_port : At (st [(R.KSU_GATEu_GATED 40, 1)]) fun s => s.gated (R.ESW_Pp_TSQ_POP 16) = true ∧ s.regAdmits fo (R.ESW_Pp_TSQ_POP 16) true = true := by decide
theorem wit_gated_engine : At (st [(R.KSU_GATEu_GATED 45, 1)]) fun s => s.gated (R.KSU_CEi_CNT 4) = true ∧ s.regAdmits fo (R.KSU_CEi_CNT 4) false = true := by decide
theorem wit_denied_memory : At (st [(R.KSU_WM_WM_SRAM, 1)]) fun s => isMemory 0x10000000 = true ∧ s.memAdmits (pt 15) 0x10000000 4 true = false ∧
    s.memAdmits (pt 15) 0x10000000 4 false = false := by decide
theorem wit_denied_register : At (st []) fun s => isRegSpace (R.CHn_CFG 63) = true ∧ s.regAdmits (pt 15) (R.CHn_CFG 63) true = false ∧ s.regAdmits (pt 15) (R.CHn_CFG 63) false = false ∧
    ∀ g : Fin 6, R.CHn_CFG 63 ≠ R.GWB_Lg_LOCK g := by decide
theorem wit_denied_hole : isMemory 0x40000000 = false ∧ isRegSpace 0x40000000 = false ∧ isRom 0x40000000 = false ∧ 0x40000000 % 4 = 0 := by decide
theorem wit_denied_rom : isMemory 0 = false ∧ isRegSpace 0 = false ∧ isRom 0 = true ∧ (pt 15).isForester = false := by decide
theorem test_denied : At (nx (exec (.regWrite (pt 15) (R.CHn_CFG 63) 1) (st []))) fun t => t.bus = { err := true } ∧ (t.events.map EvRec.num) = [487] := by decide

end Sys2Proof.Tests
end

/-! Accesses that are turned away (R20, R23, R325): a denied or gated access ends in `deny` or `gateAccess`, whose effect
`deny_spec` and `gateAccess_spec` state; what is left is which of the two an access meets. -/

namespace Sys2Proof.Machine

section
variable {s t : State} {a : Attr} {addr : Nat} {v : Word} {w : Bool} {i : Instr}

/-- The settling at the end of a command leaves the response of an access that was turned away, its report and its frame. -/
theorem answers_busError {num : Nat} {p : List Byte} (h : exec i s = s.finish t)
    (spec : t.bus = ⟨0, true, .plain⟩ ∧ Raised s t num p ∧ Keeps s t []) :
    Answers i s fun u => u.bus = { err := true } ∧ Raised s u num p ∧ Keeps s u [] := by
  obtain ⟨response, report, frame⟩ := spec
  exact answers_finish h ⟨response, report, frame.finished⟩

theorem answers_deny (h : exec i s = s.finish (s.deny a addr)) :
    Answers i s fun u => u.bus = { err := true } ∧
      Raised s u 487 (leBytes 5 addr ++ [BitVec.ofNat 8 a.pid, BitVec.ofNat 8 a.rqc, BitVec.ofNat 8 (b2n a.w)]) ∧
      Keeps s u [] :=
  answers_busError h (deny_spec s a addr)

theorem turnsAway_of_access {f : State → State} (h : exec i s = s.finish (s.access a addr w f)) : TurnsAway s a addr w i :=
  ⟨fun denied => answers_deny (by rw [h, access_denied _ _ _ _ _ denied]),
    fun admitted gated => answers_busError (by rw [h, access_gated _ _ _ _ _ admitted gated]) (gateAccess_spec s a addr)⟩

/-- A checked access is an access whose effect depends on the die of the register. -/
theorem regAccess_eq_access (near : State → State) (far : State → Nat → State) :
    ∃ f, s.regAccess a addr w near far = s.access a addr w f :=
  ⟨fun _ => match farLink a addr with | some g => far s g | none => near s, rfl⟩

theorem turnsAway_of_regAccess {near : State → State} {far : State → Nat → State}
    (h : exec i s = s.finish (s.regAccess a addr w near far)) : TurnsAway s a addr w i := by
  obtain ⟨f, hf⟩ := regAccess_eq_access (s := s) (a := a) (addr := addr) (w := w) near far
  exact turnsAway_of_access (h.trans (congrArg s.finish hf))

/-! Where a plain access goes (R21). -/

theorem isMemory_of_isRegSpace (h : isRegSpace addr = true) : isMemory addr = false := by
  simp only [isRegSpace, isMemory, decide_eq_true_eq, decide_eq_false_iff_not] at h ⊢
  omega

theorem isRom_of_isRegSpace (h : isRegSpace addr = true) : isRom addr = false := by
  simp only [isRegSpace, isRom, decide_eq_true_eq, Bool.or_eq_false_iff, Bool.and_eq_false_iff,
    decide_eq_false_iff_not] at h ⊢
  omega

theorem word_aligned (h : addr % 4 = 0) : addr / 4 * 4 = addr := by omega

theorem regWrite_memory (al : addr % 4 = 0) (h : isMemory addr = true) : s.regWrite a addr v = s.memStore a addr v := by
  simp [State.regWrite, word_aligned al, h]

theorem regRead_memory (al : addr % 4 = 0) (h : isMemory addr = true) : s.regRead a addr = s.memLoad a addr := by
  simp [State.regRead, word_aligned al, h]

theorem regWrite_undecoded (al : addr % 4 = 0) (hm : isMemory addr = false) (hr : isRegSpace addr = false)
    (hrom : (isRom addr && a.isForester) = false) : s.regWrite a addr v = s.deny a addr := by
  simp [State.regWrite, word_aligned al, hm, hr, hrom]

theorem regRead_undecoded (al : addr % 4 = 0) (hm : isMemory addr = false) (hr : isRegSpace addr = false)
    (hrom : (isRom addr && a.isForester) = false) : s.regRead a addr = s.deny a addr := by
  simp [State.regRead, word_aligned al, hm, hr, hrom]

/-- A write to a register, but for the lock words of the bridge (R274). -/
theorem regWrite_register (al : addr % 4 = 0) (h : isRegSpace addr = true) (nolock : ∀ g : Fin 6, addr ≠ R.GWB_Lg_LOCK g) :
    s.regWrite a addr v = s.regAccess a addr true (fun s => (s.respondBus 0).storeWord a addr v)
      fun s g => s.farWrite g a addr v := by
  have hg : ¬ (0x20420000 ≤ addr ∧ (addr - 0x20420000) / 0x1000 < 6 ∧ addr = R.GWB_Lg_LOCK ((addr - 0x20420000) / 0x1000)) :=
    fun ⟨_, lt, eq⟩ => nolock ⟨_, lt⟩ eq
  simp [State.regWrite, word_aligned al, isMemory_of_isRegSpace h, isRom_of_isRegSpace h, h, hg]

theorem regRead_register (al : addr % 4 = 0) (h : isRegSpace addr = true) :
    s.regRead a addr = s.regAccess a addr false (fun s => s.loadRespond a addr) fun s g => s.farRead g a addr := by
  simp [State.regRead, word_aligned al, isMemory_of_isRegSpace h, isRom_of_isRegSpace h, h]

theorem memStore_denied (h : s.memAdmits a addr 4 true = false) : s.memStore a addr v = s.deny a addr := by
  simp [State.memStore, h]

theorem memLoad_denied (h : s.memAdmits a addr 4 false = false) : s.memLoad a addr = s.deny a addr := by
  simp [State.memLoad, h]

theorem turnsAway_of_regWrite (h : exec i s = s.finish (s.regWrite a addr v)) (al : addr % 4 = 0) (hr : isRegSpace addr = true)
    (nolock : ∀ g : Fin 6, addr ≠ R.GWB_Lg_LOCK g) : TurnsAway s a addr true i :=
  turnsAway_of_regAccess (h.trans (congrArg s.finish (regWrite_register al hr nolock)))

theorem turnsAway_of_regRead (h : exec i s = s.finish (s.regRead a addr)) (al : addr % 4 = 0) (hr : isRegSpace addr = true) :
    TurnsAway s a addr false i :=
  turnsAway_of_regAccess (h.trans (congrArg s.finish (regRead_register al hr)))

/-- A row that is a write to a register of a far die: its windows lie past the lock words. -/
theorem turnsAway_of_farWrite (h : exec i s = s.finish (s.regWrite a addr v))
    (far : addr % 4 = 0 ∧ 0x20600000 ≤ addr ∧ addr < 0x21000000) : TurnsAway s a addr true i := by
  obtain ⟨al, lo, hi⟩ := far
  have space : isRegSpace addr = true := by simp only [isRegSpace, decide_eq_true_eq]; omega
  exact turnsAway_of_regWrite h al space fun g => by simp only [R.GWB_Lg_LOCK]; omega

end

theorem islandCommands_turnAway (s : State) (a : Attr) :
    ∀ i ∈ [Instr.isbConfirm a, .isbRestart a, .isbTrialSet a, .isbErase a], TurnsAway s a R.ISB_CTRL true i := by
  simp only [List.forall_mem_cons, List.not_mem_nil, false_implies, implies_true, and_true]
  have away : ∀ {i v}, exec i s = s.finish (s.regWrite a R.ISB_CTRL v) → TurnsAway s a R.ISB_CTRL true i :=
    fun h => turnsAway_of_farWrite h (by decide)
  exact ⟨away rfl, away rfl, away rfl, away rfl⟩

theorem blockResets_turnAway (s : State) (a : Attr) :
    ∀ i ∈ [Instr.blkrstInr a, .blkrstLgw a, .blkrstEsw a], TurnsAway s a R.SUP_BLKRST true i := by
  simp only [List.forall_mem_cons, List.not_mem_nil, false_implies, implies_true, and_true]
  exact ⟨turnsAway_of_access rfl, turnsAway_of_access rfl, turnsAway_of_access rfl⟩

theorem boleAdopt_turnsAway (s : State) (a : Attr) (d : Fin 4) : TurnsAway s a (R.BOLE_HOLD d) true (.boleAdopt a d) :=
  turnsAway_of_farWrite rfl (by simp only [R.BOLE_HOLD]; omega)

theorem limbAdopt_turnsAway (s : State) (a : Attr) (l : Fin 2) : TurnsAway s a (R.LIMB_HOLD l) true (.limbAdopt a l) :=
  turnsAway_of_farWrite rfl (by simp only [R.LIMB_HOLD]; omega)

theorem ssOnWrite_turnsAway (s : State) (a : Attr) (u : Fin 8) (on : Bool) : TurnsAway s a (R.SSs_CFG u) true (.ssOnWrite a u on) :=
  turnsAway_of_farWrite rfl (by simp only [R.SSs_CFG]; omega)

theorem trxModeWrite_turnsAway (s : State) (a : Attr) (j : Fin 24) (v : Word) : TurnsAway s a (R.TRXj_CTRL j) true (.trxModeWrite a j v) :=
  turnsAway_of_farWrite rfl (by simp only [R.TRXj_CTRL]; omega)

theorem mailboxWrites_turnAway (s : State) (a : Attr) (m : Fin 17) :
    TurnsAway s a (R.MBX_COMMIT m) true (.mbxCommitWrite a m) ∧
    (∀ e : Fin 8, TurnsAway s a (longEntry m e) true (.longEntryFree a m e)) ∧
    (∀ v, TurnsAway s a (R.MBX_EVT_TAIL m) true (.evtTailWrite a m v)) :=
  ⟨turnsAway_of_access rfl, fun _ => turnsAway_of_access rfl, fun _ => turnsAway_of_access rfl⟩

theorem canAccesses_turnAway (s : State) (a : Attr) (n : Fin 24) :
    (∀ (o : Fin 32) (w : Fin 20), TurnsAway s a (R.MOm_W0 n o + 4 * w) false (.canMoRead a n o w)) ∧
    (∀ b, TurnsAway s a (R.CANn_RXUNLOCK n) true (.canRxUnlock a n b) ∧ TurnsAway s a (R.CANn_TXC n) true (.canTxRequest a n b) ∧
      TurnsAway s a (R.CANn_TXC n) true (.canTxAbort a n b)) ∧
    TurnsAway s a (R.CANn_CTRL n) true (.canBoffRelWrite a n) ∧
    (∀ v, TurnsAway s a (R.TRXj_CTRL n) true (.trxModeWrite a n v)) :=
  ⟨fun _ _ => turnsAway_of_access rfl, fun _ => ⟨turnsAway_of_access rfl, turnsAway_of_access rfl, turnsAway_of_access rfl⟩,
    turnsAway_of_access rfl, fun v => trxModeWrite_turnsAway s a n v⟩

theorem registersTurnAwayWhoMayNot : RegistersTurnAwayWhoMayNot := fun s a =>
  ⟨islandCommands_turnAway s a,
    fun _ => ⟨turnsAway_of_farWrite rfl (by decide), turnsAway_of_access rfl⟩,
    fun _ => ⟨turnsAway_of_access rfl, turnsAway_of_access rfl, turnsAway_of_access rfl, turnsAway_of_access rfl⟩,
    blockResets_turnAway s a,
    turnsAway_of_access rfl, turnsAway_of_access rfl,
    turnsAway_of_farWrite rfl (by decide), turnsAway_of_access rfl,
    fun _ => turnsAway_of_access rfl,
    fun _ al space => turnsAway_of_regRead rfl al space,
    boleAdopt_turnsAway s a, limbAdopt_turnsAway s a, ssOnWrite_turnsAway s a,
    mailboxWrites_turnAway s a,
    fun _ => ⟨turnsAway_of_access rfl, turnsAway_of_access rfl⟩,
    fun _ => ⟨turnsAway_of_access rfl, turnsAway_of_access rfl⟩,
    fun _ => turnsAway_of_access rfl,
    canAccesses_turnAway s a⟩

theorem plainAccessesAreDenied : PlainAccessesAreDenied := by
  intro s a addr v al denies
  have writes : s.regWrite a addr v = s.deny a addr → denies (.regWrite a addr v) :=
    fun h => answers_deny (congrArg s.finish h)
  have reads : s.regRead a addr = s.deny a addr → denies (.regRead a addr) :=
    fun h => answers_deny (congrArg s.finish h)
  refine ⟨?memWrite, ?memRead, ?regWrite, ?regRead, ?undecoded⟩
  case memWrite => exact fun mem denied => writes ((regWrite_memory al mem).trans (memStore_denied denied))
  case memRead => exact fun mem denied => reads ((regRead_memory al mem).trans (memLoad_denied denied))
  case regWrite => exact fun space denied nolock => (turnsAway_of_regWrite rfl al space nolock).1 denied
  case regRead => exact fun space denied => (turnsAway_of_regRead rfl al space).1 denied
  case undecoded =>
    intro mem space rom
    have norom : (isRom addr && a.isForester) = false := Bool.and_eq_false_iff.mpr rom
    exact ⟨writes (regWrite_undecoded al mem space norom), reads (regRead_undecoded al mem space norom)⟩

/-- Settles O60: plain accesses by the target that their address decodes to, register rows by the access that each one is. -/
theorem deniedAccessesAreReported : Obligations.DeniedAccessesAreReported :=
  ⟨plainAccessesAreDenied, registersTurnAwayWhoMayNot⟩

end Sys2Proof.Machine

namespace Sys2Proof.Machine

section
variable {q q' : Nat → Prop} {s t u : State} {D D' : List Fld} {m st d : Nat} {res : List Byte}

/-! Rows of the Rhapol interface (R43, R48, R56): which row a command is, and what an answer leaves. -/

/-- A frame holds with more words exempt and more fields listed. -/
theorem KeepsBut.weaken (h : KeepsBut q s t D) (hq : ∀ a, q a → q' a) (hd : ∀ g ∈ D, g ∈ D') : KeepsBut q' s t D' :=
  ⟨fun f ok apart exempt => h.1 f ok (fun g hg => apart g (hd g hg)) fun k => exempt (hq _ k), h.2⟩

/-- Every row of the interface is `runRow` of its opcode's specification. -/
theorem exec_rhapolRow {i : Instr} {o : OpSpec} {m : Fin 17} {f : Fate} (row : RhapolRow i o m f) (s : State) :
    exec i s = s.finish (s.runRow o m f) := by
  unfold RhapolRow at row
  repeat
    rcases row with ⟨rfl, rfl⟩ | row
    · rfl
  obtain ⟨rfl, rfl⟩ := row
  rfl

theorem bytes_lt (l : List Byte) : l.foldr (fun b acc => b.toNat + 256 * acc) 0 < 256 ^ l.length := by
  induction l with
  | nil => simp
  | cons b t ih =>
    have := b.isLt
    simp only [List.foldr_cons, List.length_cons, Nat.pow_succ]
    omega

/-- A field of n bytes lies below 256 to the n. -/
theorem le_lt (bs : List Byte) (off n : Nat) : le bs off n < 256 ^ n :=
  Nat.lt_of_lt_of_le (bytes_lt _) (Nat.pow_le_pow_right (by decide) (List.length_take_le n _))

theorem bytesAt_length (s : State) (a n : Nat) : (s.bytesAt a n).length = n := by
  have words : ∀ l : List Nat, (l.flatMap fun k => leBytes 4 (s.raw (a + 4 * k)).toNat).length = 4 * l.length := by
    intro l
    induction l with
    | nil => rfl
    | cons x t ih => simp only [List.flatMap_cons, List.length_append, leBytes_length, ih, List.length_cons]; omega
  simp only [State.bytesAt, List.length_take, words, List.length_range]
  omega

@[simp] theorem slotCtx_mbx (s : State) (m : Nat) : (s.slotCtx m).mbx = m := rfl

theorem slotCtx_tag_lt (s : State) (m : Nat) : (s.slotCtx m).tag < 256 := le_lt _ 2 1

/-- The words of a response slot are none of the event router's. -/
theorem not_eventWord_of_respWord {a : Nat} (h : respWord m a) : ¬ eventWord a := by
  simp only [respWord, eventWord, mbxBase] at h ⊢
  rintro (⟨k, hk, h'⟩ | h') <;> omega

/-! The response (R43, R48). -/

/-- A response that stands in t stands in a state with the same response slot and the same fields of MBX_STAT. -/
theorem response_transfer (h : Response s t m st d res) (hl : res.length ≤ 1008) (slot : ∀ a, respWord m a → u.raw a = t.raw a)
    (stat : ∀ f ∈ respFlds m, u.rd f = t.rd f) : Response s u m st d res := by
  obtain ⟨bytes, busy, done, tag⟩ := h
  refine ⟨?_, (stat _ ?_).trans busy, (stat _ ?_).trans done, (stat _ ?_).trans tag⟩
  · rw [← bytes]
    exact bytesAt_congr _ _ _ _ fun k hk => slot _ ⟨by omega, by omega⟩
  all_goals simp [respFlds]

/-- The answer to the command of a slot is its response. -/
theorem response_respond (hl : res.length ≤ 1008) (hf : u.frame = s.frame) :
    Response s (u.respond (s.slotCtx m) st d res) m st d res := by
  obtain ⟨busy, done, tag⟩ := respond_stat u (s.slotCtx m) st d res
  exact ⟨hf ▸ respond_bytes u (s.slotCtx m) st d res hl, busy, done, tag.trans (Nat.mod_eq_of_lt (slotCtx_tag_lt s m))⟩

theorem respFlds_ok : ∀ f ∈ respFlds m, f.ok ∧ f.addr = R.MBX_STAT m ∧ (f.hi < 2 ∨ 2 < f.lo) := by
  simp [respFlds, Fld.ok, R.MBX_STAT_BUSY, R.MBX_STAT_DONE, R.MBX_STAT_RESP_TAG]

/-- Events leave a response as it is. -/
theorem response_routed (h : Response s t m st d res) (hl : res.length ≤ 1008) (r : Routed t u) : Response s u m st d res :=
  response_transfer h hl (fun a ha => r.raws a (not_eventWord_of_respWord ha)) fun f hf =>
    have ⟨ok, addr, bits⟩ := respFlds_ok f hf
    r.stat m f addr ok bits

theorem response_finished (h : Response s t m st d res) (hl : res.length ≤ 1008) : Response s (u.finished t) m st d res :=
  response_transfer h hl (fun _ _ => finished_raw _ _ _) fun _ _ => finished_rd _ _ _

/-- The events of an answer are at most what the router does. -/
theorem replyEvents_routed (s : State) (c : Ctx) (st d : Nat) : Routed s (s.replyEvents c st d) := by
  unfold State.replyEvents
  split
  · exact raise_routed _ _ _ _ (by decide)
  · split
    · exact raise_routed _ _ _ _ (by decide)
    · exact Routed.refl s

/-- No event comes with BUSY but for time. -/
theorem replyEvents_busy (s : State) (c : Ctx) (h : d ≠ 0) : s.replyEvents c stBusy d = s := by
  simp [State.replyEvents, stBusy, stInternal, h]

/-- What an answer leaves of the state with the command's effect: all but registers, the recorder and the Forester's events. -/
def Undisturbed (u t : State) : Prop :=
  t = { u with pending := t.pending, regs := t.regs, mem := t.mem, inc := t.inc, events := t.events }

theorem OnlyRegs.undisturbed (h : OnlyRegs u t) : Undisturbed u t := by unfold OnlyRegs at h; unfold Undisturbed; rw [h]

theorem Routed.undisturbed (h : Routed u t) : Undisturbed u t := by unfold Undisturbed; rw [h.only]

theorem undisturbed_finished (u t : State) : Undisturbed t (u.finished t) := rfl

theorem Undisturbed.refl (s : State) : Undisturbed s s := rfl

theorem Undisturbed.trans (h : Undisturbed s t) (k : Undisturbed t u) : Undisturbed s u := by
  unfold Undisturbed at *; rw [k, h]

/-- The end of an answer: the response and its events on the state with the command's effect, settled. -/
def State.replied (s : State) (m : Nat) (r : Reply) : State :=
  s.finished ((r.s.respond (s.slotCtx m) r.st r.detail r.result).replyEvents (s.slotCtx m) r.st r.detail)

theorem replied_undisturbed (s : State) (m : Nat) (r : Reply) : Undisturbed r.s (s.replied m r) :=
  ((onlyRegs_respond _ _ _ _ _).undisturbed.trans (replyEvents_routed _ _ _ _).undisturbed).trans (undisturbed_finished _ _)

theorem replied_response {r : Reply} (hl : r.result.length ≤ 1008) (hf : r.s.frame = s.frame) :
    Response s (s.replied m r) m r.st r.detail r.result :=
  response_finished (response_routed (response_respond hl hf) hl (replyEvents_routed _ _ _ _)) hl

/-- The frame of an answer, on a state whose frame is known. -/
theorem replied_keeps {r : Reply} (hl : r.result.length ≤ 1008) (h : KeepsBut q s r.s D) :
    KeepsBut (fun a => eventWord a ∨ respWord m a ∨ q a) s (s.replied m r) (respFlds m ++ D) := by
  have answer := (respond_keeps r.s (s.slotCtx m) r.st r.detail r.result hl).weaken (q' := fun a => eventWord a ∨ respWord m a ∨ q a)
    (D' := respFlds m ++ D) (fun _ ha => .inr (.inl ha)) fun _ hg => List.mem_append_left _ hg
  have effect := h.weaken (q' := fun a => eventWord a ∨ respWord m a ∨ q a) (D' := respFlds m ++ D) (fun _ ha => .inr (.inr ha))
    fun _ hg => List.mem_append_right _ hg
  have events := (Keeps.routed KeepsBut.refl (replyEvents_routed (r.s.respond (s.slotCtx m) r.st r.detail r.result) (s.slotCtx m) r.st r.detail)).weaken
    (q' := fun a => eventWord a ∨ respWord m a ∨ q a) (D := []) (D' := respFlds m ++ D) (fun _ ha => .inl ha) (by simp)
  exact ((effect.trans answer).trans events).finished

/-- The frame of an answer that brings no event. -/
theorem replied_keepsQuiet {r : Reply} (hl : r.result.length ≤ 1008) (h : KeepsBut q s r.s D) (hi : r.st ≠ stInternal)
    (hb : r.st = stBusy → r.detail ≠ 0) : KeepsBut (fun a => respWord m a ∨ q a) s (s.replied m r) (respFlds m ++ D) := by
  have quiet : ∀ v : State, v.replyEvents (s.slotCtx m) r.st r.detail = v := by
    intro v
    by_cases h : r.st = stBusy
    · rw [h]; exact replyEvents_busy _ _ (hb h)
    · exact replyEvents_none _ _ _ _ hi h
  rw [State.replied, quiet]
  have answer := (respond_keeps r.s (s.slotCtx m) r.st r.detail r.result hl).weaken (q' := fun a => respWord m a ∨ q a)
    (D' := respFlds m ++ D) (fun _ ha => .inl ha) fun _ hg => List.mem_append_left _ hg
  have effect := h.weaken (q' := fun a => respWord m a ∨ q a) (D' := respFlds m ++ D) (fun _ ha => .inr ha)
    fun _ hg => List.mem_append_right _ hg
  exact (effect.trans answer).finished

/-- What an answer leaves of a field that it does not write. -/
theorem replied_rd {r : Reply} (hl : r.result.length ≤ 1008) {f : Fld} (ok : f.ok) (apart : ∀ g ∈ respFlds m, g.apart f)
    (slot : ¬ respWord m f.addr) (event : ¬ eventWord f.addr) : (s.replied m r).rd f = r.s.rd f := by
  rw [State.replied, finished_rd, (replyEvents_routed _ _ _ _).rd _ event]
  exact (respond_keeps r.s (s.slotCtx m) r.st r.detail r.result hl).1 f ok apart slot

/-- A command locked in its slot whose turn it is, and whose outcome leaves generation and doorbell, is answered. -/
theorem row_replies {i : Instr} {o : OpSpec} {m : Fin 17} {f : Fate} {r : Reply} (row : RhapolRow i o m f)
    (busy : s.rd (R.MBX_STAT_BUSY m) = 1) (code : (s.slotCtx m).opcode = o.opcode) (turn : s.yields m = false)
    (outcome : s.runOp o (s.slotCtx m) f = r) (gen : r.s.gen m = s.gen m) (held : r.s.rd (R.MBX_STAT_BUSY m) ≠ 0) :
    exec i s = .next (s.replied m r) := by
  have busy' : s.rd (R.MBX_STAT_BUSY m) ≠ 0 := by simp [busy]
  rw [exec_rhapolRow row, runRow_answers s o m f busy' code turn, outcome, answer_responds s (s.slotCtx m) r gen held]
  rfl

end
end Sys2Proof.Machine

namespace Sys2Proof.Machine
section
variable {s : State} {i : Instr} {o : OpSpec} {m : Fin 17} {f : Fate} {c : Ctx} {st d : Nat}

/-! The check order (R56). -/

/-- Steps 1 to 4 refuse with one of four statuses. -/
theorem headBad_status {x : Nat × Nat} (h : s.headBad o c = some x) : x.1 ∈ [stStale, stBadOpcode, stNotGranted, stRange] := by
  unfold State.headBad at h
  split at h
  · simp [← Option.some.inj h]
  split at h
  · simp [← Option.some.inj h]
  split at h
  · simp [← Option.some.inj h]
  split at h
  · simp [← Option.some.inj h]
  split at h
  · simp [← Option.some.inj h]
  · cases h

/-- Past the header's checks a command that does not meet INTERNAL runs steps 5 to 10, and a LONG command is taken up. -/
theorem runOp_past_head (hf : ∀ k, f ≠ .internal k) (h : s.headBad o c = none) :
    s.runOp o c f = if (s.bodyRun o c (decide (f = .busy))).st = stAccepted then s.longTake c (s.bodyRun o c (decide (f = .busy)))
      else s.bodyRun o c (decide (f = .busy)) := by
  cases f with
  | internal k => exact absurd rfl (hf k)
  | done => simp only [State.runOp, State.runChecks, h]
  | busy => simp only [State.runOp, State.runChecks, h]

/-- A refusal in steps 5 to 7 is the outcome. -/
theorem runOp_refused (hf : ∀ k, f ≠ .internal k) (h : s.headBad o c = none)
    (body : s.bodyRun o c (decide (f = .busy)) = Reply.err s st d) (ha : st ≠ stAccepted) : s.runOp o c f = Reply.err s st d := by
  rw [runOp_past_head hf h, body]
  exact if_neg ha

theorem bodyRun_reserved {b : Bool} (h : rsvdBad o.bits c.payload = true) : s.bodyRun o c b = Reply.err s stBadOpcode 2 := by
  simp [State.bodyRun, h]

theorem bodyRun_ungranted {b : Bool} (h : rsvdBad o.bits c.payload = false) (g : o.grant s c = some d) :
    s.bodyRun o c b = Reply.err s stNotGranted d := by
  simp [State.bodyRun, h, g]

theorem bodyRun_short {b : Bool} (h : rsvdBad o.bits c.payload = false) (g : o.grant s c = none) (l : c.len < o.need c.payload) :
    s.bodyRun o c b = Reply.err s stRange 0xFFFF := by
  simp [State.bodyRun, h, g, l]

/-- BUSY for the class bound replaces the effect (R75). -/
theorem bodyRun_busy (h : rsvdBad o.bits c.payload = false) (g : o.grant s c = none) (l : o.need c.payload ≤ c.len)
    (ok : (o.body c s).st = stOk) : s.bodyRun o c true = Reply.err s stBusy 0 := by
  simp [State.bodyRun, h, g, Nat.not_lt.mpr l, ok]

/-! Answers that leave the state as it was. -/

/-- The frame of an answer without effect. -/
theorem replied_err_keeps (s : State) (m st d : Nat) :
    KeepsBut (fun a => eventWord a ∨ respWord m a) s (s.replied m (Reply.err s st d)) (respFlds m) :=
  (replied_keeps (r := Reply.err s st d) (q := fun _ => False) (D := []) (Nat.zero_le _) KeepsBut.refl).weaken (by simp) (by simp)

theorem replied_err_keepsQuiet (hi : st ≠ stInternal) (hb : st = stBusy → d ≠ 0) :
    KeepsBut (respWord m) s (s.replied m (Reply.err s st d)) (respFlds m) :=
  (replied_keepsQuiet (r := Reply.err s st d) (q := fun _ => False) (D := []) (Nat.zero_le _) KeepsBut.refl hi hb).weaken
    (by simp) (by simp)

theorem replied_err_response (s : State) (m st d : Nat) : Response s (s.replied m (Reply.err s st d)) m st d [] :=
  replied_response (r := Reply.err s st d) (Nat.zero_le _) rfl

/-- A command whose outcome is an error is answered from the state as it was. -/
theorem row_errs (row : RhapolRow i o m f) (busy : s.rd (R.MBX_STAT_BUSY m) = 1) (code : (s.slotCtx m).opcode = o.opcode)
    (turn : s.yields m = false) (outcome : s.runOp o (s.slotCtx m) f = Reply.err s st d) :
    exec i s = .next (s.replied m (Reply.err s st d)) :=
  row_replies row busy code turn outcome rfl (by simp [Reply.err, busy])

theorem row_refuses (row : RhapolRow i o m f) (busy : s.rd (R.MBX_STAT_BUSY m) = 1) (code : (s.slotCtx m).opcode = o.opcode)
    (turn : s.yields m = false) (outcome : s.runOp o (s.slotCtx m) f = Reply.err s st d) (hi : st ≠ stInternal)
    (hb : st = stBusy → d ≠ 0) : Refuses i s m st d := by
  have same := replied_undisturbed s m (Reply.err s st d)
  exact ⟨_, row_errs row busy code turn outcome, replied_err_response s m st d, by rw [same]; rfl, by rw [same]; rfl,
    replied_err_keepsQuiet hi hb⟩

theorem OnlyRegs.lc {t : State} (h : OnlyRegs s t) : t.lc = s.lc := by rw [h]; rfl

/-- INTERNAL raises its event with the answer (R54, R56). -/
theorem replied_internal_raised (s : State) (m k : Nat) :
    Raised s (s.replied m (Reply.err s stInternal k)) 43 (leBytes 2 (s.slotCtx m).opcode ++ leBytes 2 k) := by
  have only := onlyRegs_respond s (s.slotCtx m) stInternal k []
  have frame : (s.respond (s.slotCtx m) stInternal k []).frame = s.frame := by
    unfold State.frame
    rw [respond_raw _ _ _ _ _ _ (Nat.zero_le _)] <;> simp only [slotCtx_mbx, R.FRM_NUM_LO, R.MBX_STAT, mbxBase] <;> omega
  have raised := raised_raise s (s.respond (s.slotCtx m) stInternal k []) 43 (ownerMbx m)
    (leBytes 2 (s.slotCtx m).opcode ++ leBytes 2 k) (by decide) frame only.lc
  exact raised

end

/-- What a row answers when none of its commands is there, or it is another mailbox's turn (R52). -/
theorem row_idle {s : State} {i : Instr} {o : OpSpec} {m : Fin 17} {f : Fate} (row : RhapolRow i o m f)
    (h : s.rd (R.MBX_STAT_BUSY m) = 0 ∨ (s.slotCtx m).opcode ≠ o.opcode ∨ s.yields m = true) : exec i s = .next (s.finished s) := by
  rw [exec_rhapolRow row, runRow_idle s o m f h]; rfl

theorem rhapolChecksInOrder : RhapolChecksInOrder := by
  intro s i o m f row c
  refine ⟨fun idle => ⟨_, row_idle row idle, KeepsBut.refl.finished⟩, fun busy code turn => ?_⟩
  have refuses {st d : Nat} := row_refuses (st := st) (d := d) row busy code turn
  have late : f = .busy → ∀ k, f ≠ .internal k := by rintro rfl k; simp
  refine ⟨?internal, fun fate => ⟨?head, fun head => ⟨?reserved, fun clean => ⟨?grant, ?length⟩⟩⟩, ?busy⟩
  case internal =>
    rintro k rfl
    exact ⟨_, row_errs row busy code turn rfl, replied_err_response s m _ k, replied_internal_raised s m k, replied_err_keeps s m _ k⟩
  case head =>
    intro x hx
    have status := headBad_status hx
    refine refuses (runOp_head s o c f x fate hx ?_) ?_ ?_ <;> rintro h <;> rw [h] at status <;> exact absurd status (by decide)
  case reserved =>
    exact fun bad => refuses (runOp_refused fate head (bodyRun_reserved bad) (by decide)) (by decide) (by decide)
  case grant =>
    exact fun d bad => refuses (runOp_refused fate head (bodyRun_ungranted clean bad) (by decide)) (by decide) (absurd · (by decide))
  case length =>
    exact fun granted short => refuses (runOp_refused fate head (bodyRun_short clean granted short) (by decide)) (by decide) (by decide)
  case busy =>
    intro fate taken ok
    obtain ⟨-, -, -, head, clean, granted, long⟩ := taken
    subst fate
    have outcome := runOp_refused (late rfl) head (bodyRun_busy clean granted long ok) (by decide)
    exact ⟨_, row_errs row busy code turn outcome, replied_err_response s m _ _, replied_err_keeps s m _ _⟩

end Sys2Proof.Machine

namespace Sys2Proof

/-- An element of a list after an update: the one at its index is changed, if there is one. -/
theorem getD_updAt {α : Type} (l : List α) (i j : Nat) (f : α → α) (d : α) :
    (updAt l i f).getD j d = if i = j ∧ j < l.length then f (l.getD j d) else l.getD j d := by
  simp only [updAt, List.getD_eq_getElem?_getD, List.getElem?_modify]
  by_cases h : i = j <;> by_cases h' : j < l.length <;> simp [h, h']

/-- Past its end a list reads as the default. -/
theorem getD_past {α : Type} {l : List α} {n : Nat} (h : l.length ≤ n) (d : α) : l.getD n d = d := by
  rw [List.getD_eq_getElem?_getD, List.getElem?_eq_none h, Option.getD_none]

/-- A list of defaults reads as the default. -/
theorem getD_replicate_default {α : Type} (k n : Nat) (d : α) : (List.replicate k d).getD n d = d := by
  rw [List.getD_eq_getElem?_getD, List.getElem?_replicate]
  split <;> rfl

end Sys2Proof

namespace Sys2Proof.Machine
section
variable {s t : State} {a : Attr} {m : Fin 17} {v : Word} {off : Nat}

/-! Accesses to the page of a mailbox (R38 to R44). -/

theorem mbxPage (m : Fin 17) (h : off < 0x1000) : 0x20030000 ≤ mbxBase m + off ∧ mbxBase m + off < 0x20041000 := by
  simp only [mbxBase]; omega

theorem mbxPage_index (m : Fin 17) (h : off < 0x1000) : (mbxBase m + off - 0x20030000) / 0x1000 = m.val := by
  simp only [mbxBase]; omega

theorem mbxPage_offset (m : Fin 17) (h : off < 0x1000) : (mbxBase m + off) % 0x1000 = off := by
  simp only [mbxBase]; omega

/-- A mailbox admits its owner to its whole page, for reads and writes alike. -/
theorem regAdmits_mbxPage (w w' : Bool) (h : off < 0x1000) : s.regAdmits a (mbxBase m + off) w = s.regAdmits a (mbxBase m) w' := by
  have here : s.regAdmits a (mbxBase m + 0) w' = s.regAdmits a (mbxBase m) w' := rfl
  rw [← here]
  simp only [State.regAdmits, mbxPage m h, mbxPage m (off := 0) (by decide), mbxPage_index m h, mbxPage_index m (off := 0) (by decide),
    and_self, if_true]

/-- Whom a mailbox admits is on the crown die. -/
theorem farLink_of_admitted {w : Bool} (h : off < 0x1000) (admitted : s.regAdmits a (mbxBase m) w = true) :
    farLink a (mbxBase m + off) = none := by
  have crown : a.rqc.val ≠ 5 := by
    intro island
    have := mbxPage m (off := 0) (by decide)
    simp only [Nat.add_zero] at this
    simp [State.regAdmits, this, Attr.isPart, Attr.isDebug, island] at admitted
  have := mbxPage m h
  simp only [farLink, crown, if_false]
  rw [if_neg]
  simp only [decide_eq_true_eq]
  omega

/-- No gate unit has a mailbox. -/
theorem gated_mbxPage (h : off < 0x1000) : s.gated (mbxBase m + off) = false := by
  have := mbxPage m h
  have none : gateUnit (mbxBase m + off) = none := by
    simp only [gateUnit]
    rw [if_neg (by omega), if_neg (by omega), if_neg (by omega)]
  simp [State.gated, none]

/-- A write that a mailbox admits is a write to its page. -/
theorem regWrite_mbxPage (h : off < 0x1000) (al : off % 4 = 0) (admitted : s.regAdmits a (mbxBase m) true = true) :
    s.regWrite a (mbxBase m + off) v = (s.respondBus 0).storeMbx a (mbxBase m + off) v := by
  have page := mbxPage m h
  have space : isRegSpace (mbxBase m + off) = true := by simp only [isRegSpace, decide_eq_true_eq]; omega
  have al' : (mbxBase m + off) % 4 = 0 := by simp only [mbxBase]; omega
  have nolock : ∀ g : Fin 6, mbxBase m + off ≠ R.GWB_Lg_LOCK g := by intro g; simp only [R.GWB_Lg_LOCK]; omega
  have ok : s.regAdmits a (mbxBase m + off) true = true := (regAdmits_mbxPage true true h).trans admitted
  rw [regWrite_register al' space nolock]
  simp [State.regAccess, ok, gated_mbxPage h, farLink_of_admitted h admitted, State.storeWord, page]

/-- A row that is a write to a word of a mailbox's page. -/
theorem access_mbxPage {w : Bool} {f : State → State} (h : off < 0x1000) (admitted : s.regAdmits a (mbxBase m + off) w = true) :
    s.access a (mbxBase m + off) w f = f (s.respondBus 0) :=
  access_done s a _ w f admitted (gated_mbxPage h)

/-- A write below the doorbell goes to slots, event words and completion entries. -/
theorem storeMbx_space (h : off < 0xC00) : t.storeMbx a (mbxBase m + off) v = t.mbxSpaceWrite m off v := by
  simp [State.storeMbx, mbxPage_index m (show off < 0x1000 by omega), mbxPage_offset m (show off < 0x1000 by omega), h]

theorem storeMbx_doorbell : t.storeMbx a (mbxBase m + 0xC00) v = if v.getLsbD 0 then t.ringBell a m else t := by
  have index := mbxPage_index m (off := 0xC00) (by decide)
  have offset := mbxPage_offset m (off := 0xC00) (by decide)
  simp only [State.storeMbx, index, offset]
  rfl

theorem exec_slotWrite (h : off < 0xC00) (al : off % 4 = 0) (admitted : s.regAdmits a (mbxBase m) true = true) :
    exec (.regWrite a (mbxBase m + off) v) s = s.finish ((s.respondBus 0).mbxSpaceWrite m off v) :=
  congrArg s.finish ((regWrite_mbxPage (by omega) al admitted).trans (storeMbx_space h))

theorem exec_doorbell (admitted : s.regAdmits a (mbxBase m) true = true) :
    exec (.regWrite a (mbxBase m + 0xC00) v) s = s.finish (if v.getLsbD 0 then (s.respondBus 0).ringBell a m else s.respondBus 0) :=
  congrArg s.finish ((regWrite_mbxPage (by decide) (by decide) admitted).trans storeMbx_doorbell)

end
end Sys2Proof.Machine

namespace Sys2Proof.Machine
section
variable {q : Nat → Prop} {s t : State} {a : Attr} {m : Fin 17} {v : Word} {D : List Fld}

/-! The doorbell (R42). -/

theorem busy_ok (m : Nat) : (R.MBX_STAT_BUSY m).ok := by simp [Fld.ok, R.MBX_STAT_BUSY]
theorem done_ok (m : Nat) : (R.MBX_STAT_DONE m).ok := by simp [Fld.ok, R.MBX_STAT_DONE]
theorem gen_ok (m : Nat) : (R.MBX_STAT_GEN m).ok := by simp [Fld.ok, R.MBX_STAT_GEN]

/-- The command of a slot depends on the slot's words and on the requester of the ring. -/
theorem slotCtx_congr {m : Nat} (h : ∀ b, mbxBase m ≤ b → b < mbxBase m + 0x400 → t.raw b = s.raw b) :
    t.slotCtx m = { s.slotCtx m with attr := (t.mbxs.getD m {}).ringAttr } := by
  have header : t.bytesAt (mbxBase m) 16 = s.bytesAt (mbxBase m) 16 :=
    bytesAt_congr _ _ _ _ fun k hk => h _ (by omega) (by omega)
  have payload : ∀ n, t.bytesAt (mbxBase m + 16) (min n 1008) = s.bytesAt (mbxBase m + 16) (min n 1008) :=
    fun n => bytesAt_congr _ _ _ _ fun k hk => h _ (by omega) (by omega)
  simp only [State.slotCtx, header, payload]

theorem KeepsBut.respondBus (h : KeepsBut q s t D) (v : Word) : KeepsBut q s (t.respondBus v) D := h.onBus _

/-- The slot locked at a ring, with the requester and the time. -/
def State.rung (s : State) (a : Attr) (m : Nat) : State :=
  ((s.wr (R.MBX_STAT_BUSY m) 1).wr (R.MBX_STAT_DONE m) 0).modMbx m fun b => { b with ringAttr := a, ringTime := s.now }

theorem rung_keeps (s : State) (a : Attr) (m : Nat) : KeepsQuiet s (s.rung a m) [R.MBX_STAT_BUSY m, R.MBX_STAT_DONE m] :=
  ((KeepsBut.refl.wr _ _ (by simp) (busy_ok m)).wr _ _ (by simp) (done_ok m)).onMbxs _

theorem rung_done (s : State) (a : Attr) (m : Nat) : (s.rung a m).rd (R.MBX_STAT_DONE m) = 0 := by
  rw [State.rung, State.modMbx, State.onMbxs_rd, rd_wr _ _ _ (done_ok m), Nat.zero_mod]

theorem rung_busy (s : State) (a : Attr) (m : Nat) : (s.rung a m).rd (R.MBX_STAT_BUSY m) = 1 := by
  have apart : (R.MBX_STAT_DONE m).apart (R.MBX_STAT_BUSY m) := by simp [Fld.apart, R.MBX_STAT_DONE, R.MBX_STAT_BUSY]
  rw [State.rung, State.modMbx, State.onMbxs_rd, rd_wr_apart _ _ _ _ (done_ok m) (busy_ok m) apart, rd_wr _ _ _ (busy_ok m)]
  simp [R.MBX_STAT_BUSY]

theorem rung_gen (s : State) (a : Attr) (m : Nat) : (s.rung a m).gen m = s.gen m :=
  (rung_keeps s a m).1 (R.MBX_STAT_GEN m) (gen_ok m)
    (by simp [Fld.apart, R.MBX_STAT_GEN, R.MBX_STAT_BUSY, R.MBX_STAT_DONE]) id

/-- The frame count as a field. -/
theorem frame_eq_rd (s : State) : s.frame = s.rd ⟨R.FRM_NUM_LO, 31, 0⟩ := (bitsOf_full _).symm

theorem rung_frame (s : State) (a : Attr) (m : Nat) : (s.rung a m).frame = s.frame := by
  rw [frame_eq_rd, frame_eq_rd]
  refine (rung_keeps s a m).1 ⟨R.FRM_NUM_LO, 31, 0⟩ ⟨by decide, by decide⟩ ?_ id
  simp [Fld.apart, R.MBX_STAT_BUSY, R.MBX_STAT_DONE, R.MBX_STAT, R.FRM_NUM_LO]
  omega

theorem rung_mbx (len : s.mbxs.length = 17) (m : Fin 17) :
    ((s.rung a m).mbxs.getD m {}).ringAttr = a ∧ ((s.rung a m).mbxs.getD m {}).ringTime = s.now := by
  have here : (s.rung a m).mbxs.getD m {} = { s.mbxs.getD m {} with ringAttr := a, ringTime := s.now } := by
    simp only [State.rung, State.modMbx, State.onMbxs_mbxs]
    rw [getD_updAt, if_pos ⟨rfl, by have := m.isLt; simp only [State.wr, State.setRaw, State.onRegs_mbxs]; omega⟩]
    rfl
  rw [here]
  exact ⟨rfl, rfl⟩

theorem rung_slotCtx (len : s.mbxs.length = 17) (m : Fin 17) : (s.rung a m).slotCtx m = { s.slotCtx m with attr := a } := by
  rw [slotCtx_congr (s := s), (rung_mbx len m).1]
  intro b lo hi
  have apart : R.MBX_STAT m ≠ b := by simp only [R.MBX_STAT, mbxBase] at *; omega
  rw [State.rung, State.modMbx, State.onMbxs_raw, raw_wr_ne _ (R.MBX_STAT_DONE m) _ _ apart,
    raw_wr_ne _ (R.MBX_STAT_BUSY m) _ _ apart]

/-- An answer does not depend on the requester. -/
theorem answer_attr (t : State) (c : Ctx) (r : Reply) (a : Attr) : t.answer { c with attr := a } r = t.answer c r := by
  unfold State.answer State.respond State.replyEvents Ctx.cls
  rfl

theorem unknownOp_attr (t : State) (c : Ctx) (a : Attr) : t.unknownOp { c with attr := a } = t.unknownOp c := by
  simp only [State.unknownOp]

/-- A ring of a free doorbell locks the slot; an opcode that no row names is answered at once. -/
theorem ringBell_free (idle : s.rd (R.MBX_STAT_BUSY m) = 0) (len : s.mbxs.length = 17) :
    s.ringBell a m = match opOf (s.slotCtx m).opcode with
      | some _ => s.rung a m
      | none => (s.rung a m).answer (s.slotCtx m) ((s.rung a m).unknownOp (s.slotCtx m)) := by
  have free : s.isSet (R.MBX_STAT_BUSY m) = false := by simp [State.isSet, idle]
  have slot := rung_slotCtx (a := a) len m
  have bell : s.ringBell a m = match opOf ((s.rung a m).slotCtx m).opcode with
      | some _ => s.rung a m
      | none => (s.rung a m).answer ((s.rung a m).slotCtx m) ((s.rung a m).unknownOp ((s.rung a m).slotCtx m)) := by
    simp only [State.ringBell, free, Bool.false_eq_true, if_false]; rfl
  rw [bell, slot, answer_attr, unknownOp_attr]

/-- A flag of MBX_ERR, with its event. -/
theorem mbxErr_spec {f : Nat → Fld} (m : Fin 17) (hf : (f m).addr = R.MBX_ERR m) (bit : (f m).lo = (f m).hi) (ok : (f m).ok) :
    (s.mbxErr m f).rd (f m) = 1 ∧ (∃ p, Raised s (s.mbxErr m f) 40 p) ∧ (s.mbxErr m f).mbxs.length = s.mbxs.length ∧
      Keeps s (s.mbxErr m f) [f m] := by
  have routed := raise_routed (s.wr (f m) 1) 40 (ownerMbx m) (leBytes 1 m ++ leBytes 1 ((s.wr (f m) 1).raw (R.MBX_ERR m)).toNat) (by decide)
  have quiet : ¬ eventWord (f m).addr := by
    rw [hf]; simp only [eventWord, R.MBX_ERR, mbxBase]; rintro (⟨k, hk, h⟩ | h) <;> omega
  refine ⟨?_, ⟨_, raised_raise s _ 40 _ _ (by decide) ?_ rfl⟩, ?_, ?_⟩
  · refine (routed.rd _ quiet).trans ((rd_wr _ _ _ ok).trans ?_)
    rw [bit]; simp
  · unfold State.frame
    rw [raw_wr_ne _ _ _ _ (by rw [hf]; simp only [R.MBX_ERR, R.FRM_NUM_LO]; omega)]
  · rw [State.mbxErr, routed.only]; rfl
  · exact Keeps.raise (KeepsBut.refl.wr _ _ (by simp) ok) _ _ _ (by decide)

end

/-! Unknown opcodes (R56 steps 1 and 2). -/

/-- The answer at the ring: STALE_GENERATION with the generation, else BAD_OPCODE with DETAIL 0. -/
theorem unknownOp_answered (s : State) (a : Attr) (m : Fin 17) : ∃ st d,
    ((s.slotCtx m).gen ≠ s.gen m → st = stStale ∧ d = s.gen m) ∧ ((s.slotCtx m).gen = s.gen m → st = stBadOpcode ∧ d = 0) ∧
    (s.rung a m).answer (s.slotCtx m) ((s.rung a m).unknownOp (s.slotCtx m)) = (s.rung a m).respond (s.slotCtx m) st d [] := by
  have held : (s.rung a m).rd (R.MBX_STAT_BUSY m) ≠ 0 := by simp [rung_busy]
  have answered {st d : Nat} (hi : st ≠ stInternal) (hb : st ≠ stBusy) :
      (s.rung a m).answer (s.slotCtx m) (Reply.err (s.rung a m) st d) = (s.rung a m).respond (s.slotCtx m) st d [] := by
    rw [answer_responds (s.rung a m) (s.slotCtx m) (Reply.err (s.rung a m) st d) rfl held]
    exact replyEvents_none _ _ _ _ hi hb
  by_cases stale : (s.slotCtx m).gen = s.gen m
  · refine ⟨stBadOpcode, 0, fun h => absurd stale h, fun _ => ⟨rfl, rfl⟩, ?_⟩
    rw [State.unknownOp, if_neg (by simpa [rung_gen] using stale)]
    exact answered (by decide) (by decide)
  · refine ⟨stStale, s.gen m, fun _ => ⟨rfl, rfl⟩, fun h => absurd h stale, ?_⟩
    rw [State.unknownOp, if_pos (by simpa [rung_gen] using stale), slotCtx_mbx, rung_gen]
    exact answered (by decide) (by decide)

theorem unknownOpcodesAreAnsweredAtTheRing : UnknownOpcodesAreAnsweredAtTheRing := by
  intro s a m v admitted ring idle len unknown
  obtain ⟨st, d, stale, fresh, answer⟩ := unknownOp_answered (s.respondBus 0) a m
  have bell : (s.respondBus 0).ringBell a m = ((s.respondBus 0).rung a m).respond (s.slotCtx m) st d [] := by
    rw [ringBell_free (s := s.respondBus 0) idle len]
    have none : opOf ((s.respondBus 0).slotCtx m).opcode = none := unknown
    rw [none]
    exact answer
  have row := exec_doorbell (v := v) admitted
  rw [if_pos ring, bell] at row
  have frame : ((s.respondBus 0).rung a m).frame = s.frame := rung_frame (s.respondBus 0) a m
  have response := response_finished (u := s) (response_respond (s := s) (m := m) (st := st) (d := d) (res := []) (Nat.zero_le _) frame)
    (Nat.zero_le _)
  refine answers_finish row ⟨fun h => ?_, fun h => ?_, ?_⟩
  · obtain ⟨rfl, rfl⟩ := stale h; exact response
  · obtain ⟨rfl, rfl⟩ := fresh h; exact response
  · have locked : KeepsQuiet s ((s.respondBus 0).rung a m) [R.MBX_STAT_BUSY m, R.MBX_STAT_DONE m] :=
      (KeepsBut.refl.respondBus 0).trans (rung_keeps (s.respondBus 0) a m)
    exact ((locked.weaken (by simp) (by simp)).trans
      (respond_keeps ((s.respondBus 0).rung a m) (s.slotCtx m) st d [] (Nat.zero_le _))).finished

/-- Settles O50: the check order stage by stage, and an opcode that no row names. -/
theorem rhapolRowsCheckInOrder : Obligations.RhapolRowsCheckInOrder := ⟨rhapolChecksInOrder, unknownOpcodesAreAnsweredAtTheRing⟩

end Sys2Proof.Machine

namespace Sys2Proof.Machine
section
variable {q : Nat → Prop} {s t : State} {a : Attr} {m : Fin 17} {v : Word} {D : List Fld} {off : Nat}

/-! A mailbox's words and entries (R41, R42, R53). -/

/-- A write of a whole listed register. -/
theorem KeepsBut.setRaw (h : KeepsBut q s t D) (b : Nat) (v : Word) (hb : wholeReg b ∈ D) : KeepsBut q s (t.setRaw b v) D := by
  refine ⟨fun f ok apart exempt => ?_, h.2⟩
  have ne : b ≠ f.addr := by
    obtain ⟨order, width⟩ := ok
    rcases apart _ hb with h | h | h
    · exact h
    all_goals simp only [wholeReg] at h; omega
  exact (rd_setRaw_ne t b v f ne).trans (h.1 f ok apart exempt)

theorem mbxSpaceWrite_slot (h : off < 0x400) (idle : s.rd (R.MBX_STAT_BUSY m) = 0) :
    s.mbxSpaceWrite m off v = s.setRaw (mbxBase m + off) v := by
  simp [State.mbxSpaceWrite, h, State.isSet, idle]

theorem mbxSpaceWrite_locked (h : off < 0x400) (busy : s.rd (R.MBX_STAT_BUSY m) = 1) :
    s.mbxSpaceWrite m off v = s.mbxErr m R.MBX_ERR_SLOT_WRITE := by
  simp [State.mbxSpaceWrite, h, State.isSet, busy]

theorem mbxSpaceWrite_event (h : 0x800 ≤ off ∧ off < 0x880) :
    s.mbxSpaceWrite m off v = (s.setRaw (mbxBase m + off) (s.raw (mbxBase m + off) &&& ~~~ v)).evtRefresh m := by
  simp [State.mbxSpaceWrite, h, show ¬ off < 0x400 by omega]

theorem mbxSpaceWrite_entry (e : Fin 8) :
    s.mbxSpaceWrite m (0x880 + 32 * e) v = s.entryWrite m e (bitsOf v 31 24) := by
  have range : 0x880 ≤ 0x880 + 32 * e.val ∧ 0x880 + 32 * e.val < 0x980 ∧ (0x880 + 32 * e.val) % 32 = 0 := by omega
  have index : (0x880 + 32 * e.val - 0x880) / 32 = e.val := by omega
  unfold State.mbxSpaceWrite
  dsimp only
  rw [if_neg (by omega), if_neg (by omega), if_pos range, index]

/-- The words from the response slot on that no write changes. -/
def ignoredWrite (off : Nat) (v : Word) : Prop :=
  (0x400 ≤ off ∧ off < 0x800) ∨ (0x980 ≤ off ∧ off < 0xC00) ∨ (0x880 ≤ off ∧ off < 0x980 ∧ (off % 32 ≠ 0 ∨ bitsOf v 31 24 ≠ 0))

theorem mbxSpaceWrite_ignored (h : ignoredWrite off v) : s.mbxSpaceWrite m off v = s := by
  unfold ignoredWrite at h
  unfold State.mbxSpaceWrite
  dsimp only
  rw [if_neg (by omega), if_neg (by omega)]
  by_cases entry : 0x880 ≤ off ∧ off < 0x980 ∧ off % 32 = 0
  · have valid : bitsOf v 31 24 ≠ 0 := by omega
    rw [if_pos entry, State.entryWrite]
    simp [valid]
  · rw [if_neg entry]

theorem entryWrite_invalid {m e w : Nat} (h : s.rd ⟨longEntry m e, 31, 24⟩ = 0) : s.entryWrite m e w = s := by
  simp only [State.rd] at h
  simp [State.entryWrite, h]

/-- A valid entry freed (R53): its VALID byte, its place in the mailbox and LONG_OPEN. -/
theorem entryWrite_valid {m e : Nat} (h : s.rd ⟨longEntry m e, 31, 24⟩ ≠ 0) : s.entryWrite m e 0 =
    ((s.wr ⟨longEntry m e, 31, 24⟩ 0).modMbx m fun b => { b with longUsed := updAt b.longUsed e fun _ => false }).refreshLong m := by
  simp only [State.rd] at h
  simp [State.entryWrite, h]

theorem refreshLong_keeps (h : KeepsBut q s t D) {m : Nat} (hm : R.MBX_STAT_LONG_OPEN m ∈ D) : KeepsBut q s (t.refreshLong m) D :=
  h.wr _ _ hm (by simp [Fld.ok, R.MBX_STAT_LONG_OPEN])

theorem refreshLong_rd {m : Nat} {f : Fld} (h : f.addr ≠ R.MBX_STAT m) : (t.refreshLong m).rd f = t.rd f :=
  rd_setRaw_ne _ _ _ _ (Ne.symm h)

/-- Freeing an entry, valid or not: its VALID byte is 0, and nothing else but LONG_OPEN is written. -/
theorem entryWrite_spec (s : State) (m : Fin 17) (e : Fin 8) : (s.entryWrite m e 0).rd ⟨longEntry m e, 31, 24⟩ = 0 ∧
    KeepsQuiet s (s.entryWrite m e 0) [⟨longEntry m e, 31, 24⟩, R.MBX_STAT_LONG_OPEN m] := by
  by_cases valid : s.rd ⟨longEntry m e, 31, 24⟩ = 0
  · rw [entryWrite_invalid valid]
    exact ⟨valid, KeepsBut.refl⟩
  · have ok : (⟨longEntry m e, 31, 24⟩ : Fld).ok := by simp [Fld.ok]
    rw [entryWrite_valid valid]
    refine ⟨?_, refreshLong_keeps ((KeepsBut.refl.wr _ _ (by simp) ok).onMbxs _) (by simp)⟩
    rw [refreshLong_rd (by simp only [longEntry, mbxBase, R.MBX_STAT]; omega), State.modMbx, State.onMbxs_rd, rd_wr _ _ _ ok,
      Nat.zero_mod]

/-- The place of a freed entry is free. -/
theorem entryWrite_frees (s : State) (m e : Nat) (valid : s.rd ⟨longEntry m e, 31, 24⟩ ≠ 0) :
    ((s.entryWrite m e 0).mbxs.getD m {}).longUsed.getD e false = false := by
  have mbxs : (s.entryWrite m e 0).mbxs = updAt s.mbxs m fun b => { b with longUsed := updAt b.longUsed e fun _ => false } := by
    rw [entryWrite_valid valid]; rfl
  rw [mbxs, getD_updAt]
  by_cases here : m < s.mbxs.length
  · rw [if_pos ⟨rfl, here⟩]
    show (updAt _ e _).getD e false = false
    rw [getD_updAt]
    by_cases there : e < (s.mbxs.getD m {}).longUsed.length
    · rw [if_pos ⟨rfl, there⟩]
    · rw [if_neg fun h => there h.2]
      exact getD_past (by omega) _
  · rw [if_neg fun h => here h.2, getD_past (l := s.mbxs) (by omega)]
    exact getD_replicate_default 8 e false

theorem tailWrite_spec (s : State) (m v : Nat) :
    (s.tailWrite m v).rd (R.MBX_EVT_TAIL_IDX m) = (if v % 32 ≤ 19 then v % 32 else s.rd (R.MBX_EVT_TAIL_IDX m)) ∧
    KeepsQuiet s (s.tailWrite m v) [R.MBX_EVT_TAIL_IDX m] := by
  have ok : (R.MBX_EVT_TAIL_IDX m).ok := by simp [Fld.ok, R.MBX_EVT_TAIL_IDX]
  by_cases far : v % 32 > 19
  · rw [State.tailWrite, if_pos far, if_neg (by omega)]
    exact ⟨rfl, KeepsBut.refl⟩
  · rw [State.tailWrite, if_neg far, if_pos (by omega), rd_wr _ _ _ ok]
    exact ⟨Nat.mod_mod _ _, KeepsBut.refl.wr _ _ (by simp) ok⟩

end

theorem mailboxEntriesFreeAndAdvance : MailboxEntriesFreeAndAdvance := by
  intro s a m e v
  have free (admitted : s.regAdmits a (longEntry m e) true = true) :
      exec (.longEntryFree a m e) s = s.finish ((s.respondBus 0).entryWrite m e 0) := by
    have page : longEntry m e = mbxBase m + (0x880 + 32 * e) := Nat.add_assoc _ _ _
    rw [page] at admitted
    refine congrArg s.finish ?_
    rw [page]
    exact access_mbxPage (by omega) admitted
  have tail (admitted : s.regAdmits a (R.MBX_EVT_TAIL m) true = true) :
      exec (.evtTailWrite a m v) s = s.finish ((s.respondBus 0).tailWrite m v) := by
    have page : R.MBX_EVT_TAIL m = mbxBase m + 0xC10 := by simp only [R.MBX_EVT_TAIL, mbxBase]; omega
    rw [page] at admitted
    refine congrArg s.finish ?_
    rw [page]
    exact access_mbxPage (by decide) admitted
  refine ⟨fun admitted => ⟨fun valid => ?_, fun invalid => ?_⟩, fun admitted => ?_⟩
  · obtain ⟨byte, frame⟩ := entryWrite_spec (s.respondBus 0) m e
    exact answers_finish (free admitted) ⟨by rw [finished_rd]; exact byte, entryWrite_frees (s.respondBus 0) m e valid, frame.finished⟩
  · refine answers_finish (free admitted) ?_
    rw [entryWrite_invalid (s := s.respondBus 0) invalid]
    exact (KeepsBut.refl.respondBus 0).finished
  · obtain ⟨index, frame⟩ := tailWrite_spec (s.respondBus 0) m v
    exact answers_finish (tail admitted) ⟨by rw [finished_rd]; exact index, frame.finished⟩

theorem mailboxesLockAtTheRing : MailboxesLockAtTheRing := by
  intro s a m v admitted w flags
  have slot {off : Nat} (h : off < 0xC00) (al : off % 4 = 0) : exec (w off) s = s.finish ((s.respondBus 0).mbxSpaceWrite m off v) :=
    exec_slotWrite h al admitted
  have same : KeepsQuiet s (s.respondBus 0) [] := KeepsBut.refl.respondBus 0
  have flagged {f : Nat → Fld} {i : Instr} (row : exec i s = s.finish ((s.respondBus 0).mbxErr m f)) (hf : (f m).addr = R.MBX_ERR m)
      (bit : (f m).lo = (f m).hi) (ok : (f m).ok) : flags i (f m) := by
    obtain ⟨set, raised, length, frame⟩ := mbxErr_spec (s := s.respondBus 0) m hf bit ok
    exact answers_finish row ⟨by rw [finished_rd]; exact set, raised, length, frame.finished⟩
  refine ⟨?events, ?ignored, ?entries, ?slots, ?silent, ?ring⟩
  case events =>
    intro k
    have row := slot (off := 0x800 + 4 * k) (by omega) (by omega)
    rw [mbxSpaceWrite_event (by omega)] at row
    have word : mbxBase m + (0x800 + 4 * k.val) = mbxBase m + 0x800 + 4 * k := by omega
    refine answers_finish row ⟨?_, ?_⟩
    · rw [finished_raw, State.evtRefresh, State.wrB, raw_wr_ne _ _ _ _ (by simp only [R.MBX_STAT_EVT, R.MBX_STAT, mbxBase]; omega), word,
        raw_setRaw_self]
      rfl
    · rw [word]
      exact ((KeepsBut.setRaw (KeepsBut.refl.respondBus 0) _ _ (by simp)).wr _ _ (by simp) (by simp [Fld.ok, R.MBX_STAT_EVT])).finished
  case ignored =>
    intro off al range
    have row := slot (off := off) (by omega) al
    rw [mbxSpaceWrite_ignored range] at row
    exact answers_finish row same.finished
  case entries =>
    intro e zero
    have row := slot (off := 0x880 + 32 * e) (by omega) (by omega)
    rw [mbxSpaceWrite_entry, zero] at row
    obtain ⟨byte, frame⟩ := entryWrite_spec (s.respondBus 0) m e
    exact answers_finish row ⟨by rw [finished_rd]; exact byte, frame.finished⟩
  case slots =>
    intro off al low
    have row := slot (off := off) (by omega) al
    refine ⟨fun idle => ?_, fun busy => ?_⟩
    · rw [mbxSpaceWrite_slot (s := s.respondBus 0) low idle] at row
      exact answers_finish row ⟨by rw [finished_raw, raw_setRaw_self], (KeepsBut.setRaw (KeepsBut.refl.respondBus 0) _ _ (by simp)).finished⟩
    · rw [mbxSpaceWrite_locked (s := s.respondBus 0) low busy] at row
      exact flagged row rfl rfl (by simp [Fld.ok, R.MBX_ERR_SLOT_WRITE])
  case silent =>
    intro silent
    have row := exec_doorbell (v := v) admitted
    rw [silent] at row
    exact answers_finish row same.finished
  case ring =>
    intro ring
    have row := exec_doorbell (v := v) admitted
    rw [if_pos ring] at row
    refine ⟨fun busy => ?_, fun idle len known => ?_⟩
    · have locked : (s.respondBus 0).ringBell a m = (s.respondBus 0).mbxErr m R.MBX_ERR_DB_WHILE_BUSY := by
        have set : (s.respondBus 0).isSet (R.MBX_STAT_BUSY m) = true := by
          rw [isSet_iff]; show s.rd _ ≠ 0; omega
        simp only [State.ringBell, set, if_true]
      rw [locked] at row
      exact flagged row rfl rfl (by simp [Fld.ok, R.MBX_ERR_DB_WHILE_BUSY])
    · obtain ⟨o, named⟩ := Option.ne_none_iff_exists'.mp known
      have bell : (s.respondBus 0).ringBell a m = (s.respondBus 0).rung a m := by
        rw [ringBell_free (s := s.respondBus 0) idle len]
        have named' : opOf ((s.respondBus 0).slotCtx m).opcode = some o := named
        rw [named']
      rw [bell] at row
      have slotted : (s.finished ((s.respondBus 0).rung a m)).slotCtx m = ((s.respondBus 0).rung a m).slotCtx m :=
        slotCtx_congr fun b _ _ => finished_raw _ _ b
      exact answers_finish row ⟨by rw [finished_rd]; exact rung_busy _ a m, by rw [finished_rd]; exact rung_done _ a m,
        (rung_mbx (s := s.respondBus 0) (a := a) len m).2, slotted.trans (rung_slotCtx (s := s.respondBus 0) len m),
        (rung_keeps (s.respondBus 0) a m).finished⟩

/-- Settles O16: what each word of a mailbox's page takes, and the completion entries with the event tail. -/
theorem mailboxesLockAndFree : Obligations.MailboxesLockAndFree := ⟨mailboxesLockAtTheRing, mailboxEntriesFreeAndAdvance⟩

end Sys2Proof.Machine

namespace Sys2Proof.Machine
section
variable {s t u : State} {i : Instr} {o : OpSpec} {m : Fin 17} {code st d : Nat} {res : List Byte} {W : List Fld} {p : State → Prop}

/-! A command that is taken (R56 steps 8 to 10): what its handler answers is the response. -/

/-- Fields that share no bit with what an answer reads: generation, doorbell and frame count. -/
def OffAnswer (m : Nat) (W : List Fld) : Prop :=
  ∀ g ∈ W, g.apart (R.MBX_STAT_GEN m) ∧ g.apart (R.MBX_STAT_BUSY m) ∧ g.apart ⟨R.FRM_NUM_LO, 31, 0⟩

/-- An effect that keeps off what an answer reads leaves generation, doorbell and frame count. -/
theorem OffAnswer.reads (off : OffAnswer m W) (frame : KeepsQuiet s u W) (busy : s.rd (R.MBX_STAT_BUSY m) = 1) :
    u.gen m = s.gen m ∧ u.rd (R.MBX_STAT_BUSY m) ≠ 0 ∧ u.frame = s.frame := by
  refine ⟨frame.1 _ (gen_ok m) (fun g hg => (off g hg).1) id, ?_, ?_⟩
  · rw [frame.1 _ (busy_ok m) (fun g hg => (off g hg).2.1) id, busy]; decide
  · rw [frame_eq_rd, frame_eq_rd]; exact frame.1 _ ⟨by decide, by decide⟩ (fun g hg => (off g hg).2.2) id

theorem Undisturbed.staged (h : Undisturbed u t) : t.staged = u.staged := by rw [h]
theorem Undisturbed.stagedTab (h : Undisturbed u t) : t.stagedTab = u.stagedTab := by rw [h]
theorem Undisturbed.commits (h : Undisturbed u t) : t.commits = u.commits := by rw [h]
theorem Undisturbed.mbxs (h : Undisturbed u t) : t.mbxs = u.mbxs := by rw [h]
theorem Undisturbed.longs (h : Undisturbed u t) : t.longs = u.longs := by rw [h]
theorem Undisturbed.svcBuf (h : Undisturbed u t) : t.svcBuf = u.svcBuf := by rw [h]
theorem Undisturbed.parts (h : Undisturbed u t) : t.parts = u.parts := by rw [h]
theorem Undisturbed.part (h : Undisturbed u t) (k : Nat) : t.part k = u.part k := by rw [h]; rfl

theorem replied_quiet {r : Reply} (hi : r.st ≠ stInternal) (hb : r.st ≠ stBusy) :
    s.replied m r = s.finished (r.s.respond (s.slotCtx m) r.st r.detail r.result) := by
  rw [State.replied, replyEvents_none _ _ _ _ hi hb]

/-- What an answer without events leaves of a field that it does not write. -/
theorem replied_rd_quiet {r : Reply} (hl : r.result.length ≤ 1008) (hi : r.st ≠ stInternal) (hb : r.st ≠ stBusy) {f : Fld}
    (ok : f.ok) (apart : ∀ g ∈ respFlds m, g.apart f) (slot : ¬ respWord m f.addr) : (s.replied m r).rd f = r.s.rd f := by
  rw [replied_quiet hi hb, finished_rd]
  exact (respond_keeps r.s (s.slotCtx m) r.st r.detail r.result hl).1 f ok apart slot

/-- The handler's outcome is the command's, but that a LONG command is taken up. -/
theorem taken_runOp (taken : Taken s m o code) {r : Reply} (body : o.body (s.slotCtx m) s = r) (ok : r.st = stOk) :
    s.runOp o (s.slotCtx m) .done = r := by
  obtain ⟨-, -, -, head, clean, granted, long⟩ := taken
  rw [runOp_handler s o _ head clean granted long, body, if_neg (by rw [ok]; decide), if_pos (.inl ok)]

theorem taken_refuses (taken : Taken s m o code) (row : RhapolRow i o m .done) (hc : code = o.opcode) (keep : o.keep = false)
    (body : o.body (s.slotCtx m) s = Reply.err s st d) (status : st ∉ [stOk, stAccepted, stInternal, stBusy]) : Refuses i s m st d := by
  simp only [List.mem_cons, List.not_mem_nil, or_false, not_or] at status
  obtain ⟨nok, nacc, nint, nbusy⟩ := status
  obtain ⟨busy, turn, opcode, head, clean, granted, long⟩ := taken
  refine row_refuses row busy (opcode.trans hc) turn ?_ nint fun h => absurd h nbusy
  rw [runOp_handler s o _ head clean granted long, body, if_neg (show (Reply.err s st d).st ≠ stAccepted from nacc),
    if_neg (by simp [Reply.err, nok, keep])]
  rfl

/-- A handler that answers OK: its result is the response, and its effect stands. -/
theorem taken_answers (taken : Taken s m o code) (row : RhapolRow i o m .done) (hc : code = o.opcode)
    (body : o.body (s.slotCtx m) s = Reply.ok u res) (len : res.length ≤ 1008) (frame : KeepsQuiet s u W) (off : OffAnswer m W) :
    Answers i s fun t => Response s t m stOk 0 res ∧ KeepsBut (respWord m) s t (respFlds m ++ W) ∧ Undisturbed u t ∧
      ∀ f : Fld, f.ok → (∀ g ∈ respFlds m, g.apart f) → ¬ respWord m f.addr → t.rd f = u.rd f := by
  obtain ⟨gen, held, count⟩ := off.reads frame taken.1
  refine ⟨_, row_replies row taken.1 (taken.2.2.1.trans hc) taken.2.1 (taken_runOp taken body rfl) gen held,
    replied_response (r := Reply.ok u res) len count, ?_, replied_undisturbed s m (Reply.ok u res),
    fun f ok apart slot => replied_rd_quiet (r := Reply.ok u res) len (show stOk ≠ stInternal by decide) (show stOk ≠ stBusy by decide) ok apart slot⟩
  exact (replied_keepsQuiet (r := Reply.ok u res) len frame (show stOk ≠ stInternal by decide) (fun h => absurd h (show stOk ≠ stBusy by decide))).weaken
    (by simp) (by simp)

theorem taken_sets (taken : Taken s m o code) (row : RhapolRow i o m .done) (hc : code = o.opcode)
    (body : o.body (s.slotCtx m) s = Reply.ok u res) (len : res.length ≤ 1008) (frame : KeepsQuiet s u W) (off : OffAnswer m W)
    (effect : ∀ t, Undisturbed u t → (∀ f : Fld, f.ok → (∀ g ∈ respFlds m, g.apart f) → ¬ respWord m f.addr → t.rd f = u.rd f) → p t) :
    Sets i s m res W p := by
  obtain ⟨t, next, response, keeps, same, reads⟩ := taken_answers taken row hc body len frame off
  exact ⟨t, next, response, effect t same reads, keeps⟩

/-- A handler that answers OK with a result and changes nothing. -/
theorem taken_reads (taken : Taken s m o code) (row : RhapolRow i o m .done) (hc : code = o.opcode)
    (body : o.body (s.slotCtx m) s = Reply.ok s res) (len : res.length ≤ 1008) : Reads i s m res := by
  obtain ⟨t, next, response, keeps, -⟩ := taken_answers (W := []) taken row hc body len KeepsBut.refl (by simp [OffAnswer])
  exact ⟨t, next, response, by simpa using keeps⟩

end

/-! LONG commands (R53). -/

section
variable {s : State} {i : Instr} {o : OpSpec} {m : Fin 17} {code : Nat}

theorem longTake_full {c : Ctx} {r : Reply} (h : 8 ≤ s.longOpen c.mbx) : s.longTake c r = Reply.err s stBusy 8 := by
  simp [State.longTake, h]

/-- The state with a LONG command taken up in an entry. -/
def State.tookLong (s : State) (m e : Nat) : State :=
  ((s.modMbx m fun b => { b with longUsed := updAt b.longUsed e fun _ => true }).onLongs
    fun l => l ++ [(s.slotCtx m).toLong (some e)]).refreshLong m

theorem longTake_entry {e : Nat} (h : s.longOpen m < 8)
    (free : (s.mbxs.getD m {}).longUsed.findIdx? (fun b => !b) = some e) :
    s.longTake (s.slotCtx m) (Reply.accepted s) = ⟨stAccepted, e, [], s.tookLong m e⟩ := by
  have noqueue : (s.slotCtx m).queue = none := rfl
  unfold State.longTake
  rw [slotCtx_mbx, if_neg (by omega), noqueue, free]
  rfl

theorem tookLong_keeps (s : State) (m e : Nat) : KeepsQuiet s (s.tookLong m e) [R.MBX_STAT_LONG_OPEN m] :=
  refreshLong_keeps ((KeepsBut.refl.onMbxs _).onLongs _) (by simp)

theorem tookLong_used {e : Nat} (len : s.mbxs.length = 17) (free : (s.mbxs.getD m {}).longUsed.findIdx? (fun b => !b) = some e) :
    ((s.tookLong m e).mbxs.getD m {}).longUsed.getD e false = true := by
  have mbxs : (s.tookLong m e).mbxs = updAt s.mbxs m fun b => { b with longUsed := updAt b.longUsed e fun _ => true } := rfl
  have there : e < (s.mbxs.getD m {}).longUsed.length := (List.findIdx?_eq_some_iff_getElem.mp free).1
  rw [mbxs, getD_updAt, if_pos ⟨rfl, by omega⟩]
  show (updAt _ e _).getD e false = true
  rw [getD_updAt, if_pos ⟨rfl, there⟩]

theorem taken_accepts (taken : Taken s m o code) (row : RhapolRow i o m .done) (hc : code = o.opcode)
    (body : o.body (s.slotCtx m) s = Reply.accepted s) : Accepts i s m := by
  obtain ⟨busy, turn, opcode, head, clean, granted, long⟩ := taken
  have taken : s.runOp o (s.slotCtx m) .done = s.longTake (s.slotCtx m) (Reply.accepted s) := by
    rw [runOp_handler s o _ head clean granted long, body]
    exact if_pos rfl
  refine ⟨fun full => ?_, fun room len e free _ => ?_⟩
  · refine row_refuses row busy (opcode.trans hc) turn (taken.trans (longTake_full full)) (by decide) fun _ => by decide
  · have frame := tookLong_keeps s m e
    have off : OffAnswer m [R.MBX_STAT_LONG_OPEN m] := by
      simp [OffAnswer, Fld.apart, R.MBX_STAT_LONG_OPEN, R.MBX_STAT_GEN, R.MBX_STAT_BUSY, R.MBX_STAT, R.FRM_NUM_LO]
      omega
    obtain ⟨gen, held, count⟩ := off.reads frame busy
    have same := replied_undisturbed s m ⟨stAccepted, e, [], s.tookLong m e⟩
    refine ⟨_, row_replies row busy (opcode.trans hc) turn (taken.trans (longTake_entry room free)) gen held,
      replied_response (r := ⟨stAccepted, e, [], s.tookLong m e⟩) (Nat.zero_le _) count, same.longs, ?_, ?_⟩
    · rw [same.mbxs]; exact tookLong_used len free
    · exact (replied_keepsQuiet (r := ⟨stAccepted, e, [], s.tookLong m e⟩) (Nat.zero_le _) frame (show stAccepted ≠ stInternal by decide)
        fun h => absurd h (show stAccepted ≠ stBusy by decide)).weaken (by simp) (by simp [or_comm])

end
end Sys2Proof.Machine

namespace Sys2Proof

/-! Sorted numbers. -/

@[simp] theorem mem_insNat (x y : Nat) (l : List Nat) : y ∈ insNat x l ↔ y = x ∨ y ∈ l := by
  induction l with
  | nil => simp [insNat]
  | cons z t ih =>
    simp only [insNat]
    split
    · simp
    · simp only [List.mem_cons, ih, or_left_comm]

@[simp] theorem mem_sortNat (y : Nat) (l : List Nat) : y ∈ sortNat l ↔ y ∈ l := by
  induction l with
  | nil => simp [sortNat]
  | cons x t ih =>
    have step : sortNat (x :: t) = insNat x (sortNat t) := rfl
    rw [step, mem_insNat, ih, List.mem_cons]

end Sys2Proof

namespace Sys2Proof.Machine
section
variable {s t u : State} {m : Nat} {gs named : List Nat}

/-! A COMMIT accepted (R64, R67). -/

theorem filter_contains_congr (l : List (Nat × Word)) (h : ∀ g, g ∈ gs ↔ g ∈ named) :
    l.filter (fun e => !gs.contains (groupOf e.1)) = l.filter fun e => !named.contains (groupOf e.1) := by
  have same : ∀ g, gs.contains g = named.contains g := fun g => by
    rw [Bool.eq_iff_iff, List.contains_iff_mem, List.contains_iff_mem, h]
  simp only [same]

theorem discard_staged (s : State) (gs : List Nat) : (s.discard gs).staged = s.staged.filter fun e => !gs.contains (groupOf e.1) := rfl

theorem discard_stagedTab (s : State) (gs : List Nat) : (s.discard gs).stagedTab = if 0x0560 ∈ gs then [] else s.stagedTab := by
  show (if gs.contains 0x0560 then [] else s.stagedTab) = _
  simp only [List.contains_iff_mem]

theorem discard_keeps (s : State) (gs : List Nat) : KeepsQuiet s (s.discard gs) [] := (KeepsBut.refl.onStaged _).onStagedTab _

/-- The groups of a COMMIT: those named that hold staged values, in order. -/
def State.commitGroups (s : State) (groups : List Nat) : List Nat := sortNat (groups.eraseDups.filter s.hasStaged)

theorem mem_commitGroups (s : State) (groups : List Nat) (g : Nat) : g ∈ s.commitGroups groups ↔ g ∈ groups.filter s.hasStaged := by
  simp [State.commitGroups, List.mem_eraseDups]

/-- A COMMIT of groups without staged values changes nothing. -/
theorem acceptCommit_none (h : gs.filter s.hasStaged = []) : s.acceptCommit m gs = s := by
  have none : s.commitGroups gs = [] := List.eq_nil_iff_forall_not_mem.mpr fun g hg => by
    rw [mem_commitGroups, h] at hg; exact List.not_mem_nil hg
  unfold State.commitGroups at none
  simp [State.acceptCommit, none]

/-- The COMMIT that an issuer's groups make (R64). -/
def State.commitOf (s : State) (m : Nat) (gs : List Nat) : Commit where
  issuer := m
  groups := s.commitGroups gs
  snap := (s.commitGroups gs).flatMap s.stagedOf
  tab := if (s.commitGroups gs).contains 0x0560 then s.stagedTab else []
  timely := decide (s.inFrame ≤ guardStart)
  due := s.rd64 R.FRM_NUM_LO R.FRM_NUM_HI + 1
  waitUntil := if (s.commitGroups gs).all fun g => match groupLink g with | some l => s.linkOk l | none => true then none
    else some (s.now + 1000000)

theorem acceptCommit_some (h : gs.filter s.hasStaged ≠ []) : s.acceptCommit m gs =
    (((s.discard (s.commitGroups gs)).onCommits (· ++ [s.commitOf m gs])).wr (R.MBX_CSTAT_PENDING m) 1).wr (R.MBX_CSTAT_REJECTED m) 0 := by
  have some : s.commitGroups gs ≠ [] := fun none => h (List.eq_nil_iff_forall_not_mem.mpr fun g hg => by
    rw [← mem_commitGroups, none] at hg; exact List.not_mem_nil hg)
  have accepted : (s.commitGroups gs).isEmpty = false := by simpa using some
  unfold State.acceptCommit
  rw [← State.commitGroups]
  simp only [accepted, Bool.false_eq_true, if_false]
  rfl

theorem pending_ok (m : Nat) : (R.MBX_CSTAT_PENDING m).ok := by simp [Fld.ok, R.MBX_CSTAT_PENDING]
theorem rejected_ok (m : Nat) : (R.MBX_CSTAT_REJECTED m).ok := by simp [Fld.ok, R.MBX_CSTAT_REJECTED]

/-- A COMMIT accepted: the snapshot is appended, its values leave the staged ones, and PENDING stands. -/
theorem acceptCommit_spec (h : gs.filter s.hasStaged ≠ []) :
    (∃ k, (s.acceptCommit m gs).commits = s.commits ++ [k] ∧ k.issuer = m ∧ k.instant = none ∧
      (∀ g, g ∈ k.groups ↔ g ∈ gs.filter s.hasStaged) ∧ ∀ e, e ∈ k.snap ↔ e ∈ s.staged ∧ groupOf e.1 ∈ gs.filter s.hasStaged) ∧
    (s.acceptCommit m gs).staged = s.staged.filter (fun e => !(gs.filter s.hasStaged).contains (groupOf e.1)) ∧
    (s.acceptCommit m gs).stagedTab = (if 0x0560 ∈ gs.filter s.hasStaged then [] else s.stagedTab) ∧
    (s.acceptCommit m gs).rd (R.MBX_CSTAT_PENDING m) = 1 ∧ (s.acceptCommit m gs).rd (R.MBX_CSTAT_REJECTED m) = 0 ∧
    KeepsQuiet s (s.acceptCommit m gs) [R.MBX_CSTAT_PENDING m, R.MBX_CSTAT_REJECTED m] := by
  have mem := mem_commitGroups s gs
  rw [acceptCommit_some h]
  refine ⟨⟨s.commitOf m gs, rfl, rfl, rfl, mem, fun e => ?_⟩, ?_, ?_, ?_, ?_, ?_⟩
  · simp only [State.commitOf, List.mem_flatMap, State.stagedOf, List.mem_filter (p := fun e : Nat × Word => decide (groupOf e.1 = _)),
      decide_eq_true_eq, mem]
    constructor
    · rintro ⟨g, hg, he, rfl⟩; exact ⟨he, hg⟩
    · rintro ⟨he, hg⟩; exact ⟨_, hg, he, rfl⟩
  · exact filter_contains_congr _ mem
  · exact (discard_stagedTab s _).trans (by simp only [mem])
  · have apart : (R.MBX_CSTAT_REJECTED m).apart (R.MBX_CSTAT_PENDING m) := by simp [Fld.apart, R.MBX_CSTAT_REJECTED, R.MBX_CSTAT_PENDING]
    rw [rd_wr_apart _ _ _ _ (rejected_ok m) (pending_ok m) apart, rd_wr _ _ _ (pending_ok m)]
    simp [R.MBX_CSTAT_PENDING]
  · rw [rd_wr _ _ _ (rejected_ok m), Nat.zero_mod]
  · exact (((discard_keeps s _).weaken (fun _ => id) (by simp)).onCommits _ |>.wr _ _ (by simp) (pending_ok m)).wr _ _ (by simp) (rejected_ok m)

end
end Sys2Proof.Machine

namespace Sys2Proof.Machine

/-! Partitions and subscriptions (R57, R75). -/

section
variable {s t u : State} {q : Part} {m e : Nat} {f : Part → Part}

theorem part_modPart (k : Nat) : (s.modPart m f).part k = if m = k ∧ k < s.parts.length then f (s.part k) else s.part k :=
  getD_updAt _ _ _ _ _

theorem parts_length_modPart : (s.modPart m f).parts.length = s.parts.length := by
  simp [State.modPart, updAt]

/-- One event of MANIFEST EVT at SYS_HELLO: subscribed to, when the partition may and has not yet. -/
def State.helloSub (q : Part) (m : Nat) (s : State) (e : Nat) : State :=
  if q.has offEvt e && s.maySubscribe m e && !((s.part m).subs.any fun x => x.1 = e) then s.modPart m fun q => q.subscribe e 2 else s

/-- Subscriptions added for a partition, and nothing else. -/
structure Subscribed (m : Nat) (s t : State) : Prop where
  only : t = { s with parts := t.parts }
  length : t.parts.length = s.parts.length
  granted : (t.part m).granted = (s.part m).granted
  requested : (t.part m).requested = (s.part m).requested
  kept : ∀ x ∈ (s.part m).subs, ∃ y ∈ (t.part m).subs, y.1 = x.1

theorem Subscribed.refl (m : Nat) (s : State) : Subscribed m s s := ⟨rfl, rfl, rfl, rfl, fun x hx => ⟨x, hx, rfl⟩⟩

theorem Subscribed.trans (h : Subscribed m s t) (k : Subscribed m t u) : Subscribed m s u where
  only := by rw [k.only, h.only]
  length := k.length.trans h.length
  granted := k.granted.trans h.granted
  requested := k.requested.trans h.requested
  kept x hx := by
    obtain ⟨y, hy, eq⟩ := h.kept x hx
    obtain ⟨z, hz, eq'⟩ := k.kept y hy
    exact ⟨z, hz, eq'.trans eq⟩

theorem subscribe_kept (q : Part) (e prio : Nat) : ∀ x ∈ q.subs, ∃ y ∈ (q.subscribe e prio).subs, y.1 = x.1 := by
  intro x hx
  by_cases h : x.1 = e
  · exact ⟨(e, prio), by simp [Part.subscribe], h.symm⟩
  · exact ⟨x, by simp [Part.subscribe, hx, h], rfl⟩

theorem subscribed_modPart (s : State) (m e prio : Nat) : Subscribed m s (s.modPart m fun q => q.subscribe e prio) where
  only := rfl
  length := parts_length_modPart
  granted := by rw [part_modPart]; split <;> rfl
  requested := by rw [part_modPart]; split <;> rfl
  kept := by
    rw [part_modPart]
    split
    · exact subscribe_kept _ e prio
    · exact fun x hx => ⟨x, hx, rfl⟩

theorem helloSub_subscribed (q : Part) (m : Nat) (s : State) (e : Nat) : Subscribed m s (s.helloSub q m e) := by
  unfold State.helloSub
  split
  · exact subscribed_modPart s m e 2
  · exact Subscribed.refl m s

/-- A public event that MANIFEST names is subscribed to. -/
theorem helloSub_pub (len : m < s.parts.length) (has : q.has offEvt e = true) (pub : evKind e = .pub) :
    ∃ x ∈ ((s.helloSub q m e).part m).subs, x.1 = e := by
  have may : s.maySubscribe m e = true := by simp [State.maySubscribe, pub]
  by_cases had : (s.part m).subs.any (fun x => x.1 = e) = true
  · have same : s.helloSub q m e = s := by simp [State.helloSub, had]
    rw [same]
    simpa using had
  · have new : s.helloSub q m e = s.modPart m fun q => q.subscribe e 2 := by
      rw [State.helloSub, has, may, Bool.eq_false_iff.mpr had]; rfl
    rw [new, part_modPart, if_pos ⟨rfl, len⟩]
    exact ⟨(e, 2), by simp [Part.subscribe], rfl⟩

theorem helloSubs_subscribed (q : Part) (m : Nat) (l : List Nat) (s : State) : Subscribed m s (s.each l (State.helloSub q m)) := by
  induction l generalizing s with
  | nil => exact Subscribed.refl m s
  | cons e l ih => exact (helloSub_subscribed q m s e).trans (ih _)

theorem helloSubs_pub (l : List Nat) (len : m < s.parts.length) (he : e ∈ l) (has : q.has offEvt e = true) (pub : evKind e = .pub) :
    ∃ x ∈ ((s.each l (State.helloSub q m)).part m).subs, x.1 = e := by
  induction l generalizing s with
  | nil => cases he
  | cons a l ih =>
    have step := helloSub_subscribed q m s a
    rcases List.mem_cons.mp he with rfl | he
    · obtain ⟨x, hx, eq⟩ := helloSub_pub len has pub
      obtain ⟨y, hy, eq'⟩ := (helloSubs_subscribed q m l _).kept x hx
      exact ⟨y, hy, eq'.trans eq⟩
    · exact ih (s := s.helloSub q m a) (by rw [step.length]; exact len) he

theorem Subscribed.regs (h : Subscribed m s t) : t.regs = s.regs := by rw [h.only]
theorem Subscribed.mem (h : Subscribed m s t) : t.mem = s.mem := by rw [h.only]
theorem Subscribed.pending (h : Subscribed m s t) : t.pending = s.pending := by rw [h.only]

/-- GRANTED fixed in a generation (R57, R506). -/
def State.fixGrant (s : State) (m req g : Nat) : State :=
  (s.modPart m fun q => { q with granted := some g, requested := req }).wr (R.MBX_STAT_HELLO m) 1

/-- GRANTED fixed and the subscriptions of MANIFEST EVT made (R57, R75). -/
def State.greeted (s : State) (m req g : Nat) : State := (s.fixGrant m req g).each (List.range 512) (State.helloSub (s.part m) m)

theorem hello_ok (m : Nat) : (R.MBX_STAT_HELLO m).ok := by simp [Fld.ok, R.MBX_STAT_HELLO]

theorem fixGrant_keeps (s : State) (m req g : Nat) : KeepsQuiet s (s.fixGrant m req g) [R.MBX_STAT_HELLO m] :=
  (KeepsBut.refl.onParts _).wr _ _ (by simp) (hello_ok m)

theorem fixGrant_hello (s : State) (m req g : Nat) : (s.fixGrant m req g).rd (R.MBX_STAT_HELLO m) = 1 := by
  rw [State.fixGrant, rd_wr _ _ _ (hello_ok m)]
  simp [R.MBX_STAT_HELLO]

theorem fixGrant_length (s : State) (m req g : Nat) : (s.fixGrant m req g).parts.length = s.parts.length := parts_length_modPart

theorem fixGrant_part (len : m < s.parts.length) (req g : Nat) :
    (s.fixGrant m req g).part m = { s.part m with granted := some g, requested := req } := by
  show (s.modPart m _).part m = _
  rw [part_modPart, if_pos ⟨rfl, len⟩]

theorem greeted_subscribed (s : State) (m req g : Nat) : Subscribed m (s.fixGrant m req g) (s.greeted m req g) :=
  helloSubs_subscribed _ _ _ _

theorem greeted_keeps (s : State) (m req g : Nat) : KeepsQuiet s (s.greeted m req g) [R.MBX_STAT_HELLO m] :=
  have subs := greeted_subscribed s m req g
  (fixGrant_keeps s m req g).same subs.regs subs.mem subs.pending

theorem greeted_hello (s : State) (m req g : Nat) : (s.greeted m req g).rd (R.MBX_STAT_HELLO m) = 1 := by
  simp only [State.rd, State.raw, (greeted_subscribed s m req g).regs]
  exact fixGrant_hello s m req g

theorem greeted_part (len : m < s.parts.length) (req g : Nat) :
    ((s.greeted m req g).part m).granted = some g ∧ ((s.greeted m req g).part m).requested = req := by
  have subs := greeted_subscribed s m req g
  have part := fixGrant_part len req g
  exact ⟨subs.granted.trans (by rw [part]), subs.requested.trans (by rw [part])⟩

theorem greeted_pub (len : m < s.parts.length) (req g : Nat) (he : e < 512) (has : (s.part m).has offEvt e = true)
    (pub : evKind e = .pub) : ∃ x ∈ ((s.greeted m req g).part m).subs, x.1 = e :=
  helloSubs_pub _ (by rw [fixGrant_length]; exact len) (List.mem_range.mpr he) has pub

end
end Sys2Proof.Machine

namespace Sys2Proof.Machine

/-! The system group (R57, R67, R68, R75, R506, R507). -/

section
variable {s : State} {m : Fin 17}

theorem ite_some_eq_none {α : Type} {p : Prop} [Decidable p] {a : α} {x : Option α} :
    (if p then some a else x) = none ↔ ¬ p ∧ x = none := by
  split <;> simp [*]

/-- A command that passes the header's checks passes step 3. -/
theorem step3_of_headBad {o : OpSpec} {c : Ctx} (h : s.headBad o c = none) : s.step3 o c = none := by
  cases step : s.step3 o c with
  | none => rfl
  | some d => simp only [State.headBad, step, ite_some_eq_none, reduceCtorEq, and_false] at h

/-- It then passes the requester check of its opcode. -/
theorem requester_of_headBad {o : OpSpec} {c : Ctx} (h : s.headBad o c = none) : o.requester s c = none := by
  have step := step3_of_headBad h
  simp only [State.step3, ite_some_eq_none] at step
  obtain ⟨-, -, -, -, -, -, requester⟩ := step
  exact requester

/-- Subscription commands come from partitions. -/
theorem partition_of_taken {o : OpSpec} {code : Nat} (taken : Taken s m o code) (req : o.requester = evtRequester) : m.val < 16 := by
  obtain ⟨-, -, -, head, -, -, -⟩ := taken
  have passed := requester_of_headBad head
  rw [req, evtRequester, ite_some_eq_none] at passed
  have : m.val ≠ 16 := passed.1
  omega

/-! SYS_HELLO. -/

/-- The result of SYS_HELLO: what is offered, requested and granted. -/
def helloResult (req g : Nat) : List Byte := leBytes 16 offered ++ leBytes 16 req ++ leBytes 16 g

theorem helloResult_length (req g : Nat) : (helloResult req g).length ≤ 1008 := by simp [helloResult, leBytes_length]

theorem offAnswer_hello (m : Nat) : OffAnswer m [R.MBX_STAT_HELLO m] := by
  simp [OffAnswer, Fld.apart, R.MBX_STAT_HELLO, R.MBX_STAT_GEN, R.MBX_STAT_BUSY, R.MBX_STAT, R.FRM_NUM_LO]
  omega

theorem opSysHello_partition {c : Ctx} (hm : c.mbx < 16) : opSysHello.body c s = match (s.part c.mbx).granted with
    | some g => ⟨if c.arg 0 16 = (s.part c.mbx).requested then stOk else stConflict, 0, helloResult (s.part c.mbx).requested g, s⟩
    | none => Reply.ok (s.greeted c.mbx (c.arg 0 16) ((offered &&& c.arg 0 16 &&& (s.part c.mbx).permitted) ||| 2 ^ 64))
        (helloResult (c.arg 0 16) ((offered &&& c.arg 0 16 &&& (s.part c.mbx).permitted) ||| 2 ^ 64)) := by
  have part : c.mbx ≠ forester := by unfold forester; omega
  simp only [opSysHello, part, if_false]
  rfl

theorem sysHello_first (taken : Taken s m opSysHello 0x0101) (hm : m.val < 16) (len : s.parts.length = 16) (req g : Nat)
    (hreq : req = (s.slotCtx m).arg 0 16) (hg : g = (offered &&& req &&& (s.part m).permitted) ||| 2 ^ 64)
    (fresh : (s.part m).granted = none) :
    Sets (.sysHello m .done) s m (helloResult req g) [R.MBX_STAT_HELLO m] fun t =>
      t.rd (R.MBX_STAT_HELLO m) = 1 ∧ (t.part m).granted = some g ∧ (t.part m).requested = req ∧
      ∀ e, e < 512 → (s.part m).has offEvt e = true → evKind e = .pub → ∃ x ∈ (t.part m).subs, x.1 = e := by
  have here : m.val < s.parts.length := by omega
  have body : opSysHello.body (s.slotCtx m) s = Reply.ok (s.greeted m req g) (helloResult req g) := by
    rw [opSysHello_partition hm, slotCtx_mbx, fresh, hg, hreq]
  refine taken_sets taken (by simp [RhapolRow]) rfl body (helloResult_length req g) (greeted_keeps s m req g) (offAnswer_hello m) ?_
  intro t same reads
  obtain ⟨granted, requested⟩ := greeted_part here req g
  simp only [same.part]
  refine ⟨(reads _ (hello_ok m) ?_ ?_).trans (greeted_hello s m req g), granted, requested, fun e he has pub => greeted_pub here req g he has pub⟩
  · simp [respFlds, Fld.apart, R.MBX_STAT_HELLO, R.MBX_STAT_BUSY, R.MBX_STAT_DONE, R.MBX_STAT_RESP_TAG]
  · simp only [respWord, R.MBX_STAT_HELLO, R.MBX_STAT, mbxBase]; omega

theorem sysHello_again (taken : Taken s m opSysHello 0x0101) (hm : m.val < 16) {g : Nat} (held : (s.part m).granted = some g)
    (same : (s.slotCtx m).arg 0 16 = (s.part m).requested) : Reads (.sysHello m .done) s m (helloResult (s.part m).requested g) := by
  have body : opSysHello.body (s.slotCtx m) s = Reply.ok s (helloResult (s.part m).requested g) := by
    rw [opSysHello_partition hm, slotCtx_mbx, held]
    simp only [same, if_true]
    rfl
  exact taken_reads taken (by simp [RhapolRow]) rfl body (helloResult_length _ g)

theorem sysHello_conflict (taken : Taken s m opSysHello 0x0101) (hm : m.val < 16) {g : Nat} (held : (s.part m).granted = some g)
    (other : (s.slotCtx m).arg 0 16 ≠ (s.part m).requested) : Answers (.sysHello m .done) s fun t =>
      Response s t m stConflict 0 (helloResult (s.part m).requested g) ∧ t.parts = s.parts ∧ KeepsBut (respWord m) s t (respFlds m) := by
  have row : RhapolRow (.sysHello m .done) opSysHello m .done := by simp [RhapolRow]
  let r : Reply := ⟨stConflict, 0, helloResult (s.part m).requested g, s⟩
  have body : opSysHello.body (s.slotCtx m) s = r := by
    rw [opSysHello_partition hm, slotCtx_mbx, held]
    simp only [other, if_false]
    rfl
  obtain ⟨busy, turn, opcode, head, clean, granted, long⟩ := taken
  have outcome : s.runOp opSysHello (s.slotCtx m) .done = r := by
    rw [runOp_handler s _ _ head clean granted long, body]
    rfl
  refine ⟨_, row_replies row busy opcode turn outcome rfl (by show s.rd _ ≠ 0; rw [busy]; decide),
    replied_response (r := r) (helloResult_length _ g) rfl, (replied_undisturbed s m r).parts, ?_⟩
  exact (replied_keepsQuiet (q := fun _ => False) (D := []) (r := r) (helloResult_length _ g) KeepsBut.refl (show stConflict ≠ stInternal by decide)
    fun h => absurd h (show stConflict ≠ stBusy by decide)).weaken (by simp) (by simp)

theorem sysHello_forester (taken : Taken s m opSysHello 0x0101) (hm : m.val = 16) :
    Reads (.sysHello m .done) s m (helloResult ((s.slotCtx m).arg 0 16)
      (match (s.slotCtx m).caller with | some p => ((s.part p).granted).getD 0 | none => offered)) := by
  have body : opSysHello.body (s.slotCtx m) s = Reply.ok s (helloResult ((s.slotCtx m).arg 0 16)
      (match (s.slotCtx m).caller with | some p => ((s.part p).granted).getD 0 | none => offered)) := by
    have box : (s.slotCtx m).mbx = forester := hm
    simp only [opSysHello, box, if_true]
    rfl
  exact taken_reads taken (by simp [RhapolRow]) rfl body (helloResult_length _ _)

/-! SYS_INFO. -/

theorem sysInfo_reads (taken : Taken s m opSysInfo 0x0102) :
    Reads (.sysInfo m .done) s m (orderingCode ++ leBytes 4 s.fwVersion ++ leBytes 4 (s.rd R.KSU_LCS_STATE) ++
      leBytes 1 (s.rd R.SUP_STRAP_ZONE) ++ leBytes 1 (s.rd R.SUP_MODE_MODE) ++ leBytes 2 (s.gen m)) :=
  taken_reads taken (by simp [RhapolRow]) rfl rfl (by simp [orderingCode, leBytes_length])

/-! SYS_COMMIT and SYS_DISCARD. -/

theorem offAnswer_cstat (m : Nat) : OffAnswer m [R.MBX_CSTAT_PENDING m, R.MBX_CSTAT_REJECTED m] := by
  simp [OffAnswer, Fld.apart, R.MBX_CSTAT_PENDING, R.MBX_CSTAT_REJECTED, R.MBX_CSTAT, R.MBX_STAT_GEN, R.MBX_STAT_BUSY, R.MBX_STAT, R.FRM_NUM_LO]
  omega

theorem offAnswer_nil (m : Nat) : OffAnswer m [] := by simp [OffAnswer]

theorem sysCommit_range (taken : Taken s m opSysCommit 0x0110) {d : Nat} (bad : (s.slotCtx m).groupRange = some d) :
    Refuses (.sysCommit m .done) s m stRange d :=
  taken_refuses taken (by simp [RhapolRow]) rfl rfl (by simp only [opSysCommit, bad, Reply.range, Reply.err]) (by decide)

theorem opSysCommit_accepts {c : Ctx} (fine : c.groupRange = none) :
    opSysCommit.body c s = Reply.ok (s.acceptCommit c.mbx (s.namedGroups c)) := by simp only [opSysCommit, fine]

theorem sysCommit_nothing (taken : Taken s m opSysCommit 0x0110) (fine : (s.slotCtx m).groupRange = none)
    (none : (s.namedGroups (s.slotCtx m)).filter s.hasStaged = []) :
    Sets (.sysCommit m .done) s m [] [] fun t => t.commits = s.commits ∧ t.staged = s.staged := by
  have body : opSysCommit.body (s.slotCtx m) s = Reply.ok s := by rw [opSysCommit_accepts fine, acceptCommit_none none]
  exact taken_sets taken (by simp [RhapolRow]) rfl body (Nat.zero_le _) KeepsBut.refl (offAnswer_nil m) fun t same _ => ⟨same.commits, same.staged⟩

theorem cstat_apart (m : Nat) {f : Fld} (hf : f.addr = R.MBX_CSTAT m) : (∀ g ∈ respFlds m, g.apart f) ∧ ¬ respWord m f.addr := by
  constructor
  · simp [respFlds, Fld.apart, hf, R.MBX_CSTAT, R.MBX_STAT_BUSY, R.MBX_STAT_DONE, R.MBX_STAT_RESP_TAG, R.MBX_STAT]
  · simp only [hf, respWord, R.MBX_CSTAT, mbxBase]; omega

theorem sysCommit_snapshot (taken : Taken s m opSysCommit 0x0110) (fine : (s.slotCtx m).groupRange = none) (named : List Nat)
    (eq : named = (s.namedGroups (s.slotCtx m)).filter s.hasStaged) (some : named ≠ []) :
    Sets (.sysCommit m .done) s m [] [R.MBX_CSTAT_PENDING m, R.MBX_CSTAT_REJECTED m] fun t =>
      (∃ k, t.commits = s.commits ++ [k] ∧ k.issuer = m.val ∧ k.instant = none ∧ (∀ g, g ∈ k.groups ↔ g ∈ named) ∧
        ∀ e, e ∈ k.snap ↔ e ∈ s.staged ∧ groupOf e.1 ∈ named) ∧
      t.staged = s.staged.filter (fun e => !named.contains (groupOf e.1)) ∧
      t.stagedTab = (if 0x0560 ∈ named then [] else s.stagedTab) ∧ t.rd (R.MBX_CSTAT_PENDING m) = 1 ∧
      t.rd (R.MBX_CSTAT_REJECTED m) = 0 := by
  subst eq
  obtain ⟨commit, staged, tab, pending, rejected, frame⟩ := acceptCommit_spec (m := m) some
  refine taken_sets taken (by simp [RhapolRow]) rfl (opSysCommit_accepts fine) (Nat.zero_le _) frame (offAnswer_cstat m) ?_
  intro t same reads
  have shown {f : Fld} (ok : f.ok) (hf : f.addr = R.MBX_CSTAT m) := reads f ok (cstat_apart m hf).1 (cstat_apart m hf).2
  rw [same.commits, same.staged, same.stagedTab, shown (pending_ok m) rfl, shown (rejected_ok m) rfl]
  exact ⟨commit, staged, tab, pending, rejected⟩

theorem sysDiscard_conflict (taken : Taken s m opSysDiscard 0x0111) (fine : (s.slotCtx m).groupRange = none) {g : Nat}
    (found : (s.namedGroups (s.slotCtx m)).find? (fun g => s.commits.any fun k => k.groups.contains g) = some g) :
    Refuses (.sysDiscard m .done) s m stConflict g :=
  taken_refuses taken (by simp [RhapolRow]) rfl rfl (by simp only [opSysDiscard, fine, found]) (by decide)

theorem sysDiscard_drops (taken : Taken s m opSysDiscard 0x0111) (fine : (s.slotCtx m).groupRange = none)
    (free : ∀ g ∈ s.namedGroups (s.slotCtx m), ∀ k ∈ s.commits, g ∉ k.groups) :
    Sets (.sysDiscard m .done) s m [] [] fun t =>
      t.staged = s.staged.filter (fun e => !(s.namedGroups (s.slotCtx m)).contains (groupOf e.1)) ∧
      t.stagedTab = (if 0x0560 ∈ s.namedGroups (s.slotCtx m) then [] else s.stagedTab) ∧ t.commits = s.commits := by
  have none : (s.namedGroups (s.slotCtx m)).find? (fun g => s.commits.any fun k => k.groups.contains g) = none := by
    simpa using free
  refine taken_sets taken (by simp [RhapolRow]) rfl (by simp only [opSysDiscard, fine, none]) (Nat.zero_le _)
    (discard_keeps s (s.namedGroups (s.slotCtx m))) (offAnswer_nil m) fun t same _ => ?_
  exact ⟨same.staged, same.stagedTab.trans (discard_stagedTab s _), same.commits⟩

/-! Subscriptions. -/

theorem mem_subscribe (q : Part) (e prio : Nat) (x : Nat × Nat) :
    x ∈ (q.subscribe e prio).subs ↔ x = (e, prio) ∨ (x ∈ q.subs ∧ x.1 ≠ e) := by
  simp [Part.subscribe, or_comm]

theorem sysEvtSub_subscribes (taken : Taken s m opSysEvtSub 0x0120) (len : s.parts.length = 16) (he : (s.slotCtx m).arg 0 2 ≤ 511)
    (hp : (s.slotCtx m).arg 2 1 ≤ 3) : Sets (.sysEvtSub m .done) s m [] [] fun t =>
      (∀ x, x ∈ (t.part m).subs ↔ x = ((s.slotCtx m).arg 0 2, (s.slotCtx m).arg 2 1) ∨
        (x ∈ (s.part m).subs ∧ x.1 ≠ (s.slotCtx m).arg 0 2)) ∧ ∀ p : Fin 16, p.val ≠ m.val → t.part p = s.part p := by
  have hm := partition_of_taken taken rfl
  have body : opSysEvtSub.body (s.slotCtx m) s =
      Reply.ok (s.modPart m fun q => q.subscribe ((s.slotCtx m).arg 0 2) ((s.slotCtx m).arg 2 1)) := by
    simp only [opSysEvtSub, show ¬ (s.slotCtx m).arg 0 2 > 511 by omega, show ¬ (s.slotCtx m).arg 2 1 > 3 by omega, if_false]
    rfl
  refine taken_sets taken (by simp [RhapolRow]) rfl body (Nat.zero_le _) (KeepsBut.refl.onParts _) (offAnswer_nil m) fun t same _ => ?_
  simp only [same.part, part_modPart]
  refine ⟨fun x => ?_, fun p hp => if_neg fun h => hp h.1.symm⟩
  rw [if_pos ⟨trivial, by omega⟩, mem_subscribe]

theorem sysEvtUnsub_drops (taken : Taken s m opSysEvtUnsub 0x0121) (len : s.parts.length = 16) (he : (s.slotCtx m).arg 0 2 ≤ 511) :
    Sets (.sysEvtUnsub m .done) s m [] [] fun t =>
      (∀ x, x ∈ (t.part m).subs ↔ x ∈ (s.part m).subs ∧ x.1 ≠ (s.slotCtx m).arg 0 2) ∧
      ∀ p : Fin 16, p.val ≠ m.val → t.part p = s.part p := by
  have hm := partition_of_taken taken rfl
  have body : opSysEvtUnsub.body (s.slotCtx m) s =
      Reply.ok (s.modPart m fun q => { q with subs := q.subs.filter fun x => x.1 ≠ (s.slotCtx m).arg 0 2 }) := by
    simp only [opSysEvtUnsub, show ¬ (s.slotCtx m).arg 0 2 > 511 by omega, if_false]
    rfl
  refine taken_sets taken (by simp [RhapolRow]) rfl body (Nat.zero_le _) (KeepsBut.refl.onParts _) (offAnswer_nil m) fun t same _ => ?_
  simp only [same.part, part_modPart]
  refine ⟨fun x => ?_, fun p hp => if_neg fun h => hp h.1.symm⟩
  rw [if_pos ⟨trivial, by omega⟩]
  simp

end
end Sys2Proof.Machine

namespace Sys2Proof.Machine

/-! Records and the service buffer (R507). -/

section
variable {s : State} {m : Fin 17}

/-- SYS_CFG_READ of a stored copy, with its operands in range. -/
theorem opSysCfgRead_copy {c : Ctx} (lo : 1 ≤ c.arg 0 2) (hi : c.arg 0 2 ≤ 11) (copy : c.arg 2 1 ≤ 1) (some : 1 ≤ c.arg 8 2)
    (most : c.arg 8 2 ≤ 1008) (inside : c.arg 4 4 + c.arg 8 2 ≤ 36 + recMax) : opSysCfgRead.body c s =
      Reply.ok s ((List.range (c.arg 8 2)).map fun i => ((s.record (c.arg 0 2 - 1)).copy (c.arg 2 1)).getD (c.arg 4 4 + i) 0xFF) := by
  have type : ¬ (c.arg 0 2 < 1 ∨ c.arg 0 2 > 11) := by omega
  have stored : c.arg 2 1 ≠ 2 := by omega
  have known : ¬ c.arg 2 1 > 2 := by omega
  have length : ¬ (c.arg 8 2 < 1 ∨ c.arg 8 2 > 1008) := by omega
  have limit : ¬ c.arg 4 4 + c.arg 8 2 > 36 + recMax := by omega
  simp only [opSysCfgRead, type, stored, known, length, limit, if_false, false_and]

theorem sysCfgRead_reads (taken : Taken s m opSysCfgRead 0x0130) (lo : 1 ≤ (s.slotCtx m).arg 0 2) (hi : (s.slotCtx m).arg 0 2 ≤ 11)
    (copy : (s.slotCtx m).arg 2 1 ≤ 1) (some : 1 ≤ (s.slotCtx m).arg 8 2) (most : (s.slotCtx m).arg 8 2 ≤ 1008)
    (inside : (s.slotCtx m).arg 4 4 + (s.slotCtx m).arg 8 2 ≤ 36 + recMax) :
    Reads (.sysCfgRead m .done) s m ((List.range ((s.slotCtx m).arg 8 2)).map fun i =>
      ((s.record ((s.slotCtx m).arg 0 2 - 1)).copy ((s.slotCtx m).arg 2 1)).getD ((s.slotCtx m).arg 4 4 + i) 0xFF) :=
  taken_reads taken (by simp [RhapolRow]) rfl (opSysCfgRead_copy lo hi copy some most inside) (by simpa using most)

theorem opSysCfgWrite_checked {c : Ctx} (lo : 1 ≤ c.arg 0 2) (hi : c.arg 0 2 ≤ 11) (len : c.arg 4 4 ≤ recMax)
    (source : s.sourceOk c (c.arg 8 8) (c.arg 4 4) = true) : opSysCfgWrite.body c s =
      if c.arg 0 2 = recSafety + 1 then Reply.err s stSafetyLocked 0 else Reply.accepted s := by
  have type : ¬ (c.arg 0 2 < 1 ∨ c.arg 0 2 > 11) := by omega
  have length : ¬ c.arg 4 4 > recMax := by omega
  simp only [opSysCfgWrite, type, length, source, Bool.not_true, Bool.false_eq_true, if_false]

theorem sysCfgWrite_accepts (taken : Taken s m opSysCfgWrite 0x0131) (lo : 1 ≤ (s.slotCtx m).arg 0 2) (hi : (s.slotCtx m).arg 0 2 ≤ 11)
    (len : (s.slotCtx m).arg 4 4 ≤ recMax)
    (source : s.sourceOk (s.slotCtx m) ((s.slotCtx m).arg 8 8) ((s.slotCtx m).arg 4 4) = true) :
    ((s.slotCtx m).arg 0 2 ≠ recSafety + 1 → Accepts (.sysCfgWrite m .done) s m) ∧
    ((s.slotCtx m).arg 0 2 = recSafety + 1 → Refuses (.sysCfgWrite m .done) s m stSafetyLocked 0) := by
  have row : RhapolRow (.sysCfgWrite m .done) opSysCfgWrite m .done := by simp [RhapolRow]
  have body := opSysCfgWrite_checked lo hi len source
  refine ⟨fun other => taken_accepts taken row rfl ?_, fun safety => taken_refuses taken row rfl rfl ?_ (by decide)⟩
  · rw [body, if_neg other]
  · rw [body, if_pos safety]

/-- Bytes put into the service buffer from an address on. -/
theorem svcPut_read (l : List Byte) (k : Nat) (a : Nat) (s : State) (b : Nat) :
    sget (fun _ => 0) (s.each (l.zipIdx k) fun s x => s.onSvcBuf fun buf => sset (fun _ => 0) buf (a + x.2) x.1).svcBuf b =
      if a + k ≤ b ∧ b < a + k + l.length then l.getD (b - (a + k)) 0 else sget (fun _ => 0) s.svcBuf b := by
  induction l generalizing k s with
  | nil => rw [if_neg (by simp only [List.length_nil]; omega)]; rfl
  | cons x l ih =>
    refine (ih (k + 1) (s.onSvcBuf fun buf => sset (fun _ => 0) buf (a + k) x)).trans ?_
    rw [State.onSvcBuf_svcBuf, sget_sset, List.length_cons]
    by_cases here : a + k = b
    · rw [if_neg (by omega), if_pos here, if_pos (by omega), here, Nat.sub_self]
      rfl
    · by_cases inside : a + (k + 1) ≤ b ∧ b < a + (k + 1) + l.length
      · have index : b - (a + k) = b - (a + (k + 1)) + 1 := by omega
        rw [if_pos inside, if_pos (by omega), index, List.getD_cons_succ]
      · rw [if_neg inside, if_neg here, if_neg (by omega)]

/-- The bytes of SYS_SVC_PUT written to the buffer. -/
def State.svcPut (s : State) (a : Nat) (l : List Byte) : State :=
  s.each l.zipIdx fun s x => s.onSvcBuf fun buf => sset (fun _ => 0) buf (a + x.2) x.1

theorem svcPut_keeps (s : State) (a : Nat) (l : List Byte) : KeepsQuiet s (s.svcPut a l) [] := by
  unfold State.svcPut
  generalize l.zipIdx = l
  induction l generalizing s with
  | nil => exact KeepsBut.refl
  | cons x l ih => exact (KeepsBut.refl.onSvcBuf _).trans (ih _)

theorem slotCtx_payload_length (s : State) (m : Nat) : (s.slotCtx m).payload.length = min (s.slotCtx m).len 1008 := bytesAt_length _ _ _

theorem sysSvcPut_writes (taken : Taken s m opSysSvcPut 0x0132)
    (inside : (s.slotCtx m).arg 0 4 + ((s.slotCtx m).len - 4) ≤ svcBufSize) :
    Sets (.sysSvcPut m .done) s m [] [] fun t =>
      (∀ i, i < (s.slotCtx m).len - 4 → sget (fun _ => 0) t.svcBuf ((s.slotCtx m).arg 0 4 + i) = (s.slotCtx m).payload.getD (4 + i) 0) ∧
      ∀ a, a < (s.slotCtx m).arg 0 4 ∨ (s.slotCtx m).arg 0 4 + ((s.slotCtx m).len - 4) ≤ a →
        sget (fun _ => 0) t.svcBuf a = sget (fun _ => 0) s.svcBuf a := by
  have len : (s.slotCtx m).len ≤ 1008 := by
    obtain ⟨-, -, -, head, -, -, -⟩ := taken
    refine Nat.not_lt.mp fun long => ?_
    simp only [State.headBad, step3_of_headBad head, ite_some_eq_none] at head
    exact absurd head.2.2.2 (by simpa using long)
  have payload : (((s.slotCtx m).payload.drop 4).take ((s.slotCtx m).len - 4)).length = (s.slotCtx m).len - 4 := by
    simp only [List.length_take, List.length_drop, slotCtx_payload_length]; omega
  have body : opSysSvcPut.body (s.slotCtx m) s =
      Reply.ok (s.svcPut ((s.slotCtx m).arg 0 4) (((s.slotCtx m).payload.drop 4).take ((s.slotCtx m).len - 4))) := by
    simp only [opSysSvcPut, show ¬ (s.slotCtx m).arg 0 4 + ((s.slotCtx m).len - 4) > svcBufSize by omega, if_false]
    rfl
  refine taken_sets taken (by simp [RhapolRow]) rfl body (Nat.zero_le _) (svcPut_keeps s _ _) (offAnswer_nil m) fun t same _ => ?_
  rw [same.svcBuf]
  have reads := svcPut_read (((s.slotCtx m).payload.drop 4).take ((s.slotCtx m).len - 4)) 0 ((s.slotCtx m).arg 0 4) s
  refine ⟨fun i hi => (reads _).trans ?_, fun a ha => (reads a).trans (if_neg (by omega))⟩
  rw [if_pos (by omega)]
  simp only [Nat.add_zero, Nat.add_sub_cancel_left, List.getD_eq_getElem?_getD, List.getElem?_take_of_lt hi, List.getElem?_drop]

end

/-- Settles O52: command by command. -/
theorem systemCommandsAct : Obligations.SystemCommandsAct := fun _ _ =>
  ⟨fun taken hm len => ⟨fun fresh => sysHello_first taken hm len _ _ rfl rfl fresh, fun _ held same => sysHello_again taken hm held same,
      fun _ held other => sysHello_conflict taken hm held other⟩,
    sysHello_forester, sysInfo_reads,
    fun taken => ⟨fun _ bad => sysCommit_range taken bad, fun fine none => sysCommit_nothing taken fine none,
      fun fine some => sysCommit_snapshot taken fine _ rfl some⟩,
    fun taken fine => ⟨fun _ found => sysDiscard_conflict taken fine found, fun free => sysDiscard_drops taken fine free⟩,
    sysEvtSub_subscribes, sysEvtUnsub_drops, sysCfgRead_reads, sysCfgWrite_accepts, sysSvcPut_writes⟩

end Sys2Proof.Machine

namespace Sys2Proof.Machine

/-! What a command's effect leaves of its own mailbox (R42, R43): the doorbell with its generation, and the status word of
the response slot. -/

/-- A mailbox as its answer sees it: BUSY, the generation, and the word of the response slot with the status. -/
structure Doorbell where
  busy : Nat
  gen : Nat
  status : Word

/-- The seventeen mailboxes as their answers see them. -/
def doorbells (r : List (Nat × Word)) (m : Fin 17) : Doorbell where
  busy := bitsOf (sget regReset r (R.MBX_STAT m)) 0 0
  gen := bitsOf (sget regReset r (R.MBX_STAT m)) 31 16
  status := sget regReset r (mbxBase m + 0x408)

/-- A register that no answer reads. -/
def Off (a : Nat) : Prop := ∀ m : Fin 17, a ≠ R.MBX_STAT m ∧ a ≠ mbxBase m + 0x408

/-! Registers above the mailboxes: a block's base and what indexes it. -/

@[simp] theorem off_above {a : Nat} (h : 0x20041000 ≤ a) : Off a := by
  intro m
  simp only [R.MBX_STAT, mbxBase]
  omega

@[simp] theorem off_above_add {a : Nat} (h : 0x20041000 ≤ a) (b : Nat) : Off (a + b) := off_above (Nat.le_add_right_of_le h)

@[simp] theorem off_above_add_add {a : Nat} (h : 0x20041000 ≤ a) (b c : Nat) : Off (a + b + c) :=
  off_above_add (Nat.le_add_right_of_le h) c

@[simp] theorem off_above_add_add_add {a : Nat} (h : 0x20041000 ≤ a) (b c d : Nat) : Off (a + b + c + d) :=
  off_above_add_add (Nat.le_add_right_of_le h) c d

section
variable {s t u : State} {m : Fin 17}

theorem doorbells_congr (stat : ∀ m : Fin 17, t.rd (R.MBX_STAT_BUSY m) = s.rd (R.MBX_STAT_BUSY m) ∧ t.gen m = s.gen m ∧
    t.raw (mbxBase m + 0x408) = s.raw (mbxBase m + 0x408)) : doorbells t.regs = doorbells s.regs := by
  funext m
  obtain ⟨busy, gen, status⟩ := stat m
  exact Doorbell.mk.injEq .. ▸ ⟨busy, gen, status⟩

@[simp] theorem doorbells_setRaw {a : Nat} (h : Off a) (v : Word) : doorbells (s.setRaw a v).regs = doorbells s.regs :=
  doorbells_congr fun m => ⟨rd_setRaw_ne _ _ _ _ (h m).1, rd_setRaw_ne _ _ _ _ (h m).1, raw_setRaw_ne _ _ _ _ (h m).2⟩

@[simp] theorem doorbells_wr {f : Fld} (h : Off f.addr) (v : Nat) : doorbells (s.wr f v).regs = doorbells s.regs := doorbells_setRaw h _

@[simp] theorem doorbells_ite {p : Prop} [Decidable p] :
    doorbells (if p then s else t).regs = if p then doorbells s.regs else doorbells t.regs := by
  split <;> rfl

/-- A field of MBX_STAT between BUSY and the generation, whatever mailbox's. -/
theorem doorbells_wr_stat {f : Fld} {k : Nat} (hf : f.addr = R.MBX_STAT k) (ok : f.ok) (bits : 1 ≤ f.lo ∧ f.hi < 16) (v : Nat) :
    doorbells (s.wr f v).regs = doorbells s.regs := by
  refine doorbells_congr fun m => ⟨rd_wr_apart _ _ _ _ ok (busy_ok m) ?_, rd_wr_apart _ _ _ _ ok (gen_ok m) ?_, raw_wr_ne _ _ _ _ ?_⟩
  · simp only [Fld.apart, R.MBX_STAT_BUSY]; omega
  · simp only [Fld.apart, R.MBX_STAT_GEN]; omega
  · rw [hf]; simp only [R.MBX_STAT, mbxBase]; omega

@[simp] theorem doorbells_wrB {f : Fld} (h : Off f.addr) (b : Bool) : doorbells (s.wrB f b).regs = doorbells s.regs := doorbells_setRaw h _
@[simp] theorem doorbells_bump {f : Fld} (h : Off f.addr) (k : Nat) : doorbells (s.bump f k).regs = doorbells s.regs := doorbells_setRaw h _
@[simp] theorem doorbells_count {f : Fld} (h : Off f.addr) (k : Nat) : doorbells (s.count f k).regs = doorbells s.regs := doorbells_setRaw h _
@[simp] theorem doorbells_clearBits {a : Nat} (h : Off a) (k : Nat) : doorbells (s.clearBits a k).regs = doorbells s.regs := doorbells_setRaw h _
@[simp] theorem doorbells_setWordBit {a : Nat} (h : Off a) (i : Nat) (b : Bool) : doorbells (s.setWordBit a i b).regs = doorbells s.regs :=
  doorbells_setRaw h _

@[simp] theorem doorbells_wr64 {lo hi : Nat} (hl : Off lo) (hh : Off hi) (v : Nat) : doorbells (s.wr64 lo hi v).regs = doorbells s.regs := by
  simp [State.wr64, hl, hh]

@[simp] theorem doorbells_when (c : Bool) {f : State → State} (h : doorbells (f s).regs = doorbells s.regs) :
    doorbells (s.when c f).regs = doorbells s.regs := by
  unfold State.when
  split
  · exact h
  · rfl

theorem doorbells_each {α : Type} {l : List α} {f : State → α → State} (h : ∀ s, ∀ x ∈ l, doorbells (f s x).regs = doorbells s.regs) :
    doorbells (s.each l f).regs = doorbells s.regs := by
  induction l generalizing s with
  | nil => rfl
  | cons x l ih =>
    exact (ih fun s y hy => h s y (List.mem_cons_of_mem _ hy)).trans (h s x List.mem_cons_self)

/-- Words written from an address above the mailboxes on. -/
@[simp] theorem doorbells_setWords {a : Nat} (h : 0x20041000 ≤ a) (ws : List Word) : doorbells (s.setWords a ws).regs = doorbells s.regs := by
  induction ws generalizing s a with
  | nil => rfl
  | cons w ws ih => exact (ih (Nat.le_add_right_of_le h)).trans (doorbells_setRaw (off_above h) w)

/-- Events leave every mailbox as its answer sees it. -/
theorem Routed.doorbells (h : Routed s t) : doorbells t.regs = doorbells s.regs := by
  refine doorbells_congr fun m => ⟨h.stat m _ rfl (busy_ok m) (.inl Nat.zero_lt_two), h.stat m _ rfl (gen_ok m) (.inr (show 2 < 16 by decide)), h.raws _ ?_⟩
  exact not_eventWord_of_respWord (m := m) ⟨Nat.add_le_add_left (by decide) _, Nat.add_lt_add_left (by decide) _⟩

@[simp] theorem doorbells_raise {e : Nat} (he : e < 512) (o : Owner) (p : List Byte) : doorbells (s.raise e o p).regs = doorbells s.regs :=
  (raise_routed s e o p he).doorbells

@[simp] theorem doorbells_raises {l : More} (h : l.small) : doorbells (s.raises l).regs = doorbells s.regs :=
  (raiseLoop_routed _ l s h).doorbells

end
end Sys2Proof.Machine

namespace Sys2Proof.Machine
section
variable {s t u : State}

/-! What the model's operations on one unit leave of the mailboxes. -/

@[simp] theorem modCan_regs (n : Nat) (f : Can → Can) : (s.modCan n f).regs = s.regs := rfl
@[simp] theorem modPort_regs (n : Nat) (f : EthPort → EthPort) : (s.modPort n f).regs = s.regs := rfl
@[simp] theorem modDie_regs (n : Nat) (f : FarDie → FarDie) : (s.modDie n f).regs = s.regs := rfl
@[simp] theorem modSup_regs (n : Nat) (f : SenSup → SenSup) : (s.modSup n f).regs = s.regs := rfl
@[simp] theorem modSec_regs (f : Sec → Sec) : (s.modSec f).regs = s.regs := rfl
@[simp] theorem modPair_regs (f : PairU → PairU) : (s.modPair f).regs = s.regs := rfl
@[simp] theorem modPart_regs (n : Nat) (f : Part → Part) : (s.modPart n f).regs = s.regs := rfl
@[simp] theorem modHart_regs (n : Nat) (f : Hart → Hart) : (s.modHart n f).regs = s.regs := rfl
@[simp] theorem modMbx_regs (n : Nat) (f : Mbx → Mbx) : (s.modMbx n f).regs = s.regs := rfl
@[simp] theorem modTly_regs (f : Tally → Tally) : (s.modTly f).regs = s.regs := rfl
@[simp] theorem modRing_regs (n : Nat) (f : Ring → Ring) : (s.modRing n f).regs = s.regs := rfl
@[simp] theorem modUpd_regs (f : Updater → Updater) : (s.modUpd f).regs = s.regs := rfl
@[simp] theorem modSvr_regs (f : Sup → Sup) : (s.modSvr f).regs = s.regs := rfl
@[simp] theorem modSil_regs (f : Sil → Sil) : (s.modSil f).regs = s.regs := rfl
@[simp] theorem modSo_regs (k : Nat) (sw : Bool) (f : SoSw → SoSw) : (s.modSo k sw f).regs = s.regs := rfl
@[simp] theorem modQ_regs (n : Nat) (f : QState → QState) : (s.modQ n f).regs = s.regs := rfl
@[simp] theorem unpoison_regs (a n : Nat) : (s.unpoison a n).regs = s.regs := rfl
@[simp] theorem dropJob_regs (v : Nat) : (s.dropJob v).regs = s.regs := rfl
@[simp] theorem staysDrop_regs (p : Nat) : (s.staysDrop p).regs = s.regs := rfl
@[simp] theorem ringPut_regs (i next flags round phase veto : Nat) : (s.ringPut i next flags round phase veto).regs = s.regs := rfl
@[simp] theorem ringSendAbort_regs (i : Nat) : (s.ringSendAbort i).regs = s.regs := rfl
@[simp] theorem ilEvent_regs (e : Nat) (p : List Byte) : (s.ilEvent e p).regs = s.regs := rfl
@[simp] theorem stage_regs (a : Nat) (w : Word) : (s.stage a w).regs = s.regs := rfl
@[simp] theorem discard_regs (gs : List Nat) : (s.discard gs).regs = s.regs := rfl
@[simp] theorem writeBoot_regs (f : BootRec → BootRec) : (s.writeBoot f).regs = s.regs := rfl
@[simp] theorem updDiscard_regs : s.updDiscard.regs = s.regs := rfl
@[simp] theorem pairClear_regs : s.pairClear.regs = s.regs := rfl
@[simp] theorem fresh_regs : s.fresh.2.regs = s.regs := rfl

/-- A fold of steps that write no register. -/
theorem each_regs {α : Type} {f : State → α → State} (h : ∀ s x, (f s x).regs = s.regs) (l : List α) : (s.each l f).regs = s.regs := by
  induction l generalizing s with
  | nil => rfl
  | cons x l ih => exact ih.trans (h s x)

@[simp] theorem pairAlso_regs (l : List (Nat × List Byte)) : (s.pairAlso l).regs = s.regs := by
  rw [State.pairAlso, each_regs]
  exact fun _ _ => rfl
@[simp] theorem pairSend_regs (l : List (Nat × List Byte)) : (s.pairSend l).regs = s.regs := pairAlso_regs l
@[simp] theorem svcPut_regs (a : Nat) (l : List Byte) : (s.svcPut a l).regs = s.regs := by
  rw [State.svcPut, each_regs]
  exact fun _ _ => rfl

@[simp] theorem memWrite_regs (a : Nat) (l : List Byte) : (s.memWrite a l).regs = s.regs := by
  induction l generalizing s a with
  | nil => rfl
  | cons b l ih => exact ih (a + 1)

@[simp] theorem memPut_regs (a : Nat) (b : List Byte) : (s.memPut a b).regs = s.regs := by
  unfold State.memPut
  split
  · exact memWrite_regs a b
  · dsimp only
    rw [each_regs, unpoison_regs]
    exact fun _ _ => rfl

@[simp] theorem random_regs (n : Nat) : (State.random n s).2.regs = s.regs := by
  induction n generalizing s with
  | zero => rfl
  | succ n ih => exact ih (s := s.fresh.2)

theorem stages_regs (vals : List (Fld × Nat)) : (vals.foldl (fun (s : State) x => s.stageFld x.1 x.2) s).regs = s.regs := by
  rw [← State.each, each_regs]
  exact fun _ _ => rfl

/-! Low blocks: the supervisor, the event router of partitions, queues, and MBX_CSTAT. -/

theorem off_below {a : Nat} (h : a < 0x20030000) : Off a := by
  intro m
  simp only [R.MBX_STAT, mbxBase]
  omega

@[simp] theorem off_mode : Off R.SUP_MODE := off_below (by decide)
@[simp] theorem off_opt : Off R.SUP_OPT := off_below (by decide)

@[simp] theorem off_fstat (p : Nat) : Off (R.EVR_Pp_FSTAT p) := by
  intro m
  simp only [R.EVR_Pp_FSTAT, R.MBX_STAT, mbxBase]
  omega

@[simp] theorem off_cstat (p : Nat) : Off (R.MBX_CSTAT p) := by
  intro m
  simp only [R.MBX_CSTAT, R.MBX_STAT, mbxBase]
  omega

theorem off_queue {n k : Nat} (h : k < 0x40) (h4 : k ≠ 4) (h8 : k ≠ 8) : Off (0x20020000 + k + n * 0x40) := by
  intro m
  simp only [R.MBX_STAT, mbxBase]
  omega

@[simp] theorem off_prod (n : Nat) : Off (R.QMG_QnPROD n) := off_queue (k := 0xC) (by decide) (by decide) (by decide)
@[simp] theorem off_cons (n : Nat) : Off (R.QMG_QnCONS n) := off_queue (k := 0x10) (by decide) (by decide) (by decide)
@[simp] theorem off_qstat (n : Nat) : Off (R.QMG_QnSTAT n) := off_queue (k := 0x14) (by decide) (by decide) (by decide)
@[simp] theorem off_drop (n : Nat) : Off (R.QMG_QnDROP n) := off_queue (k := 0x18) (by decide) (by decide) (by decide)
@[simp] theorem off_full (n : Nat) : Off (R.QMG_QnFULL n) := off_queue (k := 0x1C) (by decide) (by decide) (by decide)

theorem off_qcfg {n : Nat} (h : n < 64) : Off (R.QMG_QnCFG n) := off_below (by simp only [R.QMG_QnCFG]; omega)

/-! Commits and staged values. -/

@[simp] theorem doorbells_acceptCommit (m : Nat) (gs : List Nat) : doorbells (s.acceptCommit m gs).regs = doorbells s.regs := by
  by_cases h : gs.filter s.hasStaged = []
  · rw [acceptCommit_none h]
  · simp [acceptCommit_some h, R.MBX_CSTAT_PENDING, R.MBX_CSTAT_REJECTED]

@[simp] theorem doorbells_basicCommit (m : Nat) (vals : List (Fld × Nat)) (gs : List Nat) :
    doorbells (s.basicCommit m vals gs).regs = doorbells s.regs := by
  rw [State.basicCommit, doorbells_acceptCommit, stages_regs]

/-! Transceivers and CAN controllers. -/

@[simp] theorem doorbells_wakeMirror (j : Nat) : doorbells (s.wakeMirror j).regs = doorbells s.regs := by
  simp [State.wakeMirror, R.WAKE_EN]

@[simp] theorem doorbells_canGate (n : Nat) : doorbells (s.canGate n).regs = doorbells s.regs := by
  simp [State.canGate, R.CANn_STAT_GATED, R.CANn_STAT]

@[simp] theorem doorbells_canEvent {e : Nat} (he : e < 512) (n : Nat) (p : List Byte) :
    doorbells (s.canEvent n e p).regs = doorbells s.regs := by
  simp [State.canEvent, he]

@[simp] theorem doorbells_trxState (j st : Nat) : doorbells (s.trxState j st).regs = doorbells s.regs := by
  simp [State.trxState, R.TRXj_STAT_STATE, R.TRXj_STAT_BIAS, R.TRXj_STAT_TXD_BLOCK, R.TRXj_FLT_THERMAL, R.TRXj_STAT, R.TRXj_FLT]

@[simp] theorem doorbells_trxWrite (j : Nat) (v : Word) : doorbells (s.trxWrite j v).regs = doorbells s.regs := by
  simp [State.trxWrite, R.TRXj_CTRL_WAKE_EN, R.TRXj_CTRL_MODE, R.TRXj_CTRL]

@[simp] theorem doorbells_boffRelease (n : Nat) : doorbells (s.boffRelease n).regs = doorbells s.regs := by
  simp [State.boffRelease, R.CANn_STAT_STATE, R.CANn_STAT]

@[simp] theorem doorbells_moFill (n m : Nat) (f : CanMsg) : doorbells (s.moFill n m f).regs = doorbells s.regs := by
  have data : 0x20041000 ≤ R.MOm_D n m 0 := by simp only [R.MOm_D]; omega
  simp [State.moFill, data, R.MOm_W0, R.MOm_W1, R.MOm_TIME]

@[simp] theorem doorbells_moRelease (n m : Nat) : doorbells (s.moRelease n m).regs = doorbells s.regs := by
  unfold State.moRelease
  split
  · rfl
  · dsimp only
    split <;> simp [R.CANn_RXLOCK, R.CANn_RXNEW]

@[simp] theorem doorbells_moRead (n m w : Nat) : doorbells (s.moRead n m w).2.regs = doorbells s.regs := by
  unfold State.moRead
  simp only [apply_ite Prod.snd, doorbells_ite]
  simp [R.CANn_RXLOCK]

/-! Sensor supplies and far dies. -/

@[simp] theorem doorbells_dieEvent {e : Nat} (he : e < 512) (g : Nat) (hold linkOk : Fld) (o : Owner) (p : List Byte) :
    doorbells (s.dieEvent g hold linkOk e o p).regs = doorbells s.regs := by
  simp [State.dieEvent, he]

@[simp] theorem doorbells_supOn (k : Nat) : doorbells (s.supOn k).regs = doorbells s.regs := by
  simp [State.supOn, State.supEvent, State.limbEvent, R.SSs_STAT_STATE, R.SSs_STAT]

@[simp] theorem doorbells_supSet (k : Nat) (on : Bool) : doorbells (s.supSet k on).regs = doorbells s.regs := by
  have cfg : Off (R.SSs_CFG_ON k).addr := off_above_add_add (by decide) _ _
  have stat : Off (R.SSs_STAT_STATE k).addr := off_above_add_add (by decide) _ _
  simp [State.supSet, cfg, stat]

/-! Ethernet and time. -/

@[simp] theorem doorbells_tsqShow (p : Nat) : doorbells (s.tsqShow p).regs = doorbells s.regs := by
  simp [State.tsqShow, R.ESW_Pp_TSQ_STAT_COUNT, R.ESW_Pp_TSQ_ID_SEQID, R.ESW_Pp_TSQ_S_SEC, R.ESW_Pp_TSQ_NS_NS, R.ESW_Pp_TSQ_STAT,
    R.ESW_Pp_TSQ_ID, R.ESW_Pp_TSQ_S, R.ESW_Pp_TSQ_NS]

@[simp] theorem doorbells_domLatch (x : Nat) : doorbells (s.domLatch x).regs = doorbells s.regs := by
  simp [State.domLatch, R.TMU_DOMx_GMID_LO, R.TMU_DOMx_GMID_HI, R.TMU_DOMx_OFS_LO, R.TMU_DOMx_OFS_HI, R.TMU_DOMx_RATE_RATE, R.TMU_DOMx_RATE,
    R.TMU_DOMx_UPD_LO, R.TMU_DOMx_UPD_HI, R.TMU_DOMx_AGE_AGE, R.TMU_DOMx_AGE]

end
end Sys2Proof.Machine

namespace Sys2Proof.Machine
section
variable {s t u : State}

/-! Keys, jobs and queues. -/

@[simp] theorem doorbells_authStop (why : Nat) : doorbells (s.authStop why).regs = doorbells s.regs := by
  unfold State.authStop
  split <;> simp [R.KSU_AUTH]

@[simp] theorem doorbells_authWrong : doorbells s.authWrong.regs = doorbells s.regs := by simp [State.authWrong]

@[simp] theorem doorbells_authGrant (req : List Byte) : doorbells (s.authGrant req).regs = doorbells s.regs := by
  simp [State.authGrant, R.KSU_AUTH_SCOPE, R.KSU_AUTH_CORES, R.KSU_AUTH]

@[simp] theorem doorbells_qStale (n : Nat) : doorbells (s.qStale n).regs = doorbells s.regs := by
  simp [State.qStale, R.QMG_QnDROP_COUNT]

@[simp] theorem doorbells_qWrite (n : Nat) (d : List Byte) : doorbells (s.qWrite n d).regs = doorbells s.regs := by
  simp [State.qWrite, R.QMG_QnPROD_IDX]

@[simp] theorem doorbells_qPush (n : Nat) (d : List Byte) : doorbells (s.qPush n d).regs = doorbells s.regs := by
  have full : Off (R.QMG_QnFULL_COUNT n).addr := off_full n
  simp [State.qPush, full]

@[simp] theorem doorbells_qSettle (n : Nat) : doorbells (s.qSettle n).regs = doorbells s.regs := by
  simp [State.qSettle, R.QMG_QnSTAT_STOPPED]

@[simp] theorem doorbells_jobCpl (q : Nat) (d : List Byte) (st result : Nat) : doorbells (s.jobCpl q d st result).regs = doorbells s.regs := by
  simp [State.jobCpl]

@[simp] theorem doorbells_countDeny (d : List Byte) : doorbells (s.countDeny d).regs = doorbells s.regs := by
  simp [State.countDeny, R.KSU_CEi_CNT_DENY, R.KSU_CEi_CNT]

@[simp] theorem doorbells_slotCount : doorbells s.slotCount.regs = doorbells s.regs := by
  simp [State.slotCount, R.KSU_STAT_SLOTS, R.KSU_STAT]

@[simp] theorem doorbells_zeroSlot (i why : Nat) : doorbells (s.zeroSlot i why).regs = doorbells s.regs := by
  unfold State.zeroSlot
  split
  · rfl
  · have jobs := fun (s : State) (l : List Job) => doorbells_each (s := s) (l := l)
      (f := fun s j => ((s.countDeny j.desc).dropJob j.vq).jobCpl j.queue j.desc stNotGranted 0) fun s j _ => by simp
    simp [jobs, R.KSU_SLOTs]

@[simp] theorem doorbells_clearSlot (i why : Nat) : doorbells (s.clearSlot i why).regs = doorbells s.regs := by
  simp [State.clearSlot]

/-! The recorder. -/

@[simp] theorem doorbells_incPart (p cls code : Nat) (data : List Byte) : doorbells (s.incPart p cls code data).regs = doorbells s.regs := by
  have enter := fun e => incEnter_routed s e
  simp [State.incPart, (enter _).2, (enter _).1.doorbells]

/-! The pair, the mode and the gates. -/

@[simp] theorem doorbells_setMode (k : Nat) : doorbells (s.setMode k).regs = doorbells s.regs := by
  simp [State.setMode, R.SUP_MODE_MODE]

@[simp] theorem doorbells_degr : doorbells s.degr.regs = doorbells s.regs := by
  have degr : Off R.SUP_MODE_DEGR.addr := off_mode
  simp [State.degr, degr]

@[simp] theorem doorbells_setRole (r : Nat) : doorbells (s.setRole r).regs = doorbells s.regs := by
  simp [State.setRole, R.PAIR_STAT_ROLE, R.PAIR_STAT]

@[simp] theorem doorbells_grant : doorbells s.grant.regs = doorbells s.regs := by simp [State.grant]

@[simp] theorem doorbells_ageRefresh : doorbells s.ageRefresh.regs = doorbells s.regs := by
  simp [State.ageRefresh, R.PAIR_AGE_RENEW, R.PAIR_AGE_SIG, R.PAIR_STAT_PL_OK, R.PAIR_AGE, R.PAIR_STAT]

@[simp] theorem doorbells_gateRefresh (k : Nat) : doorbells (s.gateRefresh k).regs = doorbells s.regs := by
  have gated : Off (R.KSU_GATEu_GATED k).addr := off_above_add (by decide) _
  have held : Off (R.KSU_GATEu_HELD k).addr := off_above_add (by decide) _
  simp [State.gateRefresh, gated, held]

@[simp] theorem doorbells_vote (k : Nat) (heart on : Bool) : doorbells (s.vote k heart on).regs = doorbells s.regs := by
  cases heart <;> simp [State.vote, R.KSU_GATEu_VOTE_H, R.KSU_GATEu_VOTE_S, R.KSU_GATEu]

@[simp] theorem doorbells_intrRefresh : doorbells s.intrRefresh.regs = doorbells s.regs := by
  simp [State.intrRefresh, R.SUP_OPT_INTR]

/-! Tally. -/

@[simp] theorem doorbells_alarmProgram : doorbells s.alarmProgram.regs = doorbells s.regs := by
  simp [State.alarmProgram, R.WAKE_RTC_ALM_SEC, R.WAKE_RTC_ALM]

@[simp] theorem doorbells_tlyEvent {e : Nat} (he : e < 512) (seg : Nat) (p : List Byte) :
    doorbells (s.tlyEvent e seg p).regs = doorbells s.regs := doorbells_raise he _ _

@[simp] theorem doorbells_ringAbort (i reason node veto : Nat) : doorbells (s.ringAbort i reason node veto).regs = doorbells s.regs := by
  simp [State.ringAbort]

@[simp] theorem doorbells_trxRestore : doorbells s.trxRestore.regs = doorbells s.regs := by
  unfold State.trxRestore
  split
  · rfl
  · rw [modTly_regs]
    exact doorbells_each fun s x _ => doorbells_trxWrite x.2 x.1

@[simp] theorem doorbells_vetoCheck : doorbells s.vetoCheck.regs = doorbells s.regs := by
  have aborts := fun (s : State) (v : Nat) (l : List Nat) => doorbells_each (s := s) (l := l)
    (f := fun s i => (s.ringAbort i 2 (s.ring i).addr v).ringSendAbort i) fun s i _ => by simp
  simp [State.vetoCheck, aborts]

/-! Outputs and the island. -/

@[simp] theorem doorbells_pinDrive (p : Nat) : doorbells (s.pinDrive p).regs = doorbells s.regs := by
  have out : Off (R.UIOp_STAT_OUT p).addr := off_above_add_add (by decide) _ _
  simp [State.pinDrive, out]

@[simp] theorem doorbells_outputsOff (spare : Bool) : doorbells (s.outputsOff spare).regs = doorbells s.regs := by
  unfold State.outputsOff
  refine (doorbells_each fun s k _ => ?_).trans ((doorbells_each fun s p _ => ?_).trans (doorbells_each fun s n _ => ?_))
  · simp
  · have on : Off (R.UIOp_OUT_ON p).addr := off_above_add_add (by decide) _ _
    simp [on]
  · have on : Off (R.CHn_CMD_ON n).addr := off_above_add_add (by decide) _ _
    simp [on]

@[simp] theorem off_soOut (k : Nat) (sw : Bool) : Off (soOut k sw).addr := by
  cases sw <;> exact off_above_add (by decide) _

@[simp] theorem off_soCause (k : Nat) (sw : Bool) : Off (soCause k sw).addr := by
  cases sw <;> exact off_above_add (by decide) _

@[simp] theorem off_soTripped (k : Nat) (sw : Bool) : Off (soTripped k sw).addr := by
  cases sw <;> exact off_above_add (by decide) _

@[simp] theorem off_soGate (k : Nat) (sw : Bool) : Off (soGate k sw).addr := by
  cases sw <;> exact off_above_add (by decide) _

@[simp] theorem off_soBit (k b : Nat) : Off (soBit k b).addr := off_above (show 0x20041000 ≤ R.SIL_OUT by decide)

@[simp] theorem off_fnFld (f : Nat) : Off (fnFld f).addr := by
  unfold fnFld
  dsimp only
  split <;> exact off_above (by decide)

@[simp] theorem doorbells_soDrive (k : Nat) (sw : Bool) : doorbells (s.soDrive k sw).regs = doorbells s.regs := by
  simp [State.soDrive]

@[simp] theorem doorbells_soGateChange (k : Nat) (sw level : Bool) : doorbells (s.soGateChange k sw level).regs = doorbells s.regs := by
  simp [State.soGateChange]

@[simp] theorem doorbells_soLines (k : Nat) (on : Bool) : doorbells (s.soLines k on).regs = doorbells s.regs := by
  simp [State.soLines]

@[simp] theorem doorbells_ilQuiet : doorbells s.ilQuiet.regs = doorbells s.regs := by
  have act : Off R.SIL_OUT_SWO_ACT.addr := off_above (by decide)
  rw [State.ilQuiet, doorbells_wr act]
  exact doorbells_each fun s k _ => doorbells_soLines k false

@[simp] theorem doorbells_setFn (f st : Nat) : doorbells (s.setFn f st).regs = doorbells s.regs := by
  simp [State.setFn]

@[simp] theorem doorbells_lockFns : doorbells s.lockFns.regs = doorbells s.regs :=
  doorbells_each fun s f _ => by simp

end
end Sys2Proof.Machine

namespace Sys2Proof.Machine
section
variable {s t u : State}

/-! Effects that may reset the command's own mailbox: a reset mailbox has an empty response slot. -/

/-- Every mailbox is as its answer saw it, or its response slot holds no status. -/
structure Tended (s t : State) : Prop where
  own : ∀ m : Fin 17, doorbells t.regs m = doorbells s.regs m ∨ (doorbells t.regs m).status = 0

theorem tended_of_doorbells (h : doorbells t.regs = doorbells s.regs) : Tended s t := ⟨fun m => .inl (congrFun h m)⟩

theorem Tended.trans (h : Tended s t) (k : Tended t u) : Tended s u where
  own m := by
    rcases k.own m with same | none
    · rw [same]; exact h.own m
    · exact .inr none

theorem tended_each {α : Type} {l : List α} {f : State → α → State} (h : ∀ s, ∀ x, Tended s (f s x)) : Tended s (s.each l f) := by
  induction l generalizing s with
  | nil => exact tended_of_doorbells rfl
  | cons x l ih => exact (h s x).trans ih

theorem regReset_status : ∀ m : Fin 17, regReset (mbxBase m + 0x408) = 0 := by decide

/-- A mailbox reset empties the page: what it held before its generation is written anew. -/
theorem mbxReset_raw (p : Nat) {a : Nat} (h : a ≠ R.MBX_STAT p) :
    (s.mbxReset p).raw a = if mbxBase p ≤ a ∧ a < mbxBase p + 0x1000 then regReset a else s.raw a := by
  have regs : (s.mbxReset p).raw a =
      ((s.clearRegs fun a => decide (mbxBase p ≤ a ∧ a < mbxBase p + 0x1000)).wr (R.MBX_STAT_GEN p) (nextGen (s.gen p))).raw a := rfl
  rw [regs, raw_wr_ne _ _ _ _ (Ne.symm h)]
  by_cases inside : mbxBase p ≤ a ∧ a < mbxBase p + 0x1000
  · rw [if_pos inside]
    refine (sget_filter regReset (fun b => !decide (mbxBase p ≤ b ∧ b < mbxBase p + 0x1000)) s.regs a).trans ?_
    simp [inside]
  · rw [if_neg inside, raw_clearRegs _ _ _ (by simpa using inside)]

theorem tended_mbxReset (p : Nat) : Tended s (s.mbxReset p) where
  own m := by
    by_cases own : p = m.val
    · refine .inr ((mbxReset_raw p ?_).trans ?_)
      · simp only [R.MBX_STAT, mbxBase]; omega
      · rw [own, if_pos ⟨Nat.le_add_right _ _, Nat.add_lt_add_left (by decide) _⟩]
        exact regReset_status m
    · have other {off : Nat} (h : off < 0x1000) : (s.mbxReset p).raw (mbxBase m + off) = s.raw (mbxBase m + off) := by
        rw [mbxReset_raw p (by simp only [R.MBX_STAT, mbxBase]; omega), if_neg (by simp only [mbxBase]; omega)]
      have stat : (s.mbxReset p).raw (R.MBX_STAT m) = s.raw (R.MBX_STAT m) := by
        have page : R.MBX_STAT m = mbxBase m + 0xC04 := by simp only [R.MBX_STAT, mbxBase]; omega
        rw [page]; exact other (by decide)
      have status := other (off := 0x408) (by decide)
      simp only [State.raw] at stat status
      exact .inl (by simp only [doorbells, stat, status])

@[simp] theorem doorbells_haltPart (p : Nat) : doorbells (s.haltPart p).regs = doorbells s.regs := by
  unfold State.haltPart
  refine (doorbells_each fun s k _ => ?_).trans (doorbells_each fun s h _ => ?_)
  · have state : Off (R.LSC_Pk_STAT_STATE k).addr := off_above_add_add (by decide) _ _
    simp [state]
  · simp

@[simp] theorem doorbells_setPart (p st cause : Nat) : doorbells (s.setPart p st cause).regs = doorbells s.regs := by
  simp [State.setPart, R.EVR_Pp_FSTAT_STATE]

@[simp] theorem doorbells_queuesOn (p : Nat) (on : Bool) : doorbells (s.queuesOn p on).regs = doorbells s.regs := by
  refine doorbells_each fun s q hq => ?_
  have en : Off (R.QMG_QnCFG_EN q).addr := off_qcfg (List.mem_range.mp (List.mem_filter.mp hq).1)
  simp [en, R.QMG_QnSTAT_STOPPED, R.QMG_QnPROD_IDX, R.QMG_QnCONS_IDX]

@[simp] theorem doorbells_beginLoad (p cause : Nat) : doorbells (s.beginLoad p cause).regs = doorbells s.regs := by
  simp [State.beginLoad]

theorem tended_partResetAs (p cause : Nat) (counts : List Nat) : Tended s (s.partResetAs p cause counts) := by
  unfold State.partResetAs
  dsimp only
  split
  · refine ((tended_of_doorbells (doorbells_haltPart p)).trans (tended_mbxReset p)).trans (tended_of_doorbells ?_)
    simp [R.EVR_Pp_FSTAT_TICK_PEND, R.EVR_Pp_FSTAT_IN_FRAME]
  · split
    · exact tended_of_doorbells (by simp)
    · exact tended_of_doorbells rfl

@[simp] theorem doorbells_trialLost (why : Nat) : doorbells (s.trialLost why).regs = doorbells s.regs := by
  simp [State.trialLost]

theorem tended_partFallback (why : Nat) : Tended s (s.partFallback why) :=
  (tended_of_doorbells (doorbells_trialLost why)).trans <| tended_each fun s p =>
    Tended.trans (t := s.modPart p fun x => { x with trialSlot := none }) (tended_of_doorbells (by simp)) (tended_partResetAs p _ _)

theorem tended_partReset (p cause : Nat) : Tended s (s.partReset p cause) := by
  unfold State.partReset
  split
  · exact (tended_partResetAs p cause [pcRestart]).trans (tended_partFallback 0)
  · exact tended_partResetAs p cause [cause]

theorem tended_service : Tended s s.service := by
  have parts : Tended s s.stopParts := tended_each fun s p => tended_partReset p pcStop
  refine parts.trans (tended_of_doorbells ?_)
  have hold : Off R.SIL_STAT_HOLD.addr := off_above (by decide)
  simp [State.service, hold]

end
end Sys2Proof.Machine

namespace Sys2Proof.Machine
section
variable {s u : State}

/-! Handlers (R56 step 8): each leaves the mailboxes in order, and its refusals fit the response slot. -/

/-- A handler's reply that leaves the mailboxes in order, and fits the response slot if it is a refusal. -/
structure Sound (s : State) (r : Reply) : Prop where
  tended : Tended s r.s
  fits : r.st = stOk ∨ r.st = stAccepted ∨ r.result.length ≤ 1008

/-- A row whose handler's replies are sound. -/
def OpSpec.Sound (o : OpSpec) : Prop := ∀ c s, Machine.Sound s (o.body c s)

theorem tended_refl (s : State) : Tended s s := tended_of_doorbells rfl

@[simp] theorem sound_err (s : State) (st d : Nat) : Sound s (Reply.err s st d) := ⟨tended_refl s, .inr (.inr (Nat.zero_le _))⟩
@[simp] theorem sound_range (s : State) (off : Nat) : Sound s (Reply.range s off) := sound_err s stRange off
@[simp] theorem sound_accepted (s : State) : Sound s (Reply.accepted s) := ⟨tended_refl s, .inr (.inl rfl)⟩
theorem sound_ok (h : Tended s u) (res : List Byte) : Sound s (Reply.ok u res) := ⟨h, .inl rfl⟩
@[simp] theorem sound_read (s : State) (res : List Byte) : Sound s (Reply.ok s res) := sound_ok (tended_refl s) res
theorem sound_effect (h : doorbells u.regs = doorbells s.regs) (res : List Byte) : Sound s (Reply.ok u res) := sound_ok (tended_of_doorbells h) res

@[simp] theorem sound_ite {p : Prop} [Decidable p] {r r' : Reply} :
    Sound s (if p then r else r') ↔ (p → Sound s r) ∧ (¬ p → Sound s r') := by
  split <;> simp [*]

@[simp] theorem sound_basic (c : Ctx) (vals : List (Fld × Nat)) (gs : List Nat) : Sound s (s.basic c vals gs) := by
  unfold State.basic
  split
  · exact sound_err _ _ _
  · exact sound_effect (doorbells_basicCommit _ _ _) []

@[simp] theorem sound_checkedBasic (c : Ctx) (vals : List (Fld × Nat)) (gs : List Nat) (offs : Nat → Nat → Nat) :
    Sound s (s.checkedBasic c vals gs offs) := by
  unfold State.checkedBasic
  dsimp only
  split
  · exact sound_range _ _
  · exact sound_basic c vals gs

@[simp] theorem sound_fieldBasic (c : Ctx) (vals : List (Fld × Nat)) (gs : List Nat) (offs : Nat → Nat → Nat) :
    Sound s (s.fieldBasic c vals gs offs) := by
  unfold State.fieldBasic
  split
  · exact sound_range _ _
  · exact sound_basic c vals gs

@[simp] theorem sound_tabBasic (c : Ctx) (n : Nat) (offs : Nat → Nat) : Sound s (s.tabBasic c n offs) := by
  unfold State.tabBasic
  dsimp only
  split
  · exact sound_range _ _
  · split
    · exact sound_err _ _ _
    · exact sound_effect (by simp) []

@[simp] theorem sound_onPart (c : Ctx) {f : Nat → Reply} (h : ∀ p, Sound s (f p)) : Sound s (onPart c s f) := by
  unfold onPart
  split
  · simp [h]
  · exact sound_range _ _


/-! Channels and signals. -/

theorem sound_opChAck : opChAck.Sound := fun _ _ =>
  sound_effect (doorbells_each fun _ _ _ => doorbells_clearBits (off_above_add_add (by decide) _ _) _) []

theorem sound_opChConfig : opChConfig.Sound := fun c s => by
  dsimp only [opChConfig]
  repeat' split
  all_goals simp

theorem sound_opChWireSet : opChWireSet.Sound := fun c s => by
  dsimp only [opChWireSet]
  repeat' split
  all_goals simp

theorem sound_opChTambSet : opChTambSet.Sound := fun c s => by
  dsimp only [opChTambSet]
  split <;> simp

theorem sound_opSigConfig : opSigConfig.Sound := fun c s => by
  dsimp only [opSigConfig]
  repeat' split
  all_goals simp

theorem sound_opSigRefSet : opSigRefSet.Sound := fun c s => by
  dsimp only [opSigRefSet]
  repeat' split
  all_goals simp

theorem sound_opsChanCmd : ∀ o ∈ opsChanCmd, o.Sound := by
  simp only [opsChanCmd, List.forall_mem_cons, List.not_mem_nil, false_imp_iff, implies_true, and_true]
  refine ⟨?set, sound_opChConfig, ?get, sound_opChAck, ?_, ?_, ?_, sound_opChWireSet, sound_opChTambSet, sound_opSigConfig, sound_opSigRefSet, ?_⟩
  all_goals
    intro c s
    simp [opChSet, opChGet, opChSoGet, opGovGet, opChMeasGet, opSigRead]

end
end Sys2Proof.Machine

namespace Sys2Proof.Machine
section
variable {s u : State}

/-! CAN and the logistics gateway. -/

theorem sound_opCanSend : opCanSend.Sound := fun c s => by
  simp only [opCanSend, sound_ite, sound_range, sound_err, implies_true, true_and]
  exact fun _ _ _ => sound_effect (by simp) []

theorem sound_opCanRead : opCanRead.Sound := fun c s => by
  have release := fun (s : State) (n m : Nat) => doorbells_setWordBit (s := s) (a := R.CANn_RXOVR n) (off_above_add (by decide) _) m false
  simp only [opCanRead, sound_ite, sound_range, implies_true, true_and]
  exact fun _ _ => sound_effect (by simp [release]) _

theorem sound_opCanBoffRelease : opCanBoffRelease.Sound := fun c s => by
  simp only [opCanBoffRelease, sound_ite, sound_range, sound_err, implies_true, true_and]
  exact fun _ _ => sound_effect (doorbells_boffRelease _) []

theorem sound_opCanTrxSet : opCanTrxSet.Sound := fun c s => by
  simp only [opCanTrxSet, sound_ite, sound_range, sound_err, implies_true, true_and]
  exact fun _ _ => sound_effect (doorbells_trxWrite _ _) []

theorem sound_opsCanCmd : ∀ o ∈ opsCanCmd, o.Sound := by
  simp only [opsCanCmd, List.forall_mem_cons, List.not_mem_nil, false_imp_iff, implies_true, and_true]
  refine ⟨?_, ?_, ?_, ?_, sound_opCanSend, sound_opCanRead, ?_, sound_opCanBoffRelease, sound_opCanTrxSet, ?_, ?_, ?_, ?_, ?_, ?_, ?_⟩
  all_goals
    intro c s
    simp [opCanConfig, opCanRun, opCanFilter, opCanFifo, opCanStatus, opCanTrxGet, opLgwRouteSet, opLgwImageSet, opLgwEnable, opLgwRead,
      opLgwStatus, opGwbStatus]

/-! Ethernet and time. -/

/-- What is found sound from a state with the same mailboxes is sound. -/
theorem Sound.congr {r : Reply} (h : doorbells u.regs = doorbells s.regs) (k : Sound u r) : Sound s r :=
  ⟨(tended_of_doorbells h).trans k.tended, k.fits⟩

/-- Settings of a port written at once. -/
theorem doorbells_portFields {p : Nat} {l : List (Fld × Nat)}
    (h : ∀ x ∈ l, x.1.addr = R.ESW_Pp_CFG p ∨ x.1.addr = R.ESW_Pp_PLCA p) :
    doorbells (l.foldl (fun (s : State) x => s.wr x.1 x.2) s).regs = doorbells s.regs := by
  have off : ∀ x ∈ l, Off x.1.addr := fun x hx => by
    rcases h x hx with h | h <;> rw [h] <;> exact off_above_add (by decide) _
  exact doorbells_each fun s x hx => doorbells_wr (off x hx) x.2

theorem sound_opEthPortCfg : opEthPortCfg.Sound := fun c s => by
  dsimp only [opEthPortCfg]
  rw [sound_ite, sound_ite]
  refine ⟨fun _ => sound_range _ _, fun _ => ⟨fun _ => sound_range _ _, fun _ => ?_⟩⟩
  split
  · exact sound_range _ _
  · rw [sound_ite, sound_ite, sound_ite]
    refine ⟨fun _ => sound_range _ _, fun _ => ⟨fun _ => sound_err _ _ _, fun _ => ⟨fun _ => ?_, fun _ => ?_⟩⟩⟩
    · exact (sound_basic _ _ _).congr (by simp)
    · refine (sound_basic _ _ _).congr ?_
      split
      · rfl
      · refine doorbells_portFields (p := c.arg 0 1) fun x hx => ?_
        rcases List.mem_append.mp hx with hx | hx
        · simp only [List.mem_cons, List.not_mem_nil, or_false] at hx
          rcases hx with rfl | rfl <;> exact .inl rfl
        · split at hx
          · simp only [List.mem_cons, List.not_mem_nil, or_false] at hx
            rcases hx with rfl | rfl <;> exact .inr rfl
          · cases hx

theorem sound_opEthGclSet : opEthGclSet.Sound := fun c s => by
  dsimp only [opEthGclSet]
  repeat' split
  all_goals simp

theorem sound_opEthTsRead : opEthTsRead.Sound := fun c s => by
  have ovf := fun (s : State) (p v : Nat) => doorbells_wr (s := s) (f := R.ESW_Pp_TSQ_STAT_OVF p) (off_above_add (by decide) _) v
  simp only [opEthTsRead, sound_ite, sound_range, implies_true, true_and]
  exact fun _ => sound_effect (by simp [ovf]) _

theorem sound_opTimeDomGet : opTimeDomGet.Sound := fun c s => by
  simp only [opTimeDomGet, sound_ite, sound_range, sound_read, implies_true, true_and]
  exact fun _ _ => sound_effect (doorbells_domLatch _) _

theorem sound_opsEthCmd : ∀ o ∈ opsEthCmd, o.Sound := by
  simp only [opsEthCmd, List.forall_mem_cons, List.not_mem_nil, false_imp_iff, implies_true, and_true]
  refine ⟨sound_opEthPortCfg, ?_, sound_opEthGclSet, ?_, ?_, ?_, ?_, ?_, sound_opEthTsRead, ?_, sound_opTimeDomGet⟩
  all_goals
    intro c s
    simp [opEthPortGet, opEthGclGet, opEthFdbSet, opEthVlanSet, opEthQciSet, opEthQpGet, opTimeGet]

/-! Universal I/O, sensor supplies and Kerf. -/

theorem sound_opUioStatus : opUioStatus.Sound := fun c s => by
  simp only [opUioStatus, sound_ite, sound_range, implies_true, true_and]
  exact fun _ => sound_effect (doorbells_clearBits (off_above_add_add (by decide) _ _) _) _

theorem sound_opSsSet : opSsSet.Sound := fun c s => by
  have vsel := fun (s : State) (k v : Nat) => doorbells_wr (s := s) (f := R.SSs_CFG_VSEL k) (off_above_add_add (by decide) _ _) v
  simp only [opSsSet, sound_ite, sound_range, sound_err, implies_true, true_and]
  exact fun _ _ => ⟨fun _ => sound_effect (by simp [vsel]) [], fun _ => sound_effect (by simp [vsel]) []⟩

theorem sound_opKtDuty : opKtDuty.Sound := fun c s => by
  dsimp only [opKtDuty]
  repeat' split
  all_goals simp

theorem sound_opsFieldCmd : ∀ o ∈ opsFieldCmd, o.Sound := by
  simp only [opsFieldCmd, List.forall_mem_cons, List.not_mem_nil, false_imp_iff, implies_true, and_true]
  refine ⟨?_, ?_, ?_, sound_opUioStatus, sound_opSsSet, ?_, ?_, sound_opKtDuty, ?_, ?_, ?_, ?_, ?_⟩
  all_goals
    intro c s
    simp [opUioConfig, opUioRead, opUioOutSet, opSsGet, opKtConfig, opKtGet, opKcConfig, opKcSet, opKcGet, opExtGet]

/-! The island and the pair. -/

theorem sound_opSafeConfirm : opSafeConfirm.Sound := fun c s => by
  dsimp only [opSafeConfirm]
  split <;> simp

theorem sound_opsIsland : ∀ o ∈ opsIsland, o.Sound := by
  simp only [opsIsland, List.forall_mem_cons, List.not_mem_nil, false_imp_iff, implies_true, and_true]
  refine ⟨?_, ?_, ?_, ?_, ?_, sound_opSafeConfirm⟩
  all_goals
    intro c s
    simp [opSafeGet, opSafeFnGet, opSafeFaultLog, opSafeCheckGet, opSafeWrite]

theorem sound_opPairGet : opPairGet.Sound := fun _ _ => sound_effect doorbells_ageRefresh _

theorem sound_opPairCkptPub : opPairCkptPub.Sound := fun c s => by
  simp only [opPairCkptPub, sound_ite, sound_range, sound_err, implies_true, true_and]
  exact fun _ _ => sound_effect (by simp) []

theorem sound_opPairHandover : opPairHandover.Sound := fun c s => by
  simp only [opPairHandover, sound_ite, sound_err, implies_true, true_and]
  exact fun _ => sound_effect doorbells_grant _

theorem sound_opsPairing : ∀ o ∈ opsPairing, o.Sound := by
  simp only [opsPairing, List.forall_mem_cons, List.not_mem_nil, false_imp_iff, implies_true, and_true]
  refine ⟨sound_opPairGet, sound_opPairCkptPub, ?_, sound_opPairHandover⟩
  intro c s
  simp [opPairCkptInfo]

end
end Sys2Proof.Machine

namespace Sys2Proof.Machine
section
variable {s u : State}

/-! Keys and authorization. -/

theorem sound_opKeyUnload : opKeyUnload.Sound := fun c s => by
  simp only [opKeyUnload, sound_ite, sound_range, sound_err, implies_true, true_and]
  exact fun _ _ => sound_effect (doorbells_clearSlot _ _) []

theorem sound_opKeyPub : opKeyPub.Sound := fun c s => by
  dsimp only [opKeyPub]
  repeat' split
  all_goals simp

theorem sound_opAuthChal : opAuthChal.Sound := fun c s => by
  simp only [opAuthChal, sound_ite, sound_range, sound_err, implies_true, true_and]
  exact fun _ _ _ => sound_effect (by simp) _

theorem sound_opAuthResp : opAuthResp.Sound := fun c s => by
  dsimp only [opAuthResp]
  split
  · exact sound_err _ _ _
  · rw [sound_ite, sound_ite]
    exact ⟨fun _ => (sound_err _ _ _).congr (by simp), fun _ => ⟨fun _ => sound_effect (by simp) [],
      fun _ => (sound_err _ _ _).congr (by simp)⟩⟩

theorem sound_opAuthEnd : opAuthEnd.Sound := fun _ _ => sound_effect (doorbells_authStop 1) []

theorem sound_opAttest : opAttest.Sound := fun c s => by
  dsimp only [opAttest]
  repeat' split
  all_goals simp

theorem sound_opsKeyCmd : ∀ o ∈ opsKeyCmd, o.Sound := by
  simp only [opsKeyCmd, List.forall_mem_cons, List.not_mem_nil, false_imp_iff, implies_true, and_true]
  refine ⟨?_, ?_, sound_opKeyUnload, ?_, ?_, sound_opKeyPub, sound_opAuthChal, sound_opAuthResp, sound_opAuthEnd, sound_opAttest, ?_⟩
  all_goals
    intro c s
    simp [opKeyInfo, opKeyLoad, opKeyStore, opKeyDelete, opLcAdvance]

/-! Partitions and gates. -/

theorem sound_opPartRestart : opPartRestart.Sound := fun c s => by
  refine sound_onPart c fun p => ?_
  rw [sound_ite]
  exact ⟨fun _ => sound_err _ _ _, fun _ => sound_ok (tended_partReset p _) []⟩

theorem sound_opPartStop : opPartStop.Sound := fun c s => by
  refine sound_onPart c fun p => ?_
  rw [sound_ite]
  exact ⟨fun _ => sound_err _ _ _, fun _ => sound_ok ((tended_of_doorbells (by simp)).trans (tended_partReset p _)) []⟩

theorem sound_opPartStart : opPartStart.Sound := fun c s => by
  refine sound_onPart c fun p => ?_
  rw [sound_ite]
  refine ⟨fun _ => sound_err _ _ _, fun _ => ?_⟩
  rw [sound_ite]
  exact ⟨fun _ => sound_effect (by simp) [], fun _ => sound_effect (by simp) []⟩

theorem sound_opPartGate : opPartGate.Sound := fun c s => by
  simp only [opPartGate, sound_ite, sound_range, implies_true, true_and]
  exact fun _ _ => sound_effect (doorbells_vote _ _ _) []

theorem sound_opsPartCmd : ∀ o ∈ opsPartCmd, o.Sound := by
  simp only [opsPartCmd, List.forall_mem_cons, List.not_mem_nil, false_imp_iff, implies_true, and_true]
  refine ⟨?_, sound_opPartRestart, sound_opPartStop, sound_opPartStart, sound_opPartGate, ?_⟩
  all_goals
    intro c s
    simp [opPartInfo, opPartGateGet]

/-! The recorder. -/

theorem sound_opIncLog : opIncLog.Sound := fun c s => by
  simp only [opIncLog, sound_ite, sound_range, implies_true, true_and]
  exact fun _ _ => ⟨fun _ => sound_effect (by simp) _, fun _ => sound_effect (by simp) _⟩

theorem sound_opIncTrigger : opIncTrigger.Sound := fun c s => by
  simp only [opIncTrigger, sound_ite, sound_err, implies_true, true_and]
  obtain ⟨routed, small⟩ := incTrigger_routed s
  exact fun _ => sound_effect ((doorbells_raises small).trans routed.doorbells) _

theorem sound_opsRecorderCmd : ∀ o ∈ opsRecorderCmd, o.Sound := by
  simp only [opsRecorderCmd, List.forall_mem_cons, List.not_mem_nil, false_imp_iff, implies_true, and_true]
  refine ⟨sound_opIncLog, ?_, ?_, sound_opIncTrigger, ?_, ?_⟩
  all_goals
    intro c s
    simp [opIncStatus, opIncRead, opIncDrops, opIncDiagGet]

/-! The supervisor. -/

theorem sound_opSysModeReq : opSysModeReq.Sound := fun c s => by
  simp only [opSysModeReq, sound_ite, sound_range, sound_err, implies_true, true_and, and_true]
  refine ⟨fun _ _ => sound_effect (doorbells_setMode _) [], fun _ => ⟨fun _ => sound_ok tended_service [], fun _ => ⟨?_, ?_⟩⟩⟩
  · exact fun _ _ => sound_effect (by simp) []
  · exact fun _ _ _ => sound_effect (by simp) []

theorem sound_opSysReset : opSysReset.Sound := fun c s => by
  simp only [opSysReset, sound_ite, sound_range, sound_err, implies_true, true_and]
  exact fun _ _ => sound_effect (by simp) []

theorem sound_opSysSupGet : opSysSupGet.Sound := fun _ _ => sound_effect doorbells_intrRefresh _

theorem sound_opsSupervisor : ∀ o ∈ opsSupervisor, o.Sound := by
  simp only [opsSupervisor, List.forall_mem_cons, List.not_mem_nil, false_imp_iff, implies_true, and_true]
  refine ⟨sound_opSysModeReq, ?_, sound_opSysReset, sound_opSysSupGet⟩
  intro c s
  simp [opSysOptWrite]

/-! The system group. -/

theorem doorbells_greeted (m req g : Nat) : doorbells (s.greeted m req g).regs = doorbells s.regs := by
  rw [(greeted_subscribed s m req g).regs, State.fixGrant, doorbells_wr_stat (k := m) rfl (hello_ok m) (show 1 ≤ 3 ∧ 3 < 16 by decide)]
  rfl

theorem sound_opSysHello : opSysHello.Sound := fun c s => by
  dsimp only [opSysHello]
  rw [sound_ite]
  refine ⟨fun _ => sound_read _ _, fun _ => ?_⟩
  split
  · exact ⟨tended_refl s, .inr (.inr (helloResult_length _ _))⟩
  · exact sound_effect (doorbells_greeted _ _ _) _

theorem sound_opSysCommit : opSysCommit.Sound := fun c s => by
  dsimp only [opSysCommit]
  split
  · exact sound_range _ _
  · exact sound_effect (doorbells_acceptCommit _ _) []

theorem sound_opSysDiscard : opSysDiscard.Sound := fun c s => by
  dsimp only [opSysDiscard]
  split
  · exact sound_range _ _
  · split
    · exact sound_err _ _ _
    · exact sound_effect (by simp) []

theorem sound_opSysEvtSub : opSysEvtSub.Sound := fun c s => by
  simp only [opSysEvtSub, sound_ite, sound_range, implies_true, true_and]
  exact fun _ _ => sound_effect (by simp) []

theorem sound_opSysEvtUnsub : opSysEvtUnsub.Sound := fun c s => by
  simp only [opSysEvtUnsub, sound_ite, sound_range, implies_true, true_and]
  exact fun _ => sound_effect (by simp) []

theorem sound_opSysSvcPut : opSysSvcPut.Sound := fun c s => by
  simp only [opSysSvcPut, sound_ite, sound_range, implies_true, true_and]
  exact fun _ => sound_effect (congrArg doorbells (svcPut_regs _ _)) []

theorem sound_opsSysCmd : ∀ o ∈ opsSysCmd, o.Sound := by
  simp only [opsSysCmd, List.forall_mem_cons, List.not_mem_nil, false_imp_iff, implies_true, and_true]
  refine ⟨sound_opSysHello, ?_, sound_opSysCommit, sound_opSysDiscard, sound_opSysEvtSub, sound_opSysEvtUnsub, ?_, ?_, sound_opSysSvcPut⟩
  all_goals
    intro c s
    simp [opSysInfo, opSysCfgRead, opSysCfgWrite]

/-! Tally. -/

theorem sound_opTlyStay : opTlyStay.Sound := fun c s => by
  simp only [opTlyStay, sound_ite, sound_range, sound_err, implies_true, true_and]
  exact fun _ _ _ _ => sound_effect (by simp) []

theorem sound_opTlyGet : opTlyGet.Sound := fun c s => by
  dsimp only [opTlyGet]
  repeat' split
  all_goals simp

theorem sound_opWakeGet : opWakeGet.Sound := fun c s => by
  have pend : Off R.WAKE_PEND_PEND.addr := off_above (by decide)
  exact sound_effect (by simp [pend]) _

theorem sound_opWakeAlarm : opWakeAlarm.Sound := fun c s => by
  simp only [opWakeAlarm, sound_ite, sound_range, implies_true, true_and]
  exact fun _ => sound_effect (by simp) []

theorem sound_opsTally : ∀ o ∈ opsTally, o.Sound := by
  simp only [opsTally, List.forall_mem_cons, List.not_mem_nil, false_imp_iff, implies_true, and_true]
  refine ⟨sound_opTlyStay, sound_opTlyGet, ?_, sound_opWakeGet, sound_opWakeAlarm⟩
  intro c s
  simp [opTlyVetoList]

/-! Updates. -/

theorem sound_opUpdAbort : opUpdAbort.Sound := fun c s => by
  simp only [opUpdAbort, sound_ite, sound_err, implies_true, true_and]
  exact fun _ => sound_effect (by simp) []

theorem sound_opsUpdateCmd : ∀ o ∈ opsUpdateCmd, o.Sound := by
  simp only [opsUpdateCmd, List.forall_mem_cons, List.not_mem_nil, false_imp_iff, implies_true, and_true]
  refine ⟨?_, ?_, ?_, ?_, ?_, ?_, sound_opUpdAbort, ?_⟩
  all_goals
    intro c s
    simp [opUpdBegin, opUpdBillet, opUpdStatus, opUpdActivate, opUpdConfirm, opUpdReject, trialOp, opUpdInfo]

/-- Every handler of the interface is sound. -/
theorem sound_opTable : ∀ o ∈ opTable, o.Sound := by
  simp only [opTable, List.forall_mem_append]
  exact ⟨⟨⟨⟨⟨⟨⟨⟨⟨⟨⟨⟨sound_opsCanCmd, sound_opsChanCmd⟩, sound_opsEthCmd⟩, sound_opsFieldCmd⟩, sound_opsIsland⟩, sound_opsKeyCmd⟩,
    sound_opsPairing⟩, sound_opsPartCmd⟩, sound_opsRecorderCmd⟩, sound_opsSupervisor⟩, sound_opsSysCmd⟩, sound_opsTally⟩, sound_opsUpdateCmd⟩

end
end Sys2Proof.Machine

namespace Sys2Proof.Machine
section
variable {s t u : State} {i : Instr} {o : OpSpec} {m : Fin 17} {f : Fate} {r : Reply}

/-! What stands as the status in a response slot (R48). -/

theorem statusOf_eq (t : State) (m : Nat) : statusOf t m = (t.raw (mbxBase m + 0x408)).toNat % 65536 := by
  have page : mbxBase m + 0x400 + 8 = mbxBase m + 0x408 := rfl
  simp [statusOf, State.bytesAt, List.range_succ, le, leBytes, page]
  omega

theorem statusOf_of_doorbells (h : (doorbells t.regs m).status = 0) : statusOf t m = stOk := by
  rw [statusOf_eq]
  show (doorbells t.regs m).status.toNat % 65536 = 0
  rw [h]; rfl

/-- An answer's status stands in the slot, whatever the length of its result. -/
theorem respond_status (t : State) (c : Ctx) (st d : Nat) (res : List Byte) :
    statusOf (t.respond c st d res) c.mbx = st % 65536 := by
  have apart : R.MBX_STAT c.mbx ≠ mbxBase c.mbx + 0x408 := by simp only [R.MBX_STAT, mbxBase]; omega
  rw [statusOf_eq]
  dsimp only [State.respond]
  rw [raw_wr_ne _ _ _ _ apart, raw_wr_ne _ _ _ _ apart, raw_wr_ne _ _ _ _ apart]
  rw [State.writeSlot, ← show mbxBase c.mbx + 0x400 + 4 * 2 = mbxBase c.mbx + 0x408 from rfl, raw_setWords _ _ _ 2 (by
    simp only [leWords_length, List.length_append, leBytes_length]; omega)]
  simp only [leBytes, List.cons_append, List.nil_append, leWords, List.getD_cons_succ, List.getD_cons_zero, BitVec.toNat_ofNat]
  omega

/-- The opcode of a row names its handler. -/
theorem opOf_of_row (row : RhapolRow i o m f) : opOf o.opcode = some o := by
  unfold RhapolRow at row
  repeat
    rcases row with ⟨rfl, rfl⟩ | row
    · rfl
  obtain ⟨rfl, rfl⟩ := row
  rfl

theorem sound_of_row (row : RhapolRow i o m f) : o.Sound := sound_opTable o (List.mem_of_find?_eq_some (opOf_of_row row))


/-! Outcomes of a row (R56). -/

/-- What a row's outcome can be: settled, refused from the state as it was, or refused by a handler whose marks are kept. -/
inductive Outcome (s : State) (o : OpSpec) (c : Ctx) (r : Reply) : Prop
  | settled (st : r.st = stOk ∨ r.st = stAccepted) (tended : Tended s r.s)
  | refused (same : r.s = s) (fits : r.result.length ≤ 1008)
  | kept (keep : o.keep = true) (body : r = o.body c s)

theorem outcome_err (s : State) (o : OpSpec) (c : Ctx) (st d : Nat) : Outcome s o c (Reply.err s st d) := .refused rfl (Nat.zero_le _)

theorem bodyRun_outcome (sound : o.Sound) (c : Ctx) (b : Bool) : Outcome s o c (s.bodyRun o c b) := by
  unfold State.bodyRun
  split
  · exact outcome_err _ _ _ _ _
  split
  · exact outcome_err _ _ _ _ _
  split
  · exact outcome_err _ _ _ _ _
  obtain ⟨tended, fits⟩ := sound c s
  dsimp only
  split
  next ok =>
    split
    · exact outcome_err _ _ _ _ _
    · exact .settled ok tended
  next bad =>
    rw [not_or] at bad
    split
    next keep => exact .kept keep rfl
    next => exact .refused rfl ((fits.resolve_left bad.1).resolve_left bad.2)

theorem runChecks_outcome (sound : o.Sound) (c : Ctx) (f : Fate) : Outcome s o c (s.runChecks o c f) := by
  unfold State.runChecks
  split
  · exact outcome_err _ _ _ _ _
  split
  · exact outcome_err _ _ _ _ _
  · exact bodyRun_outcome sound c _

theorem doorbells_refreshLong (k : Nat) : doorbells (s.refreshLong k).regs = doorbells s.regs :=
  doorbells_wr_stat (k := k) rfl (by simp [Fld.ok, R.MBX_STAT_LONG_OPEN]) (show 1 ≤ 4 ∧ 7 < 16 by decide) _

theorem longTake_outcome {c : Ctx} (accepted : r.st = stAccepted) (tended : Tended s r.s) : Outcome s o c (s.longTake c r) := by
  unfold State.longTake
  split
  · exact outcome_err _ _ _ _ _
  split
  · exact .settled (.inr accepted) (tended.trans (tended_of_doorbells (by simp)))
  split
  · exact outcome_err _ _ _ _ _
  · exact .settled (.inr accepted) (tended.trans (tended_of_doorbells (by rw [doorbells_refreshLong]; rfl)))

theorem runOp_outcome (sound : o.Sound) (c : Ctx) (f : Fate) : Outcome s o c (s.runOp o c f) := by
  unfold State.runOp
  dsimp only
  have checks := runChecks_outcome (s := s) sound c f
  split
  next accepted =>
    refine longTake_outcome accepted ?_
    rcases checks with ⟨-, tended⟩ | ⟨same, -⟩ | ⟨-, body⟩
    · exact tended
    · rw [same]; exact tended_refl s
    · rw [body]; exact (sound c s).tended
  next => exact checks

/-! Settled commands are answered OK or ACCEPTED, or leave a mailbox without a status. -/

theorem statusOf_congr {k : Nat} (h : u.raw (mbxBase k + 0x408) = t.raw (mbxBase k + 0x408)) : statusOf u k = statusOf t k := by
  rw [statusOf_eq, statusOf_eq, h]

theorem settled_status (st : r.st = stOk ∨ r.st = stAccepted) (tended : Tended s r.s) (busy : s.rd (R.MBX_STAT_BUSY m) = 1) :
    statusOf (s.finished (s.answer (s.slotCtx m) r)) m = stOk ∨ statusOf (s.finished (s.answer (s.slotCtx m) r)) m = stAccepted := by
  rw [statusOf_congr (finished_raw _ _ _), State.answer]
  split
  next =>
    rw [statusOf_congr ((replyEvents_routed _ _ _ _).raws _ (not_eventWord_of_respWord (m := m)
      ⟨Nat.add_le_add_left (by decide) _, Nat.add_lt_add_left (by decide) _⟩))]
    have status : statusOf (r.s.respond (s.slotCtx m) r.st r.detail r.result) m = r.st % 65536 := respond_status _ _ _ _ _
    rw [status]
    rcases st with st | st <;> rw [st]
    · exact .inl rfl
    · exact .inr rfl
  next unanswered =>
    refine .inl (statusOf_of_doorbells ((tended.own m).resolve_left fun same => unanswered ?_))
    have held : r.s.rd (R.MBX_STAT_BUSY m) = s.rd (R.MBX_STAT_BUSY m) := congrArg Doorbell.busy same
    exact ⟨congrArg Doorbell.gen same, (isSet_iff _ _).mpr (by rw [slotCtx_mbx, held, busy]; decide)⟩

/-! AUTH_RESP, whose refusals leave their mark (R407). -/

/-- Only AUTH_RESP keeps what a refusal did. -/
theorem keep_only : ∀ o ∈ opTable, o.keep = true → o.opcode = 0x0911 := by decide

theorem opAuthResp_of_keep (row : RhapolRow i o m f) (keep : o.keep = true) : o = opAuthResp := by
  have found := opOf_of_row row
  rw [keep_only o (List.mem_of_find?_eq_some found) keep] at found
  exact (Option.some.inj found).symm

/-- The mark of a wrong authorization response: the keys' unit, and events. -/
structure Marked (s u : State) : Prop where
  only : u = { s with sec := u.sec, regs := u.regs, inc := u.inc, events := u.events }
  keeps : Keeps s u []
  same : doorbells u.regs = doorbells s.regs

theorem marked_refl (s : State) : Marked s s := ⟨rfl, KeepsBut.refl, rfl⟩

theorem Marked.modSec (h : Marked s u) (g : Sec → Sec) : Marked s (u.modSec g) :=
  ⟨by rw [h.only]; rfl, h.keeps.onSec g, h.same⟩

theorem Marked.raise (h : Marked s u) {e : Nat} (he : e < 512) (w : Owner) (p : List Byte) : Marked s (u.raise e w p) :=
  ⟨by rw [(raise_routed u e w p he).only, h.only], h.keeps.raise e w p he, (doorbells_raise he w p).trans h.same⟩

theorem authWrong_marked (h : Marked s u) : Marked s u.authWrong := by
  unfold State.authWrong
  dsimp only
  have wrong := (h.modSec fun x => { x with fails := (u.sec.fails.filter fun t => u.now ≤ t + 60000000000) ++ [u.now] }).raise
    (e := 138) (by decide) .sys (leBytes 1 ((u.sec.fails.filter fun t => u.now ≤ t + 60000000000) ++ [u.now]).length)
  split
  · exact wrong
  · exact (wrong.modSec _).raise (by decide) _ _

/-- AUTH_RESP either answers OK, or is refused without a result and with no more than its mark. -/
theorem opAuthResp_marks (c : Ctx) (s : State) : (opAuthResp.body c s).st = stOk ∨
    ((opAuthResp.body c s).result = [] ∧ Marked s (opAuthResp.body c s).s) := by
  have used := (marked_refl s).modSec fun x => { x with chal := none }
  dsimp only [opAuthResp]
  split
  · exact .inr ⟨rfl, marked_refl s⟩
  split
  · exact .inr ⟨rfl, used⟩
  split
  · exact .inl rfl
  · exact .inr ⟨rfl, authWrong_marked used⟩

/-! The state after a refusal (R51). -/

/-- What the statement asks of the state after a refusal. -/
def Untouched (o : OpSpec) (m : Nat) (s t : State) : Prop :=
  t.staged = s.staged ∧ t.commits = s.commits ∧ t.longs = s.longs ∧ t.parts = s.parts ∧ t.cans = s.cans ∧ t.chans = s.chans ∧
    t.eth = s.eth ∧ t.queues = s.queues ∧ t.upd = s.upd ∧ (o.opcode ≠ 0x0911 → t.sec = s.sec) ∧
    KeepsBut (fun a => eventWord a ∨ respWord m a) s t (respFlds m)

theorem untouched_of_marked (same : Marked s r.s) (fits : r.result.length ≤ 1008) (sec : o.opcode ≠ 0x0911 → r.s.sec = s.sec) :
    Untouched o m s (s.replied m r) := by
  have rest := replied_undisturbed s m r
  have frame := (replied_keeps (m := m) fits same.keeps).weaken (q' := fun a => eventWord a ∨ respWord m a) (D' := respFlds m)
    (fun _ ha => ha.elim .inl fun h => h.elim .inr .inl) (by simp)
  refine ⟨?_, ?_, ?_, ?_, ?_, ?_, ?_, ?_, ?_, fun other => (?_ : _ = r.s.sec).trans (sec other), frame⟩
  all_goals rw [rest]
  all_goals rw [same.only]

/-- A refusal is answered from a state with no more than its mark. -/
theorem refused_untouched (row : RhapolRow i o m f) (busy : s.rd (R.MBX_STAT_BUSY m) = 1) (code : (s.slotCtx m).opcode = o.opcode)
    (turn : s.yields m = false) (outcome : s.runOp o (s.slotCtx m) f = r) (same : Marked s r.s) (fits : r.result.length ≤ 1008)
    (sec : o.opcode ≠ 0x0911 → r.s.sec = s.sec) : ∃ t, exec i s = .next t ∧ Untouched o m s t := by
  have held : r.s.rd (R.MBX_STAT_BUSY m) = s.rd (R.MBX_STAT_BUSY m) := congrArg Doorbell.busy (congrFun same.same m)
  have gen : r.s.gen m = s.gen m := congrArg Doorbell.gen (congrFun same.same m)
  exact ⟨_, row_replies row busy code turn outcome gen (by rw [held, busy]; decide), untouched_of_marked same fits sec⟩

theorem untouched_finished (s : State) (o : OpSpec) (m : Nat) : Untouched o m s (s.finished s) :=
  ⟨rfl, rfl, rfl, rfl, rfl, rfl, rfl, rfl, rfl, fun _ => rfl, KeepsBut.refl.finished⟩

/-- A settled command shows OK or ACCEPTED. -/
theorem settled_answers {p : State → Prop} (row : RhapolRow i o m f) (busy : s.rd (R.MBX_STAT_BUSY m) = 1)
    (code : (s.slotCtx m).opcode = o.opcode) (turn : s.yields m = false) (outcome : s.runOp o (s.slotCtx m) f = r)
    (st : r.st = stOk ∨ r.st = stAccepted) (tended : Tended s r.s) :
    Answers i s fun t => statusOf t m ≠ stOk → statusOf t m ≠ stAccepted → p t := by
  have row' : exec i s = s.finish (s.answer (s.slotCtx m) r) := by
    rw [exec_rhapolRow row, runRow_answers s o m f (by rw [busy]; decide) code turn, outcome]
  exact answers_finish row' fun nok nacc => ((settled_status st tended busy).elim nok nacc).elim

end

/-- Settles O51: a command that is not taken changes nothing, a settled one shows OK or ACCEPTED or has emptied its own
mailbox, and a refused one is answered from the state as it was, but for the mark of AUTH_RESP. -/
theorem refusedCommandsHaveNoEffect : Obligations.RefusedCommandsHaveNoEffect := by
  intro s i o m f row busy code
  cases turn : s.yields m with
  | true => exact ⟨_, row_idle row (.inr (.inr turn)), fun _ _ => untouched_finished s o m⟩
  | false =>
    have settles {r : Reply} := settled_answers (r := r) (p := Untouched o m s) row busy code turn
    have refuses {r : Reply} (outcome : s.runOp o (s.slotCtx m) f = r) (same : Marked s r.s) (fits : r.result.length ≤ 1008)
        (sec : o.opcode ≠ 0x0911 → r.s.sec = s.sec) :
        Answers i s fun t => statusOf t m ≠ stOk → statusOf t m ≠ stAccepted → Untouched o m s t :=
      (refused_untouched row busy code turn outcome same fits sec).imp fun t ht => ⟨ht.1, fun _ _ => ht.2⟩
    rcases runOp_outcome (s := s) (sound_of_row row) (s.slotCtx m) f with ⟨st, tended⟩ | ⟨same, fits⟩ | ⟨keep, body⟩
    case settled => exact settles rfl st tended
    case refused => exact refuses rfl (by rw [same]; exact marked_refl s) fits fun _ => by rw [same]
    case kept =>
      obtain rfl := opAuthResp_of_keep row keep
      rcases opAuthResp_marks (s.slotCtx m) s with ok | ⟨empty, marked⟩
      · exact settles body (.inl ok) (sound_opAuthResp _ s).tended
      · exact refuses body marked (by rw [empty]; exact Nat.zero_le _) fun other => absurd rfl other

end Sys2Proof.Machine

namespace Sys2Proof

theorem unsigned_lt (n : Nat) (v : Int) : unsigned n v < 2 ^ n := by
  have pos : (0 : Int) < (2 ^ n : Nat) := Int.natCast_pos.mpr (Nat.two_pow_pos n)
  exact (Int.toNat_lt (Int.emod_nonneg v (Int.ne_of_gt pos))).mpr (Int.emod_lt_of_pos v pos)

end Sys2Proof

namespace Sys2Proof.Machine
section
variable {q : Nat → Prop} {s t : State} {D : List Fld} {lo hi : Nat}

/-! Whole registers, and values of 64 bits in two of them. -/

theorem wholeReg_ok (b : Nat) : (wholeReg b).ok := by simp [Fld.ok, wholeReg]

theorem raw_wr64_apart {b : Nat} (v : Nat) (hl : b ≠ lo) (hh : b ≠ hi) : (s.wr64 lo hi v).raw b = s.raw b :=
  (raw_setRaw_ne _ _ _ _ hh.symm).trans (raw_setRaw_ne _ _ _ _ hl.symm)

/-- Two registers read the 64 bits that were written to them. -/
theorem rd64_wr64 (v : Nat) (h : lo ≠ hi) : (s.wr64 lo hi v).rd64 lo hi = v % 2 ^ 64 := by
  simp only [State.rd64, State.wr64, raw_setRaw_self, raw_setRaw_ne _ _ _ _ h.symm, BitVec.toNat_ofNat]
  omega

theorem rd64_congr (hl : t.raw lo = s.raw lo) (hh : t.raw hi = s.raw hi) : t.rd64 lo hi = s.rd64 lo hi := by
  rw [State.rd64, State.rd64, hl, hh]

@[simp] theorem finished_rd64 (s t : State) : (s.finished t).rd64 lo hi = t.rd64 lo hi :=
  rd64_congr (finished_raw _ _ _) (finished_raw _ _ _)

@[simp] theorem respondBus_rd64 (s : State) (v : Word) : (s.respondBus v).rd64 lo hi = s.rd64 lo hi := rfl
@[simp] theorem respondBus_rd (s : State) (v : Word) (f : Fld) : (s.respondBus v).rd f = s.rd f := rfl

theorem rd64_wr_apart {f : Fld} (v : Nat) (hl : lo ≠ f.addr) (hh : hi ≠ f.addr) : (s.wr f v).rd64 lo hi = s.rd64 lo hi :=
  rd64_congr (raw_wr_ne _ _ _ _ hl.symm) (raw_wr_ne _ _ _ _ hh.symm)

theorem rd64_wr64_apart {lo' hi' : Nat} (v : Nat) (hl : lo ≠ lo' ∧ lo ≠ hi') (hh : hi ≠ lo' ∧ hi ≠ hi') :
    (s.wr64 lo' hi' v).rd64 lo hi = s.rd64 lo hi :=
  rd64_congr (raw_wr64_apart v hl.1 hl.2) (raw_wr64_apart v hh.1 hh.2)

theorem rd_wr64_apart {f : Fld} (v : Nat) (hl : f.addr ≠ lo) (hh : f.addr ≠ hi) : (s.wr64 lo hi v).rd f = s.rd f := by
  rw [State.rd, State.rd, raw_wr64_apart v hl hh]

theorem KeepsBut.wr64 (h : KeepsBut q s t D) (v : Nat) (hl : wholeReg lo ∈ D) (hh : wholeReg hi ∈ D) :
    KeepsBut q s (t.wr64 lo hi v) D :=
  (h.setRaw lo _ hl).setRaw hi _ hh

end
end Sys2Proof.Machine

namespace Sys2Proof.Machine
section
variable {q : Nat → Prop} {s : State} {a : Attr}

/-! The reads that latch (R37, R232, R242). -/

/-- No gate unit has the registers of the time unit and the frame generator (R325). -/
theorem gated_timeUnit {addr : Nat} (h : 0x20300000 ≤ addr ∧ addr < 0x20301000) : s.gated addr = false := by
  have none : gateUnit addr = none := by
    simp only [gateUnit]
    rw [if_neg (by omega), if_neg (by omega), if_neg (by omega)]
  simp [State.gated, none]

/-- An access that the time unit admits is carried out. -/
theorem access_timeUnit {addr : Nat} {w : Bool} {f : State → State} (h : 0x20300000 ≤ addr ∧ addr < 0x20301000)
    (admitted : s.regAdmits a addr w = true) : s.access a addr w f = f (s.respondBus 0) :=
  access_done s a addr w f admitted (gated_timeUnit h)

theorem exec_frmNumLoRead (admitted : s.regAdmits a R.FRM_NUM_LO false = true) :
    exec (.frmNumLoRead a) s = s.finish (s.numLatch a) :=
  congrArg s.finish (access_timeUnit (by decide) admitted)

theorem exec_lcReadLatch (admitted : s.regAdmits a R.TMU_LC_NS false = true) :
    exec (.lcReadLatch a) s = s.finish s.lcLatch :=
  congrArg s.finish (access_timeUnit (by decide) admitted)

theorem exec_domStatReadLatch {x : Fin 2} (admitted : s.regAdmits a (R.TMU_DOMx_STAT x) false = true) :
    exec (.domStatReadLatch a x) s = s.finish ((s.domLatch x).respondBus (s.raw (R.TMU_DOMx_STAT x))) :=
  congrArg s.finish (access_timeUnit (by simp only [R.TMU_DOMx_STAT]; omega) admitted)

/-! The frame count: the latch of each requester. -/

theorem numLatch_latch (s : State) (a : Attr) (k : Nat) : (s.numLatch a).frm.hiLatch.getD k 0 =
    if latchOf a = k ∧ k < s.frm.hiLatch.length then s.raw R.FRM_NUM_HI else s.frm.hiLatch.getD k 0 :=
  getD_updAt _ _ _ _ _

theorem numLatch_keeps (s : State) (a : Attr) : KeepsBut q s (s.numLatch a) [] := (KeepsBut.refl.onFrm _).respondBus _

/-! The local clock: nanoseconds on the bus, seconds latched. -/

/-- The nanoseconds answered and the seconds latched are one reading of the clock. -/
theorem lcLatch_reading (h : s.lc < 2 ^ 64) :
    s.lcLatch.rd64 R.TMU_LC_S_LO R.TMU_LC_S_HI * 1000000000 + s.lcLatch.bus.data.toNat = s.lc := by
  have seconds : s.lcLatch.rd64 R.TMU_LC_S_LO R.TMU_LC_S_HI = s.lc / 1000000000 % 2 ^ 64 := rd64_wr64 _ (by decide)
  have nanoseconds : s.lcLatch.bus.data.toNat = s.lc % 1000000000 % 2 ^ 32 := BitVec.toNat_ofNat _ _
  rw [seconds, nanoseconds]
  omega

theorem lcLatch_keeps (s : State) : KeepsBut q s s.lcLatch [wholeReg R.TMU_LC_S_LO, wholeReg R.TMU_LC_S_HI] :=
  (KeepsBut.refl.wr64 _ (by simp) (by simp)).respondBus _

/-! A domain's page. -/

theorem domAge_lt (s : State) (x : Nat) : s.domAge x < 2 ^ 32 := by
  unfold State.domAge
  split
  · exact Nat.lt_of_le_of_lt (sat_le _ _) (by decide)
  · decide

/-- The registers of a domain's page that a read of its first one latches (R242). -/
def latchedRegs (x : Nat) : List Nat :=
  [R.TMU_DOMx_GMID_LO x, R.TMU_DOMx_GMID_HI x, R.TMU_DOMx_OFS_LO x, R.TMU_DOMx_OFS_HI x, R.TMU_DOMx_RATE x,
    R.TMU_DOMx_UPD_LO x, R.TMU_DOMx_UPD_HI x, R.TMU_DOMx_AGE x]

theorem latchedRegs_forall {x : Nat} {p : Nat → Prop} : (∀ b ∈ latchedRegs x, p b) ↔
    p (R.TMU_DOMx_GMID_LO x) ∧ p (R.TMU_DOMx_GMID_HI x) ∧ p (R.TMU_DOMx_OFS_LO x) ∧ p (R.TMU_DOMx_OFS_HI x) ∧
      p (R.TMU_DOMx_RATE x) ∧ p (R.TMU_DOMx_UPD_LO x) ∧ p (R.TMU_DOMx_UPD_HI x) ∧ p (R.TMU_DOMx_AGE x) := by
  simp only [latchedRegs, List.forall_mem_cons, List.not_mem_nil, false_implies, implies_true, and_true]

/-- They are the eight words after the first. -/
theorem latchedRegs_fields (x : Fin 2) :
    (latchedRegs x).map wholeReg = (List.range 8).map fun k => wholeReg (R.TMU_DOMx_STAT x + 4 + 4 * k) := by
  revert x; decide

theorem latchedRegs_distinct (x : Nat) : (latchedRegs x).Nodup := by
  simp [latchedRegs, R.TMU_DOMx_GMID_LO, R.TMU_DOMx_GMID_HI, R.TMU_DOMx_OFS_LO, R.TMU_DOMx_OFS_HI, R.TMU_DOMx_RATE,
    R.TMU_DOMx_UPD_LO, R.TMU_DOMx_UPD_HI, R.TMU_DOMx_AGE]

/-- What the latched registers of a domain read: the later writes of the latch are to other registers of the page. -/
theorem domLatch_reads (s : State) (x : Nat) :
    (s.domLatch x).rd64 (R.TMU_DOMx_GMID_LO x) (R.TMU_DOMx_GMID_HI x) = (s.dom x).gmid % 2 ^ 64 ∧
    (s.domLatch x).rd64 (R.TMU_DOMx_UPD_LO x) (R.TMU_DOMx_UPD_HI x) = (s.dom x).sync.getD 0 % 2 ^ 64 ∧
    (s.domLatch x).rd (R.TMU_DOMx_RATE_RATE x) = unsigned 32 (s.dom x).rate ∧
    (s.domLatch x).rd (R.TMU_DOMx_AGE_AGE x) = s.domAge x := by
  have distinct := latchedRegs_distinct x
  simp only [latchedRegs, List.nodup_cons, List.mem_cons, List.not_mem_nil, not_or, or_false] at distinct
  have rate : (R.TMU_DOMx_RATE_RATE x).ok := wholeReg_ok (R.TMU_DOMx_RATE x)
  have age : (R.TMU_DOMx_AGE_AGE x).ok := wholeReg_ok (R.TMU_DOMx_AGE x)
  refine ⟨?_, ?_, ?_, ?_⟩
  · rw [State.domLatch, rd64_wr_apart, rd64_wr64_apart, rd64_wr_apart, rd64_wr64_apart, rd64_wr64] <;>
      simp [distinct, R.TMU_DOMx_RATE_RATE, R.TMU_DOMx_AGE_AGE]
  · rw [State.domLatch, rd64_wr_apart, rd64_wr64] <;> simp [distinct, R.TMU_DOMx_AGE_AGE]
  · have apart : (R.TMU_DOMx_AGE_AGE x).apart (R.TMU_DOMx_RATE_RATE x) :=
      .inl (Ne.symm (by simp [distinct, R.TMU_DOMx_RATE_RATE, R.TMU_DOMx_AGE_AGE]))
    rw [State.domLatch, rd_wr_apart _ _ _ _ age rate apart, rd_wr64_apart, rd_wr _ _ _ rate]
    · exact Nat.mod_eq_of_lt (unsigned_lt 32 _)
    all_goals simp [distinct, R.TMU_DOMx_RATE_RATE]
  · rw [State.domLatch, rd_wr _ _ _ age]
    exact Nat.mod_eq_of_lt (domAge_lt s x)

theorem domLatch_keeps (s : State) (x : Fin 2) :
    KeepsBut q s (s.domLatch x) ((List.range 8).map fun k => wholeReg (R.TMU_DOMx_STAT x + 4 + 4 * k)) := by
  rw [← latchedRegs_fields]
  have listed : ∀ b ∈ latchedRegs x, wholeReg b ∈ (latchedRegs x).map wholeReg := fun _ => List.mem_map_of_mem
  obtain ⟨gmidLo, gmidHi, ofsLo, ofsHi, rate, updLo, updHi, age⟩ := latchedRegs_forall.mp listed
  have identity := (KeepsBut.refl (q := q) (s := s)).wr64 (s.dom x).gmid gmidLo gmidHi
  have offsets := (identity.wr64 (unsigned 64 (s.dom x).ofs) ofsLo ofsHi).wr (R.TMU_DOMx_RATE_RATE x) (unsigned 32 (s.dom x).rate)
    rate (wholeReg_ok _)
  exact (offsets.wr64 _ updLo updHi).wr (R.TMU_DOMx_AGE_AGE x) _ age (wholeReg_ok _)

end

/-- Settles O11: the latch of a requester, the seconds of one reading, and the page of a domain. -/
theorem timeReadsLatchTheirOtherWords : Obligations.TimeReadsLatchTheirOtherWords := by
  intro s a x
  refine ⟨fun admitted => answers_finish (exec_frmNumLoRead admitted) ?_,
    fun admitted bounded => answers_finish (exec_lcReadLatch admitted) ?_,
    fun admitted => answers_finish (exec_domStatReadLatch admitted) ?_⟩
  · refine ⟨rfl, fun held => ?_, fun k other => ?_, (numLatch_keeps s a).finished⟩
    · exact (numLatch_latch s a _).trans (if_pos ⟨rfl, held⟩)
    · exact (numLatch_latch s a k).trans (if_neg fun same => other same.1.symm)
  · refine ⟨rfl, ?_, (lcLatch_keeps s).finished⟩
    rw [finished_rd64]
    exact lcLatch_reading bounded
  · obtain ⟨gmid, update, rate, age⟩ := domLatch_reads s x
    refine ⟨rfl, ?_, ?_, ?_, ?_, ((domLatch_keeps s x).respondBus _).finished⟩
    · rw [finished_rd64, respondBus_rd64, gmid]
    · rw [finished_rd64, respondBus_rd64, update]
    · rw [finished_rd, respondBus_rd, rate]
    · rw [finished_rd, respondBus_rd, age]; rfl

end Sys2Proof.Machine
